-- ==== Sys2Proof/Word.lean ====
section
/-! DEFINITION. The word types of the block: 64-bit registers, bytes of its memories and of what passes on its wires. -/
namespace Sys2Proof

/-- A register of the register network (17_register_conventions.md R474). -/
abbrev Word := BitVec 64

/-- A byte of a memory, a flit or a payload. -/
abbrev Byte := BitVec 8

end Sys2Proof
end

