-- ==== Sys2Proof/Syntax.lean ====
section
/-! DEFINITION. The commands of the block, one constructor per row of spec/opcode_table.json, and the operands they carry. The table gives its
rows no operand fields; the operands here are what the governing rule of each row needs: which instance, which value is written and by whom,
what arrived, or what a measurement found. -/
namespace Sys2Proof

abbrev LaneId := Fin 192
abbrev StnId := Fin 12
abbrev PortId := Fin 48
abbrev VhId := Fin 24
abbrev VdspId := Fin 32
abbrev PlaneId := Fin 5
/-- Plane ports 0 to 13 (01_architecture.md R16). -/
abbrev XportId := Fin 14
/-- Ingress instances: ports 0 to 47, 48 the Hut, 49 the management endpoint. -/
abbrev SrcId := Fin 50
/-- A credited Halud virtual channel: 0 A-REQ, 1 D-REQ, 2 RSP (04_link_layer.md R102, R118); VC 3, MGT, has no credits. -/
abbrev HvcId := Fin 3

/-- Who makes a register access (R2, 16_management_access.md R450): host software of a VH with its requester ID, whether the request came on
the VH's HOST port, and whether it was poisoned (R347); or one of the other masters. -/
inductive Path where
  | host (vh : VhId) (rid : BitVec 16) (hostPort poisoned : Bool)
  | sideband
  | debug
  | guide
deriving DecidableEq, Repr

/-- How an SPDM message travels (R6, R8): in MCTP over I3C, or in MCTP over PCIe VDMs with the management endpoint of a VH. -/
inductive Via where
  | i3c
  | vdm (vh : VhId)
deriving DecidableEq, Repr

/-- Kinds of TLP the device handles. -/
inductive TlpKind where
  | mrd | mrdLk | mwr | ioRd | ioWr | cfgRd0 | cfgWr0 | cfgRd1 | cfgWr1
  | cpl | cplD | cplLk | cplDLk | msg | msgD | fetchAdd | swap | cas
deriving DecidableEq, Repr

/-- Completion status of the PCIe specification. -/
inductive CplSt where
  | sc | ur | rrs | ca
deriving DecidableEq, Repr

/-- A TLP as the device sees it: the header fields its rules name, and the payload bytes. For a configuration request `addr` holds the target
bus, device and function in bits 31:16 and the byte offset in bits 11:0; for a message `code` is the message code and `msgRoute` its
routing, and `addr` holds header bytes 8 to 15: for a vendor-defined message the target ID in bits 31:16, the vendor ID in bits 15:0, and the
vendor's own dword, first byte lowest, in bits 63:32. -/
structure Tlp where
  kind : TlpKind := .mrd
  reqId : BitVec 16 := 0
  tag : BitVec 14 := 0
  addr : BitVec 64 := 0
  len : Nat := 0
  fbe : BitVec 4 := 0xF
  lbe : BitVec 4 := 0
  tc : BitVec 3 := 0
  ro : Bool := false
  ido : Bool := false
  ns : Bool := false
  at2 : BitVec 2 := 0
  ep : Bool := false
  ecrc : Bool := false
  pasid : Option (BitVec 20) := none
  /-- Privileged mode and execute requested, which come with a PASID. -/
  pmr : Bool := false
  exe : Bool := false
  ide : Bool := false
  /-- TLP prefixes beside those of a PASID and of IDE, in words (06_switch_core.md R165). -/
  prefixes : BitVec 3 := 0
  cplId : BitVec 16 := 0
  status : CplSt := .sc
  byteCount : Nat := 0
  lowAddr : BitVec 7 := 0
  code : BitVec 8 := 0
  msgRoute : BitVec 3 := 0
  data : List Byte := []
deriving DecidableEq, Repr

/-- How a train's tail arrived: whole, ended bad by the partner (nullified), with a failing ECRC, uncorrectable in a carriage of payload, cut off by
the loss of its ingress link, uncorrectable in its header carriage or in a tag (06_switch_core.md R184, R185), or refused by the data link layer for
its LCRC or sequence number (04_link_layer.md R142). -/
inductive Tail where
  | good | nullified | badEcrc | uncorrectable | cut | badHeader | badLcrc
deriving DecidableEq, Repr

/-- A data link layer packet of a PCIe link (R142): acknowledgement, negative acknowledgement, or a credit return for a class (0 posted,
1 non-posted, 2 completion) of a VC, a protocol error, a packet whose CRC is bad, or what the physical layer could not receive. -/
inductive Dllp where
  | ack (seq : BitVec 12)
  | nak (seq : BitVec 12)
  | updateFc (vc : Fin 4) (cls : Fin 3) (hdr : BitVec 12) (data : BitVec 16) (hdrScale dataScale : BitVec 2 := 0)
  | protoError
  | badCrc
  | rxError
deriving DecidableEq, Repr

/-- What end-of-BIST found: planes, banks and DRAM channels that failed, whether each Guide pair passed, and the bytes of the flash's SFDP tables
as they were read, none where the flash answered with none (R7, R430). -/
structure BistReport where
  badPlanes : List Nat := []
  badBanks : List Nat := []
  /-- Rows and columns of SRAM macros that failed: macro and row, macro and column (R368). -/
  badRows : List (Nat × Nat) := []
  badCols : List (Nat × Nat) := []
  dramFail : Bool := false
  pair0Ok : Bool := true
  pair1Ok : Bool := true
  sfdp : List Byte := []
deriving DecidableEq, Repr

/-- Outcomes a flash update phase reports (15_bringup.md R438). -/
structure PhaseReport where
  keyOk : Bool := true
  sigOk : Bool := true
  opOk : Bool := true
  readbackOk : Bool := true
deriving DecidableEq, Repr

/-- What a PCIe link partner asks of a transmitter in Recovery equalisation: a preset P0 to P10 or Q0 to Q10, or a coefficient set (02_lanes.md
R32, R33). -/
inductive PcieEq where
  | preset (k : Fin 11)
  | coefs (pre2 pre1 main post1 : BitVec 7)
deriving DecidableEq, Repr

/-- An equalisation message of the partner on a lane. On a Halud link it is an EQ message (04_link_layer.md R100): EQ_REQ, EQ_RSP, EQ_DONE; on a PCIe
link `pcie` holds the partner's request, if it makes one. -/
structure EqMsg where
  req : BitVec 8 := 0
  rsp : BitVec 8 := 0
  done : Bool := false
  pcie : Option PcieEq := none
deriving DecidableEq, Repr

/-- One phase of an eye contour: open margin above and below the threshold. -/
structure EyePoint where
  upper : BitVec 8
  lower : BitVec 8
deriving DecidableEq, Repr

/-- Lane Margining commands of the PCIe specification (02_lanes.md R62). -/
inductive MarginCmd where
  | report | stepTiming (right : Bool) (steps : BitVec 6) | stepVoltage (up : Bool) (steps : BitVec 7) | clear | normal
  | errLimit (n : BitVec 6)
deriving DecidableEq, Repr

/-- A Lane Margining command with the receiver it is addressed to, as the PCIe specification numbers them: 0 all, 1 the downstream port's own, 2 to
5 those of retimers, 6 the upstream port's own (03_ports.md R87). -/
structure MarginMsg where
  receiver : BitVec 3
  cmd : MarginCmd
deriving DecidableEq, Repr

/-- One move of the PCIe training state machine of a HOST or DEV port, as the PCIe specification and the partner decide it: the state reached
(the code of LINK_STS.STATE), the rate and width reached, flit mode, retimers, lane order, and which lanes' receivers acquire afresh. -/
structure TrainStep where
  state : BitVec 5
  rate : BitVec 4 := 0xF
  width : BitVec 5 := 0
  flit : Bool := false
  reversed : Bool := false
  retimers : BitVec 2 := 0
  partnerRate : BitVec 4 := 6
  partnerWidth : BitVec 5 := 16
  polarity : BitVec 16 := 0
  /-- The L1 PM substate an L1 entry leads to: 0 none, 1 L1.1, 2 L1.2. -/
  l1sub : BitVec 2 := 0
  /-- The L1 entry is that of PCI power management, asked for by a device that its host has put to sleep. -/
  pciPm : Bool := false
  /-- The partner supports scaled flow control (04_link_layer.md R142); flit mode always uses it. -/
  scaledFc : Bool := false
deriving DecidableEq, Repr

/-- A Halud PARAM message (04_link_layer.md R100): NODE_ID, MAX_RATE, WIDTH, OWN_PORT, PAIR_PORT. -/
structure ParamMsg where
  node : BitVec 12
  rate : BitVec 4
  width : BitVec 5
  ownPort : BitVec 6
  pairPort : BitVec 6 := 0x3F
deriving DecidableEq, Repr

/-- What a hot-plug expander that answers a poll reads at its input registers, 0x00 the low byte and 0x01 the high one (03_ports.md R92). -/
structure ExpRead where
  addr : BitVec 7
  input : BitVec 16
deriving DecidableEq, Repr

/-- A configuration request into a VH's virtual devices: target function by bus, device and function, dword, byte enables, data for a write. -/
structure CfgReq where
  type1 : Bool
  bdf : BitVec 16
  dword : BitVec 10
  write : Bool
  be : BitVec 4
  data : BitVec 32
  tag : BitVec 14
  reqId : BitVec 16
deriving DecidableEq, Repr

/-- An access to the Hut window (11_hut_ordering.md R307, R312): from which VH and requester, which instance it came by, its address in the
Hut, its byte lanes and data. -/
structure HutReq where
  vh : VhId
  src : SrcId
  rid : BitVec 16
  tag : BitVec 14
  addr : BitVec 23
  len : Nat
  data : List Byte := []
  be : List Bool := []
  poisoned : Bool := false
  tc : BitVec 3 := 0
  /-- An AtomicOp that comes through the Normal alias. -/
  normal : Bool := false
deriving DecidableEq, Repr

/-- The AtomicOps (11_hut_ordering.md R325). -/
inductive AtomKind where
  | fetchAdd | swap | cas
deriving DecidableEq, Repr

/-- What a DRAM read found. -/
inductive DramRes where
  | ok | corrected | uncorrectable
deriving DecidableEq, Repr

/-- Bits of a carriage that have flipped when it reaches its yard (06_switch_core.md R166; 07_buffer_multicast.md R196): the carriage of the coupling,
which of its 8 B words, 8 for its tag, and the flipped bits: the word in bits 63 to 0, the check bits of a data word in bits 71 to 64. -/
structure BitErr where
  car : Fin 4
  word : Fin 9
  flips : BitVec 72
deriving DecidableEq, Repr

/-- What the state word of a leaked carriage holds (07_buffer_multicast.md R198, R209): the account it is charged to, and in a header carriage the VC and
the header and data units of its credit charge. -/
inductive LeakAcct where
  | pool (p : SrcId) (q : Fin 4) (charge : Option (Fin 4 × Nat × Nat))
  | shared (src out : SrcId)
  | siding
  | retain (p : PortId)
deriving DecidableEq, Repr

/-- What a census pass found (07_buffer_multicast.md R209): carriages allocated and unmarked, with their accounts; carriages free and marked; header
carriages whose reference count, as read, differs from their holders. -/
structure CensusFindings where
  leaked : List (Nat × LeakAcct) := []
  conflicts : List Nat := []
  refWrong : List (Nat × Fin 64) := []
deriving DecidableEq, Repr

/-- An SPDM vendor signature check outcome and the other checks a requester's message carries. -/
inductive Verdict where
  | good | bad
deriving DecidableEq, Repr

/-- The commands. -/
inductive Instr where
  -- power, reset and boot
  | pwrOkRise
  | pwrOkFall
  | sysRstNAssert
  | internalResetRelease (strap : BitVec 4) (sbAddr : BitVec 3)
  | bistDone (rep : BistReport)
  | imageVerifyDone (keyOk sigOk digestOk : Bool) (ms : BitVec 16)
  | ascentRecordApply
  | ascentRecordTimeout
  | summitEnter
  | ascentLateTimeout
  | guidePair1Verified (ok : Bool)
  | autoConfirmTimeout
  | imageConfirm (src : Path) (v : Word)
  | raiseSvn (src : Path) (v : Word)
  | updateGo (src : Path) (v : Word)
  | updateAbort (src : Path) (v : Word)
  | updatePhaseDone (rep : PhaseReport)
  | historyWrite
  | resetCtlWarm (src : Path) (v : Word)
  | softResetStart
  | refClockLoss (refLost lockLost : Bool)
  | registerWrite (src : Path) (addr : BitVec 25) (len : Nat) (v : Word)
  -- lanes
  | txeqWrite (n : LaneId) (src : Path) (v : Word)
  | trainEqRx (n : LaneId) (m : EqMsg)
  | adaptUpdate (n : LaneId) (grad : List Int)
  | vgaCtleUpdate (n : LaneId) (vga : BitVec 7) (ctle : BitVec 5) (slow : Bool)
  | laneConverged (n : LaneId) (snr : BitVec 8)
  | cdrLockLoss (n : LaneId)
  | laneSnapshot (n : LaneId) (snr : BitVec 8)
  | laneDivergence (n : LaneId) (snr : BitVec 8)
  | laneRestart (n : LaneId) (src : Path) (v : Word)
  | rxadaptFreeze (n : LaneId) (src : Path) (v : Word)
  | historyFallbackTimeout (n : LaneId)
  | sweepPresetTimeout (n : LaneId) (snr : BitVec 8)
  | patgenEnable (n : LaneId) (src : Path) (v : Word)
  | patchkEnable (n : LaneId) (src : Path) (v : Word)
  | patchkClear (n : LaneId) (src : Path) (v : Word)
  | checkerLock (n : LaneId)
  | checkerRelock (n : LaneId) (bits errs syms : BitVec 48)
  | patchkSaturate (n : LaneId) (errs syms : BitVec 48)
  | errinjGo (n : LaneId) (src : Path) (v : Word)
  | errinjInterval (n : LaneId)
  | loopbackModeWrite (n : LaneId) (src : Path) (v : Word)
  | eyescanGo (n : LaneId) (src : Path) (v : Word)
  | eyescanDone (n : LaneId) (pts : List EyePoint) (errs : BitVec 24) (uv : BitVec 16)
  | laneMarginingCmd (n : LaneId) (c : MarginMsg)
  -- ports
  | bifurcWrite (st : StnId) (src : Path) (v : Word)
  | portRoleWrite (p : PortId) (src : Path) (v : Word)
  | linkDisableCmd (p : PortId) (src : Path) (v : Word)
  | prstAssertCmd (p : PortId) (src : Path) (v : Word)
  | prstHoldExpiry (p : PortId)
  | hotResetCmd (p : PortId) (src : Path) (v : Word)
  | retrainCmd (p : PortId) (src : Path) (v : Word)
  | widthGo (p : PortId) (src : Path) (v : Word)
  | partnerWidthRequest (p : PortId) (width : BitVec 5)
  | widthRetry (p : PortId)
  | widthChangeDone (p : PortId) (refused : Bool)
  | pcieTrainingStep (p : PortId) (t : TrainStep)
  | rxDetectRepeat (p : PortId) (found : Bool)
  | trainAlignRx (p : PortId) (reversed : Bool) (polarity : BitVec 16)
  | alignTimeout (p : PortId)
  | trainParamRx (p : PortId) (m : ParamMsg)
  | fabLinkActive (p : PortId)
  | convFailAtRate (p : PortId) (rate : BitVec 4) (lanes : BitVec 16)
  | lockLossRetrain (n : LaneId)
  | hostPrstAssert (p : PortId)
  | hostPrstRelease (p : PortId)
  | hotResetRx (p : PortId)
  | vhResetDone (vh : VhId)
  | devPrstRelease (p : PortId)
  | hotplugPoll (reads : List ExpRead)
  | slotPowerCtrl (vh : VhId) (d : VdspId) (on : Bool)
  | ptmRequestRx (p : PortId) (reqId : BitVec 16)
  -- Halud link layer
  | flitRx (p : PortId) (lane : Fin 16) (bytes : List Byte)
  | nakRepeatTimeout (p : PortId)
  | ackCoalesceTimeout (p : PortId)
  | ackFsnRx (p : PortId) (fsn : BitVec 12)
  | nakRx (p : PortId) (fsn : BitVec 12)
  | replayTimerExpiry (p : PortId)
  | mgtOffRx (p : PortId) (on : Bool)
  | creditRx (p : PortId) (vc : HvcId) (hdr : BitVec 12) (data : BitVec 16)
  | initCreditRx (p : PortId) (vc : HvcId) (hdr : BitVec 12) (data : BitVec 16)
  | initDoneRx (p : PortId) (gotAdv resume : Bool)
  | llInitTimeout (p : PortId)
  | llHoldExpiry (p : PortId)
  | widthReqRx (p : PortId) (token : BitVec 8) (width : BitVec 5)
  | widthAckRx (p : PortId) (token : BitVec 8) (accept : Bool)
  | widthSwitchRx (p : PortId) (token : BitVec 8) (left : BitVec 8)
  | retrainReqRx (p : PortId)
  | transmitSlot (p : PortId)
  | ropePairWrite (r : VhId) (src : Path) (v : Word)
  | rxSilenceTimeout (p : PortId)
  | ropeRejoinSwitch (r : VhId) (vc : Fin 4)
  | ropeHoldRelease (r : VhId) (vc : Fin 4)
  -- lookup and windows
  | tlpRx (p : PortId) (t : Tlp) (tail : Tail) (vc : Fin 4)
  | trainLookup (p : SrcId)
  | xlatMissFill (p : SrcId) (res : DramRes)
  | ctxMissFill (p : SrcId) (res : DramRes)
  | xlatInvAll (src : Path) (v : Word)
  | xlatInvDone
  | winUpdateWrite (src : Path) (v : Word)
  | winUpdateClear (src : Path) (v : Word)
  | winUpdateDiscard (src : Path) (v : Word)
  | winCommitGo (src : Path) (v : Word)
  | winCommitCheck (src : Path) (v : Word)
  | winCommitApply
  | winWritebackDone
  -- switch core
  | couplingOffer (x : XportId)
  | planeArbitration (n : PlaneId) (o : XportId) (also : BitVec 14)
  | couplingYardArrival (n : PlaneId) (o : XportId) (errs : List BitErr)
  | yardRelease (y : XportId)
  | yardMissingTimeout (y : XportId)
  | ingressNoticeTimeout (x : XportId)
  | planeUe (n : PlaneId)
  | suspectExpiry (n : PlaneId)
  -- buffer and multicast
  | sharedMove (p : SrcId)
  | censusPassStart
  | censusRun (src : Path) (v : Word)
  | censusPassEnd (f : CensusFindings)
  | bankErrorWindow (b : Fin 128) (ce : Nat) (ue : Nat)
  | bankRetireCmd (src : Path) (v : Word)
  | bankCopyDone (copied : BitVec 14) (bad : List (BitVec 13))
  | bankSwitchDone (interrupt : BitVec 16)
  | bankDrainDone
  | mcOffer (x : XportId)
  | sidingDeliver
  | sidingTimeout (x : XportId)
  -- egress scheduling
  | shaperWheelSlot (p : PortId) (q : Fin 64)
  | gateCommitGo (p : PortId) (src : Path) (v : Word)
  | gateCheckDone (p : PortId)
  | gateCancel (p : PortId) (src : Path) (v : Word)
  | gateSwap (p : PortId)
  | gateCopyDone (p : PortId)
  | gateEntryBoundary (p : PortId)
  | tcvcWrite (p : PortId) (src : Path) (v : Word)
  -- fabric mode
  | nodeIdWrite (src : Path) (v : Word)
  | ortAllocate (p : SrcId)
  | ortTimeout (e : Fin 16384)
  | quarantineEnd (e : Fin 16384)
  | pfnPop (src : Path) (v : Word)
  | stallTimeout (p : PortId) (vc : Fin 4)
  -- sharing
  | vhBindWrite (vh : VhId) (src : Path) (v : Word)
  | vdspAttach (src : Path) (v : Word)
  | vdspDetach (src : Path) (v : Word)
  | vdspForceDetach (src : Path) (v : Word)
  | vdspPowerOff (vh : VhId) (d : VdspId)
  | detachWaitTimeout (vh : VhId) (d : VdspId)
  | vdspFlrWaitExpiry (vh : VhId) (d : VdspId)
  | vdspDrainDone (vh : VhId) (d : VdspId)
  | vfMapWrite (j : Fin 1024) (w : Fin 4) (src : Path) (v : Word)
  | virtualConfigAccess (vh : VhId) (r : CfgReq)
  | vfConfigAccess (vh : VhId) (r : CfgReq)
  | vfCfgCompletion (tag : Fin 256) (status : CplSt) (cplId : BitVec 16) (data : BitVec 32) (ep : Bool)
  | vfCfgTimeout (tag : Fin 256)
  | mediatedFlr (vh : VhId) (d : VdspId) (secondary : Bool)
  | mediatedFlrDone (vh : VhId) (d : VdspId)
  | dpcTrigger (vh : VhId) (d : VdspId) (reason : BitVec 4)
  | dpcRelease (vh : VhId) (d : VdspId)
  | ctxRead (src : Path) (v : Word)
  | ctxWrite (src : Path) (v : Word)
  | ctxInsert (src : Path) (v : Word)
  | ctxDelete (src : Path) (v : Word)
  | ctxFind (src : Path) (v : Word)
  | dlSlotEnable (j : Fin 256) (src : Path) (v : Word)
  | dlZeroDone (j : Fin 256)
  | dlLineWriteback (j : Fin 256) (line : BitVec 32) (res : DramRes)
  | harvestGo (src : Path) (v : Word)
  | harvestAbort (src : Path) (v : Word)
  | harvestDoneCmd (src : Path) (v : Word)
  | harvestFlushDone
  | harvestDrainDone
  | harvestDeliverDone
  | harvestClearDone
  | harvestMergeDone
  -- the Hut
  | hutDeviceRead (r : HutReq)
  | hutDeviceWrite (r : HutReq)
  | hutNormalRead (r : HutReq)
  | hutNormalWrite (r : HutReq)
  | normalWriteDeadline (bank : Fin 32)
  | hutReserveRead (r : HutReq)
  | hutConditionalWrite (r : HutReq)
  | hutAtomic (k : AtomKind) (r : HutReq)
  | rsvTimeout (m : Fin 2048)
  | fence (vh : VhId) (v : Word)
  | fenceArrival (vh : VhId)
  | fenceDone (vh : VhId)
  | fenceTimeout (vh : VhId)
  | dbRing (vh : VhId) (src : SrcId) (rid : BitVec 16) (target : VhId) (data : BitVec 32)
  | dbPendRead (vh : VhId)
  | hutZero (src : Path) (v : Word)
  | hutZeroDone
  -- errors and containment
  | contain (src : Path) (v : Word)
  | release (src : Path) (v : Word)
  | linkDown (p : PortId)
  | removalDetectDone (p : PortId) (found : Bool)
  | escWindowExpiry (j : Fin 128) (inst : Nat)
  | guideMismatch (pair : Fin 2)
  | guidePairReady (pair : Fin 2) (ok : Bool)
  | guideCheckpoint
  -- self-repair and ageing
  | sramRowRepair (macroId : BitVec 16) (row : BitVec 24) (ue : Bool)
  | dramRowRepair (ch : Fin 4) (bank : BitVec 4) (row : BitVec 24) (ue : Bool)
  | scrubRead (addr : BitVec 32) (res : DramRes) (pos : BitVec 6)
  | acclPassStart
  | acclRun (src : Path) (v : Word)
  | marginMeasureDone (ms : List (BitVec 3)) (osc : List (BitVec 16))
  | acclPassEnd
  | fastGuardStep
  | eqHoursTick (tj : BitVec 12)
  | pitchStart
  -- telemetry
  | chainWrite (j : Fin 32) (src : Path) (v : Word)
  | tagEnable (src : Path) (v : Word)
  | cairnFinish (id : Nat)
  | cairnWrite
  | coalWindowExpiry (code : BitVec 16) (inst : BitVec 16) (key : BitVec 16)
  | logDropSummary
  | alarmFifoWrite
  | freezeRearm (src : Path) (v : Word)
  | logIrqGapExpiry
  | logDmaBatch
  | logMark (src : Path) (v : Word)
  -- management access
  | rpuSlotWrite (n : Fin 512) (src : Path) (v : Word)
  | rpuSlotLock (n : Fin 512) (src : Path) (v : Word)
  | hostLockedRead (vh : VhId) (rid : BitVec 16) (hostPort : Bool) (bar : Fin 3) (addr : BitVec 25) (len : Nat)
  | hostUnlock (vh : VhId)
  | lockBreak (page : Fin 512) (seg : Fin 16)
  | mctpPacketRx (bytes : List Byte) (pecOk : Bool)
  | i3cDynamicAddress (addr : BitVec 7)
  | write32 (addr : BitVec 32) (data : BitVec 32) (pecOk : Bool)
  | read32 (addr : BitVec 32) (pecOk : Bool)
  | lockRead32 (addr : BitVec 32) (pecOk : Bool)
  | writeUnlock32 (addr : BitVec 32) (data : BitVec 32) (pecOk : Bool)
  | unlock (pecOk : Bool)
  | getStatus (pecOk : Bool)
  | alarmRead (pecOk : Bool)
  | alarmAck (seq : BitVec 32) (pecOk : Bool)
  | recordRead (pecOk : Bool)
  | recordAck (seq : BitVec 32) (pecOk : Bool)
  | sbPrivateRead
  | sbWritePerform
  | sbFetchDone
  | sbResultExpiry
  | tapReset
  | bypass
  | idcode
  | samplePreload (pins shiftIn : BitVec 512)
  | extest (pins shiftIn : BitVec 512)
  | extestPulse (pins shiftIn : BitVec 512)
  | extestTrain (pins shiftIn : BitVec 512)
  | highz
  | dapRead (size8 : Bool) (addr : BitVec 25)
  | dapWrite (size8 : Bool) (addr : BitVec 25) (v : Word)
  -- SPDM
  | getVersion
  | getCapabilities
  | negotiateAlgorithms (p384 sha384 : Bool)
  | getDigests
  | getCertificate (slot : BitVec 4) (off len : BitVec 16)
  | challenge (slot : BitVec 4)
  | getMeasurements (index : BitVec 8) (signed : Bool)
  | keyExchange (slot : BitVec 4) (reqSession : BitVec 16)
  | finish (session : BitVec 32) (hmac : Verdict)
  | endSession (session : BitVec 32)
  | dbgNonce (session : BitVec 32)
  | dbgNonceExpiry
  | dbgUnlock (session : BitVec 32) (keyOk sigOk : Verdict)
  | dbgRelock (src : Path) (v : Word)
  -- register conventions
  | shadowGo (page : Fin 512) (src : Path) (v : Word)
  | shadowCheckDone (page : Fin 512)
  | shadowDiscard (page : Fin 512) (src : Path) (v : Word)
  | evtForce (page : Fin 512) (src : Path) (v : Word)
  | stsHold (page : Fin 512) (src : Path) (v : Word)
  -- pins, power and time
  | thermalTrip
  | tempWarn (temp : BitVec 12) (diode : BitVec 6)
  | railToleranceTimeout (r : Fin 9)
  | avsTransactionDone (ok : Bool) (mv ca : BitVec 16)
  | avsSettleDone
  | ptmExchange (p : PortId) (master : BitVec 64)
  | ppsEdge
  | syncLossTimeout
  | timeSet (src : Path) (v : Word)
  | timeSrcWrite (src : Path) (v : Word)
  | ppsOutPulse
  | pcieDllpRx (p : PortId) (d : Dllp)
  | pcieReplayTimerExpiry (p : PortId)
  | registerRead (src : Path) (addr : BitVec 25) (len : Nat)
  | sramScrub (macroId : BitVec 16) (row : BitVec 24) (res : DramRes) (hutWords : List (BitVec 20))
  | tempWarnRearm (temp : BitVec 12) (diode : BitVec 6)
  | railToleranceChange (r : Fin 9) (outside : Bool)
  | refClockReturn
  | cdrLockGain (n : LaneId)
  | meTagHoldExpiry (tag : Fin 256)
  | containDone
  | historyWriteDone (ok : Bool)
deriving DecidableEq, Repr

end Sys2Proof
end

