-- ==== Sys2Proof/Decode.lean ====
section
/-! DEFINITION. Words that spell commands. Every row of spec/opcode_table.json has an empty list of bit fields: the block's commands are events
and register accesses, and no word spells one (notes/assumptions/10.md). -/
namespace Sys2Proof

/-- The command a word spells: none, for every width, since no row gives bits. -/
def decodeTableWord (_nbits _w : Nat) : Option Instr := none

end Sys2Proof
end

