-- ==== Sys2Proof/Machine/Tab.lean ====
section
/-! DEFINITION. Sparse tables: the one form in which State keeps anything addressed by a number (register fields, trains, table entries, memory
bytes). A table is a list of (key, value) pairs with strictly rising keys. -/
namespace Sys2Proof.Machine

/-- A sparse table, keys strictly rising. -/
abbrev Tab (α : Type) := List (Nat × α)

/-- The entry at a key. -/
def Tab.get? {α : Type} : Tab α → Nat → Option α
  | [], _ => none
  | (k', v) :: t, k => if k = k' then some v else Tab.get? t k

/-- Insert or replace the entry at a key. -/
def Tab.put {α : Type} : Tab α → Nat → α → Tab α
  | [], k, v => [(k, v)]
  | (k', v') :: t, k, v =>
    if k < k' then (k, v) :: (k', v') :: t else if k = k' then (k, v) :: t else (k', v') :: Tab.put t k v

/-- Remove the entry at a key. -/
def Tab.del {α : Type} : Tab α → Nat → Tab α
  | [], _ => []
  | (k', v') :: t, k => if k = k' then Tab.del t k else (k', v') :: Tab.del t k

/-- The entry at a key, or the default an unlisted key has. -/
def Tab.getD {α : Type} (t : Tab α) (k : Nat) (d : α) : α := (Tab.get? t k).getD d

/-- Write a value, keeping no entry equal to the default. -/
def Tab.setD {α : Type} [DecidableEq α] (t : Tab α) (k : Nat) (v d : α) : Tab α :=
  if v = d then Tab.del t k else Tab.put t k v

/-- Change the entry at a key if it is listed. -/
def Tab.upd {α : Type} (t : Tab α) (k : Nat) (f : α → α) : Tab α :=
  match Tab.get? t k with
  | some v => Tab.put t k (f v)
  | none => t

/-- Keys strictly rising. -/
def Tab.sorted {α : Type} : Tab α → Bool
  | [] => true
  | [_] => true
  | a :: b :: t => decide (a.1 < b.1) && Tab.sorted (b :: t)

/-- The canonical form: keys strictly rising, and no entry equal to the default. -/
def Tab.wf {α : Type} [DecidableEq α] (t : Tab α) (d : α) : Bool :=
  Tab.sorted t && t.all fun e => decide (e.2 ≠ d)

/-- Byte memory in canonical form. -/
abbrev Memory := List Host.Cell

/-- What a byte reads as, with the value `d` an unlisted address has. -/
def Memory.read (m : Memory) (d : BitVec 8) (a : Nat) : BitVec 8 := Tab.getD m a d

/-- Write one byte; writing `d` removes the entry. -/
def Memory.write (m : Memory) (d : BitVec 8) (a : Nat) (v : BitVec 8) : Memory := Tab.setD m a v d

/-- Write a list of bytes at rising addresses. -/
def Memory.writeBytes (m : Memory) (d : BitVec 8) : Nat → List (BitVec 8) → Memory
  | _, [] => m
  | a, b :: bs => Memory.writeBytes (Memory.write m d a b) d (a + 1) bs

/-- Read `n` bytes from an address. -/
def Memory.readBytes (m : Memory) (d : BitVec 8) (a n : Nat) : List (BitVec 8) :=
  (List.range n).map fun i => Memory.read m d (a + i)

/-- The canonical form of a memory whose unlisted bytes read `d`. -/
def Memory.wf (m : Memory) (d : BitVec 8) : Bool := Tab.wf m d

/-- The value of little-endian bytes. -/
def leNat : List (BitVec 8) → Nat
  | [] => 0
  | b :: bs => b.toNat + 256 * leNat bs

/-- The low `n` bytes of a number, little-endian. -/
def leBytes : Nat → Nat → List (BitVec 8)
  | 0, _ => []
  | n + 1, v => BitVec.ofNat 8 v :: leBytes n (v / 256)

/-- Bits hi..lo of a number. -/
def bitsOf (v hi lo : Nat) : Nat := v / 2 ^ lo % 2 ^ (hi + 1 - lo)

/-- One bit of a number. -/
def bitOf (v i : Nat) : Bool := v / 2 ^ i % 2 == 1

/-- Set or clear one bit of a number. -/
def withBit (v i : Nat) (b : Bool) : Nat :=
  if bitOf v i == b then v else if b then v + 2 ^ i else v - 2 ^ i

/-- 1 for true, 0 for false. -/
def b2n (b : Bool) : Nat := if b then 1 else 0

/-- Replace the element at an index. -/
def listSet {α : Type} (l : List α) (i : Nat) (v : α) : List α := l.set i v

end Sys2Proof.Machine
end

