-- ==== Sys2Proof/Machine/State.lean ====
section
/-! DEFINITION. The state of the block: every register field, every queue, buffer, table, timer and pin level the spec gives the LN4192, as plain
data, and the queue of waiting commands. Registers live in `flds` by field (names in Machine/Regs.lean); the other parts hold what the rules
name and no register shows. Every part's default is its value at the start of a cold reset. -/
namespace Sys2Proof.Machine

/-- Why a command stops the model with a fault. No command of this block does: the spec gives every one of them an effect. -/
inductive Fault where
  /-- Raised by no command. Safe. -/
  | none
deriving DecidableEq, Repr

/-- Why a command is refused by the model. -/
inductive Refusal where
  /-- Raised by an arm of `exec` whose command has no meaning yet. Safe. -/
  | notModelled (mnemonic : String)
deriving DecidableEq, Repr

/-! ### What leaves the block -/

/-- What the block sends, in the order sent (notes/assumptions/7.md). -/
inductive Out where
  /-- A TLP on a HOST or DEV port's link. -/
  | tlp (port : Nat) (t : Tlp)
  /-- A data link layer packet on a HOST or DEV port's link, its credit counts cumulative (R142). -/
  | dllp (port : Nat) (d : Dllp)
  /-- Initial credits of a VC and class on a HOST or DEV port's link: header and data fields and the scales they are given in, 0 unscaled (R142, R201). -/
  | initFc (port vc cls hdr data hdrScale dataScale : Nat)
  /-- A Halud flit on a FAB port's link, as its bytes, scrambled; and the PAM4 symbols of each logical lane that carry it (R95). -/
  | flit (port : Nat) (bytes : List Byte)
  | symbols (port : Nat) (lanes : List (List Nat))
  /-- A TLP the management endpoint or the Hut answers with in a VH (through the VH's switch). -/
  | answer (vh : Nat) (t : Tlp)
  /-- An MSI-X write of the management endpoint in a VH: vector, address, data. -/
  | msix (vh vector addr data : Nat)
  /-- An interrupt of a virtual port (hot-plug, DPC) in a VH. -/
  | portIrq (vh fn : Nat)
  /-- The result of a host register or counter read: status and the words. -/
  | regData (vh rid : Nat) (status : CplSt) (data : List Nat)
  /-- A register read answered to the Guide. -/
  | guideData (ok : Bool) (data : List Nat)
  /-- Bytes the sideband bridge returns, or a NACK of its command byte. -/
  | sb (bytes : List Nat)
  | sbNack
  /-- An SPDM response on the transport its request came by: request code answered, error code (0 for success), payload words. -/
  | spdm (via : Via) (request error : Nat) (payload : List Nat)
  /-- A DAP_ACC result captured out: STATUS and data. -/
  | dap (status data : Nat)
  /-- A TAP data register shifted out. -/
  | tdo (value : Nat)
  /-- The pins take what the boundary register holds: 0x03 as levels, 0x04 one pulse and 0x05 a train of pulses on the lanes (R9, R466). -/
  | boundary (ir value : Nat)
  /-- A symbol event on a link: hot reset, retrain, disabled, wake and the like, with an argument. -/
  | link (port : Nat) (what : String) (arg : Nat)
  /-- A Halud TRAIN message sent by a lane or port. -/
  | train (lane : Nat) (what : String) (args : List Nat)
  /-- A TRAIN flit, sent whole on a lane, before scrambling (R100). -/
  | trainFlit (lane : Nat) (bytes : List Byte)
  /-- An AVSBus transaction: command code and value. -/
  | avs (cmd value : Nat)
  /-- A write to a hot-plug expander: slot's port and its outputs (power, indicators). -/
  | expander (port : Nat) (power : Bool)
  /-- Bytes the device puts on the hot-plug bus for an expander: command byte and data (R92). -/
  | i2c (addr : Nat) (bytes : List Nat)
  /-- A rising edge on TIME_PPS_OUT. -/
  | pps
  /-- A configuration request the management endpoint sends to a function on a DEV port (tag, target, dword, write, byte enables, data). -/
  | cfgReq (port tag rid dword : Nat) (write : Bool) (be data : Nat)
deriving DecidableEq, Repr

/-! ### Pins, resets, boot -/

/-- One PRST_N pin: driven by the device or not, asserted by the device, its 1 ms minimum running, held by a surprise removal (R85, R89,
R355), and asserted by the far side where the device reads it (HOST ports). -/
structure Prst where
  out : Bool := false
  asserted : Bool := false
  minTimer : Bool := false
  removal : Bool := false
deriving DecidableEq, Repr

structure Pins where
  pwrOk : Bool := false
  /-- Internal reset held: from a cold or warm reset to its release (R493). -/
  rstHeld : Bool := true
  /-- The reset in progress is a cold one. -/
  coldRst : Bool := true
  softPending : Bool := false
  /-- FAULT_N and THERMTRIP_N asserted; transmitters idle (R489, R494, R504). -/
  faultN : Bool := false
  thermTrip : Bool := false
  txIdle : Bool := true
  /-- CHIP logic has a clock: false from CLK_LOSS until the reference returns (R358). -/
  clkLost : Bool := false
  /-- BIST has ended since the last reset: counters and time run (R393, R10). -/
  bistDone : Bool := false
  prst : Tab Prst := []
  /-- Outputs and directions last written to the hot-plug expanders, by address (R92). -/
  expOut : Tab (Nat × Nat) := []
  ppsOut : Bool := false
  /-- TEMP_WARN has been raised and the reading has not fallen 5 °C below WARN since (R496). -/
  tempHeld : Bool := false
  /-- TAP: instruction register (R466) and the boundary register; outputs held high-impedance. -/
  ir : Nat := 0x01
  boundary : Nat := 0
  highz : Bool := false
deriving DecidableEq, Repr

/-- The device time base and its synchronisation (R499). -/
structure TimeSt where
  now : Nat := 0
  /-- Consecutive measurements within 20 ns. -/
  inWindow : Nat := 0
  /-- Periods of 10 ns since BIST ended, which no step and no adjustment of the time base changes: what the model measures durations by. -/
  run : Nat := 0
  /-- What the rate adjustment has gathered beyond whole ticks, in units of 10^-8 tick (R499). -/
  slew : Int := 0
  /-- A value to take at the next tick (a step). -/
  stepTo : Option Nat := none
deriving DecidableEq, Repr

/-- AVSBus (R495): transaction in flight with its code, retries spent, settling, fast step waiting, and what it is. -/
structure AvsSt where
  busy : Option Nat := none
  /-- The transaction in flight is a Status read. -/
  isStatus : Bool := false
  retries : Nat := 0
  settling : Bool := false
  /-- Fast steps that wait for the bus (R381). -/
  fastDue : Nat := 0
  /-- FIXED was set and its code 60 waits for the bus (R495). -/
  fixedDue : Bool := false
deriving DecidableEq, Repr

/-- A held or waiting configuration record of Ascent (R433). -/
structure HeldWrite where
  idx : Nat
  page : Nat
  off : Nat
  value : Nat
  mask : Nat
deriving DecidableEq, Repr

structure Boot where
  flash : Memory := []
  staging : Memory := []
  /-- Slots still to be tried, in order; the head is under verification (R430). -/
  cands : List Nat := []
  booted : Option Nat := none
  /-- Cursor of Ascent: index of the next record of its phase; the pages of phase 3 still to be committed, and the WRT entries of phase 2. -/
  ascEntries : List Nat := []
  ascIdx : Nat := 0
  ascPages : List Nat := []
  heldFab : List HeldWrite := []
  /-- The record whose operation Ascent waits for: its index and the page and offset of its register. -/
  ascWait : Option (Nat × Nat × Nat) := none
  /-- The value that record wrote. -/
  ascValue : Nat := 0
  /-- Ascent runs again after a Guide takeover: a command already in its target state counts as applied (R433). -/
  ascAgain : Bool := false
  /-- Ports that were up in BASECAMP when ASCENT began (R434). -/
  upAtAscent : List Nat := []
  confirmTimer : Bool := false
  updWaits : Bool := false
  updAbort : Bool := false
  histBusy : Bool := false
  /-- GEN and half of the history generation being written. -/
  histGen : Nat := 0
  histHalf : Nat := 0
  /-- Repair-map entries that generation takes to the flash. -/
  histNew : Nat := 0
  /-- The hourly allowance (R429): a write may be made. -/
  histAllowed : Bool := false
  /-- AVS_STS.PLAN or the repair map or presets changed since the last history write. -/
  ageDirty : Bool := false
  boardId : List Byte := []
  /-- Target slot of the running update (R438). -/
  updSlot : Nat := 0
  /-- Repair-map rows that a hard repair has covered (R374), as channel * 2^24 + row; kept over every reset. -/
  hardDone : List Nat := []
deriving DecidableEq, Repr

/-! ### Events, counters, logbook, cairns -/

/-- A logbook record (14_telemetry.md R410). -/
structure LogRec where
  code : Nat
  lclass : Nat
  eclass : Nat
  coal : Bool := false
  detail : Nat := 0
  epoch : Nat := 0
  key : Nat := 0
  /-- What its repeats are coalesced by beside code and instance (R412); not part of the record. -/
  ckey : Nat := 0
  time : Nat := 0
  seq : Nat := 0
  count : Nat := 1
  lastDelta : Nat := 0
  node : Nat := 0
  inst : Nat := 0
  w : List Nat := []
deriving DecidableEq, Repr

/-- A coalescing entry (R412): its key, and its repeats so far. -/
structure CoalEnt where
  code : Nat
  inst : Nat
  key : Nat
  rep : Option LogRec := none
  last : Nat := 0
deriving DecidableEq, Repr

/-- An entry of the alarm FIFO (R414). -/
structure AlarmEnt where
  r : LogRec
  written : Bool := false
  read : Bool := false
  shown : Bool := false
  /-- The event was forced: it asserts no ALERT_N (R479). -/
  forced : Bool := false
deriving DecidableEq, Repr

/-- A cairn under way or finished (R405, R406); stage times in CORE cycles from ingress. -/
structure Cairn where
  train : Nat
  inPort : Nat
  outPort : Nat := 63
  cls : Nat := 0
  tc : Nat := 0
  vh : Nat := 0
  len : Nat := 0
  ct : Bool := false
  miss : Bool := false
  null : Bool := false
  done : Bool := false
  gen : Nat := 0
  time : Nat := 0
  stages : List Nat := []
  reqId : Nat := 0
  tag : Nat := 0
  dstNode : Nat := 0
  addr : Nat := 0
deriving DecidableEq, Repr

structure Tele where
  /-- Event counters (R393, R394) and the bases of tenant counters (R398), by counter index. -/
  ctr : Tab Nat := []
  base : Tab Nat := []
  main : Tab LogRec := []
  alarm : Tab LogRec := []
  freeze : Tab LogRec := []
  coal : List CoalEnt := []
  queue : List LogRec := []
  fifo : List AlarmEnt := []
  /-- Alarms a block keeps while the FIFO holds 256 unwritten entries. -/
  fifoWait : List LogRec := []
  /-- Drops of TRACE, EVENT and ERROR in the current millisecond. -/
  msDrops : Nat × Nat × Nat := (0, 0, 0)
  freezing : Bool := false
  /-- Records admitted for the freeze region that wait for an allowance of the LOG class (R24, R415). -/
  freezeQ : List LogRec := []
  /-- The record of a clock loss that the freeze region is still to take (R22). -/
  clkRec : Option LogRec := none
  /-- Records written in the current pitch: ERROR, EVENT, TRACE. -/
  wrote : Nat × Nat × Nat := (0, 0, 0)
  /-- Interrupt gap of the logbook vector running; classes admitted since the last interrupt. -/
  irqGap : Bool := false
  irqWant : List Nat := []
  sbRecs : List LogRec := []
  /-- LOG_BASE or LOG_SIZE changed since EN was last 1 (R417). -/
  logMoved : Bool := false
  /-- Records not yet delivered by stream DMA, and the index of the next one it will write (R416). -/
  dmaPend : List LogRec := []
  dmaIdx : Nat := 0
  cairns : Tab Cairn := []
  cairnQ : List Cairn := []
  cairnRing : Tab Cairn := []
  cairnSeq : Nat := 0
  lfsr : Tab Nat := []
  /-- Slot remainders in bytes (R402), keyed by 16 * port + category. -/
  rem : Tab Nat := []
  /-- DRAM accesses of 64 B issued and not yet given a command slot (R24, R396). -/
  dramBusy : Nat := 0
  /-- Escalation counts (R345), keyed by entry * 65536 + instance. -/
  esc : Tab Nat := []
deriving DecidableEq, Repr

/-! ### Management access -/

/-- A held segment lock (R455): page, segment, locker number. -/
structure SegLock where
  page : Nat
  seg : Nat
  who : Nat
deriving DecidableEq, Repr

/-- An access that waits for a segment (R456). -/
structure WaitAcc where
  src : Path
  who : Nat
  addr : Nat
  len : Nat
  write : Bool
  value : Nat
  lock : Bool := false
  /-- The request it came in, when a train brought it, with its ingress instance, and that train's number. -/
  req : Option (Nat × Tlp) := none
  train : Nat := 0
deriving DecidableEq, Repr

/-- A command the sideband bridge serves through a fetch (R459, R462). -/
structure SbFetch where
  addr : Nat
  lock : Bool
  /-- Queued writes that go before it. -/
  ahead : Nat
deriving DecidableEq, Repr

structure Mgmt where
  locks : List SegLock := []
  waits : List WaitAcc := []
  /-- Source of the register network served last (R26): 0 host, 1 sideband, 2 debug, 3 Guide, 4 internal activities. -/
  lastSource : Nat := 4
  /-- Lockers whose lock was broken and who have not yet ended their sequence, with discarded writes. -/
  broken : List (Nat × Nat × Nat × Nat) := []
  /-- Queued writes: address, data, and whether it is a WRITE_UNLOCK32; its status is still awaited. -/
  wq : List (Nat × Nat × Bool) := []
  wulWait : Bool := false
  fetch : Option SbFetch := none
  /-- The answer of the last bridge command, if one is held. -/
  result : Option (List Nat) := none
  /-- The held answer is that of a fetch and expires (R462). -/
  resultExpires : Bool := false
  pecBad : Bool := false
  /-- DAP: status and data of the previous operation. -/
  dapStatus : Nat := 0
  dapData : Nat := 0
  /-- SPDM, each by the transport of its requester: how far the exchange has come (1 version, 2 capabilities, 3 algorithms), and the sessions
  (id, established, transport); the nonce outstanding with its session, the session that unlocked the DAP. -/
  spdmAt : List (Via × Nat) := []
  /-- The transport of the SPDM request served last, which takes its response, and the packets of a message that has not ended yet, by transport. -/
  spdmVia : Via := .i3c
  mctpParts : List (Via × List Byte) := []
  sessions : List (Nat × Bool × Via) := []
  nextSession : Nat := 1
  nonce : Option (Nat × Nat) := none
  dapSession : Option Nat := none
  /-- MSI-X tables by VH (dword index 24 * VH + i) and pending bits by 6 * VH + vector (R443). -/
  msix : Tab Nat := []
  msixPend : Tab Nat := []
  /-- Configuration registers of the virtual functions, by (VH * 128 + function) * 1024 + dword; function 0 the upstream port, 1 to 31 the
  vDSPs, 32 the management endpoint, 64 + d the virtual endpoint below vDSP d (R283, R294). -/
  cfg : Tab Nat := []
  /-- Staged values of SH fields by field key (R481); shadow as it stood at GO, by page; snapshots of STS_HOLD by register key. -/
  shadow : Tab Nat := []
  atGo : Tab (List (Nat × Nat)) := []
  /-- Privileges that have staged on a page since its GO (R487). -/
  late : Tab Nat := []
  held : Tab Nat := []
deriving DecidableEq, Repr

/-! ### Lanes (02_lanes.md) -/

/-- What a lane holds beside its registers: the snapshot of R40 (20 coefficients, CTLE, VGA), a RESTART held by FREEZE, the state to return to
when FREEZE clears, the coefficients last requested of the partner, the sweep of R48 (step, best requested set and its SNR), the partner's
convergence flag, margining under way, a scan waiting for it, the CONV_SNR change of a pass waiting for the next snapshot (R41), the 100 µs
relock timer (R78), and the response owed to a coefficient request. -/
structure LaneSt where
  snap : Option (List Nat × Nat × Nat) := none
  heldRestart : Bool := false
  thawTo : Nat := 0
  req : List Nat := [0, 0, 64, 0]
  sweep : Option Nat := none
  best : List Nat := [0, 0, 64, 0]
  bestSnr : Nat := 0
  partnerConv : Bool := false
  selfConv : Bool := false
  margining : Bool := false
  /-- Rates at which the lane has converged since it was last out of use (R49). -/
  convAt : List Nat := []
  /-- Error count limit of Lane Margining (PCIe; 4 by default). -/
  errLimit : Nat := 4
  scanWaits : Bool := false
  snrDelta : Option Nat := none
  relock : Bool := false
  /-- Held in service order by a width command: leaves IDLE with its coefficients (R39). -/
  parked : Bool := false
  /-- The lane runs for a test function, from its test start (R52). -/
  testRun : Bool := false
  /-- The lane acquires from a history record and has not converged since (R46 step 3). -/
  tryRec : Bool := false
  /-- A restore that FREEZE holds back (R37, R39). -/
  heldRestore : Bool := false
  /-- The restart that FREEZE holds back is that of a lane which has abandoned its history record (R46 step 3). -/
  noHist : Bool := false
  /-- The partner rejected the request being tried (R48, R100). -/
  rejected : Bool := false
  /-- The lane has found the flit boundary of the ALIGN messages since it last left IDLE (R127). -/
  aligned : Bool := false
  /-- Bits 31 to 0 of TXEQ as last written and accepted: the manual coefficients (R35). -/
  txMan : Nat := 0x40000000
deriving DecidableEq, Repr

/-! ### Activity budgets (13_dependability.md R386 to R390) -/

/-- One activity class in the current pitch: limits (after debt), the debt taken off them and what is still owed, use, and whether work was turned
away. -/
structure ClassUse where
  limReg : Nat
  limDram : Nat
  /-- Debt taken off the limits, and what is still owed beyond them (R388). -/
  debtReg : Nat := 0
  debtDram : Nat := 0
  oweReg : Nat := 0
  oweDram : Nat := 0
  usedReg : Nat := 0
  usedDram : Nat := 0
  wanted : Bool := false
deriving DecidableEq, Repr

/-- Work of an activity class, by what is done once the class has paid for it (R387): the move of an SRAM or DRAM row, the write-back of a corrected
block, a scrub read and a row scrub, the zeroing of a slot's bitmaps, CLEAR and MERGE of a harvest and a piece of its bitmap, a context access, the
write-back of the apply overlay, a clear of the Hut, a commit of a page, the Guide's checkpoint, phases of the acclimatisation pass, a cairn, a
record of the alarm FIFO, a batch of stream DMA, and the next record of Ascent. -/
inductive Act where
  | sramRow (m row cause : Nat)
  | dramRow (ch bank row cause : Nat)
  | writeBack
  | scrub (addr : Nat) (r : DramRes) (pos : Nat)
  | rowScrub (m row : Nat) (r : DramRes) (words : List Nat)
  | zero (slot : Nat)
  | clear
  | merge
  | harvest
  | context
  | overlay
  | hutZero
  | commit (page : Nat)
  | checkpoint
  | sense
  | measured (ms osc : List Nat)
  | publish
  | cairn
  | alarm
  | dmaBatch
  | ascent
deriving DecidableEq, Repr

/-- Waiting work: its class, the register accesses and 64 B units still to be paid for, the page it is shown at, whether it is a single access, which
any allowance admits (R388), and what it does. -/
structure Job where
  cls : Nat
  reg : Nat
  dram : Nat
  page : Nat
  whole : Bool := false
  act : Act
deriving DecidableEq, Repr

/-! ### Trains (05_lookup_windows.md to 09_fabric_mode.md) -/

/-- The Halud transaction header (R250), field by field; `dst` holds DST_NODE, `group` GROUP of a multicast write. -/
structure Hdr where
  op : Nat := 0
  dst : Nat := 0
  src : Nat := 0
  dport : Nat := 0
  dvh : Nat := 0
  svh : Nat := 0
  tc : Nat := 0
  ns : Bool := false
  ro : Bool := false
  ido : Bool := false
  ep : Bool := false
  at2 : Nat := 0
  desc : Bool := false
  hops : Nat := 0
  mc : Bool := false
  group : Nat := 0
  addr : Nat := 0
  lowerAddr : Nat := 0
  byteCount : Nat := 0
  ftag : Nat := 0
  epoch : Nat := 0
  len : Nat := 0
  rlen : Nat := 0
  fbe : Nat := 0
  lbe : Nat := 0
  status : Nat := 0
  cause : Nat := 0
  np : Bool := false
  reqId : Nat := 0
  pasid : Nat := 0
  pv : Bool := false
  pmr : Bool := false
  exe : Bool := false
  wtag : Nat := 0
deriving DecidableEq, Repr

/-- A header waiting for lookup at an ingress instance (0 to 47 ports, 48 Hut, 49 management endpoint). `vh` is set for a train the device
itself builds, `hal` for a Halud packet (its data bytes are in `t.data`) with the VC it came on. -/
structure InTrain where
  id : Nat
  src : Nat
  vh : Option Nat := none
  t : Tlp
  hal : Option Hdr := none
  tail : Tail := .good
  vc : Nat := 0
  /-- Device time base when its header was extracted (R405). -/
  time : Nat := 0
  /-- Egress fixed by the device: the DMA of a harvest or of records, a message of a virtual port. -/
  eg : Option Nat := none
  /-- The credits it was charged against ended with the link they stood on. -/
  stale : Bool := false
  /-- A link in flit mode brought it (R165). -/
  flit : Bool := false
deriving DecidableEq, Repr

/-- The account a train's carriages are charged to (R199, R267). -/
inductive Acct where
  | pool (p q : Nat)
  | shared
  | siding
  | retain (p : Nat)
  | rsv (e : Nat)
  /-- Its carriages have been released; it waits for acknowledgements only. -/
  | none
deriving DecidableEq, Repr

/-- One coupling on its way to one egress plane port: its plane, its CSN once numbered, and where it is: 0 at the ingress, 1 requested,
2 on the plane, 3 in the yard, 4 released, 5 residue in the siding. -/
structure Cpl where
  plane : Nat
  csn : Nat := 0
  st : Nat := 0
deriving DecidableEq, Repr

/-- The part of a train for one egress plane port: the member ports there (one for unicast), its couplings, whether its CSNs are given, and whether the
siding has delivered any of them (R217). -/
structure Leg where
  y : Nat
  ports : List Nat
  cpls : List Cpl
  numbered : Bool := false
  res : Bool := false
deriving DecidableEq, Repr

/-- One copy of a train in a scheduling queue of a port: its queue, its place in release order, granules already sent on a Halud link, and
whether it waits to be sent again whole after an underrun (R183). `res` marks one that the siding delivered, for which the siding asks the arbiter of a
PCIe port (R177, R217). `piece` is the piece it sends next, of those the gateway splits it into (R263). -/
structure Copy where
  port : Nat
  queue : Nat
  rel : Nat
  sent : Nat := 0
  again : Bool := false
  res : Bool := false
  piece : Nat := 0
deriving DecidableEq, Repr

/-- A train admitted to the buffer. `rx` and `rxHal` are as received, `t` and `hal` as they will leave (a train leaves as Halud exactly when
`hal` is set). `hsz` and `dsz` are its stored header and data bytes (R165); `gen` the window generation it was translated under; `stamp` the
fence stamp of its VH (R329); `dl` its dirty-log slot and epoch (R302); `att` the vDSP attachments it was routed under (R288). -/
structure Train where
  id : Nat
  src : Nat
  x : Nat
  vh : Nat
  rx : Tlp
  rxHal : Option Hdr := none
  t : Tlp
  hal : Option Hdr := none
  cls : Nat
  tc : Nat
  dst : Nat
  hsz : Nat
  dsz : Nat
  hold : Bool := false
  ct : Bool := false
  gen : Nat := 0
  stamp : Option (Nat × Nat) := none
  dl : Option (Nat × Nat) := none
  att : List (Nat × Nat) := []
  queue : Option Nat := none
  /-- What its tail will show of a cut-through train whose header has gone ahead of it (R184): the event that ends it. -/
  bad : Option Nat := none
  acct : Acct
  /-- Credit charge of the pool it entered: instance, pool, VC, header and data units; none once returned (R206). -/
  charge : Option (Nat × Nat × Nat × Nat × Nat) := none
  legs : List Leg
  copies : List Copy := []
  /-- Rope-pair members whose retention accounts it is charged to beside its account (R131). -/
  also : List Nat := []
  /-- Ports whose copy has been sent and is still to be covered (rope pair) or acknowledged (fence, PCIe replay). -/
  unacked : List Nat := []
  /-- A fence counts it until every copy is resolved. -/
  fenced : Bool := false
  wtag : Nat := 0
  mcGroup : Option Nat := none
  /-- ORT entry of a non-posted request (R266); of a response, the entry it answers, its data bytes, and whether it ends the entry by an error (R268). -/
  ort : Option Nat := none
  resp : Option (Nat × Nat × Bool) := none
  /-- The VC of a FAB port its header came on (R256), and the target VH of a cross-VH write (R261). -/
  inVc : Option Nat := none
  tvh : Option Nat := none
  /-- What the siding holds for a multicast train: 0 nothing, 1 room for its carriages, 2 room and a residue entry (R214, R220). -/
  mcRsv : Nat := 0
  /-- Number of the header it was received or built as, and its place in admission order: "earlier" on a path goes by the first and, among the pieces
  of one header, by the second; a VOQ and a pool keep the second (R169, R186, R205). -/
  ord : Nat := 0
  adm : Nat := 0
  /-- The limits in force at its admission (R203): SHARE_IN, SHARE_OUT and the instance the latter counts at (R205), RETAIN_MAX by FAB port. -/
  shareIn : Nat := 0
  shareOut : Nat := 0
  outp : Nat := 0
  retainMax : List (Nat × Nat) := []
  /-- Its carriages by index, the header carriage first (R196, R198), the census epoch they were taken in (R208), and how many of those after the
  header have gone back to the free list (R179). -/
  cars : List Nat := []
  epoch : Bool := false
  gone : Nat := 0
  /-- The reference count that the last census pass read in its header carriage and found wrong (R209). -/
  refSeen : Option Nat := none
  /-- Class and header of a Halud multicast's copies by FAB port, as the commit in force at its lookup gave them (R253, R275). -/
  outs : List (Nat × Nat × Hdr) := []
deriving DecidableEq, Repr

/-- A train whose header has been compared but whose window, context or ORT entry is still awaited (R154, R266, R298): the request as it arrived
and as its VH knows it, the function and VF it came through, the generation of its lookup instant, the shape of the aperture compared (number,
base, sizes, first index, REMOTE, PORTS), the WRT index while a read of it is in flight, the entry, whether a context is awaited, the context
found (index and words), and its fence stamp. -/
structure Pend where
  it : InTrain
  vh : Nat
  fn : Nat := 0
  vf : Option Nat := none
  t : Tlp
  gen : Nat
  shape : List Nat := []
  idx : Option Nat := none
  entry : List Nat := []
  ctxWait : Bool := false
  /-- It missed: it is in the miss lane for an entry of its own, not only behind another train (R155). -/
  missed : Bool := false
  /-- Place of its window read and of its context read in the order in which tier 1 of the DRAM took them (R24). -/
  winRead : Nat := 0
  ctxRead : Nat := 0
  /-- A commit has changed its index while its window read was in flight (R160). -/
  stale : Bool := false
  /-- Its wait for a line of the dirty-log cache has been counted (R302). -/
  lineWait : Bool := false
  ctx : Option (Nat × List Nat) := none
  stamp : Option (Nat × Nat) := none
  /-- Its destination is the Hut (R326). -/
  toHut : Bool := false
  /-- It is a fence, taken or refused at its lookup instant (R326, R329). -/
  fence : Option Bool := none
deriving DecidableEq, Repr

/-- What lookup hands to admission: the train as received, its VH, the form it leaves in, its class, egress (63 with its member ports for a
multicast), and what windows, contexts and the gateway gave it. `last` marks the piece that carries the credit charge. -/
structure Draft where
  it : InTrain
  vh : Nat
  t : Tlp
  hal : Option Hdr := none
  cls : Nat
  dst : Nat
  gen : Nat := 0
  tag : Nat := 0
  queue : Option Nat := none
  ort : Option Nat := none
  resp : Option Nat := none
  tvh : Option Nat := none
  group : Option Nat := none
  ports : List Nat := []
  stamp : Option (Nat × Nat) := none
  dl : Option (Nat × Nat) := none
  att : List (Nat × Nat) := []
  rsv : Option Nat := none
  last : Bool := true
  bad : Option Nat := none
deriving DecidableEq, Repr

/-- A request in the gateway wait lane (R266): what admission will take, the kind of ORT entry it waits for (0 SRC, 1 DST, 2 LCL; 3 none, it only
waits behind an earlier one of its class), and the target VH of a LCL entry. -/
structure GwWait where
  tr : Draft
  kind : Nat
  target : Nat
deriving DecidableEq, Repr

/-- A coupling on its way a second time: it was sent again after a retirement although its yard already holds it (R190). -/
structure Dup where
  plane : Nat
  y : Nat
  dst : Nat
deriving DecidableEq, Repr

structure CoreSt where
  /-- Headers waiting for lookup, by ingress instance, oldest first (R18). -/
  inq : Tab (List InTrain) := []
  /-- Miss lanes, context misses and gateway wait lanes, by ingress instance, oldest first. -/
  miss : Tab (List Pend) := []
  gwWait : Tab (List GwWait) := []
  /-- Number of the next tier-1 read of the DRAM (R24). -/
  nextRead : Nat := 0
  /-- Number of the next train, of the next admission and of the next release. -/
  nextId : Nat := 1
  nextAdm : Nat := 1
  nextRel : Nat := 1
  /-- The allocator (R197), by ingress plane port: the logical bank its rotation comes to next, and the banks of its last seven carriages, latest
  first. Carriages held out by a free conflict (R209); logical banks that no physical bank stands for (R212, R223). -/
  alloc : Tab (Nat × List Nat) := []
  carsHeld : List Nat := []
  unmapped : List Nat := []
  /-- Couplings on their way a second time (R190). -/
  dups : List Dup := []
  trains : Tab Train := []
  /-- Rotation counters by ingress plane port (R168). -/
  rot : Tab Nat := []
  /-- Next CSN at the ingress and expected CSN at the yard, by sequence (R179). -/
  csn : Tab Nat := []
  expect : Tab Nat := []
  /-- Rank order of the inputs, highest first, by 16 * plane + output (R170); the reset order where unlisted. -/
  rank : Tab (List Nat) := []
  /-- Output that went first in the last cycle of a plane (R174). -/
  first : Tab Nat := []
  /-- Physical planes held out by BIST or the repair map. -/
  censusOpen : Bool := false
  epoch : Bool := false
  /-- Census (R208): accesses the running pass has still to make; a pass that came due while one runs. -/
  censusLeft : Nat := 0
  censusDue : Bool := false
  /-- Carriages that a bank copy wrote with a poison marker, and that have not been read since (R211). -/
  marks : List Nat := []
  /-- Errors a bank has shown at the yards within the second that began at a tick: that tick, corrected, uncorrectable (R210). -/
  bankErrs : Tab (Nat × Nat × Nat) := []
  /-- Couplings in the siding in the order in which they became residue: train, egress plane port, index (R217). -/
  residue : List (Nat × Nat × Nat) := []
  /-- Retirements decided while a bank was being moved: logical bank and cause (R210). -/
  retireQ : List (Nat × Nat) := []
  heldOut : List Nat := []
  /-- Physical banks in use as spares, next spare first; the bank being copied (R211). -/
  spares : List Nat := []
  copying : Option Nat := none
  /-- Banks that leave without a spare, and their causes (R212). -/
  draining : List (Nat × Nat) := []
  /-- Egress: last token instant and wheel slot by 64 * port + queue, round pointers and cleared visit flags (R229, R231). -/
  qlast : Tab Nat := []
  wheel : Tab Nat := []
  ptr : Tab Nat := []
  visited : Tab Nat := []
  /-- Port arbiter's order of its VC lanes, the message generator (4) and the siding (5), highest first (R177, R170). -/
  arb : Tab (List Nat) := []
  /-- Requests that stood at a port's arbiter after its last slot: requester, and train or 0 for a message (R177). -/
  asked : Tab (List (Nat × Nat)) := []
  /-- Gates: checks running with the GO tick, the tick the entry in force ends at (R236, R233). -/
  gateChk : Tab Nat := []
  gateTill : Tab Nat := []
  /-- Ports whose list has been swapped in and whose copy to the administrative entries is due (R237). -/
  gateCopy : List Nat := []
  /-- Credits already advertised per pool still in force until the next link initialisation (R203): header, data, reservation. -/
  advert : Tab (Nat × Nat × Nat) := []
deriving DecidableEq, Repr

/-! ### Links (04_link_layer.md) -/

/-- A SEQ flit in the belay buffer: FSN and its first 238 bytes (R114). -/
structure BFlit where
  fsn : Nat
  bytes : List Byte
deriving DecidableEq, Repr

/-- A packet sent and not yet covered (R121; MGT: not acked): VC, cumulative header number, PSN, FSN of its END flit, header, train. -/
structure SentPk where
  vc : Nat
  h : Nat
  psn : Nat
  fsn : Nat
  hdr : Hdr
  train : Nat
  stamp : Option (Nat × Nat) := none
deriving DecidableEq, Repr

/-- A packet being reassembled on a VC (R103). -/
structure Part where
  vc : Nat
  bytes : List Byte
  psn : Nat
  resend : Bool
deriving DecidableEq, Repr

structure Hll where
  belay : List BFlit := []
  /-- FSN the running replay sends next; FSN the last replay started from; the replay timer runs. -/
  replay : Option Nat := none
  runFsn : Option Nat := none
  /-- Last FSN accepted, ACK_FSN as last sent, acceptances since, and what the next flit owes: a NAK, a current ACK. -/
  accepted : Nat := 0xFFF
  ackOut : Nat := 0xFFF
  since : Nat := 0
  nakNow : Bool := false
  ackNow : Bool := false
  sent : List SentPk := []
  /-- Cumulative header and data counts per credited VC: charged, returned by the partner, admitted here, returned by us (R118, R120). -/
  txH : List Nat := [0, 0, 0]
  txD : List Nat := [0, 0, 0]
  frH : List Nat := [0, 0, 0]
  frD : List Nat := [0, 0, 0]
  reH : List Nat := [0, 0, 0]
  reD : List Nat := [0, 0, 0]
  parts : List Part := []
  /-- Open packet per VC: train and granules sent (R103). -/
  txOpen : Tab (Nat × Nat) := []
  /-- Initialisation cycle (R124): running, advertisements received (bit per VC), partner's GOT_ADV seen, an INIT_DONE owed. -/
  cycle : Bool := false
  gotAdv : Nat := 0
  partnerGot : Bool := false
  owedDone : Bool := false
  /-- Which command of the cycle, and which VC's credits, comes next. -/
  turn : Nat := 0
  /-- State retained over a retrain (R125), a resume exchange under way, and the partner's answer awaited. -/
  retained : Bool := false
  resuming : Bool := false
  /-- Flits since the last one with MGT (R104); last flit carried a width command (R109). -/
  sinceMgt : Nat := 7
  widthLast : Bool := false
  /-- REPLAY_LIMIT, PAIR_REPLAY_LIMIT and ACK_COALESCE in force since the last initialisation or resume (R139). -/
  limit : Nat := 4
  pairLimit : Nat := 2
  coalesce : Nat := 16
  /-- Credit counts as last sent in a CREDIT command. -/
  crOut : List (Nat × Nat) := [(0, 0), (0, 0), (0, 0)]
  /-- Width commands (R127, R128): the last token of our own, width commands to send (KIND and ARG), the token of the change in progress,
  whether a WIDTH_ACK is owed once the waking lanes are ready, WIDTH_ACK sent and received, the countdown of the next WIDTH_SWITCH, flits still
  to come at the old receive width, and the widths of the two directions. -/
  token : Nat := 0
  widthOut : List (Nat × Nat) := []
  widthTok : Nat := 0
  want : Bool := false
  ackSent : Bool := false
  ackGot : Bool := false
  switchOut : Option Nat := none
  rxSwitch : Option Nat := none
  txW : Nat := 0
  rxW : Nat := 0
  /-- Scrambler states per logical lane (R95). -/
  txScr : List Nat := []
  rxScr : List Nat := []
  /-- Bad flits in a row (R127). -/
  badRun : Nat := 0
deriving DecidableEq, Repr

/-- The data link layer of a PCIe port (R142): sequence numbers, replay memory (sequence, TLP, train), replay count, and the partner's
credit limits by 3 * VC + type (header and data, cumulative; none advertised: not listed) with what has been consumed. -/
structure Dll where
  seq : Nat := 0
  /-- Sequence number of the next TLP to arrive, and whether a Nak awaits its repetition. -/
  rxSeq : Nat := 0
  nakSent : Bool := false
  /-- Credits allocated to the partner, cumulative from its initialisation, by 3 * VC + type. -/
  given : Tab (Nat × Nat) := []
  /-- Scaled flow control was negotiated, and the scales of the partner's counts by 3 * VC + type: 1, 2 or 3 for 1, 4 or 16 units (R142, R201). -/
  scaled : Bool := false
  scales : Tab (Nat × Nat) := []
  unacked : List (Nat × Tlp × Nat) := []
  replayNum : Nat := 0
  replaying : List (Nat × Tlp × Nat) := []
  limit : Tab (Nat × Nat) := []
  used : Tab (Nat × Nat) := []
  infinite : List Nat := []
deriving DecidableEq, Repr

/-- What a port holds beside its registers: link layers, training and width bookkeeping, presence debounce of its slot, DPC. -/
structure PortSt where
  hll : Hll := {}
  dll : Dll := {}
  alignFails : Nat := 0
  /-- Node, port and pair port the partner gave in PARAM (R100), and whether this device has sent its own in this training (R74). -/
  partner : Option ParamMsg := none
  paramSent : Bool := false
  /-- MAX_RATE, MAX_WIDTH, EXPECT and WIDTH_DOWN_OK as they stood when the training began (R72, R86), and the rate that failed under R77. -/
  trainRate : Nat := 6
  trainWidth : Nat := 0
  trainExpect : Nat := 0
  trainDown : Bool := true
  failRate : Nat := 16
  /-- L1 PM substate of a link in L1: 0 none, 1 L1.1, 2 L1.2 (R69, R72). -/
  l1sub : Nat := 0
  /-- Target of the port's own width change, target of the change in progress whoever asked, a retry pending after a withdrawal, and whether
  the one retry has been used (R82, R83). -/
  widthOwn : Option Nat := none
  widthNew : Option Nat := none
  widthRetry : Bool := false
  widthTried : Bool := false
  /-- The link's own state in the code of LINK_STS.STATE, shown there unless the port is held (0x0C), and whether it was entered from L0 or
  ACTIVE (R79, R80). -/
  under : Nat := 0
  upBefore : Bool := false
  /-- Hot-plug: last read and the reported value of presence, button, MRL (R92); power enable as host software set it. -/
  lastRead : Option (Bool × Bool × Bool) := none
  reported : Bool × Bool × Bool := (false, false, false)
  /-- The far side's PRST_N asserted, on a HOST port; a hot reset being received. -/
  hostRst : Bool := false
  /-- What DL_Down was is not yet known (R355): the receiver detection runs, or a hot-plug slot waits for reads of its presence; reads since. -/
  detecting : Bool := false
  detReads : Nat := 0
  /-- Containment answers with Completion Abort (R349). -/
  cplCa : Bool := false
  cplCaVh : Bool := false
  /-- Messages of the device's own that wait for the port's arbiter, oldest first (R177). -/
  msgs : List Tlp := []
deriving DecidableEq, Repr

/-- A rope pair (R129 to R137): next PSN and LAST_PSN per VC and member, resend lists, flows moved to the survivor by VC, holds at ingress. -/
structure RopeSt where
  psn : List Nat := [0, 0, 0, 0]
  lastA : List Nat := [0xFFFF, 0xFFFF, 0xFFFF, 0xFFFF]
  lastB : List Nat := [0xFFFF, 0xFFFF, 0xFFFF, 0xFFFF]
  /-- Retained packets to send again on the survivor, by VC, in PSN order. -/
  resend : List SentPk := []
  /-- VCs whose flows are back on the rejoined member. -/
  switched : List Nat := []
  /-- The member that sends the resend list (R133). -/
  via : Option Nat := none
  /-- The receiver accepts nothing from these members until they rejoin. -/
  closedRx : List Nat := []
  /-- VCs of which RESEND packets of the last failure may still arrive (R134): no new packet of theirs has come since. -/
  late : List Nat := []
  /-- The member that has come back and whose flows have not all returned to it (R135). -/
  back : Option Nat := none
  /-- Members and VCs whose first packet since a rejoin has yet to arrive (R256). -/
  rejoinRx : List (Nat × Nat) := []
  /-- VC holds at ingress (R256): VC, member held and the trains of the other member that must be released first. -/
  holds : List (Nat × Nat × List Nat) := []
  failTime : Option Nat := none
deriving DecidableEq, Repr

/-! ### Windows (05_lookup_windows.md) -/

structure XlatSt where
  /-- WRT in DRAM: index to its eight words; unlisted: all zero (R164). Indices whose location is uncorrectable, and reported. -/
  wrt : Tab (List Nat) := []
  wrtUe : List Nat := []
  ueSeen : List Nat := []
  /-- Translation cache: by set, sixteen ways (index and words) and the replacement tree (R153). -/
  cache : Tab (List (Option (Nat × List Nat)) × Nat) := []
  overlay : Tab (List Nat) := []
  /-- Queued updates (R158): index and words. -/
  updates : List (Nat × List Nat) := []
  /-- The set being committed (R159, R160): updates and aperture values by field key. -/
  commit : List (Nat × List Nat) := []
  commitApt : List (Nat × Nat) := []
  /-- The walk of INV_ALL over the cache runs (R156). -/
  invWalk : Bool := false
  /-- Checks under way (R162): whether of a GO, what RESULT will show (0 for a GO that goes on to WAITING), and the first failure found (fault,
  position, index, VH, offset). -/
  checking : Option (Bool × Nat × List Nat) := none
deriving DecidableEq, Repr

/-! ### Fabric mode (09_fabric_mode.md) -/

/-- An ORT entry (R266 to R270). kind 0 SRC, 1 DST, 2 LCL; `quar` in quarantine. -/
structure Ort where
  kind : Nat
  vh : Nat
  src : Nat
  /-- Requester to answer: ID, tag; for a DST entry the Halud header of the request. -/
  req : Tlp
  hal : Option Hdr := none
  node : Nat := 0
  port : Nat := 0
  tvh : Nat := 0
  left : Nat := 0
  rsv : Nat := 0
  quar : Bool := false
deriving DecidableEq, Repr

structure FabSt where
  ort : Tab Ort := []
  epoch : Tab Nat := []
  /-- Carriages of responses charged to reservations, by train (R267). -/
  rsvTrains : Tab Nat := []
  ropes : Tab RopeSt := []
  /-- Last chosen port per flow key (R255). -/
  flows : Tab Nat := []
  /-- First notice tick by log entry (R273). -/
  pfnFirst : Tab Nat := []
deriving DecidableEq, Repr

/-! ### Sharing (10_sharing.md) -/

/-- A forwarded configuration access (R294, R295). -/
structure FwdCfg where
  vh : Nat
  d : Nat
  vfi : Nat
  req : CfgReq
  /-- Dword sent to the VF. -/
  dword : Nat
  held : Bool := false
deriving DecidableEq, Repr

structure ShareSt where
  /-- Mediated FLRs under way by VF_MAP index (R294), with the vDSP to return to ATTACHED after DPC or RELEASE (R297, R351). -/
  flr : List Nat := []
  flrBack : List Nat := []
  /-- What the manager's writes have left in the registers of physical functions that R293 guards, by port, function and dword. -/
  pfRegs : Tab Nat := []
  /-- VH of the access each forwarding tag carried last (R418). -/
  tagVh : Tab Nat := []
  tags : Tab FwdCfg := []
  queue : List FwdCfg := []
  /-- vDSPs waiting for FLR_WAIT or their port's reset (R288 step 2), and those draining (step 3). -/
  resetting : List (Nat × Nat) := []
  drains : List (Nat × Nat) := []
  /-- The vDSP whose VDSP_CMD is in progress (R285). -/
  cmd : Option (Nat × Nat) := none
  /-- VHs whose EN was cleared: unbound once the last detach ends (R282). -/
  unbinding : List Nat := []
  /-- VH resets: cause still present; DEV ports still held by it; VFs in FLR (R90). -/
  vhReset : List (Nat × Bool) := []
  /-- Shown to hosts and DPC state: vDSPs in DPC, by 32 * VH + d. -/
  dpc : List Nat := []
  /-- Virtual endpoints' BARs and identity copied at attach live in Mgmt.cfg. -/
  contained : List Nat := []
deriving DecidableEq, Repr

structure CtxSt where
  /-- Contexts in DRAM by index, words; unlisted zero. Indices that read uncorrectable. -/
  dram : Tab (List Nat) := []
  ue : List Nat := []
  cache : List Nat := []
  /-- A CTX_ACCESS command waits for TABLE allowance. -/
  wait : Bool := false
deriving DecidableEq, Repr

structure DirtySt where
  /-- Coalescing cache and DRAM bitmaps: lines of 512 granule bits by (2 * slot + epoch) * 2^23 + line. -/
  cache : Tab Nat := []
  dram : Tab Nat := []
  /-- Slots whose zeroing has not ended. -/
  zeroing : List Nat := []
  /-- Lines whose write-back waits in tier 1 of the DRAM, with its place there (R24, R302). -/
  wb : Tab Nat := []
  /-- The running MERGE follows an ABORT; numbers of the trains that carry the bitmap, and how many of its bytes have been read (R24, R305). -/
  abort : Bool := false
  ids : List Nat := []
  sendAt : Nat := 0
deriving DecidableEq, Repr

/-! ### The Hut (11_hut_ordering.md) -/

/-- A write in a bank's write buffer (R314). -/
structure HutWr where
  vh : Nat
  rid : Nat
  addr : Nat
  data : List Byte
  be : List Bool
  train : Nat := 0
deriving DecidableEq, Repr

/-- A reservation monitor (R321, R335). -/
structure Monitor where
  vh : Nat
  rid : Nat
  held : Bool := false
  result : Nat := 0
  cause : Nat := 0
  seq : Nat := 0
  granule : Nat := 0
  /-- Cause of the clear a later Conditional write fails with; 0 once a Conditional write has used it. -/
  clr : Nat := 0
deriving DecidableEq, Repr

/-- An access as the Hut takes it, kept while a fence holds it (R327). -/
structure HutAcc where
  op : Nat
  r : HutReq
  atom : Option AtomKind := none
  train : Nat := 0
  /-- An access its place in BAR2 refuses: its kind and BAR2 offset. -/
  refused : Option (TlpKind × Nat) := none
deriving DecidableEq, Repr

/-- A VH's control page and fence (R326 to R334): `stamp` the VH's current stamp, `holding` from the fence's arrival at the Hut to its end. -/
structure VhCtl where
  seq : Nat := 0
  loss : Nat := 0
  outstanding : Nat := 0
  firstCause : Nat := 0
  refuseCode : Nat := 0
  refused : Bool := false
  scope : Bool := false
  st : Nat := 0
  irq : Bool := false
  lossAddr : Nat := 0
  stamp : Nat := 0
  holding : Bool := false
  held : List HutAcc := []
  dbPend : Nat := 0
  dbData : Tab Nat := []
deriving DecidableEq, Repr

structure HutSt where
  mem : Memory := []
  /-- 8 B words (offset / 8) with an uncorrectable error. -/
  ue : List Nat := []
  buf : Tab (List HutWr) := []
  /-- Monitors in use, least recently used first. -/
  mons : List Monitor := []
  ctl : Tab VhCtl := []
  /-- Range being zeroed: first offset and length in bytes (R337). -/
  zero : Option (Nat × Nat) := none
deriving DecidableEq, Repr

/-! ### Errors (12_errors_containment.md) -/

structure ErrSt where
  /-- Containment commands in progress: target kind and index (R353), and targets device containment holds. -/
  vhHeld : List Nat := []
  vfHeld : List Nat := []
  /-- Guide pairs: time of a pair's last mismatch (R357). -/
  mism : Tab Nat := []
  /-- CONTAIN or RELEASE in progress: op, target, index. -/
  cmd : Option (Nat × Nat × Nat) := none
  /-- Escalations and a SAFE entry that the event just raised calls for: carried out before the command ends (R345, R358). -/
  escPend : List (Nat × Nat) := []
  safePend : Option Nat := none
  /-- vDSPs (VH, device) at which an unmasked uncorrectable error just detected triggers DPC, before the command ends (R350). -/
  dpcPend : List (Nat × Nat) := []
  /-- DRAM blocks, in 64 B units, that a scrub read found uncorrectable (R372): a client's next read of one reports it until the block is written. -/
  dramUe : List Nat := []
  /-- Which pair was stopped while ACTIVE with no standby (R357). -/
  noActive : Bool := false
deriving DecidableEq, Repr

/-! ### The acclimatisation pass (13_dependability.md R377 to R384) -/

/-- AVS steps taken by the running pass, whether the last one lowered the code, whether the pass raised MARGIN_LOW and has retired a bank; the
stations whose lanes are still to be scanned and the lanes whose scan was repeated; the time of the last fast step; equivalent minutes not yet
a whole hour, in 1/1024; redundant rows used and macros whose lack of them has been reported, by macro; corrected errors of an SRAM row in the
second that began at a tick, by macro and row (R366); the lanes of the station under scan that are still awaited (R382). -/
structure AgeSt where
  steps : Nat := 0
  lowered : Bool := false
  marginLow : Bool := false
  bankDone : Bool := false
  stations : List Nat := []
  repeated : List Nat := []
  lastFast : Option Nat := none
  minutes : Nat := 0
  noRows : List Nat := []
  rowsUsed : Tab Nat := []
  rowErr : Tab (Nat × Nat) := []
  /-- Minutes to the next scheduled pass (R377). -/
  due : Nat := 0
  /-- Byte positions at which the blocks of a DRAM row were corrected and when, by 2^28 * channel + 2^24 * bank + row (R373, R383). -/
  dramErr : Tab (List (Nat × Nat)) := []
  /-- When the running pass, or the last one, began (R383). -/
  passAt : Nat := 0
  /-- When the pass before it began. -/
  passLast : Nat := 0
  /-- A pass fell due that could not start: it waits for SUMMIT and an ACTIVE Guide pair (R377). -/
  passWaits : Bool := false
  /-- SENSE has read its sensors (R379). -/
  sensed : Bool := false
  /-- Scan results of the lane being read that the pass has read (R26, R382). -/
  reading : Nat := 0
  /-- Redundant columns used, by macro (R365). -/
  colsUsed : Tab Nat := []
  scanning : List Nat := []
  /-- Lanes that start and whose look into the history waits for its turn (R26, R41). -/
  histReads : List Nat := []
  /-- Lanes of that station whose scan has yet to be started in the ADAPT class (R26, R41). -/
  toScan : List Nat := []
  /-- Trend of the planned code (R384, R428): equivalent hours and code, the latest 32 passes. -/
  trend : List (Nat × Nat) := []
deriving DecidableEq, Repr

/-! ### The whole -/

structure State where
  /-- Commands waiting, first in, first out. -/
  pending : List Instr := []
  /-- What the block has sent, latest last. -/
  out : List Out := []
  /-- Names the next free value (notes/assumptions/9.md); the model's own. -/
  freeCtr : Nat := 0
  /-- Register fields that differ from their reset value, by field key. -/
  flds : Tab Nat := []
  pins : Pins := {}
  time : TimeSt := {}
  avs : AvsSt := {}
  boot : Boot := {}
  tele : Tele := {}
  mgmt : Mgmt := {}
  /-- Activity classes in the current pitch, by class number; none listed: at their CLASS_CFG defaults, unused. -/
  budget : Tab ClassUse := []
  /-- Work that waits for an allowance of its class, in the order its turns come (R386, R388). -/
  jobs : List Job := []
  /-- Budgeted use of a page's block in the current pitch: register accesses and 64 B units (R484). -/
  blockUse : Tab (Nat × Nat) := []
  core : CoreSt := {}
  ports : Tab PortSt := []
  xlat : XlatSt := {}
  fab : FabSt := {}
  share : ShareSt := {}
  ctxs : CtxSt := {}
  dirty : DirtySt := {}
  hut : HutSt := {}
  err : ErrSt := {}
  age : AgeSt := {}
  /-- Lanes whose hidden part differs from its reset, by lane. -/
  lanes : Tab LaneSt := []
deriving DecidableEq, Repr

/-- The start of a cold reset, PWR_OK low (notes/assumptions/5.md): every register at its reset value, nothing queued. -/
def State.reset : State := {}

end Sys2Proof.Machine
end

