-- ==== Sys2Proof/Machine/Flit.lean ====
section
/-! DEFINITION. The bytes of Halud flits: transaction headers, CRC, FEC, lane scrambling, link commands and segments (04_link_layer.md R94 to
R108; 09_fabric_mode.md R250). -/
namespace Sys2Proof.Machine

def byteAt (l : List Byte) (i : Nat) : Nat := (l.getD i 0).toNat

/-! ### Transaction header (R250) -/

/-- The four 64-bit words of a header. -/
def Hdr.words (h : Hdr) : List Nat :=
  let dst := if h.mc then h.group % 1024 else h.dst % 4096
  let w0 := h.op % 64 * 2 ^ 58 + dst * 2 ^ 46 + h.src % 4096 * 2 ^ 34 + h.dport % 64 * 2 ^ 28 + h.dvh % 32 * 2 ^ 23 + h.svh % 32 * 2 ^ 18 +
    h.tc % 8 * 2 ^ 15 + b2n h.ns * 2 ^ 14 + b2n h.ro * 2 ^ 13 + b2n h.ido * 2 ^ 12 + b2n h.ep * 2 ^ 11 + h.at2 % 4 * 2 ^ 9 + b2n h.desc * 2 ^ 8 +
    h.hops % 32 * 8 + b2n h.mc * 4
  let w1 := if h.op = 8 ∨ h.op = 9 then h.lowerAddr % 128 * 2 ^ 13 + h.byteCount % 8192 else h.addr % 2 ^ 64 / 4 * 4
  let w2 := h.ftag % 16384 * 2 ^ 50 + h.epoch % 16 * 2 ^ 46 + h.len % 8192 * 2 ^ 33 + h.rlen % 8192 * 2 ^ 20 + h.fbe % 16 * 2 ^ 16 +
    h.lbe % 16 * 2 ^ 12 + h.status % 8 * 2 ^ 9 + h.cause % 16 * 2 ^ 5 + b2n h.np * 16
  let w3 := h.reqId % 65536 * 2 ^ 48 + h.pasid % 2 ^ 20 * 2 ^ 28 + b2n h.pv * 2 ^ 27 + b2n h.pmr * 2 ^ 26 + b2n h.exe * 2 ^ 25 + h.wtag % 2 ^ 24
  [w0, w1, w2, w3]

def Hdr.bytes (h : Hdr) : List Byte := h.words.flatMap fun w => leBytes 8 w

/-- The header in the first 32 bytes of a packet. -/
def Hdr.ofBytes (b : List Byte) : Hdr :=
  let w (i : Nat) : Nat := leNat ((b.drop (8 * i)).take 8)
  let w0 := w 0
  let w1 := w 1
  let w2 := w 2
  let w3 := w 3
  let op := bitsOf w0 63 58
  let mc := bitOf w0 2
  let rsp : Bool := op == 8 || op == 9
  { op := op, dst := if mc then 0 else bitsOf w0 57 46, group := if mc then bitsOf w0 55 46 else 0, src := bitsOf w0 45 34,
    dport := bitsOf w0 33 28, dvh := bitsOf w0 27 23, svh := bitsOf w0 22 18, tc := bitsOf w0 17 15, ns := bitOf w0 14, ro := bitOf w0 13,
    ido := bitOf w0 12, ep := bitOf w0 11, at2 := bitsOf w0 10 9, desc := bitOf w0 8, hops := bitsOf w0 7 3, mc := mc,
    addr := if rsp then 0 else w1 / 4 * 4, lowerAddr := if rsp then bitsOf w1 19 13 else 0, byteCount := if rsp then bitsOf w1 12 0 else 0,
    ftag := bitsOf w2 63 50, epoch := bitsOf w2 49 46, len := bitsOf w2 45 33, rlen := bitsOf w2 32 20, fbe := bitsOf w2 19 16,
    lbe := bitsOf w2 15 12, status := bitsOf w2 11 9, cause := bitsOf w2 8 5, np := bitOf w2 4, reqId := bitsOf w3 63 48,
    pasid := bitsOf w3 47 28, pv := bitOf w3 27, pmr := bitOf w3 26, exe := bitOf w3 25, wtag := bitsOf w3 23 0 }

/-- Credits a packet is charged for its data (R118). -/
def Hdr.units (h : Hdr) : Nat := (h.len + 15) / 16

/-- Is a received packet well formed: a defined OP, on a VC of its kind, with a length R101 and R251 allow? -/
def Hdr.ok (h : Hdr) (vc dataLen : Nat) : Bool :=
  let req : Bool := decide (1 ≤ h.op ∧ h.op ≤ 5) && decide (vc ≤ 1)
  let rsp : Bool := (h.op == 8 || h.op == 9) && vc == 2
  let mgt : Bool := (h.op == 0x10 || h.op == 0x11) && vc == 3
  let lenOk : Bool :=
    if h.op = 1 ∨ h.op = 9 then decide (1 ≤ h.len ∧ h.len ≤ 4096)
    else if h.op = 3 ∨ h.op = 4 then h.len == 4 || h.len == 8
    else if h.op = 5 then h.len == 8 || h.len == 16 || h.len == 32
    else if h.op = 0x11 then decide (h.len ≤ 256)
    else h.len == 0
  (req || rsp || mgt) && lenOk && dataLen == (h.len + 3) / 4 * 4

/-! ### CRC (R98) -/

/-- One byte through the CRC register, least significant bit first; the register holds the coefficient of x^47 in bit 47. -/
def crcByte (r b : Nat) : Nat :=
  (List.range 8).foldl (fun r i =>
    let fb := bitOf r 47 != bitOf b i
    let r := r * 2 % 2 ^ 48
    if fb then Nat.xor r 0xB1D42E6A9C35 else r) r

/-- CRC over bytes, inverted. -/
def crc48 (l : List Byte) : Nat := Nat.xor (l.foldl (fun r b => crcByte r b.toNat) (2 ^ 48 - 1)) (2 ^ 48 - 1)

/-! ### FEC (R97) -/

/-- Multiply by x in GF(2^8) with x^8 + x^4 + x^3 + x^2 + 1. -/
def gfX (a : Nat) : Nat := if a ≥ 128 then Nat.xor (a * 2 - 256) 0x1D else a * 2

/-- Product in GF(2^8), over the eight bits of the second factor from the highest. -/
def gfMul (a b : Nat) : Nat := (List.range 8).foldl (fun acc i => Nat.xor (gfX acc) (if bitOf b (7 - i) then a else 0)) 0

/-- Power of the generator element. -/
def gfPow : Nat → Nat
  | 0 => 1
  | n + 1 => gfX (gfPow n)

/-- Byte places of codeword c in order, its two check bytes last. -/
def fecPlaces (c : Nat) : List Nat :=
  let data := (List.range 250).filter fun i => i % 3 == c
  data ++ (if c = 0 then [252, 255] else if c = 1 then [250, 253] else [251, 254])

/-- Syndromes of a codeword at α^0 and α^1. -/
def syndromes (l : List Nat) : Nat × Nat := l.foldl (fun s v => (Nat.xor s.1 v, Nat.xor (gfX s.2) v)) (0, 0)

/-- Check bytes for the data of a codeword: with both syndromes zero. -/
def fecCheck (data : List Nat) : Nat × Nat :=
  let (s0, s1) := syndromes (data ++ [0, 0])
  -- c1 + c0 = s0 and α c1 + c0 = s1
  let c1 := gfMul (Nat.xor s0 s1) (gfPow 230)
  (c1, Nat.xor s0 c1)

/-- Place, from the end, of a single error with these syndromes among n symbols. -/
def errPlace (s0 s1 n : Nat) : Option Nat := (List.range n).find? fun k => gfMul s0 (gfPow k) == s1

/-- Decode one codeword in place: the flit, and whether a byte was corrected; none if it cannot be corrected. -/
def fecDecode (l : List Byte) (c : Nat) : Option (List Byte × Bool) :=
  let pl := fecPlaces c
  let (s0, s1) := syndromes (pl.map (byteAt l))
  if s0 = 0 ∧ s1 = 0 then some (l, false)
  else if s0 = 0 then none
  else
    match errPlace s0 s1 pl.length with
    | some k =>
      let i := pl.getD (pl.length - 1 - k) 0
      some (l.set i (BitVec.ofNat 8 (Nat.xor (byteAt l i) s0)), true)
    | none => none

/-- Decode the three codewords. -/
def fecDecodeAll (l : List Byte) : Option (List Byte × Bool) :=
  match fecDecode l 0 with
  | none => none
  | some (l, a) =>
    match fecDecode l 1 with
    | none => none
    | some (l, b) =>
      match fecDecode l 2 with
      | none => none
      | some (l, c) => some (l, a || b || c)

/-- The 256 bytes of a flit from its first 244: CRC, then check bytes. -/
def flitSeal (b : List Byte) : List Byte :=
  let l := b ++ leBytes 6 (crc48 b) ++ List.replicate 6 0
  (List.range 3).foldl (fun l c =>
    let pl := fecPlaces c
    let n := pl.length
    let (c1, c0) := fecCheck ((pl.take (n - 2)).map (byteAt l))
    (l.set (pl.getD (n - 2) 0) (BitVec.ofNat 8 c1)).set (pl.getD (n - 1) 0) (BitVec.ofNat 8 c0)) l

/-! ### Scrambling (R95) -/

/-- Seed of a logical lane. -/
def scrSeed (lane : Nat) : Nat := 2 ^ 23 - 32 + (lane + 1) % 32

/-- One byte of PRBS23, least significant bit first: each bit is the sum of register bits 22 and 17, which is shifted in. -/
def prbsByte (r : Nat) : Nat × Nat :=
  (List.range 8).foldl (fun (acc : Nat × Nat) i =>
    let bit := b2n (bitOf acc.2 22 != bitOf acc.2 17)
    (acc.1 + bit * 2 ^ i, (acc.2 * 2 + bit) % 2 ^ 23)) (0, r)

/-- Scramble or descramble the bytes of a flit over w lanes, with the lanes' registers. -/
def scramble (w : Nat) : List Byte → Nat → List Nat → List Byte × List Nat
  | [], _, r => ([], r)
  | b :: bs, i, r =>
    let n := i % max w 1
    let (k, x) := prbsByte (r.getD n (scrSeed n))
    let (rest, r) := scramble w bs (i + 1) (r.set n x)
    (BitVec.ofNat 8 (Nat.xor b.toNat k) :: rest, r)

/-- The registers as seeded in ALIGN. -/
def scrInit : List Nat := (List.range 16).map scrSeed

/-- The PAM4 level of two bits, the first the more significant, Gray-coded: 00, 01, 11, 10 are the levels 0 to 3 (R53, R95). -/
def grayLevel (a b : Bool) : Nat := 2 * b2n a + b2n (a != b)

/-- The four symbols of a byte, bits 1:0 first (R95). -/
def pam4Byte (b : Byte) : List Nat := (List.range 4).map fun i => grayLevel (bitOf b.toNat (2 * i + 1)) (bitOf b.toNat (2 * i))

/-- The symbols of a flit on each logical lane of a width: byte i on lane i mod W (R95). -/
def laneSymbols (w : Nat) (l : List Byte) : List (List Nat) :=
  (List.range (max w 1)).map fun n =>
    (((List.range l.length).zip l).filter fun e => e.1 % max w 1 == n).flatMap fun e => pam4Byte e.2

/-! ### Link-command field (R107, R108) -/

structure LinkCmd where
  ack : Nat
  nak : Bool
  mgtOff : Bool
  kind : Nat
  arg : Nat
deriving DecidableEq, Repr

def LinkCmd.bytes (c : LinkCmd) : List Byte :=
  leBytes 6 (c.ack % 4096 * 2 ^ 36 + b2n c.nak * 2 ^ 35 + b2n c.mgtOff * 2 ^ 34 + c.kind % 16 * 2 ^ 30 + c.arg % 2 ^ 30)

def LinkCmd.ofBytes (b : List Byte) : LinkCmd :=
  let v := leNat ((b.drop 238).take 6)
  { ack := bitsOf v 47 36, nak := bitOf v 35, mgtOff := bitOf v 34, kind := bitsOf v 33 30, arg := bitsOf v 29 0 }

/-! ### Segments (R102, R103) -/

structure Seg where
  vc : Nat
  start : Bool
  fin : Bool
  abort : Bool
  resend : Bool
  psn : Nat
  bytes : List Byte
deriving DecidableEq, Repr

def Seg.header (x : Seg) : Nat :=
  x.vc % 4 * 2 ^ 30 + b2n x.start * 2 ^ 29 + b2n x.fin * 2 ^ 28 + b2n x.abort * 2 ^ 27 + b2n x.resend * 2 ^ 26 +
    x.bytes.length / 4 * 65536 + x.psn % 65536

def Seg.toBytes (x : Seg) : List Byte := leBytes 4 x.header ++ x.bytes

/-- The segments of a payload, from a byte offset; none when they break R103. `fuel` bounds their number. -/
def parseSegs (l : List Byte) : Nat → Nat → Option (List Seg)
  | 0, _ => some []
  | fuel + 1, off =>
    if off + 4 > 238 then some []
    else
      let h := leNat ((l.drop off).take 4)
      let len := bitsOf h 21 16
      if h = 0 then some []
      else if len = 0 ∨ len > 58 ∨ off + 4 + 4 * len > 238 then none
      else
        match parseSegs l fuel (off + 4 + 4 * len) with
        | none => none
        | some rest => some ({ vc := bitsOf h 31 30, start := bitOf h 29, fin := bitOf h 28, abort := bitOf h 27, resend := bitOf h 26,
                               psn := bitsOf h 15 0, bytes := (l.drop (off + 4)).take (4 * len) } :: rest)

/-- The first fault of a run of segments against the packets open (R103): 0 none, 4 a START while the VC has a packet open, 5 a continuation with none
open, 6 a packet longer than R101 allows. `opens` gives the bytes already received per VC, none if none is open. -/
def segFault : List Seg → (Nat → Option Nat) → Nat
  | [], _ => 0
  | x :: rest, opens =>
    let lim := if x.vc = 3 then 32 + 256 else 32 + 4096
    let n := (opens x.vc).getD 0
    if (opens x.vc).isSome && x.start then 4
    else if (opens x.vc).isNone && !x.start then 5
    else if n + x.bytes.length > lim then 6
    else segFault rest fun v => if v = x.vc then (if x.fin then none else some (n + x.bytes.length)) else opens v

/-! ### TRAIN flits (R96, R100) -/

/-- A TRAIN flit from its payload bytes 2 to 14, before scrambling; every other byte of the payload and the link command is 0. -/
def trainFlit (payload : List Nat) : List Byte :=
  flitSeal (leBytes 2 0x8000 ++ ((payload ++ List.replicate 242 0).take 242).map (BitVec.ofNat 8))

/-- A flit once descrambled: its decoded bytes, and whether the decoder corrected some; none when it is bad (R99). -/
def flitOpen (raw : List Byte) : Option (List Byte × Bool) :=
  match fecDecodeAll raw with
  | none => none
  | some (l, fixed) => if crc48 (l.take 244) = leNat ((l.drop 244).take 6) then some (l, fixed) else none

/-- The payload bytes 2 to 14 of a decoded flit that is a TRAIN flit. -/
def trainPayload (l : List Byte) : Option (List Nat) :=
  if leNat (l.take 2) / 4096 = 8 then some ((List.range 13).map fun i => byteAt l (2 + i)) else none

/-- Scramble or descramble a flit that one lane carries whole, with that lane's register (R95, R100). -/
def laneScramble (raw : List Byte) (r : Nat) : List Byte × Nat :=
  let (out, l) := scramble 1 raw 0 [r]
  (out, l.getD 0 r)

/-- Is this flit, as logical lane k carried it, an ALIGN flit? Each is scrambled from the lane's seed (DESIGN CHOICE, notes/assumptions/103.md). -/
def isAlign (k : Nat) (raw : List Byte) : Bool :=
  ((flitOpen (laneScramble raw (scrSeed k)).1).bind fun x => trainPayload x.1).bind List.head? == some 1

end Sys2Proof.Machine
end

