-- ==== Sys2Proof/Config.lean ====
section
/-! DEFINITION. What the spec leaves open: the values an instance of the device has that the spec does not state (fused values, results of
standards the spec only refers to). Each is an opaque function with no body, so a proof can use no value of it. -/
namespace Sys2Proof.Config

/-- The n-th free value a command needs where the spec states none (notes/assumptions/9.md): a nonce, an SPDM payload word, the VGA code the
first microsecond of amplitude measurement gives. -/
opaque freeValue : Nat → BitVec 64

/-- The transmitter coefficients of the PCIe preset k at a rate: PRE2, PRE1 and POST1 in three groups of 8 bits. The spec names the presets of the
PCIe specification without their values (02_lanes.md R33; notes/assumptions/103.md). -/
opaque pciePreset : Nat → Nat → BitVec 24

/-- Hash bits of a stream-context key to a bucket, first and second candidate (10_sharing.md R300 states no hash function). -/
opaque ctxHash : Nat → Nat → Nat

/-- Which register of 10_sharing.md R293 a physical function on a DEV port (by routing ID) keeps at a dword: 1 Device Control, 2 SR-IOV Control,
3 NumVFs, any other value none. Where a function keeps its capabilities is the attached device's own. -/
opaque pfReg : Nat → Nat → Nat → Nat

/-- Dword 0 to 3 of the AER header log for a TLP received in flit mode, from the dwords it would have outside it (12_errors_containment.md R344
points to PCIe for the log; its flit-mode layout is not modelled). -/
opaque flitHeader : List Nat → Nat → Nat

/-- What such a register (port, function, dword) holds before the manager's first write to it. -/
opaque pfReset : Nat → Nat → Nat → Nat

/-- Where a 64 B block of DRAM lies: channel in bits 1:0, bank in bits 5:2, row above (13_dependability.md R372, R373 give no address map). -/
opaque dramPlace : Nat → Nat

/-- Hard repairs that a DRAM bank, 16 * channel + bank, offers as the die is made (13_dependability.md R374 gives no number). -/
opaque bankRepairs : Nat → Nat

/-- Does a row of an SRAM macro hold an entry of a cache array (13_dependability.md R366, R367 give no macro numbers)? The entry is 4 i + 1 for WRT
index i of the translation cache, 4 i + 2 for context i, 4 i + 3 for line i of the coalescing cache. -/
opaque sramHolds : Nat → Nat → Nat → Bool

end Sys2Proof.Config
end

