-- ==== Sys2Proof/Machine/Regs.lean ====
section
/-! DEFINITION. Every register field of the device under its own name, F.PAGE.REGISTER.FIELD, as the register tables of spec/ give it (the
rule is cited with each register). A field is the key of the bit it starts at, a width, and the value it has at reset.
STN and EGR registers that exist once per port controller take the port number p; the others take their array index. -/
namespace Sys2Proof.Machine

/-- A register field: `key` = (page * 65536 + offset) * 64 + lowest bit, its width, and its reset value. -/
structure Fld where
  key : Nat
  width : Nat
  rst : Nat
deriving DecidableEq, Repr

/-- The rights of RPU.SLOT[n] at reset, five 3-bit groups from GUIDE up to DEBUG (16_management_access.md R451). -/
def slotRights (n : Nat) : Nat :=
  let rights (guide manager sideband tenant debug : Nat) : Nat :=
    guide + 8 * manager + 64 * sideband + 512 * tenant + 4096 * debug
  if n = 0x000 ∨ n = 0x003 then rights 7 7 7 1 7
  else if n = 0x008 then rights 7 7 1 0 1
  else if n = 0x009 then rights 7 1 1 0 1
  else if n = 0x1F0 then rights 0 3 0 3 0
  else if n ≤ 0x009 ∨ (0x010 ≤ n ∧ n ≤ 0x01B) ∨ (0x020 ≤ n ∧ n ≤ 0x024) ∨ n = 0x028 ∨ n = 0x029
    ∨ (0x030 ≤ n ∧ n ≤ 0x03B) ∨ (0x040 ≤ n ∧ n ≤ 0x045) ∨ n = 0x048 ∨ n = 0x050 ∨ (0x058 ≤ n ∧ n ≤ 0x05B)
    ∨ (0x060 ≤ n ∧ n ≤ 0x062) ∨ (0x100 ≤ n ∧ n ≤ 0x1BF) then rights 7 7 7 0 7
  else 0

/-- First page of the kind a page belongs to (17_register_conventions.md R485). -/
def firstPage (page : Nat) : Nat :=
  if 0x010 ≤ page ∧ page ≤ 0x01B then 0x010 else if 0x020 ≤ page ∧ page ≤ 0x024 then 0x020
  else if 0x030 ≤ page ∧ page ≤ 0x03B then 0x030 else if 0x100 ≤ page ∧ page ≤ 0x1BF then 0x100 else page

/-- The reset values that are not one number for a whole register array: PAGE_ID (R475), RPU.SLOT rights (R451), SB_STS.STATIC_ADDR (R465,
with SB_ADDR 0 before it is latched), PORT_LIMIT of the Hut and the management endpoint (R199), DRR_QUANTUM.TC (R247), VH_BIND[0].PRIV
(R281), CLASS_CFG (R387) and RXCOEF[3] (R45). -/
def specialRst (page off lo dflt : Nat) : Nat :=
  if off = 0x0000 ∧ lo = 16 then page - firstPage page
  else if off = 0x0000 ∧ lo = 0 then page
  else if page = 0x006 ∧ off = 0x100 ∧ lo = 57 then 0x28
  else if page = 0x008 ∧ 0x1000 ≤ off ∧ off < 0x2000 ∧ lo < 15 then (slotRights ((off - 0x1000) / 8) / 2 ^ lo) % 8
  else if page = 0x028 ∧ (off = 0x980 ∨ off = 0x988) ∧ (lo = 0 ∨ lo = 24) then 16384
  else if 0x030 ≤ page ∧ page ≤ 0x03B ∧ 0x1000 ≤ off ∧ off < 0x1800 ∧ lo = 16 then (off / 8) % 8
  else if page = 0x043 ∧ off = 0x200 ∧ lo = 62 then 1
  else if page = 0x062 ∧ 0x100 ≤ off ∧ off < 0x140 ∧ lo = 32 then
    [64, 0, 512, 256, 256, 32, 128, 64].getD ((off - 0x100) / 8) 0
  else if page = 0x062 ∧ 0x100 ≤ off ∧ off < 0x140 ∧ lo = 0 then
    [128, 400, 128, 64, 32, 32, 800, 16].getD ((off - 0x100) / 8) 0
  else if 0x100 ≤ page ∧ page ≤ 0x1BF ∧ off = 0x218 then 0x2000
  else dflt

/-- A field at a page, offset and bit, with its width and its table's reset value. -/
def fld (page off lo width rst : Nat) : Fld := ⟨(page * 65536 + off) * 64 + lo, width, rst⟩

/-- A field whose reset value differs over its array. -/
def fldS (page off lo width rst : Nat) : Fld := fld page off lo width (specialRst page off lo rst)

/-- Page of a yard's registers: EGR[y] for a station, HUT for plane port 12, CHIP for 13 (17_register_conventions.md R485, R193). -/
def yardPage (y : Nat) : Nat := if y < 12 then 0x030 + y else if y = 12 then 0x048 else 0x000


/-! ### HDR -/
-- PAGE_ID: 17_register_conventions.md R475
def F.HDR.PAGE_ID.PART (page : Nat) : Fld := fld page 0x0 48 16 16786
def F.HDR.PAGE_ID.STEPPING (page : Nat) : Fld := fld page 0x0 40 8 176
def F.HDR.PAGE_ID.INSTANCE (page : Nat) : Fld := fldS page 0x0 16 16 0
def F.HDR.PAGE_ID.PAGE (page : Nat) : Fld := fldS page 0x0 0 9 0
-- PAGE_VER: 17_register_conventions.md R476
def F.HDR.PAGE_VER.VER (page : Nat) : Fld := fld page 0x8 0 16 256
-- PAGE_CTL: 17_register_conventions.md R476
def F.HDR.PAGE_CTL.STS_HOLD (page : Nat) : Fld := fld page 0x10 0 1 0
-- PAGE_STS: 17_register_conventions.md R477
def F.HDR.PAGE_STS.SEG_LOCKED (page : Nat) : Fld := fld page 0x18 48 16 0
def F.HDR.PAGE_STS.SLOT_LOCKED (page : Nat) : Fld := fld page 0x18 3 1 0
def F.HDR.PAGE_STS.EVT_ANY (page : Nat) : Fld := fld page 0x18 2 1 0
def F.HDR.PAGE_STS.DIRTY (page : Nat) : Fld := fld page 0x18 1 1 0
-- EVT_STS: 17_register_conventions.md R478
def F.HDR.EVT_STS.EVT (page : Nat) : Fld := fld page 0x20 0 64 0
-- EVT_EN: 17_register_conventions.md R478
def F.HDR.EVT_EN.EN (page : Nat) : Fld := fld page 0x28 0 64 18446744073709551615
-- EVT_FORCE: 17_register_conventions.md R478
def F.HDR.EVT_FORCE.FORCE (page : Nat) : Fld := fld page 0x30 0 64 0
-- EVT_FIRST: 17_register_conventions.md R480
def F.HDR.EVT_FIRST.VALID (page : Nat) : Fld := fld page 0x38 63 1 0
def F.HDR.EVT_FIRST.FORCED (page : Nat) : Fld := fld page 0x38 62 1 0
def F.HDR.EVT_FIRST.CODE (page : Nat) : Fld := fld page 0x38 32 16 0
def F.HDR.EVT_FIRST.TIME (page : Nat) : Fld := fld page 0x38 0 32 0
-- SHADOW_CTL: 17_register_conventions.md R482
def F.HDR.SHADOW_CTL.GO (page : Nat) : Fld := fld page 0x40 63 1 0
def F.HDR.SHADOW_CTL.DISCARD (page : Nat) : Fld := fld page 0x40 62 1 0
def F.HDR.SHADOW_CTL.VIEW (page : Nat) : Fld := fld page 0x40 61 1 0
def F.HDR.SHADOW_CTL.STAGERS (page : Nat) : Fld := fld page 0x40 56 5 0
def F.HDR.SHADOW_CTL.DIRTY (page : Nat) : Fld := fld page 0x40 55 1 0
def F.HDR.SHADOW_CTL.BUSY_GO (page : Nat) : Fld := fld page 0x40 54 1 0
def F.HDR.SHADOW_CTL.RESULT (page : Nat) : Fld := fld page 0x40 52 2 0
def F.HDR.SHADOW_CTL.FAULT (page : Nat) : Fld := fld page 0x40 48 4 0
def F.HDR.SHADOW_CTL.STATE (page : Nat) : Fld := fld page 0x40 16 3 0
def F.HDR.SHADOW_CTL.FAULT_OFF (page : Nat) : Fld := fld page 0x40 0 16 0
-- COMMIT_GEN: 17_register_conventions.md R483
def F.HDR.COMMIT_GEN.GEN (page : Nat) : Fld := fld page 0x48 0 32 0
-- DRAIN_GEN: 17_register_conventions.md R483
def F.HDR.DRAIN_GEN.GEN (page : Nat) : Fld := fld page 0x50 0 32 0
-- BUDGET_USE: 17_register_conventions.md R484
def F.HDR.BUDGET_USE.REG (page : Nat) : Fld := fld page 0x58 48 16 0
def F.HDR.BUDGET_USE.DRAM (page : Nat) : Fld := fld page 0x58 34 14 0

/-! ### CHIP -/
-- STATE: 15_bringup.md R421
def F.CHIP.STATE.PREV_STATE : Fld := fld 0x0 0x100 8 3 0
def F.CHIP.STATE.STATE : Fld := fld 0x0 0x100 0 3 0
-- RESET_CAUSE: 15_bringup.md R421
def F.CHIP.RESET_CAUSE.WARM_COUNT : Fld := fld 0x0 0x108 32 16 0
def F.CHIP.RESET_CAUSE.SOFT : Fld := fld 0x0 0x108 3 1 0
def F.CHIP.RESET_CAUSE.PIN : Fld := fld 0x0 0x108 2 1 0
def F.CHIP.RESET_CAUSE.POR : Fld := fld 0x0 0x108 1 1 0
-- RESET_CTL: 15_bringup.md R422
def F.CHIP.RESET_CTL.WARM : Fld := fld 0x0 0x110 63 1 0
def F.CHIP.RESET_CTL.KEY : Fld := fld 0x0 0x110 0 16 0
-- BOOT_STS: 15_bringup.md R432
def F.CHIP.BOOT_STS.RUN_SEQ : Fld := fld 0x0 0x118 32 32 0
def F.CHIP.BOOT_STS.STRAP : Fld := fld 0x0 0x118 28 4 0
def F.CHIP.BOOT_STS.SLOT : Fld := fld 0x0 0x118 27 1 0
def F.CHIP.BOOT_STS.TRIAL : Fld := fld 0x0 0x118 26 1 0
def F.CHIP.BOOT_STS.ROLLBACK : Fld := fld 0x0 0x118 25 1 0
def F.CHIP.BOOT_STS.NO_IMAGE : Fld := fld 0x0 0x118 24 1 0
def F.CHIP.BOOT_STS.FLASH_MODE : Fld := fld 0x0 0x118 20 4 0
def F.CHIP.BOOT_STS.BOARD_OK : Fld := fld 0x0 0x118 19 1 0
def F.CHIP.BOOT_STS.VERIFY_MS : Fld := fld 0x0 0x118 0 16 0
-- ASCENT_STS: 15_bringup.md R434
def F.CHIP.ASCENT_STS.APPLIED : Fld := fld 0x0 0x120 48 16 0
def F.CHIP.ASCENT_STS.FAILED : Fld := fld 0x0 0x120 32 16 0
def F.CHIP.ASCENT_STS.FIRST_FAIL : Fld := fld 0x0 0x120 16 16 0
def F.CHIP.ASCENT_STS.FAIL_KIND : Fld := fld 0x0 0x120 12 4 0
def F.CHIP.ASCENT_STS.LATE : Fld := fld 0x0 0x120 11 1 0
def F.CHIP.ASCENT_STS.PHASE : Fld := fld 0x0 0x120 0 3 0
-- DEV_ID_LO: 15_bringup.md R428
def F.CHIP.DEV_ID_LO.ID : Fld := fld 0x0 0x128 0 64 0
-- DEV_ID_HI: 15_bringup.md R428
def F.CHIP.DEV_ID_HI.ID : Fld := fld 0x0 0x130 0 64 0

/-! ### CLK -/
-- ROOT_STS: 01_architecture.md R23
def F.CLK.ROOT_STS.VCO_MHZ : Fld := fld 0x1 0x100 16 16 0
def F.CLK.ROOT_STS.LOSS_SEEN : Fld := fld 0x1 0x100 3 1 0
def F.CLK.ROOT_STS.GUIDE_CLK_ON : Fld := fld 0x1 0x100 2 1 0
def F.CLK.ROOT_STS.REF_OK : Fld := fld 0x1 0x100 1 1 0
def F.CLK.ROOT_STS.ROOT_LOCK : Fld := fld 0x1 0x100 0 1 0

/-! ### PWR -/
-- AVS_CTL: 18_pins_power_package.md R496
def F.PWR.AVS_CTL.FIXED : Fld := fld 0x2 0x100 63 1 0
def F.PWR.AVS_CTL.SETTLE_US : Fld := fld 0x2 0x100 24 8 40
-- AVS_STS: 18_pins_power_package.md R496
def F.PWR.AVS_STS.SENT_CODE : Fld := fld 0x2 0x108 58 6 60
def F.PWR.AVS_STS.BUS_ERR : Fld := fld 0x2 0x108 57 1 0
def F.PWR.AVS_STS.READ_MV : Fld := fld 0x2 0x108 32 16 0
def F.PWR.AVS_STS.READ_CA : Fld := fld 0x2 0x108 16 16 0
def F.PWR.AVS_STS.ERRS : Fld := fld 0x2 0x108 8 8 0
-- RAIL_STS: 18_pins_power_package.md R496
def F.PWR.RAIL_STS.SEEN : Fld := fld 0x2 0x110 16 9 0
def F.PWR.RAIL_STS.NOW : Fld := fld 0x2 0x110 0 9 0
-- THERM_CFG: 18_pins_power_package.md R496
def F.PWR.THERM_CFG.WARN : Fld := fld 0x2 0x118 0 12 656
-- THERM_STS: 18_pins_power_package.md R496
def F.PWR.THERM_STS.WARN_NOW : Fld := fld 0x2 0x120 31 1 0
def F.PWR.THERM_STS.DIODE : Fld := fld 0x2 0x120 12 6 0
def F.PWR.THERM_STS.HOTTEST : Fld := fld 0x2 0x120 0 12 0

/-! ### TIME -/
-- SRC_CTL: 18_pins_power_package.md R500
def F.TIME.SRC_CTL.REFUSED : Fld := fld 0x3 0x100 32 1 0
def F.TIME.SRC_CTL.PTM_INTERVAL : Fld := fld 0x3 0x100 24 8 10
def F.TIME.SRC_CTL.SRC : Fld := fld 0x3 0x100 8 2 0
def F.TIME.SRC_CTL.PTM_PORT : Fld := fld 0x3 0x100 0 6 0
-- NOW: 18_pins_power_package.md R500
def F.TIME.NOW.TICKS : Fld := fld 0x3 0x108 0 64 0
-- SET: 18_pins_power_package.md R500
def F.TIME.SET.VALUE : Fld := fld 0x3 0x110 0 64 0
-- PPS_NEXT: 18_pins_power_package.md R500
def F.TIME.PPS_NEXT.TICKS : Fld := fld 0x3 0x118 0 64 0
-- STS: 18_pins_power_package.md R500
def F.TIME.STS.SYNCED : Fld := fld 0x3 0x120 63 1 0
def F.TIME.STS.SET_REFUSED : Fld := fld 0x3 0x120 62 1 0
def F.TIME.STS.STEPS : Fld := fld 0x3 0x120 48 8 0
def F.TIME.STS.OFFSET : Fld := fld 0x3 0x120 32 16 0
def F.TIME.STS.RATE_ADJ : Fld := fld 0x3 0x120 16 16 0
-- PPS_OUT: 18_pins_power_package.md R500
def F.TIME.PPS_OUT.EN : Fld := fld 0x3 0x128 63 1 0
def F.TIME.PPS_OUT.WIDTH : Fld := fld 0x3 0x128 0 24 1000

/-! ### FLASH -/
-- SLOT_STS: 15_bringup.md R437
def F.FLASH.SLOT_STS.SEQ (i : Nat) : Fld := fld 0x5 (0x100 + 0x8 * i) 32 32 0
def F.FLASH.SLOT_STS.SVN (i : Nat) : Fld := fld 0x5 (0x100 + 0x8 * i) 26 6 0
def F.FLASH.SLOT_STS.HDR_OK (i : Nat) : Fld := fld 0x5 (0x100 + 0x8 * i) 25 1 0
def F.FLASH.SLOT_STS.VERIFIED (i : Nat) : Fld := fld 0x5 (0x100 + 0x8 * i) 24 1 0
def F.FLASH.SLOT_STS.CONFIRMED (i : Nat) : Fld := fld 0x5 (0x100 + 0x8 * i) 23 1 0
def F.FLASH.SLOT_STS.TRIES_LEFT (i : Nat) : Fld := fld 0x5 (0x100 + 0x8 * i) 20 3 0
def F.FLASH.SLOT_STS.ACTIVE (i : Nat) : Fld := fld 0x5 (0x100 + 0x8 * i) 19 1 0
-- IMG_CTL: 15_bringup.md R436
def F.FLASH.IMG_CTL.CONFIRM : Fld := fld 0x5 0x110 63 1 0
def F.FLASH.IMG_CTL.AUTO_CONFIRM : Fld := fld 0x5 0x110 62 1 1
def F.FLASH.IMG_CTL.RAISE_SVN : Fld := fld 0x5 0x110 61 1 0
def F.FLASH.IMG_CTL.MIN_SVN : Fld := fld 0x5 0x110 0 6 0
-- UPD_CTL: 15_bringup.md R438
def F.FLASH.UPD_CTL.GO : Fld := fld 0x5 0x118 63 1 0
def F.FLASH.UPD_CTL.ABORT : Fld := fld 0x5 0x118 62 1 0
def F.FLASH.UPD_CTL.LEN : Fld := fld 0x5 0x118 0 25 0
-- UPD_OFF: 15_bringup.md R438
def F.FLASH.UPD_OFF.BLOCK : Fld := fld 0x5 0x120 15 9 0
-- UPD_STS: 15_bringup.md R438
def F.FLASH.UPD_STS.STATE : Fld := fld 0x5 0x128 60 4 0
def F.FLASH.UPD_STS.FAULT : Fld := fld 0x5 0x128 56 4 0
def F.FLASH.UPD_STS.DONE_KIB : Fld := fld 0x5 0x128 32 24 0
-- HIST_STS: 15_bringup.md R429
def F.FLASH.HIST_STS.GEN : Fld := fld 0x5 0x130 32 32 0
def F.FLASH.HIST_STS.USED : Fld := fld 0x5 0x130 31 1 0
def F.FLASH.HIST_STS.PENDING : Fld := fld 0x5 0x130 30 1 0
def F.FLASH.HIST_STS.NEXT_MIN : Fld := fld 0x5 0x130 0 16 0

/-! ### SIDEBAND -/
-- SB_STS: 16_management_access.md R465
def F.SIDEBAND.SB_STS.STATIC_ADDR : Fld := fldS 0x6 0x100 57 7 0
def F.SIDEBAND.SB_STS.DYN_ADDR : Fld := fld 0x6 0x100 50 7 0
def F.SIDEBAND.SB_STS.DYN_VALID : Fld := fld 0x6 0x100 49 1 0
def F.SIDEBAND.SB_STS.WQ_DEPTH : Fld := fld 0x6 0x100 44 5 0
def F.SIDEBAND.SB_STS.READ_STATE : Fld := fld 0x6 0x100 42 2 0
def F.SIDEBAND.SB_STS.NACKS : Fld := fld 0x6 0x100 34 8 0
def F.SIDEBAND.SB_STS.PEC_ERRS : Fld := fld 0x6 0x100 26 8 0
def F.SIDEBAND.SB_STS.REC_LOST : Fld := fld 0x6 0x100 18 8 0
def F.SIDEBAND.SB_STS.LOCK_HELD : Fld := fld 0x6 0x100 17 1 0
-- ERR_ADDR: 16_management_access.md R465
def F.SIDEBAND.ERR_ADDR.VALID : Fld := fld 0x6 0x108 63 1 0
def F.SIDEBAND.ERR_ADDR.WRITE : Fld := fld 0x6 0x108 62 1 0
def F.SIDEBAND.ERR_ADDR.CAUSE : Fld := fld 0x6 0x108 58 4 0
def F.SIDEBAND.ERR_ADDR.COUNT : Fld := fld 0x6 0x108 50 8 0
def F.SIDEBAND.ERR_ADDR.ADDR : Fld := fld 0x6 0x108 0 25 0

/-! ### HOTPLUG -/
-- SLOT_MAP: 03_ports.md R93
def F.HOTPLUG.SLOT_MAP.EXP_ADDR (i : Nat) : Fld := fld 0x7 (0x100 + 0x8 * i) 35 7 0
def F.HOTPLUG.SLOT_MAP.PRSNT (i : Nat) : Fld := fld 0x7 (0x100 + 0x8 * i) 30 5 0
def F.HOTPLUG.SLOT_MAP.BTN (i : Nat) : Fld := fld 0x7 (0x100 + 0x8 * i) 25 5 0
def F.HOTPLUG.SLOT_MAP.MRL (i : Nat) : Fld := fld 0x7 (0x100 + 0x8 * i) 20 5 0
def F.HOTPLUG.SLOT_MAP.PWR_EN (i : Nat) : Fld := fld 0x7 (0x100 + 0x8 * i) 15 5 0
def F.HOTPLUG.SLOT_MAP.PWR_LED (i : Nat) : Fld := fld 0x7 (0x100 + 0x8 * i) 10 5 0
def F.HOTPLUG.SLOT_MAP.ATTN_LED (i : Nat) : Fld := fld 0x7 (0x100 + 0x8 * i) 5 5 0

/-! ### RPU -/
-- DENY_LAST: 16_management_access.md R454
def F.RPU.DENY_LAST.PRIV : Fld := fld 0x8 0x110 61 3 0
def F.RPU.DENY_LAST.CAUSE : Fld := fld 0x8 0x110 57 4 0
def F.RPU.DENY_LAST.WRITE : Fld := fld 0x8 0x110 56 1 0
def F.RPU.DENY_LAST.VH : Fld := fld 0x8 0x110 51 5 0
def F.RPU.DENY_LAST.REQ_ID : Fld := fld 0x8 0x110 35 16 0
def F.RPU.DENY_LAST.ADDR : Fld := fld 0x8 0x110 0 25 0
-- LOCK_STS: 16_management_access.md R455
def F.RPU.LOCK_STS.HELD : Fld := fld 0x8 0x118 59 5 0
def F.RPU.LOCK_STS.LAST_BREAK_REQ : Fld := fld 0x8 0x118 53 6 0
def F.RPU.LOCK_STS.LAST_BREAK_PAGE : Fld := fld 0x8 0x118 44 9 0
def F.RPU.LOCK_STS.LAST_BREAK_SEG : Fld := fld 0x8 0x118 40 4 0
def F.RPU.LOCK_STS.BREAKS : Fld := fld 0x8 0x118 32 8 0
-- SLOT: 16_management_access.md R451
def F.RPU.SLOT.LOCK (i : Nat) : Fld := fld 0x8 (0x1000 + 0x8 * i) 63 1 0
def F.RPU.SLOT.DEBUG (i : Nat) : Fld := fldS 0x8 (0x1000 + 0x8 * i) 12 3 0
def F.RPU.SLOT.TENANT (i : Nat) : Fld := fldS 0x8 (0x1000 + 0x8 * i) 9 3 0
def F.RPU.SLOT.SIDEBAND (i : Nat) : Fld := fldS 0x8 (0x1000 + 0x8 * i) 6 3 0
def F.RPU.SLOT.MANAGER (i : Nat) : Fld := fldS 0x8 (0x1000 + 0x8 * i) 3 3 0
def F.RPU.SLOT.GUIDE (i : Nat) : Fld := fldS 0x8 (0x1000 + 0x8 * i) 0 3 0

/-! ### ATTEST -/
-- DBG_STS: 16_management_access.md R467
def F.ATTEST.DBG_STS.UNLOCKED : Fld := fld 0x9 0x100 63 1 0
def F.ATTEST.DBG_STS.FAILS : Fld := fld 0x9 0x100 56 4 0
def F.ATTEST.DBG_STS.UNLOCKS : Fld := fld 0x9 0x100 48 8 0
def F.ATTEST.DBG_STS.UNLOCK_TIME : Fld := fld 0x9 0x100 0 36 0
-- DBG_CTL: 16_management_access.md R467
def F.ATTEST.DBG_CTL.RELOCK : Fld := fld 0x9 0x108 63 1 0

/-! ### STN -/
-- BIFURC: 03_ports.md R67
def F.STN.BIFURC.REFUSED (st : Nat) : Fld := fld (0x10 + st) 0x100 9 1 0
def F.STN.BIFURC.MODE (st : Nat) : Fld := fld (0x10 + st) 0x100 0 2 0
-- HFL_CFG: 03_ports.md R86
def F.STN.HFL_CFG.WIDTH_DOWN_OK (st : Nat) : Fld := fld (0x10 + st) 0x108 52 4 15
def F.STN.HFL_CFG.EXPECT (st : Nat) : Fld := fld (0x10 + st) 0x108 0 52 0
-- PORT_ROLE: 03_ports.md R72
def F.STN.PORT_ROLE.REFUSE_CODE (p : Nat) : Fld := fld (0x10 + p / 4) (0x110 + 0x8 * (p % 4)) 28 4 0
def F.STN.PORT_ROLE.REFUSED (p : Nat) : Fld := fld (0x10 + p / 4) (0x110 + 0x8 * (p % 4)) 27 1 0
def F.STN.PORT_ROLE.HP_SLOT (p : Nat) : Fld := fld (0x10 + p / 4) (0x110 + 0x8 * (p % 4)) 15 1 0
def F.STN.PORT_ROLE.L1SS_EN (p : Nat) : Fld := fld (0x10 + p / 4) (0x110 + 0x8 * (p % 4)) 14 1 0
def F.STN.PORT_ROLE.L1_EN (p : Nat) : Fld := fld (0x10 + p / 4) (0x110 + 0x8 * (p % 4)) 13 1 0
def F.STN.PORT_ROLE.PTM_EN (p : Nat) : Fld := fld (0x10 + p / 4) (0x110 + 0x8 * (p % 4)) 12 1 1
def F.STN.PORT_ROLE.CLK_MODE (p : Nat) : Fld := fld (0x10 + p / 4) (0x110 + 0x8 * (p % 4)) 11 1 0
def F.STN.PORT_ROLE.MAX_WIDTH (p : Nat) : Fld := fld (0x10 + p / 4) (0x110 + 0x8 * (p % 4)) 6 5 0
def F.STN.PORT_ROLE.MAX_RATE (p : Nat) : Fld := fld (0x10 + p / 4) (0x110 + 0x8 * (p % 4)) 2 4 6
def F.STN.PORT_ROLE.ROLE (p : Nat) : Fld := fld (0x10 + p / 4) (0x110 + 0x8 * (p % 4)) 0 2 0
-- LINK_CTL: 03_ports.md R85
def F.STN.LINK_CTL.FAIL_REASON (p : Nat) : Fld := fld (0x10 + p / 4) (0x130 + 0x8 * (p % 4)) 36 4 0
def F.STN.LINK_CTL.WIDTH_RESULT (p : Nat) : Fld := fld (0x10 + p / 4) (0x130 + 0x8 * (p % 4)) 32 4 0
def F.STN.LINK_CTL.WIDTH_REQ (p : Nat) : Fld := fld (0x10 + p / 4) (0x130 + 0x8 * (p % 4)) 24 5 0
def F.STN.LINK_CTL.PRST_ASSERT (p : Nat) : Fld := fld (0x10 + p / 4) (0x130 + 0x8 * (p % 4)) 8 1 0
def F.STN.LINK_CTL.DISABLE (p : Nat) : Fld := fld (0x10 + p / 4) (0x130 + 0x8 * (p % 4)) 4 1 0
def F.STN.LINK_CTL.HOT_RESET (p : Nat) : Fld := fld (0x10 + p / 4) (0x130 + 0x8 * (p % 4)) 3 1 0
def F.STN.LINK_CTL.WIDTH_GO (p : Nat) : Fld := fld (0x10 + p / 4) (0x130 + 0x8 * (p % 4)) 2 1 0
def F.STN.LINK_CTL.RETRAIN (p : Nat) : Fld := fld (0x10 + p / 4) (0x130 + 0x8 * (p % 4)) 1 1 0
-- LINK_STS: 03_ports.md R80
def F.STN.LINK_STS.PARTNER_NODE (p : Nat) : Fld := fld (0x10 + p / 4) (0x150 + 0x8 * (p % 4)) 52 12 0
def F.STN.LINK_STS.CONV_FAIL (p : Nat) : Fld := fld (0x10 + p / 4) (0x150 + 0x8 * (p % 4)) 36 16 0
def F.STN.LINK_STS.HDR_WAIT (p : Nat) : Fld := fld (0x10 + p / 4) (0x150 + 0x8 * (p % 4)) 28 8 0
def F.STN.LINK_STS.CAP_BASECAMP (p : Nat) : Fld := fld (0x10 + p / 4) (0x150 + 0x8 * (p % 4)) 27 1 0
def F.STN.LINK_STS.CAP_CONV (p : Nat) : Fld := fld (0x10 + p / 4) (0x150 + 0x8 * (p % 4)) 26 1 0
def F.STN.LINK_STS.RETIMERS (p : Nat) : Fld := fld (0x10 + p / 4) (0x150 + 0x8 * (p % 4)) 24 2 0
def F.STN.LINK_STS.REVERSED (p : Nat) : Fld := fld (0x10 + p / 4) (0x150 + 0x8 * (p % 4)) 23 1 0
def F.STN.LINK_STS.FLIT (p : Nat) : Fld := fld (0x10 + p / 4) (0x150 + 0x8 * (p % 4)) 22 1 0
def F.STN.LINK_STS.WIDTH_CHG (p : Nat) : Fld := fld (0x10 + p / 4) (0x150 + 0x8 * (p % 4)) 21 1 0
def F.STN.LINK_STS.LINK_UP (p : Nat) : Fld := fld (0x10 + p / 4) (0x150 + 0x8 * (p % 4)) 20 1 0
def F.STN.LINK_STS.ACTIVE_WIDTH (p : Nat) : Fld := fld (0x10 + p / 4) (0x150 + 0x8 * (p % 4)) 15 5 0
def F.STN.LINK_STS.NEG_WIDTH (p : Nat) : Fld := fld (0x10 + p / 4) (0x150 + 0x8 * (p % 4)) 10 5 0
def F.STN.LINK_STS.RATE (p : Nat) : Fld := fld (0x10 + p / 4) (0x150 + 0x8 * (p % 4)) 6 4 15
def F.STN.LINK_STS.STATE (p : Nat) : Fld := fld (0x10 + p / 4) (0x150 + 0x8 * (p % 4)) 0 5 0
-- HLL_CFG: 04_link_layer.md R139
def F.STN.HLL_CFG.LL_HOLD (p : Nat) : Fld := fld (0x10 + p / 4) (0x200 + 0x8 * (p % 4)) 32 8 10
def F.STN.HLL_CFG.REPLAY_TIME (p : Nat) : Fld := fld (0x10 + p / 4) (0x200 + 0x8 * (p % 4)) 24 8 25
def F.STN.HLL_CFG.REPLAY_LIMIT (p : Nat) : Fld := fld (0x10 + p / 4) (0x200 + 0x8 * (p % 4)) 16 4 4
def F.STN.HLL_CFG.PAIR_REPLAY_LIMIT (p : Nat) : Fld := fld (0x10 + p / 4) (0x200 + 0x8 * (p % 4)) 12 4 2
def F.STN.HLL_CFG.ACK_COALESCE (p : Nat) : Fld := fld (0x10 + p / 4) (0x200 + 0x8 * (p % 4)) 0 8 16
-- HLL_STS: 04_link_layer.md R140
def F.STN.HLL_STS.TX_NEXT_FSN (p : Nat) : Fld := fld (0x10 + p / 4) (0x220 + 0x8 * (p % 4)) 52 12 0
def F.STN.HLL_STS.RX_EXPECT_FSN (p : Nat) : Fld := fld (0x10 + p / 4) (0x220 + 0x8 * (p % 4)) 40 12 0
def F.STN.HLL_STS.UNACKED (p : Nat) : Fld := fld (0x10 + p / 4) (0x220 + 0x8 * (p % 4)) 28 12 0
def F.STN.HLL_STS.REPLAY_RUN (p : Nat) : Fld := fld (0x10 + p / 4) (0x220 + 0x8 * (p % 4)) 24 4 0
def F.STN.HLL_STS.MGT_OFF_RX (p : Nat) : Fld := fld (0x10 + p / 4) (0x220 + 0x8 * (p % 4)) 23 1 0
def F.STN.HLL_STS.MGT_OFF_TX (p : Nat) : Fld := fld (0x10 + p / 4) (0x220 + 0x8 * (p % 4)) 22 1 0
def F.STN.HLL_STS.NAK_PEND (p : Nat) : Fld := fld (0x10 + p / 4) (0x220 + 0x8 * (p % 4)) 21 1 0
def F.STN.HLL_STS.RESUMED (p : Nat) : Fld := fld (0x10 + p / 4) (0x220 + 0x8 * (p % 4)) 20 1 0
def F.STN.HLL_STS.LOST_CAUSE (p : Nat) : Fld := fld (0x10 + p / 4) (0x220 + 0x8 * (p % 4)) 16 4 0
def F.STN.HLL_STS.STATE (p : Nat) : Fld := fld (0x10 + p / 4) (0x220 + 0x8 * (p % 4)) 0 3 0
-- HLL_CREDIT: 04_link_layer.md R141
def F.STN.HLL_CREDIT.ADV_HDR (p i : Nat) : Fld := fld (0x10 + p / 4) (0x240 + 0x18 * (p % 4) + 0x8 * i) 52 12 0
def F.STN.HLL_CREDIT.ADV_DATA (p i : Nat) : Fld := fld (0x10 + p / 4) (0x240 + 0x18 * (p % 4) + 0x8 * i) 36 16 0
def F.STN.HLL_CREDIT.AVAIL_HDR (p i : Nat) : Fld := fld (0x10 + p / 4) (0x240 + 0x18 * (p % 4) + 0x8 * i) 24 12 0
def F.STN.HLL_CREDIT.AVAIL_DATA (p i : Nat) : Fld := fld (0x10 + p / 4) (0x240 + 0x18 * (p % 4) + 0x8 * i) 8 16 0

/-! ### PLANE -/
-- STS: 06_switch_core.md R192
def F.PLANE.STS.SUSPECT_MARKS (n : Nat) : Fld := fld (0x20 + n) 0x100 48 8 0
def F.PLANE.STS.ACTIVE_PLANES (n : Nat) : Fld := fld (0x20 + n) 0x100 32 4 5
def F.PLANE.STS.RETIRE_CAUSE (n : Nat) : Fld := fld (0x20 + n) 0x100 28 4 0
def F.PLANE.STS.LAST_MARK_BY (n : Nat) : Fld := fld (0x20 + n) 0x100 12 4 0
def F.PLANE.STS.STATE (n : Nat) : Fld := fld (0x20 + n) 0x100 0 3 0
-- OUT_STS: 06_switch_core.md R192
def F.PLANE.OUT_STS.BIV (n i : Nat) : Fld := fld (0x20 + n) (0x200 + 0x8 * i) 34 14 0
def F.PLANE.OUT_STS.WIN_GRANTS (n i : Nat) : Fld := fld (0x20 + n) (0x200 + 0x8 * i) 30 4 0
def F.PLANE.OUT_STS.URG_GRANTS (n i : Nat) : Fld := fld (0x20 + n) (0x200 + 0x8 * i) 26 4 0
def F.PLANE.OUT_STS.URG_MASKED (n i : Nat) : Fld := fld (0x20 + n) (0x200 + 0x8 * i) 25 1 0
def F.PLANE.OUT_STS.BUSY (n i : Nat) : Fld := fld (0x20 + n) (0x200 + 0x8 * i) 24 1 0
def F.PLANE.OUT_STS.LAST_WINNER (n i : Nat) : Fld := fld (0x20 + n) (0x200 + 0x8 * i) 20 4 0
def F.PLANE.OUT_STS.INPUT_EN (n i : Nat) : Fld := fld (0x20 + n) (0x200 + 0x8 * i) 0 14 0

/-! ### BUF -/
-- CAP_STS: 07_buffer_multicast.md R221
def F.BUF.CAP_STS.CAPACITY : Fld := fld 0x28 0x100 32 21 1048576
def F.BUF.CAP_STS.RESERVED : Fld := fld 0x28 0x100 11 21 0
def F.BUF.CAP_STS.SPARES_LEFT : Fld := fld 0x28 0x100 7 4 8
def F.BUF.CAP_STS.LIMIT_REFUSED : Fld := fld 0x28 0x100 6 1 0
-- SHARED_STS: 07_buffer_multicast.md R221
def F.BUF.SHARED_STS.SHARED_SIZE : Fld := fld 0x28 0x108 43 21 0
def F.BUF.SHARED_STS.SHARED_USED : Fld := fld 0x28 0x108 22 21 0
def F.BUF.SHARED_STS.SHARED_PEAK : Fld := fld 0x28 0x108 1 21 0
-- CENSUS_CFG: 07_buffer_multicast.md R221
def F.BUF.CENSUS_CFG.PERIOD : Fld := fld 0x28 0x110 16 16 100
def F.BUF.CENSUS_CFG.RUN : Fld := fld 0x28 0x110 1 1 0
def F.BUF.CENSUS_CFG.EN : Fld := fld 0x28 0x110 0 1 1
-- CENSUS_STS: 07_buffer_multicast.md R221
def F.BUF.CENSUS_STS.FIRST_LEAK : Fld := fld 0x28 0x118 44 20 0
def F.BUF.CENSUS_STS.LEAKED : Fld := fld 0x28 0x118 28 16 0
def F.BUF.CENSUS_STS.REF_FIXED : Fld := fld 0x28 0x118 20 8 0
def F.BUF.CENSUS_STS.FREE_CONFLICT : Fld := fld 0x28 0x118 12 8 0
def F.BUF.CENSUS_STS.LATE : Fld := fld 0x28 0x118 4 8 0
def F.BUF.CENSUS_STS.BUSY : Fld := fld 0x28 0x118 0 1 0
-- BANK_CFG: 07_buffer_multicast.md R221
def F.BUF.BANK_CFG.CE_LIMIT : Fld := fld 0x28 0x120 16 16 1024
def F.BUF.BANK_CFG.RETIRE_BANK : Fld := fld 0x28 0x120 1 7 0
def F.BUF.BANK_CFG.RETIRE : Fld := fld 0x28 0x120 0 1 0
-- BANK_STS: 07_buffer_multicast.md R221
def F.BUF.BANK_STS.LAST_BANK : Fld := fld 0x28 0x128 49 7 0
def F.BUF.BANK_STS.LAST_CAUSE : Fld := fld 0x28 0x128 45 4 0
def F.BUF.BANK_STS.STATE : Fld := fld 0x28 0x128 42 3 0
def F.BUF.BANK_STS.LAST_INTERRUPT : Fld := fld 0x28 0x128 26 16 0
def F.BUF.BANK_STS.LAST_COPIED : Fld := fld 0x28 0x128 12 14 0
def F.BUF.BANK_STS.RETIREMENTS : Fld := fld 0x28 0x128 4 8 0
-- POOL_LIMIT: 07_buffer_multicast.md R221
def F.BUF.POOL_LIMIT.LIMIT (i j : Nat) : Fld := fld 0x28 (0x200 + 0x20 * i + 0x8 * j) 32 15 0
def F.BUF.POOL_LIMIT.HDR_PART (i j : Nat) : Fld := fld 0x28 (0x200 + 0x20 * i + 0x8 * j) 0 15 0
-- PORT_LIMIT: 07_buffer_multicast.md R221
def F.BUF.PORT_LIMIT.RETAIN_MAX (i : Nat) : Fld := fld 0x28 (0x800 + 0x8 * i) 48 16 0
def F.BUF.PORT_LIMIT.SHARE_IN (i : Nat) : Fld := fldS 0x28 (0x800 + 0x8 * i) 24 21 0
def F.BUF.PORT_LIMIT.SHARE_OUT (i : Nat) : Fld := fldS 0x28 (0x800 + 0x8 * i) 0 21 0
-- POOL_STS: 07_buffer_multicast.md R221
def F.BUF.POOL_STS.USED (i j : Nat) : Fld := fld 0x28 (0x1000 + 0x20 * i + 0x8 * j) 49 15 0
def F.BUF.POOL_STS.RESERVED (i j : Nat) : Fld := fld 0x28 (0x1000 + 0x20 * i + 0x8 * j) 34 15 0
def F.BUF.POOL_STS.ADV_HDR (i j : Nat) : Fld := fld 0x28 (0x1000 + 0x20 * i + 0x8 * j) 22 12 0
def F.BUF.POOL_STS.ADV_DATA (i j : Nat) : Fld := fld 0x28 (0x1000 + 0x20 * i + 0x8 * j) 6 16 0
def F.BUF.POOL_STS.FULL_SEEN (i j : Nat) : Fld := fld 0x28 (0x1000 + 0x20 * i + 0x8 * j) 5 1 0
-- PORT_STS: 07_buffer_multicast.md R221
def F.BUF.PORT_STS.SHARE_IN_USED (i : Nat) : Fld := fld 0x28 (0x1800 + 0x8 * i) 43 21 0
def F.BUF.PORT_STS.SHARE_OUT_USED (i : Nat) : Fld := fld 0x28 (0x1800 + 0x8 * i) 22 21 0
def F.BUF.PORT_STS.RETAINED (i : Nat) : Fld := fld 0x28 (0x1800 + 0x8 * i) 6 16 0
-- BANK_MAP: 07_buffer_multicast.md R221
def F.BUF.BANK_MAP.PHYS (i : Nat) : Fld := fld 0x28 (0x2000 + 0x8 * i) 0 8 0

/-! ### MCAST -/
-- SIDING_CFG: 07_buffer_multicast.md R222
def F.MCAST.SIDING_CFG.TIMEOUT : Fld := fld 0x29 0x100 16 16 10
def F.MCAST.SIDING_CFG.IRQ_EN : Fld := fld 0x29 0x100 1 1 1
-- SIDING_RSV: 07_buffer_multicast.md R222
def F.MCAST.SIDING_RSV.RSV : Fld := fld 0x29 0x108 0 21 16384
-- SIDING_STS: 07_buffer_multicast.md R222
def F.MCAST.SIDING_STS.USED : Fld := fld 0x29 0x110 43 21 0
def F.MCAST.SIDING_STS.ENTRIES : Fld := fld 0x29 0x110 32 11 0
def F.MCAST.SIDING_STS.LOSS : Fld := fld 0x29 0x110 16 16 0
-- LOSS_LAST: 07_buffer_multicast.md R222
def F.MCAST.LOSS_LAST.GROUP : Fld := fld 0x29 0x118 54 10 0
def F.MCAST.LOSS_LAST.KIND : Fld := fld 0x29 0x118 53 1 0
def F.MCAST.LOSS_LAST.VH : Fld := fld 0x29 0x118 48 5 0
def F.MCAST.LOSS_LAST.PORT : Fld := fld 0x29 0x118 42 6 0
def F.MCAST.LOSS_LAST.CAUSE : Fld := fld 0x29 0x118 38 4 0
def F.MCAST.LOSS_LAST.TIME : Fld := fld 0x29 0x118 0 36 0
-- HGROUP: 07_buffer_multicast.md R222
def F.MCAST.HGROUP.VALID (i : Nat) : Fld := fld 0x29 (0x1000 + 0x8 * i) 63 1 0
def F.MCAST.HGROUP.PORTS (i : Nat) : Fld := fld 0x29 (0x1000 + 0x8 * i) 0 48 0
-- PGROUP: 07_buffer_multicast.md R222
def F.MCAST.PGROUP.VALID (i j : Nat) : Fld := fld 0x29 (0x4000 + 0x200 * i + 0x8 * j) 63 1 0
def F.MCAST.PGROUP.PORTS (i j : Nat) : Fld := fld 0x29 (0x4000 + 0x200 * i + 0x8 * j) 0 48 0

/-! ### EGR -/
-- TCVC: 08_egress_scheduling.md R243
def F.EGR.TCVC.REFUSED (p : Nat) : Fld := fld (0x30 + p / 4) (0x100 + 0x8 * (p % 4)) 18 1 0
def F.EGR.TCVC.VCS (p : Nat) : Fld := fld (0x30 + p / 4) (0x100 + 0x8 * (p % 4)) 16 2 0
def F.EGR.TCVC.MAP (p : Nat) : Fld := fld (0x30 + p / 4) (0x100 + 0x8 * (p % 4)) 0 16 0
-- GATE_ADMIN: 08_egress_scheduling.md R244
def F.EGR.GATE_ADMIN.LEN (p : Nat) : Fld := fld (0x30 + p / 4) (0x120 + 0x8 * (p % 4)) 32 9 0
def F.EGR.GATE_ADMIN.ALLOW_CLOSED (p : Nat) : Fld := fld (0x30 + p / 4) (0x120 + 0x8 * (p % 4)) 24 8 0
def F.EGR.GATE_ADMIN.LOOKAHEAD (p : Nat) : Fld := fld (0x30 + p / 4) (0x120 + 0x8 * (p % 4)) 16 8 50
def F.EGR.GATE_ADMIN.CANCEL (p : Nat) : Fld := fld (0x30 + p / 4) (0x120 + 0x8 * (p % 4)) 2 1 0
def F.EGR.GATE_ADMIN.GO (p : Nat) : Fld := fld (0x30 + p / 4) (0x120 + 0x8 * (p % 4)) 1 1 0
-- GATE_BASE_TIME: 08_egress_scheduling.md R244
def F.EGR.GATE_BASE_TIME.BASE (p : Nat) : Fld := fld (0x30 + p / 4) (0x140 + 0x8 * (p % 4)) 0 64 0
-- GATE_STS: 08_egress_scheduling.md R245
def F.EGR.GATE_STS.OVERRUNS (p : Nat) : Fld := fld (0x30 + p / 4) (0x160 + 0x8 * (p % 4)) 56 8 0
def F.EGR.GATE_STS.RESYNCS (p : Nat) : Fld := fld (0x30 + p / 4) (0x160 + 0x8 * (p % 4)) 48 8 0
def F.EGR.GATE_STS.ACTIVE_LEN (p : Nat) : Fld := fld (0x30 + p / 4) (0x160 + 0x8 * (p % 4)) 31 9 0
def F.EGR.GATE_STS.ENTRY (p : Nat) : Fld := fld (0x30 + p / 4) (0x160 + 0x8 * (p % 4)) 23 8 0
def F.EGR.GATE_STS.FAULT (p : Nat) : Fld := fld (0x30 + p / 4) (0x160 + 0x8 * (p % 4)) 19 4 0
def F.EGR.GATE_STS.RESULT (p : Nat) : Fld := fld (0x30 + p / 4) (0x160 + 0x8 * (p % 4)) 17 2 0
def F.EGR.GATE_STS.PENDING (p : Nat) : Fld := fld (0x30 + p / 4) (0x160 + 0x8 * (p % 4)) 16 1 0
def F.EGR.GATE_STS.WR_DROP (p : Nat) : Fld := fld (0x30 + p / 4) (0x160 + 0x8 * (p % 4)) 15 1 0
def F.EGR.GATE_STS.BUSY_GO (p : Nat) : Fld := fld (0x30 + p / 4) (0x160 + 0x8 * (p % 4)) 14 1 0
def F.EGR.GATE_STS.OPEN (p : Nat) : Fld := fld (0x30 + p / 4) (0x160 + 0x8 * (p % 4)) 0 8 255
-- GATE_LAST_SWAP: 08_egress_scheduling.md R244
def F.EGR.GATE_LAST_SWAP.TIME (p : Nat) : Fld := fld (0x30 + p / 4) (0x180 + 0x8 * (p % 4)) 0 64 0
-- SCHED_STS: 08_egress_scheduling.md R248
def F.EGR.SCHED_STS.TC_ELIG (p : Nat) : Fld := fld (0x30 + p / 4) (0x1a0 + 0x8 * (p % 4)) 24 8 255
def F.EGR.SCHED_STS.Q_MISMATCH (p : Nat) : Fld := fld (0x30 + p / 4) (0x1a0 + 0x8 * (p % 4)) 16 8 0
-- YARD_CTL: 06_switch_core.md R193
def F.EGR.YARD_CTL.CT_DIS (y : Nat) : Fld := fld (yardPage y) 0xf00 0 4 0
-- YARD_STS: 06_switch_core.md R193
def F.EGR.YARD_STS.OCC (y : Nat) : Fld := fld (yardPage y) 0xf08 48 10 0
def F.EGR.YARD_STS.OCC_MAX (y : Nat) : Fld := fld (yardPage y) 0xf08 38 10 0
def F.EGR.YARD_STS.TIMEOUTS (y : Nat) : Fld := fld (yardPage y) 0xf08 30 8 0
def F.EGR.YARD_STS.CT_UNDERRUNS (y : Nat) : Fld := fld (yardPage y) 0xf08 22 8 0
def F.EGR.YARD_STS.DUP_DROPS (y : Nat) : Fld := fld (yardPage y) 0xf08 14 8 0
-- YARD_LAST: 06_switch_core.md R193
def F.EGR.YARD_LAST.CLASS (y : Nat) : Fld := fld (yardPage y) 0xf10 60 4 0
def F.EGR.YARD_LAST.SRC (y : Nat) : Fld := fld (yardPage y) 0xf10 56 4 0
def F.EGR.YARD_LAST.DST (y : Nat) : Fld := fld (yardPage y) 0xf10 50 6 0
def F.EGR.YARD_LAST.CSN (y : Nat) : Fld := fld (yardPage y) 0xf10 40 10 0
def F.EGR.YARD_LAST.PLANE (y : Nat) : Fld := fld (yardPage y) 0xf10 37 3 0
def F.EGR.YARD_LAST.TIME (y : Nat) : Fld := fld (yardPage y) 0xf10 0 36 0
-- DRR_QUANTUM: 08_egress_scheduling.md R247
def F.EGR.DRR_QUANTUM.TC (p i : Nat) : Fld := fldS (0x30 + p / 4) (0x1000 + 0x200 * (p % 4) + 0x8 * i) 16 3 0
def F.EGR.DRR_QUANTUM.QUANTUM (p i : Nat) : Fld := fld (0x30 + p / 4) (0x1000 + 0x200 * (p % 4) + 0x8 * i) 0 12 66
-- SHAPER: 08_egress_scheduling.md R247
def F.EGR.SHAPER.RATE (p i : Nat) : Fld := fld (0x30 + p / 4) (0x1800 + 0x200 * (p % 4) + 0x8 * i) 32 20 0
def F.EGR.SHAPER.BURST (p i : Nat) : Fld := fld (0x30 + p / 4) (0x1800 + 0x200 * (p % 4) + 0x8 * i) 16 16 66
-- QUEUE_STS: 08_egress_scheduling.md R248
def F.EGR.QUEUE_STS.DEFICIT (p i : Nat) : Fld := fld (0x30 + p / 4) (0x2000 + 0x200 * (p % 4) + 0x8 * i) 45 19 0
def F.EGR.QUEUE_STS.TOKENS (p i : Nat) : Fld := fld (0x30 + p / 4) (0x2000 + 0x200 * (p % 4) + 0x8 * i) 21 24 4224
def F.EGR.QUEUE_STS.DEPTH (p i : Nat) : Fld := fld (0x30 + p / 4) (0x2000 + 0x200 * (p % 4) + 0x8 * i) 8 12 0
def F.EGR.QUEUE_STS.ON_WHEEL (p i : Nat) : Fld := fld (0x30 + p / 4) (0x2000 + 0x200 * (p % 4) + 0x8 * i) 3 1 0
def F.EGR.QUEUE_STS.CREDIT_BLK (p i : Nat) : Fld := fld (0x30 + p / 4) (0x2000 + 0x200 * (p % 4) + 0x8 * i) 2 1 0
def F.EGR.QUEUE_STS.GATE_BLK (p i : Nat) : Fld := fld (0x30 + p / 4) (0x2000 + 0x200 * (p % 4) + 0x8 * i) 1 1 0
def F.EGR.QUEUE_STS.BACKLOGGED (p i : Nat) : Fld := fld (0x30 + p / 4) (0x2000 + 0x200 * (p % 4) + 0x8 * i) 0 1 0
-- GATE_ENTRY: 08_egress_scheduling.md R246
def F.EGR.GATE_ENTRY.INTERVAL (p i : Nat) : Fld := fld (0x30 + p / 4) (0x4000 + 0x800 * (p % 4) + 0x8 * i) 8 24 0
def F.EGR.GATE_ENTRY.MASK (p i : Nat) : Fld := fld (0x30 + p / 4) (0x4000 + 0x800 * (p % 4) + 0x8 * i) 0 8 0
-- GATE_ACTIVE: 08_egress_scheduling.md R246
def F.EGR.GATE_ACTIVE.INTERVAL (p i : Nat) : Fld := fld (0x30 + p / 4) (0x6000 + 0x800 * (p % 4) + 0x8 * i) 8 24 0
def F.EGR.GATE_ACTIVE.MASK (p i : Nat) : Fld := fld (0x30 + p / 4) (0x6000 + 0x800 * (p % 4) + 0x8 * i) 0 8 0

/-! ### XLAT -/
-- WIN_UPDATE: 05_lookup_windows.md R158
def F.XLAT.WIN_UPDATE.OP : Fld := fld 0x40 0x100 62 2 0
def F.XLAT.WIN_UPDATE.INDEX : Fld := fld 0x40 0x100 0 19 0
-- WIN_COMMIT: 05_lookup_windows.md R162
def F.XLAT.WIN_COMMIT.CHECK : Fld := fld 0x40 0x108 1 1 0
def F.XLAT.WIN_COMMIT.GO : Fld := fld 0x40 0x108 0 1 0
-- WIN_STATUS: 05_lookup_windows.md R162
def F.XLAT.WIN_STATUS.FAULT_IDX : Fld := fld 0x40 0x110 29 19 0
def F.XLAT.WIN_STATUS.FAULT_POS : Fld := fld 0x40 0x110 20 9 0
def F.XLAT.WIN_STATUS.FAULT_VH : Fld := fld 0x40 0x110 15 5 0
def F.XLAT.WIN_STATUS.FAULT : Fld := fld 0x40 0x110 11 4 0
def F.XLAT.WIN_STATUS.RESULT : Fld := fld 0x40 0x110 9 2 0
def F.XLAT.WIN_STATUS.BUSY_GO : Fld := fld 0x40 0x110 8 1 0
def F.XLAT.WIN_STATUS.NATIVE_OVL : Fld := fld 0x40 0x110 7 1 0
def F.XLAT.WIN_STATUS.QFULL : Fld := fld 0x40 0x110 6 1 0
def F.XLAT.WIN_STATUS.STATE : Fld := fld 0x40 0x110 3 3 0
-- TC_CTL: 05_lookup_windows.md R156
def F.XLAT.TC_CTL.MISS_PEND : Fld := fld 0x40 0x118 8 16 0
def F.XLAT.TC_CTL.INV_BUSY : Fld := fld 0x40 0x118 2 1 0
def F.XLAT.TC_CTL.INV_ALL : Fld := fld 0x40 0x118 1 1 0
def F.XLAT.TC_CTL.EN : Fld := fld 0x40 0x118 0 1 1
-- WIN_DATA: 05_lookup_windows.md R158
def F.XLAT.WIN_DATA.DATA (i : Nat) : Fld := fld 0x40 (0x140 + 0x8 * i) 0 64 0
-- APT_BASE: 05_lookup_windows.md R148
def F.XLAT.APT_BASE.BASE (i j : Nat) : Fld := fld 0x40 (0x1000 + 0xc0 * i + 0x18 * j) 12 52 0
-- APT_CTL: 05_lookup_windows.md R148
def F.XLAT.APT_CTL.EN (i j : Nat) : Fld := fld 0x40 (0x1008 + 0xc0 * i + 0x18 * j) 63 1 0
def F.XLAT.APT_CTL.AP_LOG2 (i j : Nat) : Fld := fld 0x40 (0x1008 + 0xc0 * i + 0x18 * j) 50 6 0
def F.XLAT.APT_CTL.WIN_LOG2 (i j : Nat) : Fld := fld 0x40 (0x1008 + 0xc0 * i + 0x18 * j) 42 6 0
def F.XLAT.APT_CTL.IDX_BASE (i j : Nat) : Fld := fld 0x40 (0x1008 + 0xc0 * i + 0x18 * j) 0 19 0
-- APT_MASK: 05_lookup_windows.md R148
def F.XLAT.APT_MASK.REMOTE (i j : Nat) : Fld := fld 0x40 (0x1010 + 0xc0 * i + 0x18 * j) 49 1 0
def F.XLAT.APT_MASK.PORTS (i j : Nat) : Fld := fld 0x40 (0x1010 + 0xc0 * i + 0x18 * j) 0 48 0

/-! ### ROUTE -/
-- NODE_ID: 09_fabric_mode.md R249
def F.ROUTE.NODE_ID.REFUSED : Fld := fld 0x41 0x100 12 1 0
def F.ROUTE.NODE_ID.ID : Fld := fld 0x41 0x100 0 12 0
-- PORT_DIR: 09_fabric_mode.md R257
def F.ROUTE.PORT_DIR.UP : Fld := fld 0x41 0x108 0 48 0
-- ROUTE_CFG: 09_fabric_mode.md R259
def F.ROUTE.ROUTE_CFG.HOP_LIMIT : Fld := fld 0x41 0x110 16 5 16
def F.ROUTE.ROUTE_CFG.HASH_SEED : Fld := fld 0x41 0x110 0 13 0
-- ROUTE_STS: 09_fabric_mode.md R259
def F.ROUTE.ROUTE_STS.UNREACH : Fld := fld 0x41 0x118 56 8 0
def F.ROUTE.ROUTE_STS.TURN : Fld := fld 0x41 0x118 48 8 0
def F.ROUTE.ROUTE_STS.DIR_MISMATCH : Fld := fld 0x41 0x118 40 8 0
def F.ROUTE.ROUTE_STS.HOP_LIMIT : Fld := fld 0x41 0x118 32 8 0
def F.ROUTE.ROUTE_STS.FLOW_MOVES : Fld := fld 0x41 0x118 24 8 0
def F.ROUTE.ROUTE_STS.LAST_DST : Fld := fld 0x41 0x118 12 12 0
def F.ROUTE.ROUTE_STS.LAST_SRC : Fld := fld 0x41 0x118 0 12 0
-- ROPE_PAIR: 04_link_layer.md R129
def F.ROUTE.ROPE_PAIR.EN (i : Nat) : Fld := fld 0x41 (0x800 + 0x8 * i) 63 1 0
def F.ROUTE.ROPE_PAIR.REFUSED (i : Nat) : Fld := fld 0x41 (0x800 + 0x8 * i) 62 1 0
def F.ROUTE.ROPE_PAIR.PORT_A (i : Nat) : Fld := fld 0x41 (0x800 + 0x8 * i) 56 6 0
def F.ROUTE.ROPE_PAIR.PORT_B (i : Nat) : Fld := fld 0x41 (0x800 + 0x8 * i) 48 6 0
def F.ROUTE.ROPE_PAIR.STATE (i : Nat) : Fld := fld 0x41 (0x800 + 0x8 * i) 45 3 0
def F.ROUTE.ROPE_PAIR.FAILOVERS (i : Nat) : Fld := fld 0x41 (0x800 + 0x8 * i) 32 8 0
def F.ROUTE.ROPE_PAIR.LAST_INTERRUPT (i : Nat) : Fld := fld 0x41 (0x800 + 0x8 * i) 16 16 0
def F.ROUTE.ROPE_PAIR.LAST_RESENT (i : Nat) : Fld := fld 0x41 (0x800 + 0x8 * i) 0 16 0
-- RT_ENTRY: 09_fabric_mode.md R253
def F.ROUTE.RT_ENTRY.VALID (i : Nat) : Fld := fld 0x41 (0x8000 + 0x8 * i) 63 1 0
def F.ROUTE.RT_ENTRY.NM1 (i : Nat) : Fld := fld 0x41 (0x8000 + 0x8 * i) 61 2 0
def F.ROUTE.RT_ENTRY.PORT3 (i : Nat) : Fld := fld 0x41 (0x8000 + 0x8 * i) 18 6 0
def F.ROUTE.RT_ENTRY.PORT2 (i : Nat) : Fld := fld 0x41 (0x8000 + 0x8 * i) 12 6 0
def F.ROUTE.RT_ENTRY.PORT1 (i : Nat) : Fld := fld 0x41 (0x8000 + 0x8 * i) 6 6 0
def F.ROUTE.RT_ENTRY.PORT0 (i : Nat) : Fld := fld 0x41 (0x8000 + 0x8 * i) 0 6 0

/-! ### GW -/
-- ORT_CFG: 09_fabric_mode.md R279
def F.GW.ORT_CFG.RSV_MAX : Fld := fld 0x42 0x100 32 21 131072
def F.GW.ORT_CFG.VH_MAX : Fld := fld 0x42 0x100 16 14 4096
def F.GW.ORT_CFG.INBOUND_RSV : Fld := fld 0x42 0x100 0 14 1024
-- CPL_TIMEOUT: 09_fabric_mode.md R279
def F.GW.CPL_TIMEOUT.TIME : Fld := fld 0x42 0x108 0 26 10000
-- QUAR_TIME: 09_fabric_mode.md R279
def F.GW.QUAR_TIME.TIME : Fld := fld 0x42 0x110 0 27 0
-- STALL_TIME: 09_fabric_mode.md R278
def F.GW.STALL_TIME.TIME : Fld := fld 0x42 0x118 0 17 1000
-- PFN_CFG: 09_fabric_mode.md R274
def F.GW.PFN_CFG.MGR_IRQ_EN : Fld := fld 0x42 0x120 32 1 1
def F.GW.PFN_CFG.VH_IRQ_EN : Fld := fld 0x42 0x120 0 24 0
-- ORT_STS: 09_fabric_mode.md R279
def F.GW.ORT_STS.SRC : Fld := fld 0x42 0x128 50 14 0
def F.GW.ORT_STS.DST : Fld := fld 0x42 0x128 36 14 0
def F.GW.ORT_STS.LCL : Fld := fld 0x42 0x128 22 14 0
def F.GW.ORT_STS.QUAR : Fld := fld 0x42 0x128 8 14 0
def F.GW.ORT_STS.WAIT : Fld := fld 0x42 0x128 0 8 0
-- GW_STS: 09_fabric_mode.md R279
def F.GW.GW_STS.RSV_USED : Fld := fld 0x42 0x130 43 21 0
def F.GW.GW_STS.TIMEOUTS : Fld := fld 0x42 0x130 35 8 0
def F.GW.GW_STS.LATE_CPL : Fld := fld 0x42 0x130 27 8 0
def F.GW.GW_STS.UNEXP : Fld := fld 0x42 0x130 19 8 0
def F.GW.GW_STS.STALL_DROPS : Fld := fld 0x42 0x130 11 8 0
def F.GW.GW_STS.STALL_REPORTS : Fld := fld 0x42 0x130 3 8 0
-- PFN_STS: 09_fabric_mode.md R274
def F.GW.PFN_STS.OVERFLOW : Fld := fld 0x42 0x138 48 16 0
def F.GW.PFN_STS.COUNT : Fld := fld 0x42 0x138 8 9 0
def F.GW.PFN_STS.HEAD : Fld := fld 0x42 0x138 0 8 0
-- PFN_POP: 09_fabric_mode.md R274
def F.GW.PFN_POP.N : Fld := fld 0x42 0x140 0 9 0
-- GW_RID: 09_fabric_mode.md R261
def F.GW.GW_RID.VALID (i : Nat) : Fld := fld 0x42 (0x200 + 0x8 * i) 16 1 0
def F.GW.GW_RID.RID (i : Nat) : Fld := fld 0x42 (0x200 + 0x8 * i) 0 16 0
-- PORT_CFG: 09_fabric_mode.md R263
def F.GW.PORT_CFG.PASID_FWD (i : Nat) : Fld := fld 0x42 (0x300 + 0x8 * i) 6 1 0
def F.GW.PORT_CFG.MPS (i : Nat) : Fld := fld 0x42 (0x300 + 0x8 * i) 3 3 0
def F.GW.PORT_CFG.TAG_BITS (i : Nat) : Fld := fld 0x42 (0x300 + 0x8 * i) 0 2 0
-- PFN_LOG0: 09_fabric_mode.md R274
def F.GW.PFN_LOG0.VALID (i : Nat) : Fld := fld 0x42 (0x2000 + 0x20 * i) 63 1 0
def F.GW.PFN_LOG0.NP (i : Nat) : Fld := fld 0x42 (0x2000 + 0x20 * i) 62 1 0
def F.GW.PFN_LOG0.CAUSE (i : Nat) : Fld := fld 0x42 (0x2000 + 0x20 * i) 58 4 0
def F.GW.PFN_LOG0.TGT_NODE (i : Nat) : Fld := fld 0x42 (0x2000 + 0x20 * i) 46 12 0
def F.GW.PFN_LOG0.REPORT_NODE (i : Nat) : Fld := fld 0x42 (0x2000 + 0x20 * i) 34 12 0
def F.GW.PFN_LOG0.TGT_PORT (i : Nat) : Fld := fld 0x42 (0x2000 + 0x20 * i) 28 6 0
def F.GW.PFN_LOG0.TGT_VH (i : Nat) : Fld := fld 0x42 (0x2000 + 0x20 * i) 23 5 0
def F.GW.PFN_LOG0.ORIG_VH (i : Nat) : Fld := fld 0x42 (0x2000 + 0x20 * i) 18 5 0
def F.GW.PFN_LOG0.TC (i : Nat) : Fld := fld 0x42 (0x2000 + 0x20 * i) 15 3 0
def F.GW.PFN_LOG0.COUNT (i : Nat) : Fld := fld 0x42 (0x2000 + 0x20 * i) 0 15 0
-- PFN_LOG1: 09_fabric_mode.md R274
def F.GW.PFN_LOG1.ADDR (i : Nat) : Fld := fld 0x42 (0x2008 + 0x20 * i) 2 62 0
-- PFN_LOG2: 09_fabric_mode.md R274
def F.GW.PFN_LOG2.FIRST_TIME (i : Nat) : Fld := fld 0x42 (0x2010 + 0x20 * i) 28 36 0
def F.GW.PFN_LOG2.LAST_DELTA (i : Nat) : Fld := fld 0x42 (0x2010 + 0x20 * i) 0 28 0
-- PFN_LOG3: 09_fabric_mode.md R274
def F.GW.PFN_LOG3.REQ_ID (i : Nat) : Fld := fld 0x42 (0x2018 + 0x20 * i) 48 16 0
def F.GW.PFN_LOG3.LEN (i : Nat) : Fld := fld 0x42 (0x2018 + 0x20 * i) 35 13 0
def F.GW.PFN_LOG3.WTAG (i : Nat) : Fld := fld 0x42 (0x2018 + 0x20 * i) 0 24 0
-- MC_BIND: 09_fabric_mode.md R275
def F.GW.MC_BIND.EN (i j : Nat) : Fld := fld 0x42 (0x4000 + 0x200 * i + 0x8 * j) 63 1 0
def F.GW.MC_BIND.HGROUP (i j : Nat) : Fld := fld 0x42 (0x4000 + 0x200 * i + 0x8 * j) 0 10 0

/-! ### VH -/
-- SHARE_CTL: 10_sharing.md R292
def F.VH.SHARE_CTL.DETACH_WAIT : Fld := fld 0x43 0x100 32 16 5000
def F.VH.SHARE_CTL.FLR_WAIT : Fld := fld 0x43 0x100 16 16 100
def F.VH.SHARE_CTL.MGR_VF_CFG : Fld := fld 0x43 0x100 2 1 0
def F.VH.SHARE_CTL.PF_GUARD : Fld := fld 0x43 0x100 1 1 1
-- VDSP_CMD: 10_sharing.md R285
def F.VH.VDSP_CMD.GO : Fld := fld 0x43 0x110 63 1 0
def F.VH.VDSP_CMD.OP : Fld := fld 0x43 0x110 60 3 0
def F.VH.VDSP_CMD.KIND : Fld := fld 0x43 0x110 58 2 0
def F.VH.VDSP_CMD.VH : Fld := fld 0x43 0x110 53 5 0
def F.VH.VDSP_CMD.DEV : Fld := fld 0x43 0x110 48 5 0
def F.VH.VDSP_CMD.PORT : Fld := fld 0x43 0x110 42 6 0
def F.VH.VDSP_CMD.VFI : Fld := fld 0x43 0x110 32 10 0
def F.VH.VDSP_CMD.RESULT : Fld := fld 0x43 0x110 28 4 0
def F.VH.VDSP_CMD.FAULT : Fld := fld 0x43 0x110 24 4 0
-- PMU_USER_EN: 14_telemetry.md R400
def F.VH.PMU_USER_EN.EN : Fld := fld 0x43 0x118 0 24 0
-- VH_BIND: 10_sharing.md R281
def F.VH.VH_BIND.EN (i : Nat) : Fld := fld 0x43 (0x200 + 0x8 * i) 63 1 0
def F.VH.VH_BIND.PRIV (i : Nat) : Fld := fldS 0x43 (0x200 + 0x8 * i) 62 1 0
def F.VH.VH_BIND.REFUSED (i : Nat) : Fld := fld 0x43 (0x200 + 0x8 * i) 61 1 0
def F.VH.VH_BIND.REFUSE_CODE (i : Nat) : Fld := fld 0x43 (0x200 + 0x8 * i) 57 4 0
def F.VH.VH_BIND.STATE (i : Nat) : Fld := fld 0x43 (0x200 + 0x8 * i) 48 3 0
def F.VH.VH_BIND.HOST_PORT (i : Nat) : Fld := fld 0x43 (0x200 + 0x8 * i) 32 6 0
-- VDSP: 10_sharing.md R284
def F.VH.VDSP.STATE (i j : Nat) : Fld := fld 0x43 (0x400 + 0x100 * i + 0x8 * j) 61 3 0
def F.VH.VDSP.KIND (i j : Nat) : Fld := fld 0x43 (0x400 + 0x100 * i + 0x8 * j) 59 2 0
def F.VH.VDSP.PORT (i j : Nat) : Fld := fld 0x43 (0x400 + 0x100 * i + 0x8 * j) 53 6 0
def F.VH.VDSP.VFI (i j : Nat) : Fld := fld 0x43 (0x400 + 0x100 * i + 0x8 * j) 43 10 0
def F.VH.VDSP.SEC_BUS (i j : Nat) : Fld := fld 0x43 (0x400 + 0x100 * i + 0x8 * j) 35 8 0
-- VF_MAP0: 10_sharing.md R289
def F.VH.VF_MAP0.VALID (i : Nat) : Fld := fld 0x43 (0x8000 + 0x20 * i) 63 1 0
def F.VH.VF_MAP0.STATE (i : Nat) : Fld := fld 0x43 (0x8000 + 0x20 * i) 60 3 0
def F.VH.VF_MAP0.PORT (i : Nat) : Fld := fld 0x43 (0x8000 + 0x20 * i) 54 6 0
def F.VH.VF_MAP0.VH (i : Nat) : Fld := fld 0x43 (0x8000 + 0x20 * i) 49 5 0
def F.VH.VF_MAP0.DEV (i : Nat) : Fld := fld 0x43 (0x8000 + 0x20 * i) 44 5 0
def F.VH.VF_MAP0.WR_DROP (i : Nat) : Fld := fld 0x43 (0x8000 + 0x20 * i) 43 1 0
def F.VH.VF_MAP0.PHYS_RID (i : Nat) : Fld := fld 0x43 (0x8000 + 0x20 * i) 16 16 0
-- VF_BAR: 10_sharing.md R289
def F.VH.VF_BAR.PHYS_BASE (i j : Nat) : Fld := fld 0x43 (0x8008 + 0x20 * i + 0x8 * j) 12 52 0
def F.VH.VF_BAR.SIZE_LOG2 (i j : Nat) : Fld := fld 0x43 (0x8008 + 0x20 * i + 0x8 * j) 6 6 0
def F.VH.VF_BAR.PREF (i j : Nat) : Fld := fld 0x43 (0x8008 + 0x20 * i + 0x8 * j) 5 1 0

/-! ### CTX -/
-- CTX_CTL: 10_sharing.md R298
def F.CTX.CTX_CTL.LOOKUP_EN : Fld := fld 0x44 0x100 0 48 0
-- CTX_ACCESS: 10_sharing.md R300
def F.CTX.CTX_ACCESS.GO : Fld := fld 0x44 0x108 63 1 0
def F.CTX.CTX_ACCESS.OP : Fld := fld 0x44 0x108 60 3 0
def F.CTX.CTX_ACCESS.KEEP_CNT : Fld := fld 0x44 0x108 59 1 0
def F.CTX.CTX_ACCESS.RESULT : Fld := fld 0x44 0x108 56 3 0
def F.CTX.CTX_ACCESS.INDEX : Fld := fld 0x44 0x108 0 18 0
-- CTX_STS: 10_sharing.md R300
def F.CTX.CTX_STS.IN_USE : Fld := fld 0x44 0x110 45 19 0
-- CTX_DATA: 10_sharing.md R300
def F.CTX.CTX_DATA.DATA (i : Nat) : Fld := fld 0x44 (0x200 + 0x8 * i) 0 64 0

/-! ### DIRTY -/
-- DL_CTL: 10_sharing.md R303
def F.DIRTY.DL_CTL.EN : Fld := fld 0x45 0x100 63 1 0
def F.DIRTY.DL_CTL.REGION_MIB : Fld := fld 0x45 0x100 32 16 256
-- DL_HARVEST: 10_sharing.md R304
def F.DIRTY.DL_HARVEST.GO : Fld := fld 0x45 0x108 63 1 0
def F.DIRTY.DL_HARVEST.ABORT : Fld := fld 0x45 0x108 62 1 0
def F.DIRTY.DL_HARVEST.DONE : Fld := fld 0x45 0x108 61 1 0
def F.DIRTY.DL_HARVEST.MODE : Fld := fld 0x45 0x108 60 1 0
def F.DIRTY.DL_HARVEST.TC : Fld := fld 0x45 0x108 57 3 0
def F.DIRTY.DL_HARVEST.DEST_VH : Fld := fld 0x45 0x108 52 5 0
def F.DIRTY.DL_HARVEST.SLOT : Fld := fld 0x45 0x108 44 8 0
def F.DIRTY.DL_HARVEST.STATE : Fld := fld 0x45 0x108 40 4 0
def F.DIRTY.DL_HARVEST.RESULT : Fld := fld 0x45 0x108 37 3 0
def F.DIRTY.DL_HARVEST.FAULT : Fld := fld 0x45 0x108 33 4 0
def F.DIRTY.DL_HARVEST.IRQ_EN : Fld := fld 0x45 0x108 32 1 1
-- DL_DEST: 10_sharing.md R304
def F.DIRTY.DL_DEST.ADDR : Fld := fld 0x45 0x110 12 52 0
-- DL_STS: 10_sharing.md R304
def F.DIRTY.DL_STS.LINES_PEND : Fld := fld 0x45 0x118 48 16 0
def F.DIRTY.DL_STS.ADMIT_WAIT : Fld := fld 0x45 0x118 40 8 0
-- DL_WIN_OFF: 10_sharing.md R304
def F.DIRTY.DL_WIN_OFF.BLOCK : Fld := fld 0x45 0x120 0 20 0
-- DL_SLOT0: 10_sharing.md R303
def F.DIRTY.DL_SLOT0.BASE (i : Nat) : Fld := fld 0x45 (0x1000 + 0x10 * i) 12 52 0
def F.DIRTY.DL_SLOT0.EN (i : Nat) : Fld := fld 0x45 (0x1000 + 0x10 * i) 11 1 0
def F.DIRTY.DL_SLOT0.GRAN (i : Nat) : Fld := fld 0x45 (0x1000 + 0x10 * i) 10 1 0
def F.DIRTY.DL_SLOT0.AT_SEL (i : Nat) : Fld := fld 0x45 (0x1000 + 0x10 * i) 8 2 0
def F.DIRTY.DL_SLOT0.REFUSED (i : Nat) : Fld := fld 0x45 (0x1000 + 0x10 * i) 7 1 0
def F.DIRTY.DL_SLOT0.OPEN (i : Nat) : Fld := fld 0x45 (0x1000 + 0x10 * i) 2 1 0
-- DL_SLOT1: 10_sharing.md R303
def F.DIRTY.DL_SLOT1.BITS (i : Nat) : Fld := fld 0x45 (0x1008 + 0x10 * i) 32 32 0
def F.DIRTY.DL_SLOT1.OFFSET (i : Nat) : Fld := fld 0x45 (0x1008 + 0x10 * i) 0 20 0

/-! ### HUT -/
-- RSV_CFG: 11_hut_ordering.md R336
def F.HUT.RSV_CFG.VH_MON_MAX : Fld := fld 0x48 0x100 16 12 256
def F.HUT.RSV_CFG.TIMEOUT : Fld := fld 0x48 0x100 0 16 64
-- FENCE_CFG: 11_hut_ordering.md R336
def F.HUT.FENCE_CFG.TIMEOUT : Fld := fld 0x48 0x108 0 24 10000
-- PART_STS: 11_hut_ordering.md R313
def F.HUT.PART_STS.FAULT_PART : Fld := fld 0x48 0x110 10 6 0
def F.HUT.PART_STS.FAULT : Fld := fld 0x48 0x110 4 4 0
def F.HUT.PART_STS.RESULT : Fld := fld 0x48 0x110 0 2 0
-- HUT_STS: 11_hut_ordering.md R336
def F.HUT.HUT_STS.MON_IN_USE : Fld := fld 0x48 0x118 52 12 0
def F.HUT.HUT_STS.EVICTS : Fld := fld 0x48 0x118 44 8 0
def F.HUT.HUT_STS.RSV_TIMEOUTS : Fld := fld 0x48 0x118 36 8 0
def F.HUT.HUT_STS.UE : Fld := fld 0x48 0x118 28 8 0
def F.HUT.HUT_STS.HELD : Fld := fld 0x48 0x118 20 8 0
-- ZERO: 11_hut_ordering.md R337
def F.HUT.ZERO.GO : Fld := fld 0x48 0x120 63 1 0
def F.HUT.ZERO.BUSY : Fld := fld 0x48 0x120 62 1 0
def F.HUT.ZERO.SIZE : Fld := fld 0x48 0x120 36 12 0
def F.HUT.ZERO.BASE : Fld := fld 0x48 0x120 12 11 0
-- PART0: 11_hut_ordering.md R311
def F.HUT.PART0.EN (i : Nat) : Fld := fld 0x48 (0x200 + 0x10 * i) 63 1 0
def F.HUT.PART0.DEV_EN (i : Nat) : Fld := fld 0x48 (0x200 + 0x10 * i) 62 1 0
def F.HUT.PART0.NORM_EN (i : Nat) : Fld := fld 0x48 (0x200 + 0x10 * i) 61 1 0
def F.HUT.PART0.RSV_EN (i : Nat) : Fld := fld 0x48 (0x200 + 0x10 * i) 60 1 0
def F.HUT.PART0.ATOMIC_EN (i : Nat) : Fld := fld 0x48 (0x200 + 0x10 * i) 59 1 0
def F.HUT.PART0.SIZE (i : Nat) : Fld := fld 0x48 (0x200 + 0x10 * i) 36 12 0
def F.HUT.PART0.BASE (i : Nat) : Fld := fld 0x48 (0x200 + 0x10 * i) 12 11 0
-- PART1: 11_hut_ordering.md R311
def F.HUT.PART1.WR_VH (i : Nat) : Fld := fld 0x48 (0x208 + 0x10 * i) 24 24 0
def F.HUT.PART1.RD_VH (i : Nat) : Fld := fld 0x48 (0x208 + 0x10 * i) 0 24 0
-- DB_ALLOW: 11_hut_ordering.md R336
def F.HUT.DB_ALLOW.IRQ_EN (i : Nat) : Fld := fld 0x48 (0x600 + 0x8 * i) 63 1 1
def F.HUT.DB_ALLOW.FROM (i : Nat) : Fld := fld 0x48 (0x600 + 0x8 * i) 0 24 0

/-! ### MEMC -/
-- SCRUB_CFG: 13_dependability.md R375
def F.MEMC.SCRUB_CFG.PERIOD : Fld := fld 0x50 0x100 16 8 24
def F.MEMC.SCRUB_CFG.EN : Fld := fld 0x50 0x100 0 1 1
-- ECC_STS: 13_dependability.md R375
def F.MEMC.ECC_STS.CE : Fld := fld 0x50 0x108 48 16 0
def F.MEMC.ECC_STS.UE : Fld := fld 0x50 0x108 40 8 0
def F.MEMC.ECC_STS.REPAIRS : Fld := fld 0x50 0x108 32 8 0
def F.MEMC.ECC_STS.LAST_ADDR : Fld := fld 0x50 0x108 0 32 0
-- RESERVE_STS: 13_dependability.md R375
def F.MEMC.RESERVE_STS.FREE (i : Nat) : Fld := fld 0x50 (0x110 + 0x8 * i) 32 11 1024
def F.MEMC.RESERVE_STS.HARD_LEFT (i : Nat) : Fld := fld 0x50 (0x110 + 0x8 * i) 0 16 0

/-! ### ERR -/
-- CONTAIN_CTL: 12_errors_containment.md R353
def F.ERR.CONTAIN_CTL.GO : Fld := fld 0x58 0x100 63 1 0
def F.ERR.CONTAIN_CTL.OP : Fld := fld 0x58 0x100 60 3 0
def F.ERR.CONTAIN_CTL.TARGET : Fld := fld 0x58 0x100 58 2 0
def F.ERR.CONTAIN_CTL.INDEX : Fld := fld 0x58 0x100 48 10 0
def F.ERR.CONTAIN_CTL.RESULT : Fld := fld 0x58 0x100 45 3 0
def F.ERR.CONTAIN_CTL.FAULT : Fld := fld 0x58 0x100 41 4 0
def F.ERR.CONTAIN_CTL.CPL_CA : Fld := fld 0x58 0x100 40 1 0
-- SAFE_STS: 12_errors_containment.md R359
def F.ERR.SAFE_STS.CODE : Fld := fld 0x58 0x108 48 16 0
def F.ERR.SAFE_STS.TIME : Fld := fld 0x58 0x108 0 36 0
-- CLASS_CNT: 12_errors_containment.md R359
def F.ERR.CLASS_CNT.T_CNT : Fld := fld 0x58 0x110 48 16 0
def F.ERR.CLASS_CNT.P_CNT : Fld := fld 0x58 0x110 32 16 0
def F.ERR.CLASS_CNT.D_CNT : Fld := fld 0x58 0x110 16 16 0
def F.ERR.CLASS_CNT.C_CNT : Fld := fld 0x58 0x110 0 16 0
-- GUIDE_STS: 12_errors_containment.md R357
def F.ERR.GUIDE_STS.MISMATCHES : Fld := fld 0x58 0x118 56 8 0
def F.ERR.GUIDE_STS.PAIR1 : Fld := fld 0x58 0x118 10 2 2
def F.ERR.GUIDE_STS.PAIR0 : Fld := fld 0x58 0x118 8 2 0
def F.ERR.GUIDE_STS.ACTIVE_PAIR : Fld := fld 0x58 0x118 0 1 0
-- PORT_STS: 12_errors_containment.md R353
def F.ERR.PORT_STS.BY_SAFE (i : Nat) : Fld := fld 0x58 (0x200 + 0x8 * i) 63 1 0
def F.ERR.PORT_STS.BY_VH (i : Nat) : Fld := fld 0x58 (0x200 + 0x8 * i) 62 1 0
def F.ERR.PORT_STS.BY_DEVICE (i : Nat) : Fld := fld 0x58 (0x200 + 0x8 * i) 61 1 0
def F.ERR.PORT_STS.BY_DPC (i : Nat) : Fld := fld 0x58 (0x200 + 0x8 * i) 60 1 0
def F.ERR.PORT_STS.BY_LINK (i : Nat) : Fld := fld 0x58 (0x200 + 0x8 * i) 59 1 0
def F.ERR.PORT_STS.FIRST_CODE (i : Nat) : Fld := fld 0x58 (0x200 + 0x8 * i) 43 16 0
def F.ERR.PORT_STS.DROPS (i : Nat) : Fld := fld 0x58 (0x200 + 0x8 * i) 0 32 0
-- CLASS_MAP: 12_errors_containment.md R345
def F.ERR.CLASS_MAP.EN (i : Nat) : Fld := fld 0x58 (0x1000 + 0x8 * i) 63 1 0
def F.ERR.CLASS_MAP.CODE (i : Nat) : Fld := fld 0x58 (0x1000 + 0x8 * i) 32 16 0
def F.ERR.CLASS_MAP.THRESH (i : Nat) : Fld := fld 0x58 (0x1000 + 0x8 * i) 24 8 0
def F.ERR.CLASS_MAP.ESC_P (i : Nat) : Fld := fld 0x58 (0x1000 + 0x8 * i) 9 1 0
def F.ERR.CLASS_MAP.MUTE (i : Nat) : Fld := fld 0x58 (0x1000 + 0x8 * i) 8 1 0
def F.ERR.CLASS_MAP.MGR_IRQ (i : Nat) : Fld := fld 0x58 (0x1000 + 0x8 * i) 5 1 0

/-! ### LOG -/
-- LOG_CTL: 14_telemetry.md R417
def F.LOG.LOG_CTL.EN : Fld := fld 0x59 0x100 63 1 1
def F.LOG.LOG_CTL.TRACE_C : Fld := fld 0x59 0x100 62 1 0
def F.LOG.LOG_CTL.COAL_US : Fld := fld 0x59 0x100 32 16 1000
def F.LOG.LOG_CTL.IRQ_GAP_US : Fld := fld 0x59 0x100 16 16 100
def F.LOG.LOG_CTL.ALARM_IRQ : Fld := fld 0x59 0x100 2 1 1
def F.LOG.LOG_CTL.ERROR_IRQ : Fld := fld 0x59 0x100 1 1 1
def F.LOG.LOG_CTL.EVENT_IRQ : Fld := fld 0x59 0x100 0 1 0
-- LOG_BASE: 14_telemetry.md R417
def F.LOG.LOG_BASE.REFUSED : Fld := fld 0x59 0x108 63 1 0
def F.LOG.LOG_BASE.BASE_MIB : Fld := fld 0x59 0x108 0 14 8192
-- LOG_SIZE: 14_telemetry.md R417
def F.LOG.LOG_SIZE.SIZE_MIB : Fld := fld 0x59 0x110 0 13 1024
-- CLASS_BUDGET: 14_telemetry.md R417
def F.LOG.CLASS_BUDGET.ERROR : Fld := fld 0x59 0x118 16 8 192
def F.LOG.CLASS_BUDGET.EVENT : Fld := fld 0x59 0x118 8 8 48
def F.LOG.CLASS_BUDGET.TRACE : Fld := fld 0x59 0x118 0 8 16
-- LOG_STS: 14_telemetry.md R417
def F.LOG.LOG_STS.EPOCH : Fld := fld 0x59 0x120 48 16 1
def F.LOG.LOG_STS.QUEUE : Fld := fld 0x59 0x120 37 11 0
def F.LOG.LOG_STS.ALARM_FIFO : Fld := fld 0x59 0x120 28 9 0
-- LOG_SEQ: 14_telemetry.md R417
def F.LOG.LOG_SEQ.MAIN : Fld := fld 0x59 0x128 32 32 0
def F.LOG.LOG_SEQ.ALARM : Fld := fld 0x59 0x128 0 32 0
-- DROP_STS: 14_telemetry.md R417
def F.LOG.DROP_STS.TRACE : Fld := fld 0x59 0x130 48 16 0
def F.LOG.DROP_STS.EVENT : Fld := fld 0x59 0x130 32 16 0
def F.LOG.DROP_STS.ERROR : Fld := fld 0x59 0x130 16 16 0
def F.LOG.DROP_STS.SB_MISSED : Fld := fld 0x59 0x130 0 16 0
-- FREEZE_CTL: 14_telemetry.md R417
def F.LOG.FREEZE_CTL.REARM : Fld := fld 0x59 0x138 63 1 0
def F.LOG.FREEZE_CTL.ARMED : Fld := fld 0x59 0x138 62 1 1
def F.LOG.FREEZE_CTL.FROZEN : Fld := fld 0x59 0x138 61 1 0
def F.LOG.FREEZE_CTL.TRIGGER_CODE : Fld := fld 0x59 0x138 32 16 0
def F.LOG.FREEZE_CTL.COPIED : Fld := fld 0x59 0x138 0 13 0
-- WIN_OFF: 14_telemetry.md R417
def F.LOG.WIN_OFF.RING : Fld := fld 0x59 0x140 62 2 0
def F.LOG.WIN_OFF.INDEX : Fld := fld 0x59 0x140 0 24 0
-- DMA_CTL: 14_telemetry.md R417
def F.LOG.DMA_CTL.EN : Fld := fld 0x59 0x148 63 1 0
def F.LOG.DMA_CTL.IRQ : Fld := fld 0x59 0x148 62 1 1
def F.LOG.DMA_CTL.TC : Fld := fld 0x59 0x148 59 3 0
def F.LOG.DMA_CTL.DEST_VH : Fld := fld 0x59 0x148 54 5 0
def F.LOG.DMA_CTL.CLASS_MASK : Fld := fld 0x59 0x148 50 4 14
def F.LOG.DMA_CTL.SIZE_LOG2 : Fld := fld 0x59 0x148 45 5 16
def F.LOG.DMA_CTL.STATE : Fld := fld 0x59 0x148 42 3 0
-- DMA_ADDR: 14_telemetry.md R417
def F.LOG.DMA_ADDR.ADDR : Fld := fld 0x59 0x150 12 52 0
-- DMA_HEAD: 14_telemetry.md R417
def F.LOG.DMA_HEAD.HEAD : Fld := fld 0x59 0x158 0 32 0
-- NOTICE_CTL: 14_telemetry.md R417
def F.LOG.NOTICE_CTL.EN : Fld := fld 0x59 0x160 63 1 0
def F.LOG.NOTICE_CTL.CLASS_MASK : Fld := fld 0x59 0x160 56 4 8
def F.LOG.NOTICE_CTL.NODE : Fld := fld 0x59 0x160 0 12 0
-- MARK: 14_telemetry.md R417
def F.LOG.MARK.GO : Fld := fld 0x59 0x168 63 1 0
def F.LOG.MARK.KEY : Fld := fld 0x59 0x168 0 16 0
-- MARK_DATA: 14_telemetry.md R417
def F.LOG.MARK_DATA.DATA (i : Nat) : Fld := fld 0x59 (0x170 + 0x8 * i) 0 64 0

/-! ### PMU -/
-- CHAIN: 14_telemetry.md R400
def F.PMU.CHAIN.CHAIN (i : Nat) : Fld := fld 0x5a (0x200 + 0x8 * i) 0 64 0
-- VALUE: 14_telemetry.md R400
def F.PMU.VALUE.COUNT (i : Nat) : Fld := fld 0x5a (0x8000 + 0x8 * i) 0 40 0

/-! ### TRACE -/
-- TAG_CTL: 14_telemetry.md R408
def F.TRACE.TAG_CTL.EN : Fld := fld 0x5b 0x100 63 1 0
def F.TRACE.TAG_CTL.STOP : Fld := fld 0x5b 0x100 62 1 0
def F.TRACE.TAG_CTL.K : Fld := fld 0x5b 0x100 48 5 16
def F.TRACE.TAG_CTL.CLASS_MASK : Fld := fld 0x5b 0x100 41 7 127
def F.TRACE.TAG_CTL.SEED : Fld := fld 0x5b 0x100 0 32 1
-- PORT_MASK: 14_telemetry.md R408
def F.TRACE.PORT_MASK.MASK : Fld := fld 0x5b 0x108 0 50 1125899906842623
-- RING: 14_telemetry.md R408
def F.TRACE.RING.REFUSED : Fld := fld 0x5b 0x110 63 1 0
def F.TRACE.RING.SIZE_MIB : Fld := fld 0x5b 0x110 32 14 256
def F.TRACE.RING.BASE_MIB : Fld := fld 0x5b 0x110 0 14 9216
-- STS: 14_telemetry.md R408
def F.TRACE.STS.WR_SEQ : Fld := fld 0x5b 0x118 32 32 0
def F.TRACE.STS.FULL : Fld := fld 0x5b 0x118 31 1 0
def F.TRACE.STS.IN_FLIGHT : Fld := fld 0x5b 0x118 8 9 0
-- WIN_OFF: 14_telemetry.md R408
def F.TRACE.WIN_OFF.INDEX : Fld := fld 0x5b 0x120 0 24 0

/-! ### REPAIR -/
-- REPAIR_CFG: 13_dependability.md R370
def F.REPAIR.REPAIR_CFG.ROW_CE_LIMIT : Fld := fld 0x60 0x100 8 8 16
def F.REPAIR.REPAIR_CFG.SRAM_EN : Fld := fld 0x60 0x100 0 1 1
-- MAP_STS: 13_dependability.md R370
def F.REPAIR.MAP_STS.ENTRIES : Fld := fld 0x60 0x108 53 11 0
def F.REPAIR.MAP_STS.UNWRITTEN : Fld := fld 0x60 0x108 42 11 0
def F.REPAIR.MAP_STS.MAP_USED : Fld := fld 0x60 0x108 41 1 0
def F.REPAIR.MAP_STS.FULL : Fld := fld 0x60 0x108 40 1 0
def F.REPAIR.MAP_STS.LAST_WRITE : Fld := fld 0x60 0x108 0 36 0
-- ENTRY: 13_dependability.md R370
def F.REPAIR.ENTRY.VALID (i : Nat) : Fld := fld 0x60 (0x1000 + 0x8 * i) 63 1 0
def F.REPAIR.ENTRY.KIND (i : Nat) : Fld := fld 0x60 (0x1000 + 0x8 * i) 59 4 0
def F.REPAIR.ENTRY.CAUSE (i : Nat) : Fld := fld 0x60 (0x1000 + 0x8 * i) 55 4 0
def F.REPAIR.ENTRY.RETEST (i : Nat) : Fld := fld 0x60 (0x1000 + 0x8 * i) 51 4 0
def F.REPAIR.ENTRY.INSTANCE (i : Nat) : Fld := fld 0x60 (0x1000 + 0x8 * i) 35 16 0
def F.REPAIR.ENTRY.LOCATION (i : Nat) : Fld := fld 0x60 (0x1000 + 0x8 * i) 11 24 0

/-! ### AGE -/
-- ACCL_CFG: 13_dependability.md R385
def F.AGE.ACCL_CFG.EN : Fld := fld 0x61 0x100 63 1 1
def F.AGE.ACCL_CFG.RUN : Fld := fld 0x61 0x100 62 1 0
def F.AGE.ACCL_CFG.PERIOD : Fld := fld 0x61 0x100 48 8 6
def F.AGE.ACCL_CFG.GUARD : Fld := fld 0x61 0x100 40 3 2
def F.AGE.ACCL_CFG.MAX_STEPS : Fld := fld 0x61 0x100 32 8 8
def F.AGE.ACCL_CFG.BANK_CE : Fld := fld 0x61 0x100 16 16 256
def F.AGE.ACCL_CFG.LANE_MIN : Fld := fld 0x61 0x100 8 8 20
-- ACCL_STS: 13_dependability.md R385
def F.AGE.ACCL_STS.PASSES : Fld := fld 0x61 0x108 48 16 0
def F.AGE.ACCL_STS.NEXT_DUE : Fld := fld 0x61 0x108 36 12 0
def F.AGE.ACCL_STS.LAST_RESULT : Fld := fld 0x61 0x108 32 4 0
def F.AGE.ACCL_STS.START_SRC : Fld := fld 0x61 0x108 29 1 0
def F.AGE.ACCL_STS.BUSY_RUN : Fld := fld 0x61 0x108 28 1 0
def F.AGE.ACCL_STS.STATE : Fld := fld 0x61 0x108 0 3 0
-- AVS_STS: 13_dependability.md R385
def F.AGE.AVS_STS.CODE : Fld := fld 0x61 0x110 58 6 0
def F.AGE.AVS_STS.PLAN : Fld := fld 0x61 0x110 52 6 0
def F.AGE.AVS_STS.FUSE_INIT : Fld := fld 0x61 0x110 46 6 0
def F.AGE.AVS_STS.FUSE_FLOOR : Fld := fld 0x61 0x110 40 6 0
def F.AGE.AVS_STS.FAST_STEPS : Fld := fld 0x61 0x110 32 8 0
def F.AGE.AVS_STS.AT_MAX : Fld := fld 0x61 0x110 31 1 0
-- LIFE_STS: 13_dependability.md R385
def F.AGE.LIFE_STS.EQ_HOURS : Fld := fld 0x61 0x118 40 24 0
def F.AGE.LIFE_STS.REMAIN_H : Fld := fld 0x61 0x118 16 24 87600
def F.AGE.LIFE_STS.PROJ_VALID : Fld := fld 0x61 0x118 1 1 0
def F.AGE.LIFE_STS.EOL : Fld := fld 0x61 0x118 0 1 0
-- MARGIN: 13_dependability.md R385
def F.AGE.MARGIN.M (i : Nat) : Fld := fld 0x61 (0x200 + 0x8 * i) 61 3 0
def F.AGE.MARGIN.FLAGS_4 (i : Nat) : Fld := fld 0x61 (0x200 + 0x8 * i) 40 16 0
def F.AGE.MARGIN.WORST (i : Nat) : Fld := fld 0x61 (0x200 + 0x8 * i) 32 6 0
-- OSC: 13_dependability.md R385
def F.AGE.OSC.FREQ (i : Nat) : Fld := fld 0x61 (0x300 + 0x8 * i) 48 16 0
def F.AGE.OSC.BASE (i : Nat) : Fld := fld 0x61 (0x300 + 0x8 * i) 32 16 0
def F.AGE.OSC.DRIFT (i : Nat) : Fld := fld 0x61 (0x300 + 0x8 * i) 16 16 0
-- TEMP: 13_dependability.md R385
def F.AGE.TEMP.TJ (i : Nat) : Fld := fld 0x61 (0x400 + 0x8 * i) 0 12 0
-- VOLT: 13_dependability.md R385
def F.AGE.VOLT.MV (i : Nat) : Fld := fld 0x61 (0x600 + 0x8 * i) 0 12 0

/-! ### BUDGET -/
-- CLASS_CFG: 13_dependability.md R390
def F.BUDGET.CLASS_CFG.DRAM (i : Nat) : Fld := fldS 0x62 (0x100 + 0x8 * i) 32 14 0
def F.BUDGET.CLASS_CFG.REG (i : Nat) : Fld := fldS 0x62 (0x100 + 0x8 * i) 0 12 0
-- CLASS_STS: 13_dependability.md R390
def F.BUDGET.CLASS_STS.EXHAUSTED (i : Nat) : Fld := fld 0x62 (0x140 + 0x8 * i) 48 16 0
def F.BUDGET.CLASS_STS.LAST_DRAM (i : Nat) : Fld := fld 0x62 (0x140 + 0x8 * i) 34 14 0
def F.BUDGET.CLASS_STS.LAST_REG (i : Nat) : Fld := fld 0x62 (0x140 + 0x8 * i) 22 12 0
-- PITCH_STS: 13_dependability.md R390
def F.BUDGET.PITCH_STS.PITCH : Fld := fld 0x62 0x180 16 48 0
def F.BUDGET.PITCH_STS.OVERSUB : Fld := fld 0x62 0x180 0 1 0

/-! ### LANE -/
-- TXEQ: 02_lanes.md R35
def F.LANE.TXEQ.COEF_ERR (n : Nat) : Fld := fld (0x100 + n) 0x100 40 1 0
def F.LANE.TXEQ.MANUAL (n : Nat) : Fld := fld (0x100 + n) 0x100 39 1 0
def F.LANE.TXEQ.PRESET (n : Nat) : Fld := fld (0x100 + n) 0x100 32 5 31
def F.LANE.TXEQ.MAIN (n : Nat) : Fld := fld (0x100 + n) 0x100 24 7 64
def F.LANE.TXEQ.POST1 (n : Nat) : Fld := fld (0x100 + n) 0x100 16 6 0
def F.LANE.TXEQ.PRE1 (n : Nat) : Fld := fld (0x100 + n) 0x100 8 6 0
def F.LANE.TXEQ.PRE2 (n : Nat) : Fld := fld (0x100 + n) 0x100 0 6 0
-- RXADAPT: 02_lanes.md R42
def F.LANE.RXADAPT.CONV_SNR (n : Nat) : Fld := fld (0x100 + n) 0x108 24 8 0
def F.LANE.RXADAPT.MU_ACQ (n : Nat) : Fld := fld (0x100 + n) 0x108 20 4 3
def F.LANE.RXADAPT.MU_TRACK (n : Nat) : Fld := fld (0x100 + n) 0x108 16 4 6
def F.LANE.RXADAPT.CTLE_FORCE (n : Nat) : Fld := fld (0x100 + n) 0x108 6 5 16
def F.LANE.RXADAPT.CTLE_HOLD (n : Nat) : Fld := fld (0x100 + n) 0x108 5 1 0
def F.LANE.RXADAPT.DIV_GUARD (n : Nat) : Fld := fld (0x100 + n) 0x108 4 1 1
def F.LANE.RXADAPT.USE_HISTORY (n : Nat) : Fld := fld (0x100 + n) 0x108 2 1 1
def F.LANE.RXADAPT.RESTART (n : Nat) : Fld := fld (0x100 + n) 0x108 1 1 0
def F.LANE.RXADAPT.FREEZE (n : Nat) : Fld := fld (0x100 + n) 0x108 0 1 0
-- RXSTS: 02_lanes.md R44
def F.LANE.RXSTS.SNR (n : Nat) : Fld := fld (0x100 + n) 0x110 56 8 0
def F.LANE.RXSTS.SNR_MIN (n : Nat) : Fld := fld (0x100 + n) 0x110 48 8 255
def F.LANE.RXSTS.CTLE (n : Nat) : Fld := fld (0x100 + n) 0x110 35 5 16
def F.LANE.RXSTS.VGA (n : Nat) : Fld := fld (0x100 + n) 0x110 28 7 0
def F.LANE.RXSTS.DIV_COUNT (n : Nat) : Fld := fld (0x100 + n) 0x110 20 8 0
def F.LANE.RXSTS.START_SRC (n : Nat) : Fld := fld (0x100 + n) 0x110 12 4 0
def F.LANE.RXSTS.RATE (n : Nat) : Fld := fld (0x100 + n) 0x110 8 4 15
def F.LANE.RXSTS.POL_INV (n : Nat) : Fld := fld (0x100 + n) 0x110 3 1 0
def F.LANE.RXSTS.CDR_LOCK (n : Nat) : Fld := fld (0x100 + n) 0x110 2 1 0
def F.LANE.RXSTS.STATE (n : Nat) : Fld := fld (0x100 + n) 0x110 0 2 0
-- PATGEN: 02_lanes.md R54
def F.LANE.PATGEN.RATE (n : Nat) : Fld := fld (0x100 + n) 0x118 36 4 0
def F.LANE.PATGEN.PATTERN (n : Nat) : Fld := fld (0x100 + n) 0x118 4 4 0
def F.LANE.PATGEN.INVERT (n : Nat) : Fld := fld (0x100 + n) 0x118 3 1 0
def F.LANE.PATGEN.REFUSED (n : Nat) : Fld := fld (0x100 + n) 0x118 1 1 0
def F.LANE.PATGEN.EN (n : Nat) : Fld := fld (0x100 + n) 0x118 0 1 0
-- USER_PAT_LO: 02_lanes.md R54
def F.LANE.USER_PAT_LO.PAT (n : Nat) : Fld := fld (0x100 + n) 0x120 0 64 0
-- USER_PAT_HI: 02_lanes.md R54
def F.LANE.USER_PAT_HI.PAT (n : Nat) : Fld := fld (0x100 + n) 0x128 0 16 0
-- PATCHK: 02_lanes.md R56
def F.LANE.PATCHK.RELOCKS (n : Nat) : Fld := fld (0x100 + n) 0x130 8 8 0
def F.LANE.PATCHK.PATTERN (n : Nat) : Fld := fld (0x100 + n) 0x130 4 4 0
def F.LANE.PATCHK.INVERT (n : Nat) : Fld := fld (0x100 + n) 0x130 3 1 0
def F.LANE.PATCHK.LOCKED (n : Nat) : Fld := fld (0x100 + n) 0x130 2 1 0
def F.LANE.PATCHK.CLEAR (n : Nat) : Fld := fld (0x100 + n) 0x130 1 1 0
def F.LANE.PATCHK.EN (n : Nat) : Fld := fld (0x100 + n) 0x130 0 1 0
-- PATCHK_BITS: 02_lanes.md R56
def F.LANE.PATCHK_BITS.SAT (n : Nat) : Fld := fld (0x100 + n) 0x138 63 1 0
def F.LANE.PATCHK_BITS.COUNT (n : Nat) : Fld := fld (0x100 + n) 0x138 0 48 0
-- PATCHK_ERRS: 02_lanes.md R56
def F.LANE.PATCHK_ERRS.SAT (n : Nat) : Fld := fld (0x100 + n) 0x140 63 1 0
def F.LANE.PATCHK_ERRS.COUNT (n : Nat) : Fld := fld (0x100 + n) 0x140 0 48 0
-- PATCHK_SYMERRS: 02_lanes.md R56
def F.LANE.PATCHK_SYMERRS.SAT (n : Nat) : Fld := fld (0x100 + n) 0x148 63 1 0
def F.LANE.PATCHK_SYMERRS.COUNT (n : Nat) : Fld := fld (0x100 + n) 0x148 0 48 0
-- ERRINJ: 02_lanes.md R58
def F.LANE.ERRINJ.INTERVAL (n : Nat) : Fld := fld (0x100 + n) 0x150 24 32 0
def F.LANE.ERRINJ.BURST_LEN (n : Nat) : Fld := fld (0x100 + n) 0x150 16 8 0
def F.LANE.ERRINJ.COUNT (n : Nat) : Fld := fld (0x100 + n) 0x150 8 8 0
def F.LANE.ERRINJ.KIND (n : Nat) : Fld := fld (0x100 + n) 0x150 4 2 0
def F.LANE.ERRINJ.PERIODIC (n : Nat) : Fld := fld (0x100 + n) 0x150 1 1 0
def F.LANE.ERRINJ.GO (n : Nat) : Fld := fld (0x100 + n) 0x150 0 1 0
-- LOOPBACK: 02_lanes.md R59
def F.LANE.LOOPBACK.REFUSED (n : Nat) : Fld := fld (0x100 + n) 0x158 5 1 0
def F.LANE.LOOPBACK.ACTIVE (n : Nat) : Fld := fld (0x100 + n) 0x158 4 1 0
def F.LANE.LOOPBACK.TX_OFF (n : Nat) : Fld := fld (0x100 + n) 0x158 3 1 1
def F.LANE.LOOPBACK.MODE (n : Nat) : Fld := fld (0x100 + n) 0x158 0 3 0
-- EYESCAN: 02_lanes.md R63
def F.LANE.EYESCAN.VOFF (n : Nat) : Fld := fld (0x100 + n) 0x160 41 7 0
def F.LANE.EYESCAN.PHASE (n : Nat) : Fld := fld (0x100 + n) 0x160 34 7 0
def F.LANE.EYESCAN.ERR_LIMIT (n : Nat) : Fld := fld (0x100 + n) 0x160 16 16 0
def F.LANE.EYESCAN.DWELL (n : Nat) : Fld := fld (0x100 + n) 0x160 12 4 4
def F.LANE.EYESCAN.EYE (n : Nat) : Fld := fld (0x100 + n) 0x160 8 2 0
def F.LANE.EYESCAN.MODE (n : Nat) : Fld := fld (0x100 + n) 0x160 4 1 0
def F.LANE.EYESCAN.GO (n : Nat) : Fld := fld (0x100 + n) 0x160 0 1 0
-- EYESCAN_STS: 02_lanes.md R64
def F.LANE.EYESCAN_STS.UV_PER_CODE (n : Nat) : Fld := fld (0x100 + n) 0x168 32 16 0
def F.LANE.EYESCAN_STS.POINT_ERRS (n : Nat) : Fld := fld (0x100 + n) 0x168 8 24 0
def F.LANE.EYESCAN_STS.RESULT (n : Nat) : Fld := fld (0x100 + n) 0x168 2 2 0
def F.LANE.EYESCAN_STS.BUSY (n : Nat) : Fld := fld (0x100 + n) 0x168 0 1 0
-- RXCOEF: 02_lanes.md R45
def F.LANE.RXCOEF.COEF (n i : Nat) : Fld := fldS (0x100 + n) (0x200 + 0x8 * i) 0 16 0
-- EYE_RESULT: 02_lanes.md R65
def F.LANE.EYE_RESULT.VALID (n i : Nat) : Fld := fld (0x100 + n) (0x400 + 0x8 * i) 31 1 0
def F.LANE.EYE_RESULT.UPPER (n i : Nat) : Fld := fld (0x100 + n) (0x400 + 0x8 * i) 8 8 0
def F.LANE.EYE_RESULT.LOWER (n i : Nat) : Fld := fld (0x100 + n) (0x400 + 0x8 * i) 0 8 0

end Sys2Proof.Machine
end

