-- ==== Sys2Proof/Machine/RegMap.lean ====
section
/-! DEFINITION. The register map as data: for a page and an offset, the register that lies there with the access type of each of its fields
(17_register_conventions.md R470, R474, R485, and the register tables of each chapter). Accesses through the register network read it. -/
namespace Sys2Proof.Machine

/-- Access types of R470. -/
inductive Acc where
  | rw | ro | wo | w1c | w1s | rws | rwl | sh | rc
deriving DecidableEq, Repr

/-- One field of a register: lowest bit, width, access type, reset value (before specialRst). -/
structure FDesc where
  lo : Nat
  width : Nat
  acc : Acc
  rst : Nat
deriving DecidableEq, Repr

/-- One register or register array: offset of its first element, its dimensions (count, stride) and its fields. -/
structure RDesc where
  off : Nat
  dims : List (Nat × Nat)
  fields : List FDesc
deriving DecidableEq, Repr

/-- Does a distance from the first element fall on an element of the array? -/
def RDesc.hits : List (Nat × Nat) → Nat → Bool
  | [], d => d == 0
  | (n, st) :: ds, d => d / st < n && RDesc.hits ds (d % st)

/-- Registers of the common page header (R474). -/
def regsHDR : List RDesc := [
  ⟨0x0, [], [⟨48, 16, .ro, 0x4192⟩, ⟨40, 8, .ro, 0xb0⟩, ⟨16, 16, .ro, 0⟩, ⟨0, 9, .ro, 0⟩]⟩,
  ⟨0x8, [], [⟨0, 16, .ro, 0x100⟩]⟩,
  ⟨0x10, [], [⟨0, 1, .rw, 0⟩]⟩,
  ⟨0x18, [], [⟨48, 16, .ro, 0⟩, ⟨3, 1, .ro, 0⟩, ⟨2, 1, .ro, 0⟩, ⟨1, 1, .ro, 0⟩]⟩,
  ⟨0x20, [], [⟨0, 64, .w1c, 0⟩]⟩,
  ⟨0x28, [], [⟨0, 64, .rw, 0xffffffffffffffff⟩]⟩,
  ⟨0x30, [], [⟨0, 64, .w1s, 0⟩]⟩,
  ⟨0x38, [], [⟨63, 1, .rws, 0⟩, ⟨62, 1, .rws, 0⟩, ⟨32, 16, .rws, 0⟩, ⟨0, 32, .rws, 0⟩]⟩,
  ⟨0x40, [], [⟨63, 1, .w1s, 0⟩, ⟨62, 1, .w1s, 0⟩, ⟨61, 1, .rw, 0⟩, ⟨56, 5, .ro, 0⟩, ⟨55, 1, .ro, 0⟩, ⟨54, 1, .w1c, 0⟩, ⟨52, 2, .ro, 0⟩, ⟨48, 4, .ro, 0⟩, ⟨16, 3, .ro, 0⟩, ⟨0, 16, .ro, 0⟩]⟩,
  ⟨0x48, [], [⟨0, 32, .ro, 0⟩]⟩,
  ⟨0x50, [], [⟨0, 32, .ro, 0⟩]⟩,
  ⟨0x58, [], [⟨48, 16, .ro, 0⟩, ⟨34, 14, .ro, 0⟩]⟩ ]

/-- Registers of page CHIP. -/
def regsCHIP : List RDesc := [
  ⟨0x100, [], [⟨8, 3, .ro, 0⟩, ⟨0, 3, .ro, 0⟩]⟩,
  ⟨0x108, [], [⟨32, 16, .rws, 0⟩, ⟨3, 1, .ro, 0⟩, ⟨2, 1, .ro, 0⟩, ⟨1, 1, .ro, 0⟩]⟩,
  ⟨0x110, [], [⟨63, 1, .w1s, 0⟩, ⟨0, 16, .wo, 0⟩]⟩,
  ⟨0x118, [], [⟨32, 32, .ro, 0⟩, ⟨28, 4, .ro, 0⟩, ⟨27, 1, .ro, 0⟩, ⟨26, 1, .ro, 0⟩, ⟨25, 1, .ro, 0⟩, ⟨24, 1, .ro, 0⟩, ⟨20, 4, .ro, 0⟩, ⟨19, 1, .ro, 0⟩, ⟨0, 16, .ro, 0⟩]⟩,
  ⟨0x120, [], [⟨48, 16, .ro, 0⟩, ⟨32, 16, .ro, 0⟩, ⟨16, 16, .ro, 0⟩, ⟨12, 4, .ro, 0⟩, ⟨11, 1, .ro, 0⟩, ⟨0, 3, .ro, 0⟩]⟩,
  ⟨0x128, [], [⟨0, 64, .ro, 0⟩]⟩,
  ⟨0x130, [], [⟨0, 64, .ro, 0⟩]⟩ ]

/-- Registers of page CLK. -/
def regsCLK : List RDesc := [
  ⟨0x100, [], [⟨16, 16, .ro, 0⟩, ⟨3, 1, .rws, 0⟩, ⟨2, 1, .ro, 0⟩, ⟨1, 1, .ro, 0⟩, ⟨0, 1, .ro, 0⟩]⟩ ]

/-- Registers of page PWR. -/
def regsPWR : List RDesc := [
  ⟨0x100, [], [⟨63, 1, .rw, 0⟩, ⟨24, 8, .rw, 0x28⟩]⟩,
  ⟨0x108, [], [⟨58, 6, .ro, 0x3c⟩, ⟨57, 1, .ro, 0⟩, ⟨32, 16, .ro, 0⟩, ⟨16, 16, .ro, 0⟩, ⟨8, 8, .rc, 0⟩]⟩,
  ⟨0x110, [], [⟨16, 9, .w1c, 0⟩, ⟨0, 9, .ro, 0⟩]⟩,
  ⟨0x118, [], [⟨0, 12, .rw, 0x290⟩]⟩,
  ⟨0x120, [], [⟨31, 1, .ro, 0⟩, ⟨12, 6, .ro, 0⟩, ⟨0, 12, .ro, 0⟩]⟩ ]

/-- Registers of page TIME. -/
def regsTIME : List RDesc := [
  ⟨0x100, [], [⟨32, 1, .ro, 0⟩, ⟨24, 8, .rw, 0xa⟩, ⟨8, 2, .rw, 0⟩, ⟨0, 6, .rw, 0⟩]⟩,
  ⟨0x108, [], [⟨0, 64, .ro, 0⟩]⟩,
  ⟨0x110, [], [⟨0, 64, .wo, 0⟩]⟩,
  ⟨0x118, [], [⟨0, 64, .rw, 0⟩]⟩,
  ⟨0x120, [], [⟨63, 1, .ro, 0⟩, ⟨62, 1, .w1c, 0⟩, ⟨48, 8, .rc, 0⟩, ⟨32, 16, .ro, 0⟩, ⟨16, 16, .ro, 0⟩]⟩,
  ⟨0x128, [], [⟨63, 1, .rw, 0⟩, ⟨0, 24, .rw, 0x3e8⟩]⟩ ]

/-- Registers of page FLASH. -/
def regsFLASH : List RDesc := [
  ⟨0x100, [(2, 0x8)], [⟨32, 32, .ro, 0⟩, ⟨26, 6, .ro, 0⟩, ⟨25, 1, .ro, 0⟩, ⟨24, 1, .ro, 0⟩, ⟨23, 1, .ro, 0⟩, ⟨20, 3, .ro, 0⟩, ⟨19, 1, .ro, 0⟩]⟩,
  ⟨0x110, [], [⟨63, 1, .w1s, 0⟩, ⟨62, 1, .rw, 1⟩, ⟨61, 1, .w1s, 0⟩, ⟨0, 6, .ro, 0⟩]⟩,
  ⟨0x118, [], [⟨63, 1, .w1s, 0⟩, ⟨62, 1, .w1s, 0⟩, ⟨0, 25, .rw, 0⟩]⟩,
  ⟨0x120, [], [⟨15, 9, .rw, 0⟩]⟩,
  ⟨0x128, [], [⟨60, 4, .rws, 0⟩, ⟨56, 4, .rws, 0⟩, ⟨32, 24, .rws, 0⟩]⟩,
  ⟨0x130, [], [⟨32, 32, .ro, 0⟩, ⟨31, 1, .ro, 0⟩, ⟨30, 1, .ro, 0⟩, ⟨0, 16, .ro, 0⟩]⟩ ]

/-- Registers of page SIDEBAND. -/
def regsSIDEBAND : List RDesc := [
  ⟨0x100, [], [⟨57, 7, .ro, 0⟩, ⟨50, 7, .ro, 0⟩, ⟨49, 1, .ro, 0⟩, ⟨44, 5, .ro, 0⟩, ⟨42, 2, .ro, 0⟩, ⟨34, 8, .rc, 0⟩, ⟨26, 8, .rc, 0⟩, ⟨18, 8, .rc, 0⟩, ⟨17, 1, .ro, 0⟩]⟩,
  ⟨0x108, [], [⟨63, 1, .w1c, 0⟩, ⟨62, 1, .ro, 0⟩, ⟨58, 4, .ro, 0⟩, ⟨50, 8, .rc, 0⟩, ⟨0, 25, .ro, 0⟩]⟩ ]

/-- Registers of page HOTPLUG. -/
def regsHOTPLUG : List RDesc := [
  ⟨0x100, [(48, 0x8)], [⟨35, 7, .rw, 0⟩, ⟨30, 5, .rw, 0⟩, ⟨25, 5, .rw, 0⟩, ⟨20, 5, .rw, 0⟩, ⟨15, 5, .rw, 0⟩, ⟨10, 5, .rw, 0⟩, ⟨5, 5, .rw, 0⟩]⟩ ]

/-- Registers of page RPU. -/
def regsRPU : List RDesc := [
  ⟨0x110, [], [⟨61, 3, .ro, 0⟩, ⟨57, 4, .ro, 0⟩, ⟨56, 1, .ro, 0⟩, ⟨51, 5, .ro, 0⟩, ⟨35, 16, .ro, 0⟩, ⟨0, 25, .ro, 0⟩]⟩,
  ⟨0x118, [], [⟨59, 5, .ro, 0⟩, ⟨53, 6, .ro, 0⟩, ⟨44, 9, .ro, 0⟩, ⟨40, 4, .ro, 0⟩, ⟨32, 8, .rc, 0⟩]⟩,
  ⟨0x1000, [(512, 0x8)], [⟨63, 1, .w1s, 0⟩, ⟨12, 3, .rwl, 0⟩, ⟨9, 3, .rwl, 0⟩, ⟨6, 3, .rwl, 0⟩, ⟨3, 3, .rwl, 0⟩, ⟨0, 3, .rwl, 0⟩]⟩ ]

/-- Registers of page ATTEST. -/
def regsATTEST : List RDesc := [
  ⟨0x100, [], [⟨63, 1, .ro, 0⟩, ⟨56, 4, .ro, 0⟩, ⟨48, 8, .rc, 0⟩, ⟨0, 36, .ro, 0⟩]⟩,
  ⟨0x108, [], [⟨63, 1, .w1s, 0⟩]⟩ ]

/-- Registers of page STN. -/
def regsSTN : List RDesc := [
  ⟨0x100, [], [⟨9, 1, .ro, 0⟩, ⟨0, 2, .rw, 0⟩]⟩,
  ⟨0x108, [], [⟨52, 4, .rw, 0xf⟩, ⟨0, 52, .rw, 0⟩]⟩,
  ⟨0x110, [(4, 0x8)], [⟨28, 4, .ro, 0⟩, ⟨27, 1, .ro, 0⟩, ⟨15, 1, .rw, 0⟩, ⟨14, 1, .rw, 0⟩, ⟨13, 1, .rw, 0⟩, ⟨12, 1, .rw, 1⟩, ⟨11, 1, .rw, 0⟩, ⟨6, 5, .rw, 0⟩, ⟨2, 4, .rw, 6⟩, ⟨0, 2, .rw, 0⟩]⟩,
  ⟨0x130, [(4, 0x8)], [⟨36, 4, .ro, 0⟩, ⟨32, 4, .ro, 0⟩, ⟨24, 5, .rw, 0⟩, ⟨8, 1, .rw, 0⟩, ⟨4, 1, .rw, 0⟩, ⟨3, 1, .w1s, 0⟩, ⟨2, 1, .w1s, 0⟩, ⟨1, 1, .w1s, 0⟩]⟩,
  ⟨0x150, [(4, 0x8)], [⟨52, 12, .ro, 0⟩, ⟨36, 16, .ro, 0⟩, ⟨28, 8, .ro, 0⟩, ⟨27, 1, .ro, 0⟩, ⟨26, 1, .ro, 0⟩, ⟨24, 2, .ro, 0⟩, ⟨23, 1, .ro, 0⟩, ⟨22, 1, .ro, 0⟩, ⟨21, 1, .ro, 0⟩, ⟨20, 1, .ro, 0⟩, ⟨15, 5, .ro, 0⟩, ⟨10, 5, .ro, 0⟩, ⟨6, 4, .ro, 0xf⟩, ⟨0, 5, .ro, 0⟩]⟩,
  ⟨0x200, [(4, 0x8)], [⟨32, 8, .rw, 0xa⟩, ⟨24, 8, .rw, 0x19⟩, ⟨16, 4, .rw, 4⟩, ⟨12, 4, .rw, 2⟩, ⟨0, 8, .rw, 0x10⟩]⟩,
  ⟨0x220, [(4, 0x8)], [⟨52, 12, .ro, 0⟩, ⟨40, 12, .ro, 0⟩, ⟨28, 12, .ro, 0⟩, ⟨24, 4, .ro, 0⟩, ⟨23, 1, .ro, 0⟩, ⟨22, 1, .ro, 0⟩, ⟨21, 1, .ro, 0⟩, ⟨20, 1, .ro, 0⟩, ⟨16, 4, .ro, 0⟩, ⟨0, 3, .ro, 0⟩]⟩,
  ⟨0x240, [(4, 0x18), (3, 0x8)], [⟨52, 12, .ro, 0⟩, ⟨36, 16, .ro, 0⟩, ⟨24, 12, .ro, 0⟩, ⟨8, 16, .ro, 0⟩]⟩ ]

/-- Registers of page PLANE. -/
def regsPLANE : List RDesc := [
  ⟨0x100, [], [⟨48, 8, .rc, 0⟩, ⟨32, 4, .ro, 5⟩, ⟨28, 4, .ro, 0⟩, ⟨12, 4, .ro, 0⟩, ⟨0, 3, .ro, 0⟩]⟩,
  ⟨0x200, [(14, 0x8)], [⟨34, 14, .ro, 0⟩, ⟨30, 4, .ro, 0⟩, ⟨26, 4, .ro, 0⟩, ⟨25, 1, .ro, 0⟩, ⟨24, 1, .ro, 0⟩, ⟨20, 4, .ro, 0⟩, ⟨0, 14, .ro, 0⟩]⟩ ]

/-- Registers of page BUF. -/
def regsBUF : List RDesc := [
  ⟨0x100, [], [⟨32, 21, .ro, 0x100000⟩, ⟨11, 21, .ro, 0⟩, ⟨7, 4, .ro, 8⟩, ⟨6, 1, .w1c, 0⟩]⟩,
  ⟨0x108, [], [⟨43, 21, .ro, 0⟩, ⟨22, 21, .ro, 0⟩, ⟨1, 21, .rc, 0⟩]⟩,
  ⟨0x110, [], [⟨16, 16, .rw, 0x64⟩, ⟨1, 1, .w1s, 0⟩, ⟨0, 1, .rw, 1⟩]⟩,
  ⟨0x118, [], [⟨44, 20, .ro, 0⟩, ⟨28, 16, .rc, 0⟩, ⟨20, 8, .rc, 0⟩, ⟨12, 8, .rc, 0⟩, ⟨4, 8, .rc, 0⟩, ⟨0, 1, .ro, 0⟩]⟩,
  ⟨0x120, [], [⟨16, 16, .rw, 0x400⟩, ⟨1, 7, .rw, 0⟩, ⟨0, 1, .w1s, 0⟩]⟩,
  ⟨0x128, [], [⟨49, 7, .ro, 0⟩, ⟨45, 4, .ro, 0⟩, ⟨42, 3, .ro, 0⟩, ⟨26, 16, .ro, 0⟩, ⟨12, 14, .ro, 0⟩, ⟨4, 8, .rc, 0⟩]⟩,
  ⟨0x200, [(48, 0x20), (4, 0x8)], [⟨32, 15, .sh, 0⟩, ⟨0, 15, .sh, 0⟩]⟩,
  ⟨0x800, [(48, 0x8)], [⟨48, 16, .sh, 0⟩, ⟨24, 21, .sh, 0⟩, ⟨0, 21, .sh, 0⟩]⟩,
  ⟨0x980, [(2, 0x8)], [⟨48, 16, .ro, 0⟩, ⟨24, 21, .ro, 0⟩, ⟨0, 21, .ro, 0⟩]⟩,
  ⟨0x1000, [(50, 0x20), (4, 0x8)], [⟨49, 15, .ro, 0⟩, ⟨34, 15, .ro, 0⟩, ⟨22, 12, .ro, 0⟩, ⟨6, 16, .ro, 0⟩, ⟨5, 1, .rc, 0⟩]⟩,
  ⟨0x1800, [(50, 0x8)], [⟨43, 21, .ro, 0⟩, ⟨22, 21, .ro, 0⟩, ⟨6, 16, .ro, 0⟩]⟩,
  ⟨0x2000, [(128, 0x8)], [⟨0, 8, .ro, 0⟩]⟩ ]

/-- Registers of page MCAST. -/
def regsMCAST : List RDesc := [
  ⟨0x100, [], [⟨16, 16, .rw, 0xa⟩, ⟨1, 1, .rw, 1⟩]⟩,
  ⟨0x108, [], [⟨0, 21, .sh, 0x4000⟩]⟩,
  ⟨0x110, [], [⟨43, 21, .ro, 0⟩, ⟨32, 11, .ro, 0⟩, ⟨16, 16, .rc, 0⟩]⟩,
  ⟨0x118, [], [⟨54, 10, .ro, 0⟩, ⟨53, 1, .ro, 0⟩, ⟨48, 5, .ro, 0⟩, ⟨42, 6, .ro, 0⟩, ⟨38, 4, .ro, 0⟩, ⟨0, 36, .ro, 0⟩]⟩,
  ⟨0x1000, [(1024, 0x8)], [⟨63, 1, .sh, 0⟩, ⟨0, 48, .sh, 0⟩]⟩,
  ⟨0x4000, [(24, 0x200), (64, 0x8)], [⟨63, 1, .ro, 0⟩, ⟨0, 48, .ro, 0⟩]⟩ ]

/-- Registers of page EGR. -/
def regsEGR : List RDesc := [
  ⟨0x100, [(4, 0x8)], [⟨18, 1, .ro, 0⟩, ⟨16, 2, .rw, 0⟩, ⟨0, 16, .rw, 0⟩]⟩,
  ⟨0x120, [(4, 0x8)], [⟨32, 9, .rw, 0⟩, ⟨24, 8, .rw, 0⟩, ⟨16, 8, .rw, 0x32⟩, ⟨2, 1, .w1s, 0⟩, ⟨1, 1, .w1s, 0⟩]⟩,
  ⟨0x140, [(4, 0x8)], [⟨0, 64, .rw, 0⟩]⟩,
  ⟨0x160, [(4, 0x8)], [⟨56, 8, .rc, 0⟩, ⟨48, 8, .rc, 0⟩, ⟨31, 9, .ro, 0⟩, ⟨23, 8, .ro, 0⟩, ⟨19, 4, .ro, 0⟩, ⟨17, 2, .ro, 0⟩, ⟨16, 1, .ro, 0⟩, ⟨15, 1, .w1c, 0⟩, ⟨14, 1, .w1c, 0⟩, ⟨0, 8, .ro, 0xff⟩]⟩,
  ⟨0x180, [(4, 0x8)], [⟨0, 64, .ro, 0⟩]⟩,
  ⟨0x1a0, [(4, 0x8)], [⟨24, 8, .ro, 0xff⟩, ⟨16, 8, .rc, 0⟩]⟩,
  ⟨0x1000, [(4, 0x200), (64, 0x8)], [⟨16, 3, .rw, 0⟩, ⟨0, 12, .rw, 0x42⟩]⟩,
  ⟨0x1800, [(4, 0x200), (64, 0x8)], [⟨32, 20, .rw, 0⟩, ⟨16, 16, .rw, 0x42⟩]⟩,
  ⟨0x2000, [(4, 0x200), (64, 0x8)], [⟨45, 19, .ro, 0⟩, ⟨21, 24, .ro, 0x1080⟩, ⟨8, 12, .ro, 0⟩, ⟨3, 1, .ro, 0⟩, ⟨2, 1, .ro, 0⟩, ⟨1, 1, .ro, 0⟩, ⟨0, 1, .ro, 0⟩]⟩,
  ⟨0x4000, [(4, 0x800), (256, 0x8)], [⟨8, 24, .rw, 0⟩, ⟨0, 8, .rw, 0⟩]⟩,
  ⟨0x6000, [(4, 0x800), (256, 0x8)], [⟨8, 24, .ro, 0⟩, ⟨0, 8, .ro, 0⟩]⟩ ]

/-- Registers of a shunting yard (R193). -/
def regsYARD : List RDesc := [
  ⟨0xf00, [], [⟨0, 4, .rw, 0⟩]⟩,
  ⟨0xf08, [], [⟨48, 10, .ro, 0⟩, ⟨38, 10, .rc, 0⟩, ⟨30, 8, .rc, 0⟩, ⟨22, 8, .rc, 0⟩, ⟨14, 8, .rc, 0⟩]⟩,
  ⟨0xf10, [], [⟨60, 4, .ro, 0⟩, ⟨56, 4, .ro, 0⟩, ⟨50, 6, .ro, 0⟩, ⟨40, 10, .ro, 0⟩, ⟨37, 3, .ro, 0⟩, ⟨0, 36, .ro, 0⟩]⟩ ]

/-- Registers of page XLAT. -/
def regsXLAT : List RDesc := [
  ⟨0x100, [], [⟨62, 2, .wo, 0⟩, ⟨0, 19, .wo, 0⟩]⟩,
  ⟨0x108, [], [⟨1, 1, .w1s, 0⟩, ⟨0, 1, .w1s, 0⟩]⟩,
  ⟨0x110, [], [⟨29, 19, .ro, 0⟩, ⟨20, 9, .ro, 0⟩, ⟨15, 5, .ro, 0⟩, ⟨11, 4, .ro, 0⟩, ⟨9, 2, .ro, 0⟩, ⟨8, 1, .w1c, 0⟩, ⟨7, 1, .w1c, 0⟩, ⟨6, 1, .w1c, 0⟩, ⟨3, 3, .ro, 0⟩]⟩,
  ⟨0x118, [], [⟨8, 16, .ro, 0⟩, ⟨2, 1, .ro, 0⟩, ⟨1, 1, .w1s, 0⟩, ⟨0, 1, .rw, 1⟩]⟩,
  ⟨0x140, [(8, 0x8)], [⟨0, 64, .rw, 0⟩]⟩,
  ⟨0x1000, [(24, 0xc0), (8, 0x18)], [⟨12, 52, .sh, 0⟩]⟩,
  ⟨0x1008, [(24, 0xc0), (8, 0x18)], [⟨63, 1, .sh, 0⟩, ⟨50, 6, .sh, 0⟩, ⟨42, 6, .sh, 0⟩, ⟨0, 19, .sh, 0⟩]⟩,
  ⟨0x1010, [(24, 0xc0), (8, 0x18)], [⟨49, 1, .sh, 0⟩, ⟨0, 48, .sh, 0⟩]⟩ ]

/-- Registers of page ROUTE. -/
def regsROUTE : List RDesc := [
  ⟨0x100, [], [⟨12, 1, .ro, 0⟩, ⟨0, 12, .rw, 0⟩]⟩,
  ⟨0x108, [], [⟨0, 48, .sh, 0⟩]⟩,
  ⟨0x110, [], [⟨16, 5, .rw, 0x10⟩, ⟨0, 13, .sh, 0⟩]⟩,
  ⟨0x118, [], [⟨56, 8, .rc, 0⟩, ⟨48, 8, .rc, 0⟩, ⟨40, 8, .rc, 0⟩, ⟨32, 8, .rc, 0⟩, ⟨24, 8, .rc, 0⟩, ⟨12, 12, .ro, 0⟩, ⟨0, 12, .ro, 0⟩]⟩,
  ⟨0x800, [(24, 0x8)], [⟨63, 1, .rw, 0⟩, ⟨62, 1, .ro, 0⟩, ⟨56, 6, .rw, 0⟩, ⟨48, 6, .rw, 0⟩, ⟨45, 3, .ro, 0⟩, ⟨32, 8, .rc, 0⟩, ⟨16, 16, .ro, 0⟩, ⟨0, 16, .ro, 0⟩]⟩,
  ⟨0x8000, [(4096, 0x8)], [⟨63, 1, .sh, 0⟩, ⟨61, 2, .sh, 0⟩, ⟨18, 6, .sh, 0⟩, ⟨12, 6, .sh, 0⟩, ⟨6, 6, .sh, 0⟩, ⟨0, 6, .sh, 0⟩]⟩ ]

/-- Registers of page GW. -/
def regsGW : List RDesc := [
  ⟨0x100, [], [⟨32, 21, .rw, 0x20000⟩, ⟨16, 14, .rw, 0x1000⟩, ⟨0, 14, .rw, 0x400⟩]⟩,
  ⟨0x108, [], [⟨0, 26, .rw, 0x2710⟩]⟩,
  ⟨0x110, [], [⟨0, 27, .rw, 0⟩]⟩,
  ⟨0x118, [], [⟨0, 17, .rw, 0x3e8⟩]⟩,
  ⟨0x120, [], [⟨32, 1, .rw, 1⟩, ⟨0, 24, .rw, 0⟩]⟩,
  ⟨0x128, [], [⟨50, 14, .ro, 0⟩, ⟨36, 14, .ro, 0⟩, ⟨22, 14, .ro, 0⟩, ⟨8, 14, .ro, 0⟩, ⟨0, 8, .ro, 0⟩]⟩,
  ⟨0x130, [], [⟨43, 21, .ro, 0⟩, ⟨35, 8, .rc, 0⟩, ⟨27, 8, .rc, 0⟩, ⟨19, 8, .rc, 0⟩, ⟨11, 8, .rc, 0⟩, ⟨3, 8, .rc, 0⟩]⟩,
  ⟨0x138, [], [⟨48, 16, .rc, 0⟩, ⟨8, 9, .ro, 0⟩, ⟨0, 8, .ro, 0⟩]⟩,
  ⟨0x140, [], [⟨0, 9, .wo, 0⟩]⟩,
  ⟨0x200, [(24, 0x8)], [⟨16, 1, .ro, 0⟩, ⟨0, 16, .ro, 0⟩]⟩,
  ⟨0x300, [(48, 0x8)], [⟨6, 1, .rw, 0⟩, ⟨3, 3, .rw, 0⟩, ⟨0, 2, .rw, 0⟩]⟩,
  ⟨0x2000, [(256, 0x20)], [⟨63, 1, .ro, 0⟩, ⟨62, 1, .ro, 0⟩, ⟨58, 4, .ro, 0⟩, ⟨46, 12, .ro, 0⟩, ⟨34, 12, .ro, 0⟩, ⟨28, 6, .ro, 0⟩, ⟨23, 5, .ro, 0⟩, ⟨18, 5, .ro, 0⟩, ⟨15, 3, .ro, 0⟩, ⟨0, 15, .ro, 0⟩]⟩,
  ⟨0x2008, [(256, 0x20)], [⟨2, 62, .ro, 0⟩]⟩,
  ⟨0x2010, [(256, 0x20)], [⟨28, 36, .ro, 0⟩, ⟨0, 28, .ro, 0⟩]⟩,
  ⟨0x2018, [(256, 0x20)], [⟨48, 16, .ro, 0⟩, ⟨35, 13, .ro, 0⟩, ⟨0, 24, .ro, 0⟩]⟩,
  ⟨0x4000, [(24, 0x200), (64, 0x8)], [⟨63, 1, .rw, 0⟩, ⟨0, 10, .rw, 0⟩]⟩ ]

/-- Registers of page VH. -/
def regsVH : List RDesc := [
  ⟨0x100, [], [⟨32, 16, .rw, 0x1388⟩, ⟨16, 16, .rw, 0x64⟩, ⟨2, 1, .rw, 0⟩, ⟨1, 1, .rw, 1⟩]⟩,
  ⟨0x110, [], [⟨63, 1, .w1s, 0⟩, ⟨60, 3, .rw, 0⟩, ⟨58, 2, .rw, 0⟩, ⟨53, 5, .rw, 0⟩, ⟨48, 5, .rw, 0⟩, ⟨42, 6, .rw, 0⟩, ⟨32, 10, .rw, 0⟩, ⟨28, 4, .ro, 0⟩, ⟨24, 4, .ro, 0⟩]⟩,
  ⟨0x118, [], [⟨0, 24, .rw, 0⟩]⟩,
  ⟨0x200, [(24, 0x8)], [⟨63, 1, .rw, 0⟩, ⟨62, 1, .rw, 0⟩, ⟨61, 1, .ro, 0⟩, ⟨57, 4, .ro, 0⟩, ⟨48, 3, .ro, 0⟩, ⟨32, 6, .rw, 0⟩]⟩,
  ⟨0x400, [(24, 0x100), (32, 0x8)], [⟨61, 3, .ro, 0⟩, ⟨59, 2, .ro, 0⟩, ⟨53, 6, .ro, 0⟩, ⟨43, 10, .ro, 0⟩, ⟨35, 8, .ro, 0⟩]⟩,
  ⟨0x8000, [(1024, 0x20)], [⟨63, 1, .rw, 0⟩, ⟨60, 3, .ro, 0⟩, ⟨54, 6, .rw, 0⟩, ⟨49, 5, .ro, 0⟩, ⟨44, 5, .ro, 0⟩, ⟨43, 1, .w1c, 0⟩, ⟨16, 16, .rw, 0⟩]⟩,
  ⟨0x8008, [(1024, 0x20), (3, 0x8)], [⟨12, 52, .rw, 0⟩, ⟨6, 6, .rw, 0⟩, ⟨5, 1, .rw, 0⟩]⟩ ]

/-- Registers of page CTX. -/
def regsCTX : List RDesc := [
  ⟨0x100, [], [⟨0, 48, .rw, 0⟩]⟩,
  ⟨0x108, [], [⟨63, 1, .w1s, 0⟩, ⟨60, 3, .rw, 0⟩, ⟨59, 1, .rw, 0⟩, ⟨56, 3, .ro, 0⟩, ⟨0, 18, .rw, 0⟩]⟩,
  ⟨0x110, [], [⟨45, 19, .ro, 0⟩]⟩,
  ⟨0x200, [(32, 0x8)], [⟨0, 64, .rw, 0⟩]⟩ ]

/-- Registers of page DIRTY. -/
def regsDIRTY : List RDesc := [
  ⟨0x100, [], [⟨63, 1, .rw, 0⟩, ⟨32, 16, .rw, 0x100⟩]⟩,
  ⟨0x108, [], [⟨63, 1, .w1s, 0⟩, ⟨62, 1, .w1s, 0⟩, ⟨61, 1, .w1s, 0⟩, ⟨60, 1, .rw, 0⟩, ⟨57, 3, .rw, 0⟩, ⟨52, 5, .rw, 0⟩, ⟨44, 8, .rw, 0⟩, ⟨40, 4, .ro, 0⟩, ⟨37, 3, .ro, 0⟩, ⟨33, 4, .ro, 0⟩, ⟨32, 1, .rw, 1⟩]⟩,
  ⟨0x110, [], [⟨12, 52, .rw, 0⟩]⟩,
  ⟨0x118, [], [⟨48, 16, .ro, 0⟩, ⟨40, 8, .rc, 0⟩]⟩,
  ⟨0x120, [], [⟨0, 20, .rw, 0⟩]⟩,
  ⟨0x1000, [(256, 0x10)], [⟨12, 52, .rw, 0⟩, ⟨11, 1, .rw, 0⟩, ⟨10, 1, .rw, 0⟩, ⟨8, 2, .rw, 0⟩, ⟨7, 1, .ro, 0⟩, ⟨2, 1, .ro, 0⟩]⟩,
  ⟨0x1008, [(256, 0x10)], [⟨32, 32, .rw, 0⟩, ⟨0, 20, .rw, 0⟩]⟩ ]

/-- Registers of page HUT. -/
def regsHUT : List RDesc := [
  ⟨0x100, [], [⟨16, 12, .rw, 0x100⟩, ⟨0, 16, .rw, 0x40⟩]⟩,
  ⟨0x108, [], [⟨0, 24, .rw, 0x2710⟩]⟩,
  ⟨0x110, [], [⟨10, 6, .ro, 0⟩, ⟨4, 4, .ro, 0⟩, ⟨0, 2, .ro, 0⟩]⟩,
  ⟨0x118, [], [⟨52, 12, .ro, 0⟩, ⟨44, 8, .rc, 0⟩, ⟨36, 8, .rc, 0⟩, ⟨28, 8, .rc, 0⟩, ⟨20, 8, .ro, 0⟩]⟩,
  ⟨0x120, [], [⟨63, 1, .w1s, 0⟩, ⟨62, 1, .ro, 0⟩, ⟨36, 12, .rw, 0⟩, ⟨12, 11, .rw, 0⟩]⟩,
  ⟨0x200, [(64, 0x10)], [⟨63, 1, .sh, 0⟩, ⟨62, 1, .sh, 0⟩, ⟨61, 1, .sh, 0⟩, ⟨60, 1, .sh, 0⟩, ⟨59, 1, .sh, 0⟩, ⟨36, 12, .sh, 0⟩, ⟨12, 11, .sh, 0⟩]⟩,
  ⟨0x208, [(64, 0x10)], [⟨24, 24, .sh, 0⟩, ⟨0, 24, .sh, 0⟩]⟩,
  ⟨0x600, [(24, 0x8)], [⟨63, 1, .rw, 1⟩, ⟨0, 24, .rw, 0⟩]⟩ ]

/-- Registers of page MEMC. -/
def regsMEMC : List RDesc := [
  ⟨0x100, [], [⟨16, 8, .rw, 0x18⟩, ⟨0, 1, .rw, 1⟩]⟩,
  ⟨0x108, [], [⟨48, 16, .rc, 0⟩, ⟨40, 8, .rc, 0⟩, ⟨32, 8, .rc, 0⟩, ⟨0, 32, .ro, 0⟩]⟩,
  ⟨0x110, [(4, 0x8)], [⟨32, 11, .ro, 0x400⟩, ⟨0, 16, .ro, 0⟩]⟩ ]

/-- Registers of page ERR. -/
def regsERR : List RDesc := [
  ⟨0x100, [], [⟨63, 1, .w1s, 0⟩, ⟨60, 3, .rw, 0⟩, ⟨58, 2, .rw, 0⟩, ⟨48, 10, .rw, 0⟩, ⟨45, 3, .ro, 0⟩, ⟨41, 4, .ro, 0⟩, ⟨40, 1, .rw, 0⟩]⟩,
  ⟨0x108, [], [⟨48, 16, .rws, 0⟩, ⟨0, 36, .rws, 0⟩]⟩,
  ⟨0x110, [], [⟨48, 16, .rc, 0⟩, ⟨32, 16, .rc, 0⟩, ⟨16, 16, .rc, 0⟩, ⟨0, 16, .rc, 0⟩]⟩,
  ⟨0x118, [], [⟨56, 8, .rc, 0⟩, ⟨10, 2, .ro, 2⟩, ⟨8, 2, .ro, 0⟩, ⟨0, 1, .ro, 0⟩]⟩,
  ⟨0x200, [(48, 0x8)], [⟨63, 1, .ro, 0⟩, ⟨62, 1, .ro, 0⟩, ⟨61, 1, .ro, 0⟩, ⟨60, 1, .ro, 0⟩, ⟨59, 1, .ro, 0⟩, ⟨43, 16, .ro, 0⟩, ⟨0, 32, .rc, 0⟩]⟩,
  ⟨0x1000, [(128, 0x8)], [⟨63, 1, .rw, 0⟩, ⟨32, 16, .rw, 0⟩, ⟨24, 8, .rw, 0⟩, ⟨9, 1, .rw, 0⟩, ⟨8, 1, .rw, 0⟩, ⟨5, 1, .rw, 0⟩]⟩ ]

/-- Registers of page LOG. -/
def regsLOG : List RDesc := [
  ⟨0x100, [], [⟨63, 1, .rw, 1⟩, ⟨62, 1, .rw, 0⟩, ⟨32, 16, .rw, 0x3e8⟩, ⟨16, 16, .rw, 0x64⟩, ⟨2, 1, .rw, 1⟩, ⟨1, 1, .rw, 1⟩, ⟨0, 1, .rw, 0⟩]⟩,
  ⟨0x108, [], [⟨63, 1, .ro, 0⟩, ⟨0, 14, .rw, 0x2000⟩]⟩,
  ⟨0x110, [], [⟨0, 13, .rw, 0x400⟩]⟩,
  ⟨0x118, [], [⟨16, 8, .rw, 0xc0⟩, ⟨8, 8, .rw, 0x30⟩, ⟨0, 8, .rw, 0x10⟩]⟩,
  ⟨0x120, [], [⟨48, 16, .ro, 1⟩, ⟨37, 11, .ro, 0⟩, ⟨28, 9, .ro, 0⟩]⟩,
  ⟨0x128, [], [⟨32, 32, .ro, 0⟩, ⟨0, 32, .ro, 0⟩]⟩,
  ⟨0x130, [], [⟨48, 16, .rc, 0⟩, ⟨32, 16, .rc, 0⟩, ⟨16, 16, .rc, 0⟩, ⟨0, 16, .rc, 0⟩]⟩,
  ⟨0x138, [], [⟨63, 1, .w1s, 0⟩, ⟨62, 1, .rws, 1⟩, ⟨61, 1, .rws, 0⟩, ⟨32, 16, .rws, 0⟩, ⟨0, 13, .rws, 0⟩]⟩,
  ⟨0x140, [], [⟨62, 2, .rw, 0⟩, ⟨0, 24, .rw, 0⟩]⟩,
  ⟨0x148, [], [⟨63, 1, .rw, 0⟩, ⟨62, 1, .rw, 1⟩, ⟨59, 3, .rw, 0⟩, ⟨54, 5, .rw, 0⟩, ⟨50, 4, .rw, 0xe⟩, ⟨45, 5, .rw, 0x10⟩, ⟨42, 3, .ro, 0⟩]⟩,
  ⟨0x150, [], [⟨12, 52, .rw, 0⟩]⟩,
  ⟨0x158, [], [⟨0, 32, .rw, 0⟩]⟩,
  ⟨0x160, [], [⟨63, 1, .rw, 0⟩, ⟨56, 4, .rw, 8⟩, ⟨0, 12, .rw, 0⟩]⟩,
  ⟨0x168, [], [⟨63, 1, .w1s, 0⟩, ⟨0, 16, .rw, 0⟩]⟩,
  ⟨0x170, [(4, 0x8)], [⟨0, 64, .rw, 0⟩]⟩ ]

/-- Registers of page PMU. -/
def regsPMU : List RDesc := [
  ⟨0x200, [(32, 0x8)], [⟨0, 64, .rw, 0⟩]⟩,
  ⟨0x8000, [(4096, 0x8)], [⟨0, 40, .ro, 0⟩]⟩ ]

/-- Registers of page TRACE. -/
def regsTRACE : List RDesc := [
  ⟨0x100, [], [⟨63, 1, .rw, 0⟩, ⟨62, 1, .rw, 0⟩, ⟨48, 5, .rw, 0x10⟩, ⟨41, 7, .rw, 0x7f⟩, ⟨0, 32, .rw, 1⟩]⟩,
  ⟨0x108, [], [⟨0, 50, .rw, 0x3ffffffffffff⟩]⟩,
  ⟨0x110, [], [⟨63, 1, .ro, 0⟩, ⟨32, 14, .rw, 0x100⟩, ⟨0, 14, .rw, 0x2400⟩]⟩,
  ⟨0x118, [], [⟨32, 32, .ro, 0⟩, ⟨31, 1, .ro, 0⟩, ⟨8, 9, .ro, 0⟩]⟩,
  ⟨0x120, [], [⟨0, 24, .rw, 0⟩]⟩ ]

/-- Registers of page REPAIR. -/
def regsREPAIR : List RDesc := [
  ⟨0x100, [], [⟨8, 8, .rw, 0x10⟩, ⟨0, 1, .rw, 1⟩]⟩,
  ⟨0x108, [], [⟨53, 11, .ro, 0⟩, ⟨42, 11, .ro, 0⟩, ⟨41, 1, .ro, 0⟩, ⟨40, 1, .ro, 0⟩, ⟨0, 36, .ro, 0⟩]⟩,
  ⟨0x1000, [(1024, 0x8)], [⟨63, 1, .ro, 0⟩, ⟨59, 4, .ro, 0⟩, ⟨55, 4, .ro, 0⟩, ⟨51, 4, .ro, 0⟩, ⟨35, 16, .ro, 0⟩, ⟨11, 24, .ro, 0⟩]⟩ ]

/-- Registers of page AGE. -/
def regsAGE : List RDesc := [
  ⟨0x100, [], [⟨63, 1, .rw, 1⟩, ⟨62, 1, .w1s, 0⟩, ⟨48, 8, .rw, 6⟩, ⟨40, 3, .rw, 2⟩, ⟨32, 8, .rw, 8⟩, ⟨16, 16, .rw, 0x100⟩, ⟨8, 8, .rw, 0x14⟩]⟩,
  ⟨0x108, [], [⟨48, 16, .ro, 0⟩, ⟨36, 12, .ro, 0⟩, ⟨32, 4, .ro, 0⟩, ⟨29, 1, .ro, 0⟩, ⟨28, 1, .w1c, 0⟩, ⟨0, 3, .ro, 0⟩]⟩,
  ⟨0x110, [], [⟨58, 6, .ro, 0⟩, ⟨52, 6, .ro, 0⟩, ⟨46, 6, .ro, 0⟩, ⟨40, 6, .ro, 0⟩, ⟨32, 8, .rc, 0⟩, ⟨31, 1, .ro, 0⟩]⟩,
  ⟨0x118, [], [⟨40, 24, .ro, 0⟩, ⟨16, 24, .ro, 0x15630⟩, ⟨1, 1, .ro, 0⟩, ⟨0, 1, .ro, 0⟩]⟩,
  ⟨0x200, [(6, 0x8)], [⟨61, 3, .ro, 0⟩, ⟨40, 16, .rc, 0⟩, ⟨32, 6, .ro, 0⟩]⟩,
  ⟨0x300, [(24, 0x8)], [⟨48, 16, .ro, 0⟩, ⟨32, 16, .ro, 0⟩, ⟨16, 16, .ro, 0⟩]⟩,
  ⟨0x400, [(48, 0x8)], [⟨0, 12, .ro, 0⟩]⟩,
  ⟨0x600, [(16, 0x8)], [⟨0, 12, .ro, 0⟩]⟩ ]

/-- Registers of page BUDGET. -/
def regsBUDGET : List RDesc := [
  ⟨0x100, [(8, 0x8)], [⟨32, 14, .rw, 0⟩, ⟨0, 12, .rw, 0⟩]⟩,
  ⟨0x140, [(8, 0x8)], [⟨48, 16, .rc, 0⟩, ⟨34, 14, .ro, 0⟩, ⟨22, 12, .ro, 0⟩]⟩,
  ⟨0x180, [], [⟨16, 48, .ro, 0⟩, ⟨0, 1, .ro, 0⟩]⟩ ]

/-- Registers of page LANE. -/
def regsLANE : List RDesc := [
  ⟨0x100, [], [⟨40, 1, .ro, 0⟩, ⟨39, 1, .rw, 0⟩, ⟨32, 5, .ro, 0x1f⟩, ⟨24, 7, .rw, 0x40⟩, ⟨16, 6, .rw, 0⟩, ⟨8, 6, .rw, 0⟩, ⟨0, 6, .rw, 0⟩]⟩,
  ⟨0x108, [], [⟨24, 8, .rw, 0⟩, ⟨20, 4, .rw, 3⟩, ⟨16, 4, .rw, 6⟩, ⟨6, 5, .rw, 0x10⟩, ⟨5, 1, .rw, 0⟩, ⟨4, 1, .rw, 1⟩, ⟨2, 1, .rw, 1⟩, ⟨1, 1, .w1s, 0⟩, ⟨0, 1, .rw, 0⟩]⟩,
  ⟨0x110, [], [⟨56, 8, .ro, 0⟩, ⟨48, 8, .rc, 0xff⟩, ⟨35, 5, .ro, 0x10⟩, ⟨28, 7, .ro, 0⟩, ⟨20, 8, .rc, 0⟩, ⟨12, 4, .ro, 0⟩, ⟨8, 4, .ro, 0xf⟩, ⟨3, 1, .ro, 0⟩, ⟨2, 1, .ro, 0⟩, ⟨0, 2, .ro, 0⟩]⟩,
  ⟨0x118, [], [⟨36, 4, .rw, 0⟩, ⟨4, 4, .rw, 0⟩, ⟨3, 1, .rw, 0⟩, ⟨1, 1, .ro, 0⟩, ⟨0, 1, .rw, 0⟩]⟩,
  ⟨0x120, [], [⟨0, 64, .rw, 0⟩]⟩,
  ⟨0x128, [], [⟨0, 16, .rw, 0⟩]⟩,
  ⟨0x130, [], [⟨8, 8, .rc, 0⟩, ⟨4, 4, .rw, 0⟩, ⟨3, 1, .rw, 0⟩, ⟨2, 1, .ro, 0⟩, ⟨1, 1, .w1s, 0⟩, ⟨0, 1, .rw, 0⟩]⟩,
  ⟨0x138, [], [⟨63, 1, .ro, 0⟩, ⟨0, 48, .ro, 0⟩]⟩,
  ⟨0x140, [], [⟨63, 1, .ro, 0⟩, ⟨0, 48, .ro, 0⟩]⟩,
  ⟨0x148, [], [⟨63, 1, .ro, 0⟩, ⟨0, 48, .ro, 0⟩]⟩,
  ⟨0x150, [], [⟨24, 32, .rw, 0⟩, ⟨16, 8, .rw, 0⟩, ⟨8, 8, .rc, 0⟩, ⟨4, 2, .rw, 0⟩, ⟨1, 1, .rw, 0⟩, ⟨0, 1, .rw, 0⟩]⟩,
  ⟨0x158, [], [⟨5, 1, .ro, 0⟩, ⟨4, 1, .ro, 0⟩, ⟨3, 1, .rw, 1⟩, ⟨0, 3, .rw, 0⟩]⟩,
  ⟨0x160, [], [⟨41, 7, .rw, 0⟩, ⟨34, 7, .rw, 0⟩, ⟨16, 16, .rw, 0⟩, ⟨12, 4, .rw, 4⟩, ⟨8, 2, .rw, 0⟩, ⟨4, 1, .rw, 0⟩, ⟨0, 1, .rw, 0⟩]⟩,
  ⟨0x168, [], [⟨32, 16, .ro, 0⟩, ⟨8, 24, .ro, 0⟩, ⟨2, 2, .ro, 0⟩, ⟨0, 1, .ro, 0⟩]⟩,
  ⟨0x200, [(20, 0x8)], [⟨0, 16, .ro, 0⟩]⟩,
  ⟨0x400, [(64, 0x8)], [⟨31, 1, .ro, 0⟩, ⟨8, 8, .ro, 0⟩, ⟨0, 8, .ro, 0⟩]⟩ ]

/-- The registers of a page, header included; none for a page outside the page map (R446, R485). MSIX (0x1F0) has none here: its table is
per VH. -/
def pageRegs (page : Nat) : Option (List RDesc) :=

  if page = 0x0 then some (regsHDR ++ regsCHIP ++ regsYARD) else
  if page = 0x1 then some (regsHDR ++ regsCLK) else
  if page = 0x2 then some (regsHDR ++ regsPWR) else
  if page = 0x3 then some (regsHDR ++ regsTIME) else
  if page = 0x4 then some (regsHDR) else
  if page = 0x5 then some (regsHDR ++ regsFLASH) else
  if page = 0x6 then some (regsHDR ++ regsSIDEBAND) else
  if page = 0x7 then some (regsHDR ++ regsHOTPLUG) else
  if page = 0x8 then some (regsHDR ++ regsRPU) else
  if page = 0x9 then some (regsHDR ++ regsATTEST) else
  if 0x10 ≤ page ∧ page ≤ 0x1b then some (regsHDR ++ regsSTN) else
  if 0x20 ≤ page ∧ page ≤ 0x24 then some (regsHDR ++ regsPLANE) else
  if page = 0x28 then some (regsHDR ++ regsBUF) else
  if page = 0x29 then some (regsHDR ++ regsMCAST) else
  if 0x30 ≤ page ∧ page ≤ 0x3b then some (regsHDR ++ regsEGR ++ regsYARD) else
  if page = 0x40 then some (regsHDR ++ regsXLAT) else
  if page = 0x41 then some (regsHDR ++ regsROUTE) else
  if page = 0x42 then some (regsHDR ++ regsGW) else
  if page = 0x43 then some (regsHDR ++ regsVH) else
  if page = 0x44 then some (regsHDR ++ regsCTX) else
  if page = 0x45 then some (regsHDR ++ regsDIRTY) else
  if page = 0x48 then some (regsHDR ++ regsHUT ++ regsYARD) else
  if page = 0x50 then some (regsHDR ++ regsMEMC) else
  if page = 0x58 then some (regsHDR ++ regsERR) else
  if page = 0x59 then some (regsHDR ++ regsLOG) else
  if page = 0x5a then some (regsHDR ++ regsPMU) else
  if page = 0x5b then some (regsHDR ++ regsTRACE) else
  if page = 0x60 then some (regsHDR ++ regsREPAIR) else
  if page = 0x61 then some (regsHDR ++ regsAGE) else
  if page = 0x62 then some (regsHDR ++ regsBUDGET) else
  if 0x100 ≤ page ∧ page ≤ 0x1bf then some (regsHDR ++ regsLANE) else
  none

/-- The register at an offset (8 B aligned) of a page. -/
def regAt (page off : Nat) : Option RDesc :=
  ((pageRegs page).getD []).find? fun r => decide (r.off ≤ off) && RDesc.hits r.dims (off - r.off)

/-- The field that starts at a bit of a register, as an `Fld`. -/
def FDesc.toFld (d : FDesc) (page off : Nat) : Fld := fld page off d.lo d.width (specialRst page off d.lo d.rst)

/-- The access type of the field a key names. -/
def accOfKey (key : Nat) : Option Acc :=
  let page := key / 4194304
  let off := key / 64 % 65536
  (regAt page off).bind fun r => (r.fields.find? fun d => d.lo == key % 64).map FDesc.acc

/-- Is the page in the page map (R485), MSIX included? -/
def pageMapped (page : Nat) : Bool := (pageRegs page).isSome || page == 0x1F0

/-- Pages with SH registers: XLAT, ROUTE, BUF, MCAST and HUT (R481). -/
def hasShadow (page : Nat) : Bool := page == 0x040 || page == 0x041 || page == 0x028 || page == 0x029 || page == 0x048

end Sys2Proof.Machine
end

