-- ==== Sys2Proof/Machine/Events.lean ====
section
/-! DEFINITION. The catalogue of events (12_errors_containment.md R339 to R342): codes, classes, AER column. -/
namespace Sys2Proof.Machine

/-- The five classes of R339. -/
inductive EClass where
  | c | t | p | d | f
deriving DecidableEq, Repr

/-- The AER column of R342; `caNp` and `urNp` are the entries that hold for non-posted requests only. -/
inductive AerKind where
  | none | ur | ca | acs | fcp | dlp | ecrc | uc | linkCe | cie | uie | dpc | caNp | urNp | mcb | mal
deriving DecidableEq, Repr

/-- One row of R342. -/
structure EvRow where
  code : Nat
  cls : EClass
  aer : AerKind
deriving DecidableEq, Repr

def Ev.CLK_LOSS : Nat := 0x0101
def Ev.TEMP_WARN : Nat := 0x0201
def Ev.VOLT_WARN : Nat := 0x0202
def Ev.TIME_UNSYNC : Nat := 0x0301
def Ev.GUIDE_MISMATCH : Nat := 0x0401
def Ev.GUIDE_DOWN : Nat := 0x0402
def Ev.FLASH_REC_BAD : Nat := 0x0501
def Ev.IMAGE_BAD : Nat := 0x0502
def Ev.SB_FAR_ERR : Nat := 0x0601
def Ev.SB_LOCK_BREAK : Nat := 0x0602
def Ev.HP_EXP_ERR : Nat := 0x0701
def Ev.SURPRISE_REMOVAL : Nat := 0x0702
def Ev.RPU_DENY : Nat := 0x0801
def Ev.DEBUG_DENY : Nat := 0x0802
def Ev.SPDM_FAIL : Nat := 0x0901
def Ev.FEC_CORR : Nat := 0x1001
def Ev.FLIT_BAD : Nat := 0x1002
def Ev.PCIE_LINK_CE : Nat := 0x1003
def Ev.LINK_ERROR : Nat := 0x1004
def Ev.HLL_PROTO : Nat := 0x1005
def Ev.DLL_PROTO : Nat := 0x1006
def Ev.FC_OVERRUN : Nat := 0x1007
def Ev.TRAIN_FAIL : Nat := 0x1008
def Ev.WIDTH_NARROW : Nat := 0x1009
def Ev.CONV_FAIL : Nat := 0x100A
def Ev.LINK_DOWN : Nat := 0x100B
def Ev.LL_STATE_LOST : Nat := 0x100C
def Ev.ROPE_FAILOVER : Nat := 0x100D
def Ev.ROPE_MISMATCH : Nat := 0x100E
def Ev.TAIL_ABORT_RX : Nat := 0x100F
def Ev.DUP_PSN : Nat := 0x1010
def Ev.PLANE_CE : Nat := 0x2001
def Ev.CORE_TIMEOUT : Nat := 0x2002
def Ev.PLANE_SUSPECT : Nat := 0x2003
def Ev.PLANE_RETIRE : Nat := 0x2004
def Ev.PLANE_LAST : Nat := 0x2005
def Ev.NULL_LINK_LOST : Nat := 0x2006
def Ev.NULL_UE : Nat := 0x2007
def Ev.NULL_ECRC : Nat := 0x2008
def Ev.NULL_PARTNER : Nat := 0x2009
def Ev.BUF_CE : Nat := 0x2801
def Ev.BUF_POISON : Nat := 0x2802
def Ev.BUF_LEAK : Nat := 0x2803
def Ev.BUF_FREE_CONFLICT : Nat := 0x2804
def Ev.BUF_REF_FIX : Nat := 0x2805
def Ev.BANK_RETIRE : Nat := 0x2806
def Ev.BANK_LOST : Nat := 0x2807
def Ev.BUF_CAPACITY : Nat := 0x2808
def Ev.MC_LOSS : Nat := 0x2901
def Ev.MC_EMPTY : Nat := 0x2902
def Ev.CT_UNDERRUN : Nat := 0x3001
def Ev.YARD_DUP : Nat := 0x3002
def Ev.GATE_OVERRUN : Nat := 0x3003
def Ev.Q_MISMATCH : Nat := 0x3004
def Ev.XLAT_NO_WIN : Nat := 0x4001
def Ev.XLAT_CROSS : Nat := 0x4002
def Ev.XLAT_PERM : Nat := 0x4003
def Ev.XLAT_AT : Nat := 0x4004
def Ev.XLAT_UNBOUND : Nat := 0x4005
def Ev.XLAT_LOCK : Nat := 0x4006
def Ev.XLAT_IDE : Nat := 0x4007
def Ev.XLAT_UE : Nat := 0x4008
def Ev.NATIVE_OVL : Nat := 0x4009
def Ev.ACS_VIOL : Nat := 0x400A
def Ev.FLOW_MOVE : Nat := 0x4101
def Ev.FAB_DROP_1 : Nat := 0x4201
def Ev.FAB_DROP_2 : Nat := 0x4202
def Ev.FAB_DROP_3 : Nat := 0x4203
def Ev.FAB_DROP_4 : Nat := 0x4204
def Ev.FAB_DROP_5 : Nat := 0x4205
def Ev.FAB_DROP_6 : Nat := 0x4206
def Ev.FAB_DROP_7 : Nat := 0x4207
def Ev.FAB_DROP_8 : Nat := 0x4208
def Ev.FAB_DROP_9 : Nat := 0x4209
def Ev.FAB_DROP_A : Nat := 0x420A
def Ev.FAB_DROP_B : Nat := 0x420B
def Ev.CPL_TIMEOUT : Nat := 0x4210
def Ev.LATE_CPL : Nat := 0x4211
def Ev.GW_UNEXP : Nat := 0x4212
def Ev.PFN_ENTRY : Nat := 0x4213
def Ev.PFN_OVERFLOW : Nat := 0x4214
def Ev.STALL_REPORT : Nat := 0x4215
def Ev.HDR_BAD : Nat := 0x4216
def Ev.ORT_CLOSE : Nat := 0x4217
def Ev.DPC_TRIGGER : Nat := 0x4301
def Ev.PORT_CONTAIN : Nat := 0x4302
def Ev.VH_CONTAIN : Nat := 0x4303
def Ev.VF_CONTAIN : Nat := 0x4304
def Ev.CLOSED_DROP : Nat := 0x4305
def Ev.VF_CROSS : Nat := 0x4306
def Ev.VF_BUSY : Nat := 0x4307
def Ev.VF_BME : Nat := 0x4308
def Ev.VF_CFG_TIMEOUT : Nat := 0x4309
def Ev.DETACH_DROP : Nat := 0x430A
def Ev.CPL_NO_ROUTE : Nat := 0x430B
def Ev.VH_RESET : Nat := 0x430C
def Ev.CTX_PERM : Nat := 0x4401
def Ev.CTX_UE : Nat := 0x4402
def Ev.DL_UE : Nat := 0x4501
def Ev.DL_MERGE : Nat := 0x4502
def Ev.HUT_CROSS : Nat := 0x4801
def Ev.HUT_PERM : Nat := 0x4802
def Ev.HUT_ALIAS : Nat := 0x4803
def Ev.HUT_CTL : Nat := 0x4804
def Ev.HUT_DB_DENY : Nat := 0x4805
def Ev.HUT_UE : Nat := 0x4806
def Ev.HUT_CE : Nat := 0x4807
def Ev.HUT_POISON : Nat := 0x4808
def Ev.FENCE_TIMEOUT : Nat := 0x4809
def Ev.DRAM_CE : Nat := 0x5001
def Ev.DRAM_UE : Nat := 0x5002
def Ev.DRAM_PPR : Nat := 0x5003
def Ev.DRAM_FAIL : Nat := 0x5004
def Ev.LOG_DROP : Nat := 0x5901
def Ev.LOG_FREEZE : Nat := 0x5902
def Ev.CAIRN_DROP : Nat := 0x5B01
def Ev.SRAM_REPAIR : Nat := 0x6001
def Ev.MARGIN_LOW : Nat := 0x6101
def Ev.AGE_RETIRE : Nat := 0x6102
def Ev.LANE_DIVERGE : Nat := 0x8001
def Ev.LANE_HIST_IGNORED : Nat := 0x8002
def Ev.LANE_MANUAL_IGNORED : Nat := 0x8003

/-- Rows of R342, part 1. -/
def eventRows1 : List EvRow := [
  ⟨0x0101, .f, .none⟩,
  ⟨0x0201, .c, .none⟩,
  ⟨0x0202, .c, .none⟩,
  ⟨0x0301, .c, .none⟩,
  ⟨0x0401, .d, .cie⟩,
  ⟨0x0402, .d, .cie⟩,
  ⟨0x0501, .c, .none⟩,
  ⟨0x0502, .d, .cie⟩,
  ⟨0x0601, .t, .none⟩,
  ⟨0x0602, .t, .none⟩,
  ⟨0x0701, .c, .none⟩,
  ⟨0x0702, .p, .none⟩,
  ⟨0x0801, .t, .none⟩,
  ⟨0x0802, .t, .none⟩,
  ⟨0x0901, .t, .none⟩,
  ⟨0x1001, .c, .none⟩,
  ⟨0x1002, .c, .none⟩,
  ⟨0x1003, .c, .linkCe⟩,
  ⟨0x1004, .c, .none⟩,
  ⟨0x1005, .c, .none⟩,
  ⟨0x1006, .c, .dlp⟩,
  ⟨0x1007, .t, .fcp⟩,
  ⟨0x1008, .c, .none⟩,
  ⟨0x1009, .c, .none⟩,
  ⟨0x100A, .c, .none⟩,
  ⟨0x100B, .p, .none⟩,
  ⟨0x100C, .p, .none⟩,
  ⟨0x100D, .d, .cie⟩,
  ⟨0x100E, .c, .none⟩,
  ⟨0x100F, .t, .none⟩,
  ⟨0x1010, .c, .none⟩]

/-- Rows of R342, part 2. -/
def eventRows2 : List EvRow := [
  ⟨0x2001, .c, .none⟩,
  ⟨0x2002, .t, .caNp⟩,
  ⟨0x2003, .c, .none⟩,
  ⟨0x2004, .d, .cie⟩,
  ⟨0x2005, .f, .uie⟩,
  ⟨0x2006, .t, .caNp⟩,
  ⟨0x2007, .t, .caNp⟩,
  ⟨0x2008, .t, .ecrc⟩,
  ⟨0x2009, .c, .none⟩,
  ⟨0x2801, .c, .none⟩,
  ⟨0x2802, .t, .none⟩,
  ⟨0x2803, .c, .none⟩,
  ⟨0x2804, .c, .none⟩,
  ⟨0x2805, .c, .none⟩,
  ⟨0x2806, .d, .cie⟩,
  ⟨0x2807, .d, .cie⟩,
  ⟨0x2808, .f, .uie⟩,
  ⟨0x2901, .t, .none⟩,
  ⟨0x2902, .c, .none⟩,
  ⟨0x3001, .c, .none⟩,
  ⟨0x3002, .c, .none⟩,
  ⟨0x3003, .c, .none⟩,
  ⟨0x3004, .c, .none⟩,
  ⟨0x4001, .t, .ur⟩,
  ⟨0x4002, .t, .ur⟩,
  ⟨0x4003, .t, .ca⟩,
  ⟨0x4004, .t, .ur⟩,
  ⟨0x4005, .t, .ur⟩,
  ⟨0x4006, .t, .ur⟩,
  ⟨0x4007, .t, .ur⟩,
  ⟨0x4008, .t, .ca⟩]

/-- Rows of R342, part 3. -/
def eventRows3 : List EvRow := [
  ⟨0x4009, .c, .none⟩,
  ⟨0x400A, .t, .acs⟩,
  ⟨0x4101, .c, .none⟩,
  ⟨0x4201, .t, .none⟩,
  ⟨0x4202, .t, .none⟩,
  ⟨0x4203, .t, .none⟩,
  ⟨0x4204, .t, .none⟩,
  ⟨0x4205, .t, .none⟩,
  ⟨0x4206, .t, .none⟩,
  ⟨0x4207, .t, .none⟩,
  ⟨0x4208, .t, .none⟩,
  ⟨0x4209, .t, .none⟩,
  ⟨0x420A, .t, .none⟩,
  ⟨0x420B, .t, .none⟩,
  ⟨0x4210, .t, .none⟩,
  ⟨0x4211, .t, .none⟩,
  ⟨0x4212, .t, .uc⟩,
  ⟨0x4213, .t, .none⟩,
  ⟨0x4214, .c, .none⟩,
  ⟨0x4215, .c, .none⟩,
  ⟨0x4216, .t, .none⟩,
  ⟨0x4217, .t, .none⟩,
  ⟨0x4301, .p, .dpc⟩,
  ⟨0x4302, .p, .none⟩,
  ⟨0x4303, .p, .uie⟩,
  ⟨0x4304, .p, .dpc⟩,
  ⟨0x4305, .t, .none⟩,
  ⟨0x4306, .t, .ur⟩,
  ⟨0x4307, .t, .ur⟩,
  ⟨0x4308, .t, .ur⟩,
  ⟨0x4309, .t, .ca⟩]

/-- Rows of R342, part 4. -/
def eventRows4 : List EvRow := [
  ⟨0x430A, .c, .none⟩,
  ⟨0x430B, .t, .uc⟩,
  ⟨0x430C, .c, .none⟩,
  ⟨0x4401, .t, .ur⟩,
  ⟨0x4402, .t, .ca⟩,
  ⟨0x4501, .c, .none⟩,
  ⟨0x4502, .c, .none⟩,
  ⟨0x4801, .t, .ur⟩,
  ⟨0x4802, .t, .ca⟩,
  ⟨0x4803, .t, .ur⟩,
  ⟨0x4804, .t, .ur⟩,
  ⟨0x4805, .t, .none⟩,
  ⟨0x4806, .t, .none⟩,
  ⟨0x4807, .c, .none⟩,
  ⟨0x4808, .t, .urNp⟩,
  ⟨0x4809, .c, .none⟩,
  ⟨0x5001, .c, .none⟩,
  ⟨0x5002, .t, .none⟩,
  ⟨0x5003, .d, .cie⟩,
  ⟨0x5004, .f, .uie⟩,
  ⟨0x5901, .c, .none⟩,
  ⟨0x5902, .c, .none⟩,
  ⟨0x5B01, .c, .none⟩,
  ⟨0x6001, .d, .cie⟩,
  ⟨0x6101, .c, .none⟩,
  ⟨0x6102, .d, .cie⟩,
  ⟨0x8001, .c, .none⟩,
  ⟨0x8002, .c, .none⟩,
  ⟨0x8003, .c, .none⟩]

/-- R342, in ascending order of code: the rank of a code is its place in this list. -/
def eventRows : List EvRow := eventRows1 ++ eventRows2 ++ eventRows3 ++ eventRows4

/-- The row of a code; none for a code the device never raises. -/
def evRow (code : Nat) : Option EvRow := eventRows.find? fun r => r.code == code

/-- Rank of a code among the codes of R342 (14_telemetry.md R394). -/
def evRank (code : Nat) : Nat := eventRows.findIdx fun r => r.code == code

/-- Index of the event-code counter of a code (R394). -/
def evCounter (code : Nat) : Nat := 0xE00 + evRank code

end Sys2Proof.Machine
end

