-- ==== Sys2Proof/Machine/Ops.lean ====
section
/-! DEFINITION. The named operations every meaning is written over: register fields, outputs, counters, activity budgets, virtual
configuration registers, submitting the device's own trains, records of the logbook, and raising an event. -/
namespace Sys2Proof.Machine

/-- What a command answers. -/
abbrev Res := Host.Outcome State Fault Refusal

/-! ### Register fields -/

/-- The value of a register field. -/
def State.get (s : State) (f : Fld) : Nat := Tab.getD s.flds f.key f.rst

/-- Write a register field; the value is taken modulo the field's width. -/
def State.set (s : State) (f : Fld) (v : Nat) : State := { s with flds := Tab.setD s.flds f.key (v % 2 ^ f.width) f.rst }

/-- A one-bit field as a truth value. -/
def State.flag (s : State) (f : Fld) : Bool := s.get f != 0

/-- Set a one-bit field. -/
def State.put (s : State) (f : Fld) (b : Bool) : State := s.set f (b2n b)

/-- Write several fields in order. -/
def State.sets (s : State) (l : List (Fld × Nat)) : State := l.foldl (fun s e => s.set e.1 e.2) s

/-- Add to a saturating field. -/
def State.addSat (s : State) (f : Fld) (n : Nat) : State := s.set f (min (s.get f + n) (2 ^ f.width - 1))

/-- Append to the output record. -/
def State.emit (s : State) (o : Out) : State := { s with out := s.out ++ [o] }

/-- A port's state beside its registers, and its Halud link layer's. -/
def State.port (s : State) (p : Nat) : PortSt := Tab.getD s.ports p {}
def State.setPort (s : State) (p : Nat) (x : PortSt) : State := { s with ports := Tab.setD s.ports p x {} }
def State.hll (s : State) (p : Nat) : Hll := (s.port p).hll
def State.setHll (s : State) (p : Nat) (h : Hll) : State := s.setPort p { s.port p with hll := h }

/-- The next free value (notes/assumptions/9.md). -/
def State.free (s : State) : Nat × State := ((Config.freeValue s.freeCtr).toNat, { s with freeCtr := s.freeCtr + 1 })

/-- Minutes to the next scheduled pass (R377). NEXT_DUE has 12 bits: what it reads while more minutes are left than it can hold is a free value
(DESIGN CHOICE, notes/assumptions/28.md). -/
def State.setDue (s : State) (m : Nat) : State :=
  let s := { s with age := { s.age with due := m } }
  let (x, s) := if m < 4096 then (m, s) else s.free
  s.set F.AGE.ACCL_STS.NEXT_DUE x

/-- Sum of a list. -/
def sumList : List Nat → Nat
  | [] => 0
  | x :: l => x + sumList l

/-- One of several things the spec lets happen next: the only one, or a free choice (notes/assumptions/9.md). -/
def State.pick {α : Type} (s : State) (l : List α) : Option α × State :=
  match l with
  | [] => (none, s)
  | [a] => (some a, s)
  | _ =>
    let (x, s) := s.free
    (l[x % l.length]?, s)

/-! ### When the block responds -/

/-- The logic runs: power good, internal reset released, no thermal trip, root clock present (R420, R493, R504, R358). -/
def State.live (s : State) : Bool := s.pins.pwrOk && !s.pins.rstHeld && !s.pins.thermTrip && !s.pins.clkLost

/-- CHIP.STATE.STATE (R420). -/
def State.phase (s : State) : Nat := s.get F.CHIP.STATE.STATE

/-- In service: BIST has ended since reset (R420 codes 1 to 4). -/
def State.up (s : State) : Bool := s.live && s.pins.bistDone

/-- Run an effect only while the block is in service; otherwise the command's event cannot arise and nothing changes
(notes/assumptions/3.md). -/
def whenUp (s : State) (f : State → State) : Res := .next (if s.up then f s else s)

/-- The same for effects that need only a released reset and a clock. -/
def whenLive (s : State) (f : State → State) : Res := .next (if s.live then f s else s)

/-! ### Event counters (14_telemetry.md R393 to R397) -/

/-- CHAIN bit of an odd counter (R400). -/
def State.chained (s : State) (i : Nat) : Bool := i % 2 == 1 && bitOf (s.get (F.PMU.CHAIN.CHAIN (i / 128))) (i % 128 / 2)

/-- Raw count. -/
def State.ctr (s : State) (i : Nat) : Nat := Tab.getD s.tele.ctr i 0

def State.setCtr (s : State) (i n : Nat) : State :=
  { s with tele := { s.tele with ctr := Tab.setD s.tele.ctr i (n % 2 ^ 40) 0 } }

/-- Count an event: a chained odd counter does not count its own event; a wrap of an even counter whose partner is chained adds 1 there. -/
def State.count (s : State) (i n : Nat) : State :=
  if !s.pins.bistDone || s.chained i then s
  else
    let c := s.ctr i + n
    let s := s.setCtr i c
    if c / 2 ^ 40 > 0 && i % 2 == 0 && s.chained (i + 1) then s.setCtr (i + 1) (s.ctr (i + 1) + c / 2 ^ 40) else s

def Ctr.port (p e : Nat) : Nat := 32 * p + e
def Ctr.lane (n e : Nat) : Nat := 0x600 + 4 * n + e
def Ctr.vh (v e : Nat) : Nat := 0x900 + 36 * v + e
def Ctr.plane (n e : Nat) : Nat := 0xC60 + 16 * n + e
def Ctr.yard (y e : Nat) : Nat := 0xCB0 + 8 * y + e
def Ctr.dev (e : Nat) : Nat := 0xD20 + e

/-! ### Activity budgets (13_dependability.md R386 to R389) -/

/-- Budget of a class in register accesses and 64 B units; LOG and GUIDE never fall below their floors (R388). -/
def State.budgetOf (s : State) (c : Nat) : Nat × Nat :=
  let r := min (s.get (F.BUDGET.CLASS_CFG.REG c)) 4000
  let d := min (s.get (F.BUDGET.CLASS_CFG.DRAM c)) 12000
  if c = 3 then (max r 8, max d 4) else if c = 6 then (max r 64, max d 16) else (r, d)

/-- Use of a class in the current pitch. -/
def State.classUse (s : State) (c : Nat) : ClassUse :=
  (Tab.get? s.budget c).getD { limReg := (s.budgetOf c).1, limDram := (s.budgetOf c).2 }

/-- Has the class any allowance left for an access of this kind? (R388) -/
def State.canSpend (s : State) (c reg dram : Nat) : Bool :=
  let u := s.classUse c
  (reg == 0 || u.usedReg < u.limReg) && (dram == 0 || u.usedDram < u.limDram)

/-- The page whose block does the work of a class when the work names none (R484); 0x200, no page, for GUIDE and TEST. -/
def classPage (c : Nat) : Nat := [0x60, 0x28, 0x40, 0x59, 0x5B, 0x61, 0x200, 0x200].getD c 0x200

/-- A DRAM access of n blocks of 64 B, in the counter of its bytes (R396). -/
def State.dramUse (s : State) (i n : Nat) : State :=
  ({ s with tele := { s.tele with dramBusy := s.tele.dramBusy + n } } : State).count (Ctr.dev i) (64 * n)

/-- Charge an access at issue. -/
def State.spend (s : State) (c reg dram : Nat) (page : Nat := classPage c) : State :=
  let u := s.classUse c
  let b := Tab.getD s.blockUse page (0, 0)
  let s := { s with budget := Tab.put s.budget c { u with usedReg := u.usedReg + reg, usedDram := u.usedDram + dram },
                    blockUse := Tab.put s.blockUse page (b.1 + reg, b.2 + dram) }
  let s := s.dramUse (4 + c) dram
  if c = 6 then s else s.count (Ctr.dev 20) reg

/-- Work of a class was turned away in this pitch. -/
def State.turnedAway (s : State) (c : Nat) : State :=
  { s with budget := Tab.put s.budget c { s.classUse c with wanted := true } }

/-- What is left of a class's allowance in this pitch. -/
def State.leftReg (s : State) (c : Nat) : Nat := (s.classUse c).limReg - (s.classUse c).usedReg
def State.leftDram (s : State) (c : Nat) : Nat := (s.classUse c).limDram - (s.classUse c).usedDram

/-- May work be done at once: nothing of its class waits, and the allowance covers it, or is not used up where it is a single access (R388)? -/
def State.canPay (s : State) (c reg dram : Nat) (whole : Bool := false) : Bool :=
  !(s.jobs.any fun j => j.cls == c) && (if whole then s.canSpend c reg dram else decide (reg ≤ s.leftReg c ∧ dram ≤ s.leftDram c))

/-- Work of which several may wait side by side; of any other, what waits already is the same work. -/
def Act.repeats : Act → Bool
  | .writeBack | .cairn | .alarm | .ascent => true
  | _ => false

/-- Work that its class cannot pay for in full now takes what the allowance still admits and waits for the next pitch; behind other work of its
class it waits for its turn. -/
def State.defer (s : State) (j : Job) : State :=
  if !j.act.repeats && s.jobs.any (fun x => x.act == j.act) then s.turnedAway j.cls
  else
  let (r, d) := if j.whole || s.jobs.any (fun x => x.cls == j.cls) then (0, 0) else (min j.reg (s.leftReg j.cls), min j.dram (s.leftDram j.cls))
  let s := (if r + d = 0 then s else s.spend j.cls r d j.page).turnedAway j.cls
  { s with jobs := s.jobs ++ [{ j with reg := j.reg - r, dram := j.dram - d }] }

/-- Perform budgeted work, or leave it waiting for the next pitch (R386). -/
def State.budgeted (s : State) (c reg dram : Nat) (act : Act) (f : State → State) (page : Nat := classPage c) (whole : Bool := false) : State :=
  if s.canPay c reg dram whole then f (s.spend c reg dram page) else s.defer ⟨c, reg, dram, page, whole, act⟩

/-! ### Virtual hierarchies -/

/-- The manager VH: the one with PRIV = 1 (R281). -/
def State.managerVh (s : State) : Nat := ((List.range 24).find? fun v => s.flag (F.VH.VH_BIND.PRIV v)).getD 0

def State.vhBound (s : State) (v : Nat) : Bool := s.flag (F.VH.VH_BIND.EN v)

/-- The VH a HOST port is bound to. -/
def State.vhOfHost (s : State) (p : Nat) : Option Nat :=
  (List.range 24).find? fun v => s.vhBound v && s.get (F.VH.VH_BIND.HOST_PORT v) == p

/-- ROLE codes of PORT_ROLE (R70): 0 OFF, 1 HOST, 2 DEV, 3 FAB. -/
def State.role (s : State) (p : Nat) : Nat := s.get (F.STN.PORT_ROLE.ROLE p)

/-- The vDSP (VH, device) that holds a DEV port as KIND 1 or 2 (R284). -/
def State.vdspOfPort (s : State) (p : Nat) : Option (Nat × Nat) :=
  (List.range 768).findSome? fun i =>
    let v := i / 32
    let d := i % 32
    let k := s.get (F.VH.VDSP.KIND v d)
    if d != 0 && (k == 1 || k == 2) && s.get (F.VH.VDSP.STATE v d) != 0 && s.get (F.VH.VDSP.PORT v d) == p then some (v, d) else none

/-- Configuration register key: VH, function, dword (Mgmt.cfg). -/
def cfgKey (v fn dw : Nat) : Nat := (v * 128 + fn) * 1024 + dw

/-- Is the function one with a type 1 header (upstream port or vDSP)? -/
def isBridge (fn : Nat) : Bool := fn < 32

/-- What a configuration register holds at reset: identity and layout of R441 and R283; the dword numbers of the capabilities are the model's
(notes/assumptions/12.md): PM at 0x40, MSI-X at 0x50, PCIe at 0x70, AER at 0x100, ARI or ACS at 0x140, DPC at 0x150, multicast at 0x170, VC at 0x1A0, Device 3 with the 14-bit tags and the L0p of R5 at 0x1E0, PTM at 0x1F0, L1 PM substates at
0x200, Lane Margining at 0x210. A virtual endpoint (64 up) has the PCIe capability, MSI-X, AER, ATS and PASID alone (R294). -/
def cfgRst (fn dw : Nat) : Nat :=
  if fn ≥ 64 then
    (if dw = 1 then 0x00100400 else if dw = 0xD then 0x70 else if dw = 0x1C then 0x00025010 else if dw = 0x1D then 0x10008000
     else if dw = 0x40 then 0x14020001 else if dw = 0x43 then 0x00462030 else if dw = 0x45 then 0x00002000 else if dw = 0x46 then 0x80 else 0) else
  if dw = 0 then 0x41921E9B
  else if dw = 1 then 0x00100000
  else if dw = 2 then (if fn = 32 then 0x080800B0 else 0x060400B0)
  else if dw = 3 then (if fn = 32 then 0 else 0x00010000)
  else if dw = 4 then (if fn = 32 then 4 else 0)
  else if dw = 6 then (if fn = 32 then 4 else 0)
  else if dw = 8 then (if fn = 32 then 4 else 0)
  else if dw = 0xD then 0x40
  else if dw = 0x10 then (if fn = 32 then 0x00035001 else 0x00037001)
  else if dw = 0x14 then (if fn = 32 then 0x00057011 else 0)
  else if dw = 0x15 then (if fn = 32 then 0x01F00000 else 0)
  else if dw = 0x16 then (if fn = 32 then 0x01F08000 else 0)
  else if dw = 0x1C then (if fn = 32 then 0x00020010 else if fn = 0 then 0x80520010 else 0x81620010)
  else if dw = 0x1D then (if fn = 32 then 0x10008002 else 0x8005)
  else if dw = 0x21 then (if fn = 0 ∨ fn = 32 then 0 else 0x0004007F)
  else if dw = 0x22 then (if fn = 0 ∨ fn = 32 then 0 else 0x000003C0)
  else if dw = 0x40 then 0x14020001
  else if dw = 0x42 then 0x00400000
  else if dw = 0x43 then 0x00462030
  else if dw = 0x45 then 0x00002000
  else if dw = 0x46 then 0x80
  else if dw = 0x51 then (if fn = 0 ∨ fn = 32 then 0 else 0x5F)
  else if dw = 0x25 then (if fn = 32 then 0x380 else if fn = 0 then 0x40 else 0x60)
  else if dw = 0x50 then (if fn = 32 then 0x1E01000E else if fn = 0 then 0x1701000D else 0x1501000D)
  else if dw = 0x54 then (if fn = 0 ∨ fn = 32 then 0 else 0x1701001D)
  else if dw = 0x5C then (if fn = 32 then 0 else 0x1A010012)
  else if dw = 0x5D then (if fn = 32 then 0 else 0x3F)
  else if dw = 0x68 then (if fn = 32 then 0 else 0x1E010002)
  else if dw = 0x78 then 0x0001002F
  else if dw = 0x79 then (if fn = 32 then 6 else 14)
  else if dw = 0x7A then (if fn = 32 then 0 else 0x70)
  else if dw = 0x7C then (if fn = 32 then 0 else 0x0001001F)
  else if dw = 0x7D then (if fn = 0 then 1 else if fn = 32 then 0 else 2)
  else if dw = 0x80 then (if fn = 0 ∨ fn = 32 then 0 else 0x0001001E)
  else if dw = 0x81 then (if fn = 0 ∨ fn = 32 then 0 else 0x1F)
  else if fn = 32 then 0
  else if dw = 0x84 then 0x00010027
  else if 0x86 ≤ dw ∧ dw ≤ 0x95 then 0x00009C38
  else 0

/-- A configuration register's value. -/
def State.cfg (s : State) (v fn dw : Nat) : Nat := Tab.getD s.mgmt.cfg (cfgKey v fn dw) (cfgRst fn dw)

def State.setCfg (s : State) (v fn dw x : Nat) : State :=
  { s with mgmt := { s.mgmt with cfg := Tab.setD s.mgmt.cfg (cfgKey v fn dw) (x % 2 ^ 32) (cfgRst fn dw) } }

def State.orCfg (s : State) (v fn dw bit : Nat) : State := s.setCfg v fn dw (withBit (s.cfg v fn dw) bit true)

/-- Memory Space Enable and Bus Master Enable of a function (R442, R444, R294). -/
def State.mse (s : State) (v fn : Nat) : Bool := bitOf (s.cfg v fn 1) 1
def State.bme (s : State) (v fn : Nat) : Bool := bitOf (s.cfg v fn 1) 2

/-- Configuration registers that PCIe keeps over a hot reset: AER status, masks, severity and log, and DPC Status. -/
def stickyDw (dw : Nat) : Bool := (decide (0x41 ≤ dw) && decide (dw ≤ 0x4A)) || dw == 0x56

/-- Reset the configuration registers of a VH's virtual switch and management endpoint as a hot reset does (R473 VH domain). -/
def State.hotCfg (s : State) (v : Nat) : State :=
  { s with mgmt := { s.mgmt with cfg := s.mgmt.cfg.filter fun e => !(e.1 / 131072 == v && decide (e.1 / 1024 % 128 < 64) && !stickyDw (e.1 % 1024)) } }

/-- Reset a range of functions' configuration registers in a VH (R473 VH and Function domains). -/
def State.resetCfg (s : State) (v : Nat) (which : Nat → Bool) : State :=
  { s with mgmt := { s.mgmt with cfg := s.mgmt.cfg.filter fun e => !(e.1 / 131072 == v && which (e.1 / 1024 % 128)) } }

/-! ### Trains the device itself sends (R17, R144) -/

/-- Put a TLP of the management endpoint into its ingress queue, to leave through a VH's HOST port. -/
def State.submit (s : State) (src vh : Nat) (t : Tlp) : State :=
  let it : InTrain := { id := s.core.nextId, src := src, vh := some vh, t := t, time := s.time.now, eg := some (s.get (F.VH.VH_BIND.HOST_PORT vh)) }
  { s with core := { s.core with nextId := s.core.nextId + 1, inq := Tab.put s.core.inq src (Tab.getD s.core.inq src [] ++ [it]) } }

/-- Raise an MSI-X vector of the management endpoint in a VH (R443, R444): a write through the HOST port, or the pending bit while the vector
or the function is masked, Bus Master Enable is 0 or the function is in D3hot (R441). Nothing while MSI-X is not enabled. -/
def State.raiseMsix (s : State) (v vec : Nat) : State :=
  let ctl := s.cfg v 32 0x14
  let dw (i : Nat) := Tab.getD s.mgmt.msix (24 * v + 4 * vec + i) (if i = 3 then 1 else 0)
  if !s.vhBound v || !bitOf ctl 31 then s
  else if bitOf ctl 30 || bitOf (dw 3) 0 || !s.bme v 32 || s.cfg v 32 0x11 % 4 == 3 then
    { s with mgmt := { s.mgmt with msixPend := Tab.put s.mgmt.msixPend (6 * v + vec) 1 } }
  else
    s.submit 49 v { kind := .mwr, reqId := BitVec.ofNat 16 (s.get (F.GW.GW_RID.RID v)), addr := BitVec.ofNat 64 (dw 0 + 2 ^ 32 * dw 1),
                    len := 4, data := leBytes 4 (dw 2) }

/-- Pending vectors of a VH that nothing holds back any longer are sent (R443, R444). -/
def State.msixFlush (s : State) (v : Nat) : State :=
  if !bitOf (s.cfg v 32 0x14) 31 then s
  else (List.range 6).foldl (fun (s : State) k =>
    if (Tab.get? s.mgmt.msixPend (6 * v + k)).isNone then s
    else ({ s with mgmt := { s.mgmt with msixPend := Tab.del s.mgmt.msixPend (6 * v + k) } } : State).raiseMsix v k) s

/-! ### AER (12_errors_containment.md R343, R344) -/

/-- Status bit and register of an AER kind: (uncorrectable?, bit), as the PCIe specification numbers them; `ce` is the correctable bit of a link error
(0 Receiver Error, 6 Bad TLP, 7 Bad DLLP, 8 REPLAY_NUM Rollover, 12 Replay Timer Timeout). -/
def aerBit (k : AerKind) (ce : Nat := 0) : Option (Bool × Nat) := match k with
  | .none => none
  | .ur => some (true, 20)
  | .urNp => some (true, 20)
  | .ca => some (true, 15)
  | .caNp => some (true, 15)
  | .acs => some (true, 21)
  | .fcp => some (true, 13)
  | .dlp => some (true, 4)
  | .ecrc => some (true, 19)
  | .uc => some (true, 16)
  | .uie => some (true, 22)
  | .mcb => some (true, 23)
  | .mal => some (true, 18)
  | .cie => some (false, 14)
  | .linkCe => some (false, ce)
  | .dpc => none

/-- Requester ID of a function of a VH's switch (R283): the upstream port 0, a vDSP, the management endpoint 32, the virtual endpoint below a vDSP. -/
def State.fnRid (s : State) (v fn : Nat) : Nat :=
  if fn = 0 then 256 * (s.cfg v 0 6 % 256) else if fn < 32 then 256 * (s.cfg v 0 6 / 256 % 256) + 8 * fn
  else if fn = 32 then s.get (F.GW.GW_RID.RID v) else 256 * (s.cfg v (fn - 64) 6 / 256 % 256)

/-- An error message of a function, of severity 0 COR, 1 NONFATAL, 2 FATAL, waits for the arbiter of the VH's HOST port (R177, R344). -/
def State.errUp (s : State) (v fn severity : Nat) : State :=
  if !s.vhBound v then s
  else
    let p := s.get (F.VH.VH_BIND.HOST_PORT v)
    let x := Tab.getD s.ports p {}
    let m : Tlp := { kind := .msg, reqId := BitVec.ofNat 16 (s.fnRid v fn), code := if severity = 0 then 0x30 else if severity = 1 then 0x31 else 0x33 }
    { s with ports := Tab.setD s.ports p { x with msgs := x.msgs ++ [m] } {} }

/-- May an error of a severity (1 NONFATAL, 2 FATAL) trigger DPC at a vDSP: DPC Trigger Enable 1 for FATAL, 2 for both? -/
def State.dpcOn (s : State) (v d sev : Nat) : Bool :=
  let e := bitsOf (s.cfg v d 0x55) 17 16
  (e == 1 && sev == 2) || (e == 2 && sev ≥ 1)

/-- May a trigger of a kind act at a vDSP: an unmasked uncorrectable error (0), ERR_NONFATAL (1), ERR_FATAL (2) or software (3), with no trigger
status standing? -/
def State.dpcReady (s : State) (v d kind : Nat) : Bool :=
  !bitOf (s.cfg v d 0x56) 0 && bitsOf (s.cfg v d 0x55) 17 16 != 0 && (kind == 0 || kind ≥ 3 || s.dpcOn v d kind)

/-- Device Status of a function shows an error of a severity, 0 COR, 1 NONFATAL, 2 FATAL, and one of the kind Unsupported Request, as PCIe has it. -/
def State.devStatus (s : State) (v fn sev : Nat) (ur : Bool) : State :=
  let s := s.orCfg v fn 0x1E (16 + sev)
  if ur then s.orCfg v fn 0x1E 19 else s

/-- First Error Pointer and header log of an unmasked uncorrectable error (R344): they keep the first until its status bit is cleared. `hdr` is the
header of the TLP concerned, if it has one. -/
def State.aerLog (s : State) (v fn b : Nat) (hdr : List Nat) : State :=
  let c := s.cfg v fn 0x46
  if bitOf (s.cfg v fn 0x41) (c % 32) then s
  else
    let s := s.setCfg v fn 0x46 (c / 32 * 32 + b)
    if hdr.isEmpty then s
    else (List.range 4).foldl (fun s i => s.setCfg v fn (0x47 + i) (hdr.getD i 0)) s

/-- Report an AER kind at a function of a VH: the status bits, the log, and the message when unmasked and enabled (R344). At a vDSP whose DPC is
enabled an unmasked uncorrectable error triggers DPC instead of its message (R350, as PCIe has it: notes/assumptions/12.md). -/
def State.aer (s : State) (v fn : Nat) (k : AerKind) (ce : Nat := 0) (hdr : List Nat := []) : State :=
  match aerBit k ce with
  | none => s
  | some (true, b) =>
    let fatal := bitOf (s.cfg v fn 0x43) b
    let sev := if fatal then 2 else 1
    let masked := bitOf (s.cfg v fn 0x42) b
    let s := if masked then s else s.aerLog v fn b hdr
    let s := (s.orCfg v fn 0x41 b).devStatus v fn sev (b == 20)
    if !masked && 1 ≤ fn && fn < 32 && s.dpcReady v fn 0 then
      { s with err := { s.err with dpcPend := s.err.dpcPend ++ [(v, fn)] } }
    else if masked || !bitOf (s.cfg v fn 0x1E) sev then s
    else (s.errUp v fn sev).count (Ctr.vh v (29 + sev)) 1
  | some (false, b) =>
    let s := (s.orCfg v fn 0x44 b).devStatus v fn 0 false
    if bitOf (s.cfg v fn 0x45) b || !bitOf (s.cfg v fn 0x1E) 0 then s
    else (s.errUp v fn 0).count (Ctr.vh v 29) 1

/-! ### The logbook (14_telemetry.md R409 to R416) -/

/-- Capacity in records of the main and alarm rings (R411). -/
def State.alarmCap (s : State) : Nat := s.get F.LOG.LOG_SIZE.SIZE_MIB * 16384 / 64
def State.mainCap (s : State) : Nat := s.get F.LOG.LOG_SIZE.SIZE_MIB * 16384 - 4096 - s.alarmCap

/-- DRAM block, in 64 B units, of a record of the logbook by region (0 main ring, 1 alarm ring, 2 freeze region) and position, and of a cairn of the
trace ring (R408, R411). -/
def State.logBlock (s : State) (ring i : Nat) : Nat :=
  s.get F.LOG.LOG_BASE.BASE_MIB * 16384 + (if ring = 2 then i else if ring = 1 then 4096 + i else 4096 + s.alarmCap + i)
def State.traceBlock (s : State) (i : Nat) : Nat := s.get F.TRACE.RING.BASE_MIB * 16384 + i

/-- A DRAM block is written: an error a scrub read found in it is gone with its data (R372). -/
def State.blockWritten (s : State) (b : Nat) : State := { s with err := { s.err with dramUe := s.err.dramUe.filter (· ≠ b) } }

/-- Copy a record into the freeze region, in the LOG class (R24, R415); the 4,096th copy ends the freeze. -/
def State.freezePut (s : State) (r : LogRec) (rest : List LogRec) : State :=
  let n := s.get F.LOG.FREEZE_CTL.COPIED
  let s := s.spend 3 0 1
  let s : State := { s with tele := { s.tele with freeze := Tab.put s.tele.freeze n r, freezeQ := rest, freezing := decide (n + 1 < 4096) } }
  let s := (s.blockWritten (s.logBlock 2 n)).set F.LOG.FREEZE_CTL.COPIED (n + 1)
  if n + 1 < 4096 then s else s.sets [(F.LOG.FREEZE_CTL.FROZEN, 1), (F.LOG.FREEZE_CTL.ARMED, 0)]

/-- The oldest record that waits for its copy is copied while the LOG class has allowance. -/
def State.freezeNext (s : State) : State :=
  match s.tele.freezeQ with
  | [] => s
  | r :: rest => if s.canSpend 3 0 1 then s.freezePut r rest else s.turnedAway 3

/-- While a freeze runs an admitted record is to be copied, until the region has all its 4,096 (R415). -/
def State.freezeCopy (s : State) (r : LogRec) : State :=
  if !s.tele.freezing || decide (4096 ≤ s.get F.LOG.FREEZE_CTL.COPIED + s.tele.freezeQ.length) then s
  else ({ s with tele := { s.tele with freezeQ := s.tele.freezeQ ++ [r] } } : State).freezeNext

/-- Copies that waited, as the allowance of a new pitch lets them go. -/
def State.freezeDrain (s : State) : Nat → State
  | 0 => s
  | n + 1 => if s.tele.freezeQ.isEmpty || !s.canSpend 3 0 1 then s else s.freezeNext.freezeDrain n

/-- The eight words of a record (R410). -/
def LogRec.words (r : LogRec) : List Nat :=
  [r.code % 65536 * 2 ^ 48 + r.lclass % 4 * 2 ^ 46 + r.eclass % 8 * 2 ^ 43 + b2n r.coal * 2 ^ 42 + r.detail % 4 * 2 ^ 40 + r.epoch % 65536 * 2 ^ 24 +
      r.key % 65536 * 2 ^ 8,
    r.time % 2 ^ 64, r.seq % 2 ^ 32 * 2 ^ 32 + r.count % 2 ^ 32, r.lastDelta % 2 ^ 36 * 2 ^ 28 + r.node % 4096 * 2 ^ 16 + r.inst % 65536] ++
    (List.range 4).map fun k => r.w.getD k 0

/-- A record's 64 bytes. -/
def LogRec.toBytes (r : LogRec) : List Byte := r.words.flatMap (leBytes 8)

/-- Send an admitted record as a NOTICE (R416); one that itself came in a NOTICE is not sent on (notes/assumptions/22.md). -/
def State.notice (s : State) (r : LogRec) : State :=
  let me := s.get F.ROUTE.NODE_ID.ID
  let to' := s.get F.LOG.NOTICE_CTL.NODE
  if !s.flag F.LOG.NOTICE_CTL.EN || !bitOf (s.get F.LOG.NOTICE_CTL.CLASS_MASK) r.lclass || r.node != me || to' == me then s
  else
    let it : InTrain := { id := s.core.nextId, src := 49, vh := some s.managerVh, t := { kind := .msg, data := r.toBytes }, time := s.time.now,
                          hal := some { op := 0x11, dst := to', src := me, len := 64 } }
    ({ s with core := { s.core with nextId := s.core.nextId + 1, inq := Tab.put s.core.inq 49 (Tab.getD s.core.inq 49 [] ++ [it]) } } : State).count
      (Ctr.dev 37) 1

/-- The logbook vector of the manager is due for an admitted record, at once or after the gap that runs (R416). -/
def State.offerIrq (s : State) (r : LogRec) : State :=
  let wants := (r.lclass == 3 && s.flag F.LOG.LOG_CTL.ALARM_IRQ) || (r.lclass == 2 && s.flag F.LOG.LOG_CTL.ERROR_IRQ)
    || (r.lclass == 1 && s.flag F.LOG.LOG_CTL.EVENT_IRQ)
  if !wants then s
  else if s.tele.irqGap then { s with tele := { s.tele with irqWant := s.tele.irqWant ++ [r.lclass] } }
  else
    let s := s.raiseMsix s.managerVh 1
    { s with tele := { s.tele with irqGap := true, irqWant := [] } }

/-- An EVENT or ERROR record joins the sideband record queue, which a Guide pair fills (R464). -/
def State.offerSb (s : State) (r : LogRec) : State :=
  let guide := s.get F.ERR.GUIDE_STS.PAIR0 == 0 || s.get F.ERR.GUIDE_STS.PAIR1 == 0
  if (r.lclass == 1 || r.lclass == 2) && guide then
    let q := s.tele.sbRecs ++ [r]
    if q.length > 128 then ({ s with tele := { s.tele with sbRecs := q.drop 1 } }).addSat F.SIDEBAND.SB_STS.REC_LOST 1
    else { s with tele := { s.tele with sbRecs := q } }
  else s

/-- A record of a class that stream DMA delivers joins its backlog (R416). -/
def State.offerDma (s : State) (r : LogRec) : State :=
  if s.flag F.LOG.DMA_CTL.EN && bitOf (s.get F.LOG.DMA_CTL.CLASS_MASK) r.lclass then
    { s with tele := { s.tele with dmaPend := s.tele.dmaPend ++ [r] } }
  else s

/-- Note an admitted record for the logbook vector, the sideband record queue, stream DMA, and the fabric (R416, R464). -/
def State.offer (s : State) (r : LogRec) : State := (((s.notice r).offerIrq r).offerSb r).offerDma r

/-- Replace the first record equal to one. -/
def swapFirst (r r' : LogRec) : List LogRec → List LogRec
  | [] => []
  | x :: l => if x = r then r' :: l else x :: swapFirst r r' l

/-- Write a record of the log queue into the main ring, at the next sequence number (R411); its other copies show that number too. -/
def State.writeMain (s : State) (r : LogRec) : State :=
  let q := s.get F.LOG.LOG_SEQ.MAIN
  let r' := { r with seq := q, epoch := s.get F.LOG.LOG_STS.EPOCH }
  let t := s.tele
  let fz := t.freeze.map Prod.fst
  let s := { s with tele := { t with main := Tab.put t.main (q % max s.mainCap 1) r', dmaPend := swapFirst r r' t.dmaPend,
                                     sbRecs := swapFirst r r' t.sbRecs, freeze := fz.zip (swapFirst r r' (t.freeze.map Prod.snd)) } }
  (s.blockWritten (s.logBlock 0 (q % max s.mainCap 1))).set F.LOG.LOG_SEQ.MAIN (q + 1)

/-- Records of a class written in the current pitch, and the class's budget (R413). -/
def State.wroteOf (s : State) (c : Nat) : Nat := if c = 2 then s.tele.wrote.1 else if c = 1 then s.tele.wrote.2.1 else s.tele.wrote.2.2
def State.classBudget (s : State) (c : Nat) : Nat :=
  if c = 2 then s.get F.LOG.CLASS_BUDGET.ERROR else if c = 1 then s.get F.LOG.CLASS_BUDGET.EVENT else s.get F.LOG.CLASS_BUDGET.TRACE
def State.addWrote (s : State) (c : Nat) : State :=
  let (e, v, t) := s.tele.wrote
  { s with tele := { s.tele with wrote := if c = 2 then (e + 1, v, t) else if c = 1 then (e, v + 1, t) else (e, v, t + 1) } }

/-- May a record of a class be written now (R413)? -/
def State.mayWrite (s : State) (c : Nat) : Bool := s.wroteOf c < s.classBudget c && s.canSpend 3 0 1

/-- Queue depth shown in LOG_STS. -/
def State.setQueue (s : State) (q : List LogRec) : State :=
  ({ s with tele := { s.tele with queue := q } }).set F.LOG.LOG_STS.QUEUE q.length

/-- Admit an ERROR, EVENT or TRACE record (R413): refused at the class's occupancy (answers false), written at once when its budgets allow and
no older record of its class is queued, else queued. -/
def State.admitRec (s : State) (r : LogRec) : Bool × State :=
  let n := s.tele.queue.length
  let lim := if r.lclass = 2 then 1024 else if r.lclass = 1 then 768 else 512
  if n ≥ lim then
    let s := s.count (Ctr.dev (if r.lclass = 2 then 30 else if r.lclass = 1 then 29 else 28)) 1
    let s := s.addSat (if r.lclass = 2 then F.LOG.DROP_STS.ERROR else if r.lclass = 1 then F.LOG.DROP_STS.EVENT else F.LOG.DROP_STS.TRACE) 1
    let (a, b, c) := s.tele.msDrops
    (false, { s with tele := { s.tele with
      msDrops := if r.lclass = 2 then (a, b, c + 1) else if r.lclass = 1 then (a, b + 1, c) else (a + 1, b, c) } })
  else
    let s := s.count (Ctr.dev 26) 1
    let s := s.freezeCopy r
    let s := s.offer r
    if s.mayWrite r.lclass && !(s.tele.queue.any fun x => x.lclass == r.lclass) then
      (true, ((s.spend 3 0 1).addWrote r.lclass).writeMain r)
    else (true, s.setQueue (s.tele.queue ++ [r]))

/-- FIFO occupancy shown in LOG_STS. -/
def State.setFifo (s : State) (q : List AlarmEnt) : State :=
  ({ s with tele := { s.tele with fifo := q } }).set F.LOG.LOG_STS.ALARM_FIFO q.length

/-- Put an ALARM record into the alarm FIFO (R414): it takes its SEQ; a FIFO full of written or (with the logbook off) unread entries gives up
its oldest, counted in SB_ALARM_MISSED; a FIFO of 256 unwritten entries makes the raising block keep the record. -/
def State.enterAlarm (s : State) (r : LogRec) : State :=
  let r := { r with seq := s.get F.LOG.LOG_SEQ.ALARM, epoch := s.get F.LOG.LOG_STS.EPOCH }
  let take (s : State) (f : List AlarmEnt) : State :=
    let s := (s.setFifo (f ++ [{ r := r }])).set F.LOG.LOG_SEQ.ALARM (r.seq + 1)
    let s := s.count (Ctr.dev 31) 1
    (s.freezeCopy r).offer r
  if s.tele.fifo.length < 256 then take s s.tele.fifo
  else
    let freeable := if s.flag F.LOG.LOG_CTL.EN then fun e : AlarmEnt => e.written else fun _ => true
    match s.tele.fifo.find? freeable with
    | some e =>
      let s := (s.count (Ctr.dev 33) 1).addSat F.LOG.DROP_STS.SB_MISSED 1
      take s (s.tele.fifo.erase e)
    | none => { s with tele := { s.tele with fifoWait := s.tele.fifoWait ++ [r] } }

/-- ALERT_N is asserted while a far-side error is held or an ALARM awaits its acknowledgement; a forced one does not (R464, R414, R479). -/
def State.alertN (s : State) : Bool := s.flag F.SIDEBAND.ERR_ADDR.VALID || s.tele.fifo.any fun e => !e.read && !e.forced

/-! ### Raising an event (12_errors_containment.md R339 to R345, 17_register_conventions.md R478 to R480) -/

/-- What an event carries beside its code: instance, page that shows it, key, status words or train detail, which record a class C event
writes (none, 1 EVENT, 2 ERROR), where AER goes (VH and function), the ingress instance for escalation, and whether the AER entry applies. -/
structure EvArg where
  inst : Nat := 0
  page : Option Nat := none
  key : Nat := 0
  /-- Key records are coalesced by, when it is not `key`. -/
  ckey : Option Nat := none
  detail : Nat := 0
  w : List Nat := []
  recC : Nat := 0
  aerAt : Option (Nat × Nat) := none
  aerOn : Bool := true
  /-- Ingress instance for escalation (R345): 0 port, 1 VH, 2 VF, and its index. -/
  ingress : Option (Nat × Nat) := none
  /-- A repeat that writes no record (R157). -/
  quiet : Bool := false
  /-- The correctable link error it is (R342), and the header of the TLP concerned as AER logs it (R344). -/
  ceBit : Nat := 0
  hdr : List Nat := []
deriving DecidableEq, Repr

/-- The page whose header shows an event (R341, R478): the family's page, or its instance. -/
def evPage (code : Nat) (a : EvArg) : Nat :=
  match a.page with
  | some p => p
  | none =>
    let fam := code / 256
    if fam = 0x80 then 0x100 + a.inst else if fam = 0x10 then 0x10 + a.inst / 4 else if fam = 0x20 then 0x20 + (if a.inst < 5 then a.inst else 0)
    else if fam = 0x30 then 0x30 + (if a.inst < 48 then a.inst / 4 else 0) else fam

/-- EVT_STS and EVT_FIRST of a page (R478, R480). -/
def State.showEvent (s : State) (page code : Nat) (forced : Bool) : State :=
  let b := code % 256 - 1
  if b ≥ 64 || !bitOf (s.get (F.HDR.EVT_EN.EN page)) b then s
  else
    let s := s.set (F.HDR.EVT_STS.EVT page) (withBit (s.get (F.HDR.EVT_STS.EVT page)) b true)
    if s.flag (F.HDR.EVT_FIRST.VALID page) then s
    else s.sets [(F.HDR.EVT_FIRST.VALID page, 1), (F.HDR.EVT_FIRST.FORCED page, b2n forced), (F.HDR.EVT_FIRST.CODE page, code),
      (F.HDR.EVT_FIRST.TIME page, s.time.now % 2 ^ 32)]

/-- The first enabled CLASS_MAP entry for a code (R345). -/
def State.classMapEntry (s : State) (code : Nat) : Option Nat :=
  (List.range 128).find? fun j => s.flag (F.ERR.CLASS_MAP.EN j) && s.get (F.ERR.CLASS_MAP.CODE j) == code

def eclassCode : EClass → Nat
  | .c => 0 | .t => 1 | .p => 2 | .d => 3 | .f => 4

/-- The 64-bit value of a register by its page and offset, from its fields. -/
def State.regVal (s : State) (page off : Nat) : Nat :=
  match regAt page off with
  | none => 0
  | some r => r.fields.foldl (fun acc d => acc + s.get (d.toFld page off) * 2 ^ d.lo) 0

/-- The status words of a record with DETAIL 2 (R410), by the event's family. -/
def State.statusW (s : State) (code inst : Nat) : List Nat :=
  let fam := code / 256
  if fam = 0x10 then [s.regVal (0x10 + inst / 4) (0x150 + 8 * (inst % 4)), s.regVal (0x10 + inst / 4) (0x220 + 8 * (inst % 4))]
  else if fam = 0x80 then [s.regVal (0x10 + inst / 16) 0x150, s.regVal (0x10 + inst / 16) 0x220, s.regVal (0x100 + inst) 0x110]
  else if fam = 0x20 then [s.regVal (0x20 + inst % 5) 0x100, s.regVal 0x30 0xF10, s.regVal 0x30 0xF08]
  else if fam = 0x28 then [s.regVal 0x28 0x128, s.regVal 0x28 0x118, s.regVal 0x28 0x100]
  else if fam = 0x29 then [s.regVal 0x29 0x118, s.regVal 0x29 0x110]
  else if fam = 0x04 then [s.regVal 0x58 0x118, s.regVal 0x58 0x108, s.regVal 0x58 0x110]
  else if fam = 0x50 ∨ fam = 0x60 ∨ fam = 0x61 then [s.regVal 0x50 0x108, 0, s.regVal 0x61 0x110, s.regVal 0x61 0x118]
  else [s.regVal fam 0x18, s.regVal fam 0x20]

/-- The status words of a record about a port, with a fourth word that names the cause, rate or count its rule asks for (R75, R77, R103; DEDUCED,
notes/assumptions/104.md). -/
def State.stnW (s : State) (p what : Nat) : List Nat := s.statusW 0x1000 p ++ [0, what]

/-- A record of an event (R410). -/
def State.mkRec (s : State) (code lclass eclass : Nat) (a : EvArg) : LogRec :=
  { code := code, lclass := lclass, eclass := eclass, detail := a.detail, key := a.key, ckey := a.ckey.getD a.key, time := s.time.now, epoch := s.get F.LOG.LOG_STS.EPOCH,
    node := s.get F.ROUTE.NODE_ID.ID, inst := a.inst, w := if a.detail = 2 && a.w.isEmpty then s.statusW code a.inst else a.w }

/-- Coalescing (R412): a repeat within an open window joins its entry; a first occurrence opens one (when there is room and coalescing is on)
and is admitted. Answers whether LOG_DROP is due. -/
def State.coalesce (s : State) (r : LogRec) : Bool × State :=
  let same (e : CoalEnt) : Bool := e.code == r.code && e.inst == r.inst && e.key == r.ckey
  if (s.tele.coal.any same) then
    let f (e : CoalEnt) : CoalEnt :=
      if same e then
        match e.rep with
        | none => { e with rep := some { r with coal := true, count := 1 }, last := r.time }
        | some p => { e with rep := some { p with count := min (p.count + 1) (2 ^ 32 - 1), lastDelta := r.time - p.time }, last := r.time }
      else e
    (false, ({ s with tele := { s.tele with coal := s.tele.coal.map f } }).count (Ctr.dev 27) 1)
  else
    let s :=
      if s.get F.LOG.LOG_CTL.COAL_US != 0 && s.tele.coal.length < 64 then
        { s with tele := { s.tele with coal := s.tele.coal ++ [{ code := r.code, inst := r.inst, key := r.ckey }] } }
      else s
    let (ok, s) := s.admitRec r
    (!ok, s)

/-- Counting and showing an event with no record and no action: LOG_DROP and LOG_FREEZE inside record keeping (R413, R415). -/
def State.countEvent (s : State) (code page : Nat) : State :=
  ((s.count (evCounter code) 1).showEvent page code false).addSat F.ERR.CLASS_CNT.C_CNT 1

/-- Offer a record to the logbook under its class (R409, R412, R413), raising LOG_DROP when it is refused. -/
def State.log (s : State) (r : LogRec) : State :=
  if r.lclass = 3 then s.enterAlarm r
  else if !s.flag F.LOG.LOG_CTL.EN then s
  else
    let (drop, s) := if r.eclass ≤ 1 then s.coalesce r else let x := s.admitRec r; (!x.1, x.2)
    if drop then s.countEvent Ev.LOG_DROP 0x59 else s

/-- End of a freeze: LOG_FREEZE writes an EVENT record (R415). -/
def State.freezeEnd (s0 s : State) : State :=
  if s0.tele.freezing && !s.tele.freezing then
    (s.countEvent Ev.LOG_FREEZE 0x59).log (s.mkRec Ev.LOG_FREEZE 1 0 { detail := 2 })
  else s

/-- Count an event in its class (R340). -/
def State.countClass (s : State) (cls : EClass) : State :=
  match cls with
  | .t => s.addSat F.ERR.CLASS_CNT.T_CNT 1
  | .p => s.addSat F.ERR.CLASS_CNT.P_CNT 1
  | .d => s.addSat F.ERR.CLASS_CNT.D_CNT 1
  | .c => s.addSat F.ERR.CLASS_CNT.C_CNT 1
  | .f => s

/-- An armed freeze begins at a class D or F event (R415). -/
def State.freezeStart (s : State) (code : Nat) : State :=
  if s.flag F.LOG.FREEZE_CTL.ARMED && !s.tele.freezing then
    ({ s with tele := { s.tele with freezing := true, freeze := [], freezeQ := [] } }).sets
      [(F.LOG.FREEZE_CTL.TRIGGER_CODE, code), (F.LOG.FREEZE_CTL.COPIED, 0)] |>.count (Ctr.dev 34) 1
  else s

/-- The record of an event, by its class (R339, R345). The freeze of a clock loss begins once the Guide runs again (R22). The
F event that enters SAFE has its one record from there, with the counts of what was lost (R358). -/
def State.logEvent (s : State) (cls : EClass) (code : Nat) (mute : Bool) (a : EvArg) : State :=
  match cls with
  | .d => let s := s.freezeStart code; s.log (s.mkRec code 3 3 a)
  | .f =>
    let s := if code = Ev.CLK_LOSS then s else s.freezeStart code
    if s.phase = 4 || s.err.safePend.isSome then s.log (s.mkRec code 3 4 a) else s
  | .p => s.log (s.mkRec code 2 2 a)
  | .t => if mute then s else s.log (s.mkRec code 2 1 a)
  | .c =>
    if mute then s
    else if a.recC > 0 then s.log (s.mkRec code a.recC 0 a)
    else if s.flag F.LOG.LOG_CTL.TRACE_C then s.log (s.mkRec code 0 0 a) else s

/-- The AER report of an event (R343): class D at the manager VH, class F in every bound VH and only as SAFE is entered
(R358), the others where the event names. -/
def State.aerEvent (s : State) (cls : EClass) (k : AerKind) (a : EvArg) : State :=
  match cls with
  | .d => s.aer s.managerVh 32 k
  | .f => if s.phase = 4 || s.err.safePend.isSome then s else (List.range 24).foldl (fun s v => if s.vhBound v then s.aer v 32 k else s) s
  | _ => match a.aerAt with
    | some (v, fn) => if a.aerOn then s.aer v fn k a.ceBit a.hdr else s
    | none => s

/-- The manager's MSI-X: at every class P event, and where the event's CLASS_MAP entry asks for it (R345). -/
def State.irqEvent (s : State) (cls : EClass) (map : Option Nat) : State :=
  match cls, map with
  | .p, _ => s.raiseMsix s.managerVh 0
  | _, some j => if s.flag (F.ERR.CLASS_MAP.MGR_IRQ j) then s.raiseMsix s.managerVh 0 else s
  | _, none => s

/-- Does this occurrence of a class T event contain its ingress instance: the THRESHth within its second (R345)? It then is of class P (R340). -/
def State.escalates (s : State) (cls : EClass) (map : Option Nat) (a : EvArg) : Bool :=
  match cls, map, a.ingress with
  | .t, some j, some (k, i) =>
    s.flag (F.ERR.CLASS_MAP.ESC_P j) && decide (Tab.getD s.tele.esc (j * 65536 + k * 2048 + i) 0 + 1 ≥ max 1 (s.get (F.ERR.CLASS_MAP.THRESH j)))
  | _, _, _ => false

/-- Note an escalation that a class T event calls for (R345), and the SAFE entry of a class F event (R358). -/
def State.escEvent (s : State) (cls : EClass) (code : Nat) (map : Option Nat) (a : EvArg) : State :=
  match cls, map, a.ingress with
  | .t, some j, some (k, i) =>
    if !s.flag (F.ERR.CLASS_MAP.ESC_P j) then s
    else
      let key := j * 65536 + k * 2048 + i
      let n := Tab.getD s.tele.esc key 0 + 1
      if n ≥ max 1 (s.get (F.ERR.CLASS_MAP.THRESH j)) then
        { s with tele := { s.tele with esc := Tab.del s.tele.esc key }, err := { s.err with escPend := s.err.escPend ++ [(k, i)] } }
      else { s with tele := { s.tele with esc := Tab.put s.tele.esc key n } }
  | .f, _, _ => { s with err := { s.err with safePend := s.err.safePend.or (some code) } }
  | _, _, _ => s

/-- Raise an event: its counters, its EVT_STS bit, its record, its AER report, the freeze, ALERT_N and the manager's MSI-X, by class
(R339, R343, R345). An escalation or a SAFE entry it calls for is noted and carried
out before the command ends (Machine/Closure.lean). -/
def State.raise (s : State) (code : Nat) (a : EvArg := {}) : State :=
  match evRow code with
  | none => s
  | some row =>
    let s1 := (s.count (evCounter code) 1).showEvent (evPage code a) code false
    let map := s1.classMapEntry code
    let cls := if s1.escalates row.cls map a then .p else row.cls
    let s1 := s1.countClass cls
    let mute := match map with
      | some j => s1.flag (F.ERR.CLASS_MAP.MUTE j)
      | none => false
    let s2 := ((s1.logEvent cls code (mute || a.quiet) a).aerEvent cls row.aer a).irqEvent cls map
    s.freezeEnd (s2.escEvent row.cls code map a)

end Sys2Proof.Machine
end

