-- ==== Sys2Proof/Machine/Flash.lean ====
section
/-! DEFINITION. The flash as the boot ROM and the Guide read it: CRC-32, image headers, record framing, history and configuration records
(15_bringup.md R426 to R430). -/
namespace Sys2Proof.Machine

/-- One byte into the CRC-32 register of IEEE 802.3, reflected (R427). -/
def crc32Byte (c : BitVec 32) (b : Byte) : BitVec 32 :=
  (List.range 8).foldl (fun c _ => if c.getLsbD 0 then (c >>> 1) ^^^ 0xEDB88320#32 else c >>> 1) (c ^^^ b.setWidth 32)

/-- CRC-32 of bytes: register from all ones, result inverted. -/
def crc32 (l : List Byte) : Nat := (~~~ (l.foldl crc32Byte 0xFFFFFFFF#32)).toNat

/-- Bytes of the flash; an erased byte reads 0xFF (notes/assumptions/6.md). -/
def State.flashBytes (s : State) (a n : Nat) : List Byte := Memory.readBytes s.boot.flash 0xFF a n
def State.flashNat (s : State) (a n : Nat) : Nat := leNat (s.flashBytes a n)
def State.stageBytes (s : State) (a n : Nat) : List Byte := Memory.readBytes s.boot.staging 0 a n
def State.programBytes (s : State) (a : Nat) (l : List Byte) : State :=
  { s with boot := { s.boot with flash := Memory.writeBytes s.boot.flash 0xFF a l } }
/-- Erase a range of the flash. -/
def State.eraseFlash (s : State) (a n : Nat) : State :=
  { s with boot := { s.boot with flash := s.boot.flash.filter fun c => !(a ≤ c.1 && c.1 < a + n) } }

/-- Base of slot A (0) or B (1) (R426). -/
def slotBase (i : Nat) : Nat := i * 0x1000000

/-- Fields of an image header read from a byte function (R427). -/
structure ImgHdr where
  magicOk : Bool
  fmtOk : Bool
  seq : Nat
  svn : Nat
  fwLen : Nat
  cfgLen : Nat
  crcOk : Bool
  tries : Nat
  confirm : Nat
  digest : Nat
deriving DecidableEq, Repr

def imgHdr (bytes : Nat → Nat → List Byte) : ImgHdr :=
  { magicOk := leNat (bytes 0 4) == 0x4D494E4C, fmtOk := leNat (bytes 8 2) == 1, seq := leNat (bytes 4 4), svn := leNat (bytes 10 1),
    fwLen := leNat (bytes 12 4), cfgLen := leNat (bytes 20 4), crcOk := crc32 (bytes 0 264) == leNat (bytes 264 4),
    tries := leNat (bytes 268 1), confirm := leNat (bytes 269 1), digest := leNat (bytes 24 48) }

def State.slotHdr (s : State) (i : Nat) : ImgHdr := imgHdr fun a n => s.flashBytes (slotBase i + a) n
def State.stageHdr (s : State) : ImgHdr := imgHdr s.stageBytes

/-- HDR_OK of R437: magic, format and CRC valid. -/
def ImgHdr.ok (h : ImgHdr) : Bool := h.magicOk && h.fmtOk && h.crcOk
/-- A candidate of R430: header valid and SEQ valid. -/
def ImgHdr.cand (h : ImgHdr) : Bool := h.ok && h.seq != 0 && h.seq != 0xFFFFFFFF
/-- TRIES with its lowest set bit cleared (R430). -/
def spendTry (t : Nat) : Nat := (BitVec.ofNat 8 t &&& (BitVec.ofNat 8 t - 1#8)).toNat
/-- Set bits of TRIES (R437). -/
def triesLeft (t : Nat) : Nat := t % 2 + t / 2 % 2 + t / 4 % 2

/-- A record of R428: type, total length, value bytes, CRC valid. -/
structure FlashRec where
  ty : Nat
  len : Nat
  off : Nat
  value : List Byte
  crcOk : Bool
deriving DecidableEq, Repr

/-- The record at a flash offset; none where TYPE is 0xFFFF or the length cannot be followed. -/
def State.flashRec (s : State) (a : Nat) : Option FlashRec :=
  let ty := s.flashNat a 2
  let len := s.flashNat (a + 2) 2
  if ty = 0xFFFF then none
  else some { ty := ty, len := len, off := a, value := s.flashBytes (a + 4) (len - 8),
              crcOk := decide (12 ≤ len ∧ len % 4 = 0) && crc32 (s.flashBytes a (len - 4)) == s.flashNat (a + len - 4) 4 }

/-- Do the type and length of a record fit each other (R428)? -/
def FlashRec.formatOk (r : FlashRec) : Bool :=
  decide (12 ≤ r.len ∧ r.len ≤ 65532 ∧ r.len % 4 = 0) &&
    (if r.ty = 0x0001 then r.len == 24 else if r.ty = 0x0010 then r.len == 16 else if r.ty = 0x0101 then r.len == 60
     else if r.ty = 0x0102 then decide (24 ≤ r.len) else if r.ty = 0x0103 then decide (48 ≤ r.len)
     else if r.ty = 0x0201 then r.len == 32 else if r.ty = 0x0202 then r.len == 80 else false)

/-- Up to `n` records from an offset, in order. -/
def State.flashRecs (s : State) : Nat → Nat → List FlashRec
  | 0, _ => []
  | n + 1, a =>
    match s.flashRec a with
    | none => []
    | some r => if r.len < 12 then [r] else r :: State.flashRecs s n (a + r.len)

/-- Base of history generation h (0, 1) of a slot (R426). -/
def histBase (slot h : Nat) : Nat := slotBase slot + 0xA00000 + h * 0x100000

/-- GEN and records of a history generation when it is valid: its GEN_HDR has a valid CRC and COUNT valid records follow (R429). -/
def State.histGen (s : State) (slot h : Nat) : Option (Nat × List FlashRec) :=
  match s.flashRec (histBase slot h) with
  | none => none
  | some g =>
    if g.ty = 0x0010 ∧ g.len = 16 ∧ g.crcOk then
      let n := leNat (g.value.drop 4)
      let rs := s.flashRecs n (histBase slot h + 16)
      if rs.length = n ∧ rs.all (fun r => r.crcOk && r.formatOk) then some (leNat (g.value.take 4), rs) else none
    else none

/-- The newer valid history generation of a slot: its half, GEN and records (R429). -/
def State.newestHist (s : State) (slot : Nat) : Option (Nat × Nat × List FlashRec) :=
  match s.histGen slot 0, s.histGen slot 1 with
  | some (g, r), none => some (0, g, r)
  | none, some (g, r) => some (1, g, r)
  | some (g, r), some (g', r') => if g' > g then some (1, g', r') else some (0, g, r)
  | none, none => none

/-- DEV_ID as 16 little-endian bytes (R428). -/
def State.devId (s : State) : List Byte := leBytes 8 (s.get F.CHIP.DEV_ID_LO.ID) ++ leBytes 8 (s.get F.CHIP.DEV_ID_HI.ID)

/-- Does a history record carry this device's and this board's identities (R46)? REPAIR_MAP carries only DEV_ID. -/
def State.identityOk (s : State) (r : FlashRec) : Bool :=
  r.value.take 16 == s.devId && (r.ty == 0x0102 || (r.value.drop 16).take 16 == s.boot.boardId) && s.flag F.CHIP.BOOT_STS.BOARD_OK

/-- What a lane-preset history record supplies (R46, R47, R428): CTLE code, accepted and requested coefficients (PRE2, PRE1, MAIN, POST1). -/
structure LaneHist where
  ctle : Nat
  acc : List Nat
  req : List Nat
deriving DecidableEq, Repr

/-- The history in use: the newer valid generation of the booted slot, or of the one the boot ROM chose (R429, R368). -/
def State.histNow (s : State) : Option (Nat × Nat × List FlashRec) :=
  match s.boot.booted.or s.boot.cands.head? with
  | some slot => s.newestHist slot
  | none => none

/-- The lane-preset record for a lane and rate: none, one to ignore, or one to start from (R46). -/
def State.laneHist (s : State) (n rate : Nat) : Option (Option LaneHist) :=
  match s.histNow with
  | none => none
  | some (_, _, rs) =>
    match rs.find? fun r => r.ty == 0x0101 && leNat ((r.value.drop 32).take 1) == n && leNat ((r.value.drop 33).take 1) == rate with
    | none => none
    | some r =>
      let b (i : Nat) : Nat := leNat ((r.value.drop (32 + i)).take 1)
      some (if s.identityOk r then some { ctle := b 2, acc := [b 4, b 5, b 6, b 7], req := [b 8, b 9, b 10, b 11] } else none)

/-! ### Reading the flash (R7, R430) -/

/-- The flash read mode that SFDP tables give (R7, R432): 0 for 1-1-1 where they are absent or invalid, 1 for 1-1-4, 2 for 1-4-4. The layout is that
of JESD216: signature, a parameter header of ID 0xFF00 with its pointer, and bits 21, 22 and 18:17 of the first dword for the two modes and the
address bytes (PRESUMED; where both modes are there 1-4-4 is taken, DESIGN CHOICE: notes/assumptions/105.md). -/
def sfdpMode (l : List Byte) : Nat :=
  let n := (l.getD 6 0).toNat + 1
  match (List.range n).find? fun k => l.getD (8 + 8 * k) 1 == 0 && l.getD (15 + 8 * k) 0 == 0xFF with
  | none => 0
  | some k =>
    let ptr := leNat ((l.drop (12 + 8 * k)).take 3)
    let dw := leNat ((l.drop ptr).take 4)
    if l.take 4 != [0x53, 0x46, 0x44, 0x50] || decide (l.length < ptr + 4) || bitsOf dw 18 17 == 0 then 0
    else if bitOf dw 21 then 2
    else if bitOf dw 22 then 1 else 0

end Sys2Proof.Machine
end

