-- ==== Sys2Proof/Machine/Operands.lean ====
section
/-! DEFINITION. The operand forms of a register access: who makes it, with which privilege, which bytes, and whether the RPU and the segment
locks let it through (16_management_access.md R445, R446, R450 to R457; 17_register_conventions.md R470, R471, R481). -/
namespace Sys2Proof.Machine

/-- Privilege numbers of DENY_LAST.PRIV and STAGERS: 0 GUIDE, 1 MANAGER, 2 SIDEBAND, 3 TENANT, 4 DEBUG (R454, R482). -/
def State.priv (s : State) : Path → Nat
  | .host vh _ hostPort _ => if hostPort && s.flag (F.VH.VH_BIND.PRIV vh.val) then 1 else 3
  | .sideband => 2
  | .debug => 4
  | .guide => 0

/-- Locker number (R455); the debug port takes no locks. -/
def lockerOf : Path → Nat
  | .guide => 0
  | .sideband => 1
  | .host vh _ _ _ => 8 + vh.val
  | .debug => 63

def pathIsHost : Path → Bool
  | .host .. => true
  | _ => false

/-- The three rights (X W R in bits 2, 1, 0) a page's slot gives a privilege (R451). -/
def State.rights (s : State) (page priv : Nat) : Nat :=
  match priv with
  | 0 => s.get (F.RPU.SLOT.GUIDE page)
  | 1 => s.get (F.RPU.SLOT.MANAGER page)
  | 2 => s.get (F.RPU.SLOT.SIDEBAND page)
  | 3 => s.get (F.RPU.SLOT.TENANT page)
  | _ => s.get (F.RPU.SLOT.DEBUG page)

/-- The value of one register's field bits in a 64-bit value. -/
def fieldOf (d : FDesc) (v : Nat) : Nat := v / 2 ^ d.lo % 2 ^ d.width

/-- Does a write set any W1S field of the register to 1 (R450)? -/
def setsW1S (page off v : Nat) : Bool :=
  match regAt page off with
  | none => false
  | some r => r.fields.any fun d => d.acc == .w1s && fieldOf d v != 0

/-- The segment a BAR0 offset lies in: page and 4 KiB segment (R455). -/
def segOf (addr : Nat) : Nat × Nat := (addr / 65536, addr % 65536 / 4096)

def State.lockAt (s : State) (page seg : Nat) : Option Nat :=
  (s.mgmt.locks.find? fun l => l.page == page && l.seg == seg).map SegLock.who
def State.holdsLock (s : State) (who : Nat) : Bool := s.mgmt.locks.any fun l => l.who == who

/-- An access's size and alignment are accepted (R445). -/
def sizeOk (write : Bool) (addr len : Nat) : Bool :=
  (len == 4 && addr % 4 == 0) || (len == 8 && addr % 8 == 0) ||
    (!write && len % 8 == 0 && 8 ≤ len && len ≤ 64 && addr % 8 == 0)

/-- What the checks before an access decide: perform it, refuse it with a CAUSE of R454 and the address to log, let it wait for a lock, or
discard it (a host write under its own broken lock, R457). -/
inductive Gate where
  | go
  | deny (cause addr : Nat)
  | wait
  | discard
deriving DecidableEq, Repr

/-- The rights one page's slot must give an access whose first byte there is `addr` (R446, R450 to R452); a CAUSE of R454, or none. -/
def State.pageDenies (s : State) (src : Path) (addr : Nat) (write : Bool) (v : Nat) : Option Nat :=
  let page := addr / 65536
  let rts := s.rights page (s.priv src)
  if !pageMapped page then some 3
  else if page == 0x1F0 && !pathIsHost src then some 4
  else if src == .debug && s.flag (F.RPU.SLOT.LOCK page) && (write || addr % 65536 / 8 != 0) then some 7
  else if !bitOf rts (if write then 1 else 0) then some 1
  else if write && setsW1S page (addr % 65536 / 8 * 8) v && !bitOf rts 2 then some 1
  else none

/-- Segments an access touches: that of its first byte and, when another, that of its last. -/
def segsOf (addr len : Nat) : List (Nat × Nat) :=
  if segOf addr = segOf (addr + len - 1) then [segOf addr] else [segOf addr, segOf (addr + len - 1)]

/-- The RPU and lock checks of R2, R445, R446, R450 to R457, R466 for an access (the debug port's while it is locked is refused with CAUSE 7); `v` is the written value placed in its 64-bit register. -/
def State.gate (s : State) (src : Path) (addr len : Nat) (write : Bool) (v : Nat) : Gate :=
  let who := lockerOf src
  let next := (addr / 65536 + 1) * 65536
  let poisoned := match src with
    | .host _ _ _ b => b
    | _ => false
  if poisoned then .deny 8 addr
  else if src == .debug && !s.flag F.ATTEST.DBG_STS.UNLOCKED then .deny 7 addr
  else if !sizeOk write addr len then .deny 2 addr
  else
    match s.pageDenies src addr write v, (if addr + len ≤ next then none else s.pageDenies src next write v) with
    | some c, _ => .deny c addr
    | none, some c => .deny c next
    | none, none =>
      let segs := segsOf addr len
      if write && pathIsHost src && s.mgmt.broken.any (fun b => b.1 == who && segs.contains (b.2.1, b.2.2.1)) then .discard
      else if segs.any fun g => match s.lockAt g.1 g.2 with
          | some w => w != who
          | none => false then
        (if s.holdsLock who then .deny 5 addr else .wait)
      else .go

/-- The ingress instance an access came by (R345): the tenant VH on its HOST port, else the bound VF or KIND 1 port whose buses hold the requester. -/
def State.pathIngress (s : State) : Path → Option (Nat × Nat)
  | .host vh rid hostPort _ =>
    if hostPort then (if vh.val = s.managerVh then none else some (1, vh.val))
    else
      match (List.range 32).find? fun d => d != 0 && s.get (F.VH.VDSP.STATE vh.val d) != 0 &&
          (let b := s.cfg vh.val d 6; decide (bitsOf b 15 8 ≤ rid.toNat / 256 ∧ rid.toNat / 256 ≤ bitsOf b 23 16)) with
      | none => none
      | some d =>
        let k := s.get (F.VH.VDSP.KIND vh.val d)
        if k = 3 then some (2, s.get (F.VH.VDSP.VFI vh.val d)) else if k = 1 then some (0, s.get (F.VH.VDSP.PORT vh.val d)) else none
  | _ => none

/-- Record a refusal (R453, R454): DENY_LAST, RPU_DENY or DEBUG_DENY with its ERROR record. No AER. -/
def State.deny (s : State) (src : Path) (addr : Nat) (write : Bool) (cause : Nat) : State :=
  let (vh, rid) := match src with
    | .host vh rid _ _ => (vh.val, rid.toNat)
    | _ => (0, 0)
  let s := s.sets [(F.RPU.DENY_LAST.PRIV, s.priv src), (F.RPU.DENY_LAST.CAUSE, cause), (F.RPU.DENY_LAST.WRITE, b2n write),
    (F.RPU.DENY_LAST.VH, vh), (F.RPU.DENY_LAST.REQ_ID, rid), (F.RPU.DENY_LAST.ADDR, addr)]
  s.raise (if src == .debug then Ev.DEBUG_DENY else Ev.RPU_DENY) { inst := if pathIsHost src then 49 else 0, key := vh, ingress := s.pathIngress src }

/-- Count a register-network access by source (R396 device counters 16 to 19). -/
def State.countAccess (s : State) (src : Path) : State :=
  s.count (Ctr.dev (match src with
    | .host .. => 16
    | .sideband => 17
    | .debug => 18
    | .guide => 19)) 1

/-- May host software reach BAR0 in its VH: the VH is bound and Memory Space Enable of the management endpoint is set (R442). -/
def State.barOpen (s : State) : Path → Bool
  | .host vh _ _ _ => s.vhBound vh.val && s.mse vh.val 32
  | _ => true

/-- The 64-bit value a write of `len` bytes at `addr` places in its register's bits (R445). -/
def placed (addr len v : Nat) : Nat := if len = 4 then v % 2 ^ 32 * 2 ^ (addr % 8 * 8) else v % 2 ^ 64

/-- An access joins those that wait. -/
def State.waitFor (s : State) (w : WaitAcc) : State := { s with mgmt := { s.mgmt with waits := s.mgmt.waits ++ [w] } }

/-- Source of an access on the register network (R26), in the order of its rotation: 0 host software of every VH, 1 sideband, 2 debug port, 3 Guide. -/
def sourceOf : Path → Nat
  | .host .. => 0
  | .sideband => 1
  | .debug => 2
  | .guide => 3

/-- A source has its 16 accesses in flight (R26). -/
def State.srcFull (s : State) (src : Path) : Bool := decide (16 ≤ s.mgmt.waits.countP fun w => sourceOf w.src == sourceOf src)

/-- A requester with an access that waits has its later ones held back (R456, R472), and so has every requester of a source with 16 in flight
(R26). -/
def State.heldBack (s : State) (src : Path) : Bool := (s.mgmt.waits.any fun w => w.who == lockerOf src) || s.srcFull src

/-- A register access as it waits or is performed. -/
def writeAcc (src : Path) (addr len v : Nat) : WaitAcc := { src := src, who := lockerOf src, addr := addr, len := len, write := true, value := v }

/-- A host write under its own broken lock: discarded and counted (R457). -/
def State.discardWrite (s : State) (who : Nat) : State :=
  { s with mgmt := { s.mgmt with broken := s.mgmt.broken.map fun b => if b.1 == who then (b.1, b.2.1, b.2.2.1, b.2.2.2 + 1) else b } }

/-- A Guide access is charged to its class (R26, R386); every performed access counts by its source. -/
def State.charged (s : State) (src : Path) : State := (if src == .guide then s.spend 6 1 0 else s).countAccess src

/-- A refused write: recorded; the Guide's firmware receives an error (R453). -/
def State.denyWrite (s : State) (src : Path) (addr cause : Nat) : State :=
  if src == .guide then (s.deny src addr true cause).emit (.guideData false []) else s.deny src addr true cause

/-- Make a register write: the checks, then `perform` with the privilege and the placed value; a waiting access joins the bivouac queue
(R456); a refusal is recorded (R453). -/
def State.regCmd (s : State) (src : Path) (addr len v : Nat) (perform : State → Nat → Nat → State) : State :=
  if !s.barOpen src then s
  else
    match s.gate src addr len true (placed addr len v) with
    | .deny c a => s.denyWrite src a c
    | .discard => s.discardWrite (lockerOf src)
    | .wait => s.waitFor (writeAcc src addr len v)
    | .go =>
      if s.heldBack src then s.waitFor (writeAcc src addr len v)
      else if src == .guide && !s.canSpend 6 1 0 then (s.turnedAway 6).waitFor (writeAcc src addr len v)
      else perform (s.charged src) (s.priv src) (placed addr len v)

/-! ### Plain fields of a register (R470) -/

/-- SH staging: the value a field holds in the shadow (R481). -/
def State.shadowOf (s : State) (f : Fld) : Nat :=
  let early := (Tab.getD s.mgmt.atGo (f.key / 4194304) []).find? fun e => e.1 == f.key
  ((Tab.get? s.mgmt.shadow f.key).or (early.map Prod.snd)).getD (s.get f)

/-- Stage a value for an SH field; DIRTY and STAGERS are the writer's (R481, R482). -/
def State.stage (s : State) (page priv : Nat) (f : Fld) (v : Nat) : State :=
  let late := if s.get (F.HDR.SHADOW_CTL.STATE page) = 0 then s.mgmt.late else Tab.put s.mgmt.late page (withBit (Tab.getD s.mgmt.late page 0) priv true)
  let s := { s with mgmt := { s.mgmt with shadow := Tab.put s.mgmt.shadow f.key (v % 2 ^ f.width), late := late } }
  s.sets [(F.HDR.SHADOW_CTL.DIRTY page, 1), (F.HDR.PAGE_STS.DIRTY page, 1),
    (F.HDR.SHADOW_CTL.STAGERS page, withBit (s.get (F.HDR.SHADOW_CTL.STAGERS page)) priv true)]

/-- Write one field by its access type. RWL fields are those of RPU.SLOT, governed by their own LOCK (R451, R452). -/
def State.writeField (s : State) (page off priv v : Nat) (d : FDesc) : State :=
  let f := d.toFld page off
  let x := fieldOf d v
  match d.acc with
  | .rw => s.set f x
  | .rws => s.set f x
  | .rwl => if s.flag (F.RPU.SLOT.LOCK ((off - 0x1000) / 8)) then s else s.set f x
  | .w1c => s.set f ((BitVec.ofNat 64 (s.get f) &&& ~~~ (BitVec.ofNat 64 x)).toNat)
  | .sh => s.stage page priv f x
  | _ => s

/-- The reserved bits that a value for a register sets. Those of a shadow set are kept with its offset (R471). -/
def reservedBits (r : RDesc) (v : Nat) : Nat :=
  (List.range 64).foldl (fun acc i => if bitOf v i && !(r.fields.any fun d => d.lo ≤ i && i < d.lo + d.width) then acc + 2 ^ i else acc) 0

/-- Key under which a register's staged reserved bits are kept: bit number 64 is no field's. -/
def resKey (page off : Nat) : Nat := (512 * 65536 + page * 65536 + off) * 64

/-- Write every plain field of the register at an offset (R470). A register of SH fields also stages the reserved bits written. -/
def State.writePlain (s : State) (page off priv v : Nat) : State :=
  match regAt page off with
  | none => s
  | some r =>
    let s := r.fields.foldl (fun s d => s.writeField page off priv v d) s
    if r.fields.any (fun d => d.acc == .sh) then
      { s with mgmt := { s.mgmt with shadow := Tab.put s.mgmt.shadow (resKey page off) (reservedBits r v) } }
    else s

/-- The bits a 4 B write leaves of the other half: RW, RWS and RWL bits as they stand, SH and reserved bits as staged, nothing for bits that act
on 1. -/
def State.mergeHalf (s : State) (page off addr len v : Nat) : Nat :=
  if len != 4 then v
  else
    match regAt page off with
    | none => v
    | some r =>
      let kept := Tab.getD s.mgmt.shadow (resKey page off) 0
      let v := (List.range 64).foldl (fun acc b => if b / 32 != addr % 8 / 4 && bitOf kept b then withBit acc b true else acc) v
      r.fields.foldl (fun acc d =>
        let f := d.toFld page off
        let old := match d.acc with
          | .rw => s.get f
          | .rws => s.get f
          | .rwl => s.get f
          | .sh => s.shadowOf f
          | _ => 0
        (List.range d.width).foldl (fun acc i =>
          let b := d.lo + i
          if b / 32 != addr % 8 / 4 && bitOf old i then withBit acc b true else acc) acc) v

end Sys2Proof.Machine
end

