-- ==== Sys2Proof/Machine/Lanes.lean ====
section
/-! DEFINITION. Lanes: transmitter coefficients, receiver adaptation, pattern test, loopbacks and the eye scanner (02_lanes.md R28 to R65). -/
namespace Sys2Proof.Machine

/-! ### Which port a lane belongs to (03_ports.md R66) -/

/-- Bifurcation width of controller k in a layout; 0 for an unused controller. -/
def bifWidth (mode k : Nat) : Nat :=
  if mode = 0 then (if k = 0 then 16 else 0)
  else if mode = 1 then (if k = 0 ∨ k = 2 then 8 else 0)
  else if mode = 2 then 4
  else if k = 0 then 8 else if k = 1 then 0 else 4

/-- First station lane of controller k in a layout. -/
def bifFirst (mode k : Nat) : Nat := if mode = 2 then 4 * k else if mode = 3 ∧ k ≥ 2 then 4 * k else if k = 2 then 8 else 0

def State.mode (s : State) (st : Nat) : Nat := s.get (F.STN.BIFURC.MODE st)
def State.widthOf (s : State) (p : Nat) : Nat := bifWidth (s.mode (p / 4)) (p % 4)
/-- The device lanes of a port. -/
def State.lanesOf (s : State) (p : Nat) : List Nat :=
  (List.range (s.widthOf p)).map fun i => p / 4 * 16 + bifFirst (s.mode (p / 4)) (p % 4) + i
/-- The port a lane belongs to. -/
def State.portOfLane (s : State) (n : Nat) : Nat :=
  let st := n / 16
  let j := n % 16
  let m := s.mode st
  4 * st + (if m = 0 then 0 else if m = 1 then (if j < 8 then 0 else 2) else if m = 2 then j / 4 else if j < 8 then 0 else j / 4)
def State.laneOff (s : State) (n : Nat) : Bool := s.role (s.portOfLane n) == 0

/-! ### Hidden lane state -/

def State.lane (s : State) (n : Nat) : LaneSt := Tab.getD s.lanes n {}
def State.setLane (s : State) (n : Nat) (l : LaneSt) : State := { s with lanes := Tab.setD s.lanes n l {} }

/-- Set RXSTS.STATE, or the state to thaw to while FREEZE holds the lane in FROZEN (R37, R42). -/
def State.setLaneState (s : State) (n st : Nat) : State :=
  if s.flag (F.LANE.RXADAPT.FREEZE n) then (s.setLane n { s.lane n with thawTo := st }).set (F.LANE.RXSTS.STATE n) 3
  else s.set (F.LANE.RXSTS.STATE n) st

/-- The state the lane is in beneath a freeze. -/
def State.laneState (s : State) (n : Nat) : Nat :=
  if s.flag (F.LANE.RXADAPT.FREEZE n) then (s.lane n).thawTo else s.get (F.LANE.RXSTS.STATE n)

/-- The convergence threshold in 0.25 dB units (R38). -/
def State.convSnr (s : State) (n : Nat) : Nat :=
  let c := s.get (F.LANE.RXADAPT.CONV_SNR n)
  if c ≠ 0 then c
  else
    let r := s.get (F.LANE.RXSTS.RATE n)
    if r = 6 then 74 else if r = 5 then 70 else 60

/-- Record an SNR estimate (R44). -/
def State.sawSnr (s : State) (n snr : Nat) : State :=
  s.sets [(F.LANE.RXSTS.SNR n, snr), (F.LANE.RXSTS.SNR_MIN n, min snr (s.get (F.LANE.RXSTS.SNR_MIN n)))]

/-! ### Transmitter (R32 to R36) -/

/-- R32. -/
def coefOk (pre2 pre1 main post1 : Nat) : Bool :=
  decide (pre2 + pre1 + main + post1 = 64 ∧ main ≥ 32 ∧ pre2 ≤ 8 ∧ pre1 ≤ 16 ∧ post1 ≤ 24)

/-- The device presets of R34 by code: PRE2, PRE1, MAIN, POST1. -/
def devPreset (code : Nat) : List Nat :=
  ([[0, 0, 64, 0], [0, 2, 58, 4], [0, 4, 52, 8], [1, 5, 48, 10], [2, 6, 44, 12], [2, 8, 40, 14], [0, 6, 46, 12], [3, 8, 37, 16],
    [1, 3, 54, 6], [0, 0, 52, 12], [0, 8, 44, 12], [4, 10, 32, 18]]).getD (code - 0x10) [0, 0, 64, 0]

/-- The transmitter preset k of the PCIe specification at a rate, P0 to P10 or Q0 to Q10 (R33): a free set that keeps R32
(notes/assumptions/103.md). -/
def pciePreset (rate k : Nat) : List Nat :=
  let x := (Config.pciePreset rate k).toNat
  let pre2 := bitsOf x 23 16 % 9
  let pre1 := bitsOf x 15 8 % 17
  let post1 := min (bitsOf x 7 0 % 25) (32 - pre2 - pre1)
  [pre2, pre1, 64 - pre2 - pre1 - post1, post1]

def State.setCoefs (s : State) (n pre2 pre1 main post1 preset : Nat) : State :=
  s.sets [(F.LANE.TXEQ.PRE2 n, pre2), (F.LANE.TXEQ.PRE1 n, pre1), (F.LANE.TXEQ.MAIN n, main), (F.LANE.TXEQ.POST1 n, post1),
    (F.LANE.TXEQ.PRESET n, preset)]

/-- A set of coefficients as a list, and the set in use. -/
def listOk (l : List Nat) : Bool := coefOk (l.getD 0 0) (l.getD 1 0) (l.getD 2 0) (l.getD 3 0)
def State.setList (s : State) (n : Nat) (l : List Nat) (preset : Nat) : State :=
  s.setCoefs n (l.getD 0 0) (l.getD 1 0) (l.getD 2 0) (l.getD 3 0) preset
def State.curCoefs (s : State) (n : Nat) : List Nat :=
  [s.get (F.LANE.TXEQ.PRE2 n), s.get (F.LANE.TXEQ.PRE1 n), s.get (F.LANE.TXEQ.MAIN n), s.get (F.LANE.TXEQ.POST1 n)]

/-- The device puts a set in use by itself: not on a lane under MANUAL, which keeps the set last written (R35). -/
def State.useCoefs (s : State) (n : Nat) (l : List Nat) (preset : Nat) : State :=
  if s.flag (F.LANE.TXEQ.MANUAL n) || !listOk l then s else s.setList n l preset

/-- A write of LANE.TXEQ (R32, R35, R36). A set written is kept, and in use while MANUAL = 1. A write whose set breaks R32 is refused whole, MANUAL with
it, whatever MANUAL it gives (DESIGN CHOICE, notes/assumptions/103.md). -/
def State.wrTxeq (s : State) (n v : Nat) : State :=
  let l := [bitsOf v 5 0, bitsOf v 13 8, bitsOf v 30 24, bitsOf v 21 16]
  if !s.laneOff n then s.raise Ev.LANE_MANUAL_IGNORED { inst := n, recC := 1, detail := 2 }
  else if listOk l then
    let s := (s.setLane n { s.lane n with txMan := v % 2 ^ 32 }).sets [(F.LANE.TXEQ.MANUAL n, bitsOf v 39 39), (F.LANE.TXEQ.COEF_ERR n, 0)]
    if bitOf v 39 then s.setList n l 0x1F else s
  else s.set (F.LANE.TXEQ.COEF_ERR n) 1

/-- The coefficient set a partner's EQ_REQ asks for (R100): a device preset, or one tap one unit up or down. -/
def State.askedCoefs (s : State) (n req : Nat) : Option (List Nat × Nat) :=
  let cur := s.curCoefs n
  let tap := [0, 1, 3].getD ((req - 0x40) / 2) 0
  if 0x10 ≤ req ∧ req ≤ 0x1B then some (devPreset req, req)
  else if 0x40 ≤ req ∧ req ≤ 0x45 then
    let v := cur.getD tap 0
    let m := cur.getD 2 0
    if req % 2 = 0 then some ((cur.set tap (v + 1)).set 2 (m - 1), 0x1F)
    else some (if v = 0 then [99, 0, 0, 0] else (cur.set tap (v - 1)).set 2 (m + 1), 0x1F)
  else none

/-- What the Guide would keep of a lane has changed since the history was last written (R50). -/
def State.dirtyAge (s : State) : State := { s with boot := { s.boot with ageDirty := true } }

/-- The lane's logical number on its port, as its sender counts it (R100). -/
def State.laneNo (s : State) (n : Nat) : Nat :=
  let p := s.portOfLane n
  let l := s.lanesOf p
  (if s.flag (F.STN.LINK_STS.REVERSED p) then l.reverse else l).findIdx (· == n)

/-- A TRAIN flit sent whole on a lane: payload bytes 2 to 14, of which MSG and LANE come first and EQ_REQ, EQ_RSP and EQ_DONE last; all other
bytes of its payload are 0 (R100). The lane's scrambler takes it as any flit, an ALIGN flit from the seed (R95). -/
def State.sendTrain (s : State) (n msg : Nat) (param eq : List Nat) : State :=
  let p := s.portOfLane n
  let k := s.laneNo n
  let x := s.hll p
  let raw := trainFlit ([msg, k] ++ (param ++ List.replicate 8 0).take 8 ++ (eq ++ List.replicate 3 0).take 3)
  let (out, r) := laneScramble raw (if msg = 1 then scrSeed k else x.txScr.getD k (scrSeed k))
  (if msg = 1 then s else s.setHll p { x with txScr := x.txScr.set k r }).emit (.trainFlit n out)

/-- An EQ message of this lane: its request, its answer, and whether its receiver has converged. -/
def State.sendEq (s : State) (n req rsp : Nat) : State := s.sendTrain n 2 [] [req, rsp, b2n (s.lane n).selfConv]

/-- A partner's request for a set is applied, or rejected when MANUAL is set or the set breaks R32 (R32, R35). -/
def State.applyAsked (s : State) (n : Nat) (cs : List Nat) (preset : Nat) : State × Bool :=
  if s.flag (F.LANE.TXEQ.MANUAL n) || !listOk cs then (s, false) else ((s.setList n cs preset).dirtyAge, true)

/-- A Halud partner's coefficient request, answered by EQ_RSP (R100). -/
def State.partnerCoefs (s : State) (n req : Nat) : State :=
  match s.askedCoefs n req with
  | none => s
  | some (cs, preset) =>
    let (s, ok) := s.applyAsked n cs preset
    s.sendEq n 0 (if ok then 1 else 2)

/-- An EQ message of a Halud partner: its answer and its convergence flag are kept, its request is served (R48, R100). -/
def State.eqRx (s : State) (n req rsp : Nat) (done : Bool) : State :=
  let l := s.lane n
  (s.setLane n { l with partnerConv := done, rejected := l.rejected || rsp == 2 }).partnerCoefs n req

/-- A PCIe partner's request in Recovery equalisation: a preset, shown by its number, or a set; answered by the coefficients in use and the PCIe
specification's Reject Coefficient Values (R32, R33, R35). -/
def State.pcieCoefs (s : State) (n : Nat) (q : PcieEq) : State :=
  let (cs, preset) := match q with
    | .preset k => (pciePreset (s.get (F.LANE.RXSTS.RATE n)) k.val, k.val)
    | .coefs a b c d => ([a.toNat, b.toNat, c.toNat, d.toNat], 0x1F)
  let (s, ok) := s.applyAsked n cs preset
  s.emit (.train n "TS1_EQ" (b2n (!ok) :: s.curCoefs n))

/-! ### Scans (R60, R61) -/

/-- End a scan that runs or waits on a lane with a RESULT. -/
def State.endScan (s : State) (n result : Nat) : State :=
  if !s.flag (F.LANE.EYESCAN_STS.BUSY n) then s
  else
    (s.setLane n { s.lane n with scanWaits := false }).sets
      [(F.LANE.EYESCAN_STS.BUSY n, 0), (F.LANE.EYESCAN_STS.RESULT n, result), (F.LANE.EYESCAN.GO n, 0)]

/-- EYESCAN_LANE_ABORT: the lane leaves TRACK, changes rate or is turned off (R61). -/
def State.abortScan (s : State) (n : Nat) : State := s.endScan n 3

def State.clearEyeValid (s : State) (n : Nat) : State :=
  (List.range 64).foldl (fun s i => s.set (F.LANE.EYE_RESULT.VALID n i) 0) s

/-- Start a scan now: a contour scan clears the old results. On a lane that is not in TRACK it ends at once, as one whose lane leaves TRACK does
(DEDUCED, notes/assumptions/103.md). -/
def State.beginScan (s : State) (n : Nat) : State :=
  let s := s.set (F.LANE.EYESCAN_STS.BUSY n) 1
  if s.get (F.LANE.RXSTS.STATE n) ≠ 2 then s.abortScan n
  else if s.get (F.LANE.EYESCAN.MODE n) = 0 then s.clearEyeValid n else s

/-- A write of LANE.EYESCAN (R60, R61, R63). Writing GO = 0 stops no scan that runs or waits, and the other fields take effect at once on a scan that
runs, which ends by the MODE they then give (DESIGN CHOICE, notes/assumptions/103.md). -/
def State.wrEyescan (s : State) (n v : Nat) : State :=
  let s := s.writePlain (0x100 + n) 0x160 0 (withBit v 0 false)
  if !bitOf v 0 then (if s.flag (F.LANE.EYESCAN_STS.BUSY n) then s.set (F.LANE.EYESCAN.GO n) 1 else s)
  else if s.flag (F.LANE.EYESCAN_STS.BUSY n) then s.set (F.LANE.EYESCAN.GO n) 1
  else
    let s := s.set (F.LANE.EYESCAN.GO n) 1
    if (s.lane n).margining then
      (s.setLane n { s.lane n with scanWaits := true }).set (F.LANE.EYESCAN_STS.BUSY n) 1
    else s.beginScan n

/-! ### Starting a lane (R39, R46, R47) -/

/-- Is the lane's port a Halud port? -/
def State.laneFab (s : State) (n : Nat) : Bool := s.role (s.portOfLane n) == 3

/-- Clear the three checker counts and their SAT bits (R56). -/
def State.clearChecker (s : State) (n : Nat) : State :=
  s.sets [(F.LANE.PATCHK_BITS.COUNT n, 0), (F.LANE.PATCHK_BITS.SAT n, 0), (F.LANE.PATCHK_ERRS.COUNT n, 0), (F.LANE.PATCHK_ERRS.SAT n, 0),
    (F.LANE.PATCHK_SYMERRS.COUNT n, 0), (F.LANE.PATCHK_SYMERRS.SAT n, 0)]

/-- Put receiver coefficients, CTLE and VGA in use; CTLE stays at CTLE_FORCE while CTLE_HOLD is set (R42). -/
def State.setRx (s : State) (n : Nat) (cs : List Nat) (ctle vga : Nat) : State :=
  let s := (List.range 20).foldl (fun s i => s.set (F.LANE.RXCOEF.COEF n i) (cs.getD i 0)) s
  s.sets [(F.LANE.RXSTS.CTLE n, if s.flag (F.LANE.RXADAPT.CTLE_HOLD n) then s.get (F.LANE.RXADAPT.CTLE_FORCE n) else ctle), (F.LANE.RXSTS.VGA n, vga)]

/-- The start state of R47, beneath what a history record supplies. VGA comes from an amplitude measurement: a free value. A frozen lane holds
its coefficients, and starts when FREEZE is cleared (R37, R43). -/
def State.laneDefaults (s : State) (n ctle : Nat) : State :=
  let s := s.abortScan n
  let frozen := s.flag (F.LANE.RXADAPT.FREEZE n)
  let (g, s) := s.free
  let s := if frozen then s else s.setRx n ((List.replicate 20 0).set 3 0x2000) ctle g
  ((s.clearChecker n).set (F.LANE.PATCHK.RELOCKS n) 0 |>.clearEyeValid n).setLane n
    { s.lane n with snap := none, selfConv := false, partnerConv := false, sweep := none, parked := false, testRun := false, tryRec := false,
                    heldRestore := false, heldRestart := frozen, rejected := false, margining := false, noHist := false }

/-- The EQ_REQ codes that bring a partner to a set from the device preset nearest to it: that preset, then one tap one unit at a time, downward
moves first (R100). -/
def reqCodes (l : List Nat) : List Nat :=
  let far (k : Nat) : Nat := sumList ([0, 1, 3].map fun i => let a := l.getD i 0; let b := (devPreset (0x10 + k)).getD i 0; a - b + (b - a))
  let k := (List.range 12).foldl (fun m k => if far k < far m then k else m) 0
  let moves (up : Bool) : List Nat := (List.range 3).flatMap fun t =>
    let a := l.getD ([0, 1, 3].getD t 0) 0
    let b := (devPreset (0x10 + k)).getD ([0, 1, 3].getD t 0) 0
    if up then List.replicate (a - b) (0x40 + 2 * t) else List.replicate (b - a) (0x41 + 2 * t)
  (0x10 + k) :: (moves false ++ moves true)

/-- Ask the partner's transmitter for a set: by EQ_REQ on a Halud lane, by its coefficients on a PCIe lane, which asks only at the rates that are
equalised, 8 GT/s and above (R46, R48). -/
def State.askPartner (s : State) (n : Nat) (codes want : List Nat) : State :=
  let s := s.setLane n { s.lane n with req := want, rejected := false }
  if s.laneFab n then codes.foldl (fun s c => s.sendEq n c 0) s
  else if s.get (F.LANE.RXSTS.RATE n) ≥ 2 then s.emit (.train n "TS1_EQ_REQ" want) else s

/-- The i-th preset a search or sweep tries: of the PCIe specification's at the lane's rate, or of the device's. -/
def State.tryPreset (s : State) (n i : Nat) : List Nat :=
  if s.laneFab n then devPreset (0x10 + i) else pciePreset (s.get (F.LANE.RXSTS.RATE n)) i
/-- How many presets a search or sweep tries. -/
def State.tryCount (s : State) (n : Nat) : Nat := if s.laneFab n then 12 else 11

/-- The PCIe preset search (START_SRC 2) or the Halud device preset sweep (START_SRC 3) of R46 step 2, from its first preset. -/
def State.laneSearch (s : State) (n : Nat) : State :=
  let s := (s.laneDefaults n 16).setLaneState n 1
  let s := s.set (F.LANE.RXSTS.START_SRC n) (if s.laneFab n then 3 else 2)
  if !s.laneFab n && s.get (F.LANE.RXSTS.RATE n) < 2 then s
  else (s.setLane n { s.lane n with sweep := some 0, bestSnr := 0, best := s.tryPreset n 0 }).askPartner n [0x10] (s.tryPreset n 0)

/-- LANE_ACQUIRE_START: a lane starts at a rate by the first-use rule (R46). With USE_HISTORY it waits in ACQUIRE, at the values of R47, for the look
into the history, an access of the internal activities (R26, R41). CDR_LOCK shows lock from the start (DESIGN CHOICE, notes/assumptions/103.md). -/
def State.laneStart (s : State) (n rate : Nat) : State :=
  let s := (s.set (F.LANE.RXSTS.RATE n) rate).set (F.LANE.RXSTS.CDR_LOCK n) 1
  let s := s.setLane n { s.lane n with convAt := (s.lane n).convAt.filter (· ≠ rate) }
  if s.flag (F.LANE.RXADAPT.USE_HISTORY n) then
    let s := (s.laneDefaults n 16).setLaneState n 1
    { s with age := { s.age with histReads := s.age.histReads.filter (· ≠ n) ++ [n] } }
  else s.laneSearch n

/-- The look into the history of a lane that starts, one access of the ADAPT class (R26, R41, R46). -/
def State.histRead (s : State) (n : Nat) : State :=
  let s := ({ s with age := { s.age with histReads := s.age.histReads.filter (· ≠ n) } } : State).spend 5 1 0
  match s.laneHist n (s.get (F.LANE.RXSTS.RATE n)) with
  | none => s.laneSearch n
  | some none => (s.laneSearch n).raise Ev.LANE_HIST_IGNORED { inst := n, recC := 1, detail := 2 }
  | some (some h) =>
    let s := (((s.laneDefaults n h.ctle).setLaneState n 1).useCoefs n h.acc 0x1F).set (F.LANE.RXSTS.START_SRC n) 1
    (s.setLane n { s.lane n with tryRec := true }).askPartner n (reqCodes h.req) h.req

/-- A lane no longer waits for a look into the history. -/
def State.noHistRead (s : State) (n : Nat) : State := { s with age := { s.age with histReads := s.age.histReads.filter (· ≠ n) } }

/-- A test function's lane runs at PATGEN.RATE, START_SRC 5 (R52). A reserved RATE code, or 0xF, is shown as it is written (DESIGN CHOICE,
notes/assumptions/103.md). -/
def State.laneTest (s : State) (n : Nat) : State :=
  let s := (s.noHistRead n |>.laneDefaults n 16).sets [(F.LANE.RXSTS.RATE n, s.get (F.LANE.PATGEN.RATE n)), (F.LANE.RXSTS.START_SRC n, 5),
    (F.LANE.RXSTS.CDR_LOCK n, 1)]
  (s.setLane n { s.lane n with testRun := true }).setLaneState n 1

/-- Take a lane out of use: IDLE, coefficients held (R37, R71). Margining on it is over. -/
def State.laneIdle (s : State) (n : Nat) : State :=
  let s := (s.noHistRead n).abortScan n
  let s := s.setLaneState n 0
  (s.setLane n { s.lane n with relock := false, aligned := false, sweep := none, margining := false, testRun := false, tryRec := false, heldRestore := false, heldRestart := false,
                               noHist := false, parked := false, convAt := [] }).sets
    [(F.LANE.RXSTS.RATE n, 0xF), (F.LANE.RXSTS.CDR_LOCK n, 0)]

/-- A restart from the start point, as at first use; a test lane restarts as a test lane (R42, R43). A lane that is not in use (RATE 0xF) has no start
point: RESTART does nothing there (DESIGN CHOICE, notes/assumptions/103.md). -/
def State.laneRestartNow (s : State) (n : Nat) : State :=
  let r := s.get (F.LANE.RXSTS.RATE n)
  if (s.lane n).testRun then s.laneTest n else if r = 0xF then s else s.laneStart n r

/-- Back to ACQUIRE from the snapshot, or else from the start point (R39, R40). A frozen lane keeps its coefficients until FREEZE is cleared. A test
lane goes on showing START_SRC 5 (R52). -/
def State.laneRestore (s : State) (n : Nat) : State :=
  match (s.lane n).snap with
  | some (cs, ctle, vga) =>
    let s := (s.abortScan n).setLaneState n 1
    let s := s.set (F.LANE.RXSTS.START_SRC n) (if (s.lane n).testRun then 5 else 4)
    if s.flag (F.LANE.RXADAPT.FREEZE n) then s.setLane n { s.lane n with heldRestore := true } else s.setRx n cs ctle vga
  | none => s.laneRestartNow n

/-- FREEZE is cleared: what it held back acts, a restart before a restore (R43). -/
def State.laneThaw (s : State) (n : Nat) : State :=
  let l := s.lane n
  let s := s.setLane n { l with heldRestart := false, heldRestore := false, noHist := false }
  if l.heldRestart then (if l.noHist && s.get (F.LANE.RXSTS.RATE n) != 0xF then s.laneSearch n else s.laneRestartNow n) else if l.heldRestore then s.laneRestore n else s

/-- A write of LANE.RXADAPT (R42, R43): the RW fields; FREEZE holds or releases the lane, with its CTLE code; RESTART acts, or is held while FREEZE is
set. -/
def State.wrRxadapt (s : State) (n v : Nat) : State :=
  let was := s.flag (F.LANE.RXADAPT.FREEZE n)
  let now := bitOf v 0
  let cur := s.get (F.LANE.RXSTS.STATE n)
  let s := s.writePlain (0x100 + n) 0x108 0 v
  let s := if s.flag (F.LANE.RXADAPT.CTLE_HOLD n) && !now then s.set (F.LANE.RXSTS.CTLE n) (s.get (F.LANE.RXADAPT.CTLE_FORCE n)) else s
  let s :=
    if !was && now then ((s.setLane n { s.lane n with thawTo := cur }).set (F.LANE.RXSTS.STATE n) 3).abortScan n
    else if was && !now then s.set (F.LANE.RXSTS.STATE n) (s.lane n).thawTo
    else s
  let s := if bitOf v 1 then s.setLane n { s.lane n with heldRestart := true, noHist := false } else s
  if now then s else s.laneThaw n

/-! ### Patterns (R53) -/

/-- One step of a PRBS generator of n bits with the taps of its polynomial: the bit sent, and the register after it. -/
def prbsStep (n : Nat) (taps : List Nat) (r : Nat) : Bool × Nat :=
  let b := taps.foldl (fun (x : Bool) t => x != bitOf r (t - 1)) false
  (b, (2 * r + b2n b) % 2 ^ n)

/-- The next k bits of a PRBS generator. -/
def prbsBits (n : Nat) (taps : List Nat) : Nat → Nat → List Bool
  | 0, _ => []
  | k + 1, r =>
    let (b, r) := prbsStep n taps r
    b :: prbsBits n taps k r

/-- Length and taps of the pattern of a code (PRESUMED: ITU-T O.150 and IEEE 802.3 give the polynomials, notes/assumptions/103.md). -/
def prbsOf (code : Nat) : Nat × List Nat :=
  ([(7, [7, 6]), (9, [9, 5]), (15, [15, 14]), (23, [23, 18]), (31, [31, 28]), (13, [13, 12, 2, 1]), (31, [31, 28])]).getD code (7, [7, 6])

/-- The first k bits of the pattern a code names, from a generator of all ones; the user pattern repeats its 80 bits, bit 0 first. -/
def patternBits (code user : Nat) (invert : Bool) (k : Nat) : List Bool :=
  let l := if code = 7 then (List.range k).map fun i => bitOf user (i % 80)
    else prbsBits (prbsOf code).1 (prbsOf code).2 k (2 ^ (prbsOf code).1 - 1)
  if invert then l.map (!·) else l

/-- Bits as the symbols a lane sends at a rate: NRZ levels, or PAM4 levels at 64 and 128 GT/s. -/
def lineSymbols (rate : Nat) : List Bool → List Nat
  | a :: b :: l => if rate = 5 ∨ rate = 6 then grayLevel a b :: lineSymbols rate l else b2n a :: b2n b :: lineSymbols rate l
  | [a] => [b2n a]
  | [] => []

/-- The symbols of the first 80 bits of the pattern a lane's generator drives. -/
def State.patternOut (s : State) (n : Nat) : List Nat :=
  lineSymbols (s.get (F.LANE.PATGEN.RATE n))
    (patternBits (s.get (F.LANE.PATGEN.PATTERN n)) (s.get (F.LANE.USER_PAT_LO.PAT n) + 2 ^ 64 * s.get (F.LANE.USER_PAT_HI.PAT n))
      (s.flag (F.LANE.PATGEN.INVERT n)) 80)

/-- The generator drives the transmitter: the symbols a pattern begins with. -/
def State.drivePattern (s : State) (n : Nat) : State :=
  if s.flag (F.LANE.PATGEN.EN n) && s.laneOff n then s.emit (.train n "PATTERN" (s.patternOut n)) else s

/-- A write of USER_PAT_LO or USER_PAT_HI: a generator that runs sends the new pattern from its next repetition (R54). -/
def State.wrUserPat (s : State) (n off v : Nat) : State :=
  let s := s.writePlain (0x100 + n) off 0 v
  if s.get (F.LANE.PATGEN.PATTERN n) = 7 then s.drivePattern n else s

/-! ### Test functions (R52 to R59) -/

/-- Is any test function of the lane in use? -/
def State.testing (s : State) (n : Nat) : Bool :=
  s.flag (F.LANE.PATGEN.EN n) || s.flag (F.LANE.PATCHK.EN n) || s.flag (F.LANE.LOOPBACK.ACTIVE n)

/-- Start the lane at the test rate when its first test function starts or the rate changes, idle it when the last one ends. -/
def State.testLane (s : State) (n : Nat) : State :=
  if !s.laneOff n then s
  else if s.testing n then
    (if (s.lane n).testRun && s.get (F.LANE.RXSTS.RATE n) == s.get (F.LANE.PATGEN.RATE n) then s else s.laneTest n)
  else if (s.lane n).testRun then s.laneIdle n else s

/-- A write of LANE.PATGEN (R52 to R54). A refused enable has no effect but REFUSED. The reserved patterns 0x8 to 0xF enable the generator (DESIGN
CHOICE, notes/assumptions/103.md). -/
def State.wrPatgen (s : State) (n v : Nat) : State :=
  let quaternary : Bool := bitsOf v 7 4 == 5 || bitsOf v 7 4 == 6
  if bitOf v 0 && (!s.laneOff n || (quaternary && decide (bitsOf v 39 36 ≤ 4))) then s.set (F.LANE.PATGEN.REFUSED n) 1
  else
    let s := s.writePlain (0x100 + n) 0x118 0 v
    let s := if bitOf v 0 then s.set (F.LANE.PATGEN.REFUSED n) 0 else s
    (s.testLane n).drivePattern n

/-- Add to a checker's counts unless they have stopped; at 2^48 - 1 bits all three stop (R55): no bit beyond is counted, and no more errors than bits. -/
def State.addCounts (s : State) (n bits errs syms : Nat) : State :=
  if s.flag (F.LANE.PATCHK_BITS.SAT n) then s
  else
    let nrz := s.get (F.LANE.PATGEN.RATE n) ≤ 4
    let bits := min bits (2 ^ 48 - 1 - s.get (F.LANE.PATCHK_BITS.COUNT n))
    let errs := min errs bits
    let syms := min syms errs
    let s := ((s.addSat (F.LANE.PATCHK_BITS.COUNT n) bits).addSat (F.LANE.PATCHK_ERRS.COUNT n) errs).addSat (F.LANE.PATCHK_SYMERRS.COUNT n)
      (if nrz then 0 else syms)
    if s.get (F.LANE.PATCHK_BITS.COUNT n) = 2 ^ 48 - 1 then
      s.sets [(F.LANE.PATCHK_BITS.SAT n, 1), (F.LANE.PATCHK_ERRS.SAT n, 1), (F.LANE.PATCHK_SYMERRS.SAT n, 1)]
    else s

/-- Count what a locked checker has compared since its counts were last brought up to date: free numbers, no more errors than bits and no more
symbol errors than bit errors (notes/assumptions/103.md). -/
def State.liveCounts (s : State) (n : Nat) : State :=
  if !s.flag (F.LANE.PATCHK.LOCKED n) then s
  else
    let (a, s) := s.free
    let (b, s) := s.free
    let (c, s) := s.free
    let bits := a % 2 ^ 48
    let errs := b % (bits + 1)
    s.addCounts n bits errs (c % (errs + 1))

/-- A write of LANE.PATCHK (R55, R56): EN starts the checker or holds its counts; CLEAR clears them. A checker that stops, or whose pattern changes,
is no longer locked (DEDUCED, notes/assumptions/103.md). -/
def State.wrPatchk (s : State) (n v : Nat) : State :=
  let s := s.liveCounts n
  let old := (s.get (F.LANE.PATCHK.PATTERN n), s.flag (F.LANE.PATCHK.INVERT n))
  let s := s.writePlain (0x100 + n) 0x130 0 v
  let s := if bitOf v 1 then s.clearChecker n else s
  let s := if !bitOf v 0 || old != (s.get (F.LANE.PATCHK.PATTERN n), s.flag (F.LANE.PATCHK.INVERT n)) then s.set (F.LANE.PATCHK.LOCKED n) 0 else s
  s.testLane n

/-- One injection (R58): a PAM4 level move acts as a single bit at the NRZ rates. -/
def State.injectOne (s : State) (n : Nat) : State :=
  let kind := s.get (F.LANE.ERRINJ.KIND n)
  (s.addSat (F.LANE.ERRINJ.COUNT n) 1).emit
    (.train n "ERRINJ" [if kind = 2 ∧ s.get (F.LANE.RXSTS.RATE n) ≤ 4 then 0 else kind, s.get (F.LANE.ERRINJ.BURST_LEN n) + 1])

/-- A write of LANE.ERRINJ (R57, R58). Periodic injection begins with one at the write that sets GO (DESIGN CHOICE, notes/assumptions/103.md) and goes
on each INTERVAL; a write while it runs injects nothing. -/
def State.wrErrinj (s : State) (n v : Nat) : State :=
  let runs := s.flag (F.LANE.ERRINJ.GO n) && s.flag (F.LANE.ERRINJ.PERIODIC n)
  let s := s.writePlain (0x100 + n) 0x150 0 v
  if !bitOf v 0 then s
  else if bitOf v 1 then (if runs then s else s.injectOne n)
  else (s.injectOne n).set (F.LANE.ERRINJ.GO n) 0

/-- A write of LANE.LOOPBACK (R52, R59). A refused mode has no effect but REFUSED. In modes 1 and 2 TX_OFF idles the driver at the pins; the reserved
modes 4 to 7 place no loopback. On a lane of a port that is not OFF a write of MODE 0 leaves the lane as it is, a follower's loopback too. -/
def State.wrLoopback (s : State) (n v : Nat) : State :=
  let m := bitsOf v 2 0
  if m ≠ 0 && !s.laneOff n then s.set (F.LANE.LOOPBACK.REFUSED n) 1
  else
    let s := s.sets [(F.LANE.LOOPBACK.TX_OFF n, bitsOf v 3 3), (F.LANE.LOOPBACK.MODE n, m), (F.LANE.LOOPBACK.REFUSED n, 0)]
    if !s.laneOff n then s
    else ((s.set (F.LANE.LOOPBACK.ACTIVE n) (b2n (decide (1 ≤ m ∧ m ≤ 3)))).testLane n).emit (.train n "LOOPBACK" [m, b2n ((m == 1 || m == 2) && bitOf v 3)])

/-- The PCIe Loopback state as a follower: mode 3 in place on a port's lanes, or taken away (R59). -/
def State.follow (s : State) (p : Nat) (on : Bool) : State :=
  (s.lanesOf p).foldl (fun s n => (s.set (F.LANE.LOOPBACK.ACTIVE n) (b2n on)).emit (.train n "LOOPBACK" [if on then 3 else 0, 0])) s

/-- Clear the lane test functions when a port leaves OFF (R52); a checker that runs counts up to that instant. -/
def State.clearTests (s : State) (n : Nat) : State :=
  (s.liveCounts n).sets [(F.LANE.PATGEN.EN n, 0), (F.LANE.PATCHK.EN n, 0), (F.LANE.PATCHK.LOCKED n, 0), (F.LANE.LOOPBACK.MODE n, 0),
    (F.LANE.LOOPBACK.ACTIVE n, 0)]

/-! ### Lane Margining (R61, R62) -/

/-- The code of a margining step as its answer and its passing on name it. -/
def marginArgs : MarginCmd → List Nat
  | .report => [0]
  | .clear => [1]
  | .normal => [2]
  | .errLimit k => [5, k.toNat]
  | .stepTiming r k => [3, b2n r, k.toNat]
  | .stepVoltage u k => [4, b2n u, k.toNat]

/-- Steps the receiver has: 32 in time on each side, 63 in voltage each way (R62). -/
def marginInRange : MarginCmd → Bool
  | .stepTiming _ k => decide (k.toNat ≤ 32)
  | .stepVoltage _ k => decide (k.toNat ≤ 63)
  | _ => true

/-- R61, R62: a Lane Margining command for this receiver: a local scan is aborted; a step within range makes margining active and is answered with the
errors it shows, a free value, or ends margining where they are more than the error count limit; going back to normal settings ends margining and lets a waiting scan start. The report gives 32 timing steps, 63
voltage steps, 50 % UI as the largest timing offset, and that left and right, up and down are independent. -/
def State.margin (s : State) (n : Nat) (c : MarginCmd) : State :=
  let s := s.count (Ctr.lane n 3) 1
  let s := if (s.lane n).scanWaits then s else s.endScan n 2
  let l := s.lane n
  if !marginInRange c then s.emit (.train n "MARGIN_NAK" (marginArgs c))
  else
    match c with
    | .report => s.emit (.train n "MARGIN_REPORT" [32, 63, 50, 1, 1])
    | .clear => s.emit (.train n "MARGIN_ACK" [])
    | .errLimit k => (s.setLane n { l with errLimit := k.toNat }).emit (.train n "MARGIN_ACK" [k.toNat])
    | .normal =>
      let s := (s.setLane n { l with margining := false, scanWaits := false }).emit (.train n "MARGIN_ACK" [])
      if l.scanWaits then s.beginScan n else s
    | _ =>
      let (e, s) := s.free
      let s := (s.setLane n { l with margining := decide (e % 64 ≤ l.errLimit) }).emit
        (.train n "MARGIN_STEP" (marginArgs c ++ [if e % 64 ≤ l.errLimit then 2 else 0, e % 64]))
      if e % 64 > l.errLimit && l.scanWaits then (s.setLane n { s.lane n with scanWaits := false }).beginScan n else s

end Sys2Proof.Machine
end

