-- ==== Sys2Proof/Machine/Trains.lean ====
section
/-! DEFINITION. Operations on trains: accounts and credits, answers and notices the device builds, the posted-failure log, the ORT, fence and
dirty-log counts, and how a bad, dropped or closed-off train is reported (06_switch_core.md R184; 07_buffer_multicast.md R199 to R206;
09_fabric_mode.md R266 to R273; 11_hut_ordering.md R326; 12_errors_containment.md R343, R345, R348). -/
namespace Sys2Proof.Machine

/-! ### Parts of State -/

def State.dll (s : State) (p : Nat) : Dll := (s.port p).dll
def State.setDll (s : State) (p : Nat) (d : Dll) : State := s.setPort p { s.port p with dll := d }
def State.vctl (s : State) (v : Nat) : VhCtl := Tab.getD s.hut.ctl v {}
def State.setVctl (s : State) (v : Nat) (c : VhCtl) : State := { s with hut := { s.hut with ctl := Tab.setD s.hut.ctl v c {} } }
def State.train? (s : State) (id : Nat) : Option Train := Tab.get? s.core.trains id
def State.putTrain (s : State) (t : Train) : State := { s with core := { s.core with trains := Tab.put s.core.trains t.id t } }
def State.delTrain (s : State) (id : Nat) : State := { s with core := { s.core with trains := Tab.del s.core.trains id } }
def State.trainList (s : State) : List Train := s.core.trains.map Prod.snd

/-- Add to or take from a counting field. -/
def State.addF (s : State) (f : Fld) (n : Nat) : State := s.set f (s.get f + n)
def State.subF (s : State) (f : Fld) (n : Nat) : State := s.set f (s.get f - n)

/-! ### Kinds and sizes -/

/-- Plane port of an ingress or egress instance (R16). -/
def planePort (i : Nat) : Nat := if i < 48 then i / 4 else i - 36

def isPostedKind : TlpKind → Bool
  | .mwr | .msg | .msgD => true
  | _ => false
def isCplKind : TlpKind → Bool
  | .cpl | .cplD | .cplLk | .cplDLk => true
  | _ => false
def isNpKind (k : TlpKind) : Bool := !isPostedKind k && !isCplKind k
def isAtomic : TlpKind → Bool
  | .fetchAdd | .swap | .cas => true
  | _ => false
def isCfgKind : TlpKind → Bool
  | .cfgRd0 | .cfgWr0 | .cfgRd1 | .cfgWr1 => true
  | _ => false
def isRead : TlpKind → Bool
  | .mrd | .mrdLk => true
  | _ => false
def isMem (k : TlpKind) : Bool := isRead k || isAtomic k || k == .mwr

/-- OHC words of a TLP in flit mode, as the PCIe specification gives them: content A for a configuration or I/O request, for a completion with a status
or a low address that its base header has no place for, for a memory request with a PASID or byte enables that are not all set; content C for IDE
(PRESUMED, notes/assumptions/12.md). -/
def ohcWords (t : Tlp) : Nat :=
  (if isCfgKind t.kind || t.kind == .ioRd || t.kind == .ioWr then 1
   else if isCplKind t.kind then b2n (t.status != .sc || t.lowAddr.toNat % 4 != 0)
   else if isMem t.kind then b2n (t.pasid.isSome || t.fbe != 0xF || (decide (t.len > 4) && t.lbe != 0xF))
   else b2n t.pasid.isSome) + b2n t.ide

/-- Header bytes of a TLP in a link mode (R165): 12 B, or 16 B with a 64-bit address or for a message; its prefixes; in flit mode the OHC words, in
non-flit mode a prefix each for a PASID and for IDE. -/
def tlpHdrBytes (flit : Bool) (t : Tlp) : Nat :=
  (if isMem t.kind && t.addr.toNat ≥ 2 ^ 32 || t.kind == .msg || t.kind == .msgD then 16 else 12) + 4 * t.prefixes.toNat +
    4 * (if flit then ohcWords t else b2n t.pasid.isSome + b2n t.ide)
/-- Does a port send and store TLPs in flit mode? -/
def State.flitPort (s : State) (p : Nat) : Bool := decide (p < 48) && s.role p != 3 && s.flag (F.STN.LINK_STS.FLIT p)
def cplCode : CplSt → Nat
  | .sc => 0 | .ur => 1 | .rrs => 2 | .ca => 4

/-- The four header dwords of a TLP outside flit mode, byte 0 in bits 31:24 of the first, as AER's header log holds them (R344; PRESUMED,
notes/assumptions/12.md). -/
def tlpHeader (t : Tlp) : List Nat :=
  let wide := isMem t.kind && decide (t.addr.toNat ≥ 2 ^ 32) || t.kind == .msg || t.kind == .msgD
  let a := t.addr.toNat
  let tag := t.tag.toNat
  let type : Nat := match t.kind with
    | .mrd => 0 | .mwr => 0 | .mrdLk => 1 | .ioRd => 2 | .ioWr => 2 | .cfgRd0 => 4 | .cfgWr0 => 4 | .cfgRd1 => 5 | .cfgWr1 => 5
    | .cpl => 0xA | .cplD => 0xA | .cplLk => 0xB | .cplDLk => 0xB | .fetchAdd => 0xC | .swap => 0xD | .cas => 0xE
    | .msg => 0x10 + t.msgRoute.toNat | .msgD => 0x10 + t.msgRoute.toNat
  let bytes := if t.data.isEmpty then (if isRead t.kind || isCfgKind t.kind || t.kind == .ioRd then max t.len 1 else 0) else t.data.length
  let dw := ((if isMem t.kind then a % 4 else 0) + bytes + 3) / 4 % 1024
  let d0 := (b2n wide + 2 * b2n !t.data.isEmpty) * 2 ^ 29 + type * 2 ^ 24 + tag / 512 % 2 * 2 ^ 23 + t.tc.toNat * 2 ^ 20 + tag / 256 % 2 * 2 ^ 19 +
    b2n t.ido * 2 ^ 18 + b2n t.ecrc * 2 ^ 15 + b2n t.ep * 2 ^ 14 + b2n t.ro * 2 ^ 13 + b2n t.ns * 2 ^ 12 + t.at2.toNat * 2 ^ 10 + dw
  let req := t.reqId.toNat * 2 ^ 16 + tag % 256 * 2 ^ 8
  if isCplKind t.kind then
    [d0, t.cplId.toNat * 2 ^ 16 + cplCode t.status * 2 ^ 13 + t.byteCount % 4096, req + t.lowAddr.toNat, 0]
  else if t.kind == .msg || t.kind == .msgD then [d0, req + t.code.toNat, a % 2 ^ 32, a / 2 ^ 32]
  else
    let d1 := req + t.lbe.toNat * 16 + t.fbe.toNat
    if wide then [d0, d1, a / 2 ^ 32, a % 2 ^ 32 / 4 * 4] else [d0, d1, a % 2 ^ 32 / 4 * 4, 0]

/-- The header of a TLP as AER logs it, by the mode of the port it came by (R344). -/
def State.aerHeader (s : State) (src : Nat) (t : Tlp) : List Nat :=
  let h := tlpHeader t
  if s.flitPort src then (List.range 4).map (Config.flitHeader h) else h

/-- Bytes of a TLP on a port's link. -/
def State.tlpBytes (s : State) (p : Nat) (t : Tlp) : Nat := tlpHdrBytes (s.flitPort p) t + t.data.length
/-- Payload bytes a TLP carries. -/
def tlpDataBytes (t : Tlp) : Nat := t.data.length
/-- Bytes an access asks for; one with bytes disabled is of no size that BAR0 or a control page accepts (R445, R331). -/
def accLen (t : Tlp) : Nat :=
  if t.fbe != 0xF || (t.lbe != 0 && t.lbe != 0xF) then 0 else if t.kind == .mwr then t.data.length else t.len
/-- Core class of a TLP (R167). -/
def tlpClass (t : Tlp) : Nat := if isPostedKind t.kind then 0 else if isCplKind t.kind then 2 else 1
/-- Pool of a TLP on a PCIe port, the Hut or the management endpoint (R199). -/
def tlpPool (t : Tlp) : Nat := tlpClass t

/-- Halud VC of a core class: 3 A-REQ, 4 D-REQ, 5 RSP, 6 MGT (R167). -/
def classVc (cls : Nat) : Nat := cls - 3
def carriages (h d : Nat) : Nat := (h + d + 63) / 64
def Train.ncar (t : Train) : Nat := carriages t.hsz t.dsz
/-- Carriages of a train that have not gone back to the free list. -/
def Train.nheld (t : Train) : Nat := t.ncar - t.gone
/-- Is a train earlier than another of its path: by header, and among the pieces of one header by admission? -/
def Train.before (u t : Train) : Bool := decide (u.ord < t.ord ∨ (u.ord = t.ord ∧ u.adm < t.adm))
def Train.bytes (t : Train) : Nat := t.hsz + t.dsz
/-- Does a train count as posted for the posted hold (R186, R264)? -/
def Train.posted (t : Train) : Bool := t.cls == 0 || ((t.cls == 3 || t.cls == 4) && (match t.hal with
  | some h => h.op == 1
  | none => false))
/-- Every coupling of every leg released. -/
def Train.released (t : Train) : Bool := t.legs.all fun l => l.cpls.all fun c => c.st == 4
/-- Its carriages are still held. -/
def Train.inBuffer (t : Train) : Bool := t.acct != .none
/-- Carriage indices a train still holds (R179, R198). -/
def Train.heldCars (t : Train) : List Nat := if t.inBuffer then t.cars.take 1 ++ t.cars.drop (1 + t.gone) else []
def Train.mcast (t : Train) : Bool := t.dst == 63

/-- Member ports of a train. -/
def Train.members (t : Train) : List Nat := t.legs.flatMap fun l => l.ports

/-! ### Accounts (R199 to R206) -/

/-- The member SHARE_OUT counts a multicast train to: the one with the smallest SHARE_OUT (R205). -/
def State.smallestOut (s : State) (ports : List Nat) : Nat :=
  ports.foldl (fun b p => if s.get (F.BUF.PORT_LIMIT.SHARE_OUT p) < s.get (F.BUF.PORT_LIMIT.SHARE_OUT b) then p else b) (ports.headD 0)

/-- Units of a scale of scaled flow control; 1 with none (R142). -/
def scaleUnit (k : Nat) : Nat := if k = 3 then 16 else if k = 2 then 4 else 1

/-- Scales that header and data counts need: the least that holds them (DESIGN CHOICE, notes/assumptions/107.md). -/
def hdrScale (n : Nat) : Nat := if n ≤ 127 then 1 else if n ≤ 508 then 2 else 3
def dataScale (n : Nat) : Nat := if n ≤ 2047 then 1 else if n ≤ 8188 then 2 else 3

/-- The credits of a pool that a PCIe port advertises for each of its VCs, and the scales it gives them in: none unless both ends scale (R142, R201). -/
def State.pcieAdv (s : State) (p q : Nat) : Nat × Nat × Nat × Nat :=
  match Tab.get? s.core.advert (4 * p + q) with
  | none => (0, 0, 0, 0)
  | some (h, d, _) =>
    let n := s.get (F.EGR.TCVC.VCS p) + 1
    if (s.dll p).scaled then
      let kh := hdrScale (h / n)
      let kd := dataScale (d / n)
      (h / n / scaleUnit kh * scaleUnit kh, d / n / scaleUnit kd * scaleUnit kd, kh, kd)
    else (h / n, d / n, 0, 0)

/-- Return the credits of the pool a train entered (R206): cumulative counts on Halud, an UpdateFC with cumulative counts on PCIe (R142). -/
def State.returnCredits (s : State) (c : Option (Nat × Nat × Nat × Nat × Nat)) : State :=
  match c with
  | none => s
  | some (p, q, vc, h, d) =>
    if p ≥ 48 then s
    else if s.role p = 3 then
      if q ≥ 3 then s
      else
        let x := s.hll p
        s.setHll p { x with reH := x.reH.set q ((x.reH.getD q 0 + h) % 4096), reD := x.reD.set q ((x.reD.getD q 0 + d) % 65536) }
    else if q ≥ 3 then s
    else
      let x := s.dll p
      let (gh, gd) := Tab.getD x.given (3 * vc + q) (0, 0)
      let (_, _, kh, kd) := s.pcieAdv p q
      let s := s.setDll p { x with given := Tab.put x.given (3 * vc + q) (gh + h, gd + d) }
      s.emit (.dllp p (.updateFc (Fin.ofNat 4 vc) (Fin.ofNat 3 q) (BitVec.ofNat 12 ((gh + h) / scaleUnit kh % 256))
        (BitVec.ofNat 16 ((gd + d) / scaleUnit kd % 4096)) (BitVec.ofNat 2 kh) (BitVec.ofNat 2 kd)))

/-- SHARED_PEAK follows SHARED_USED up (R221). -/
def State.peakShared (s : State) : State :=
  s.set F.BUF.SHARED_STS.SHARED_PEAK (max (s.get F.BUF.SHARED_STS.SHARED_PEAK) (s.get F.BUF.SHARED_STS.SHARED_USED))

/-- Book n carriages of a train to an account. -/
def State.chargeN (s : State) (t : Train) (a : Acct) (n : Nat) : State :=
  match a with
  | .pool p q => s.addF (F.BUF.POOL_STS.USED p q) n
  | .shared =>
    (((s.addF F.BUF.SHARED_STS.SHARED_USED n).addF (F.BUF.PORT_STS.SHARE_IN_USED t.src) n).addF (F.BUF.PORT_STS.SHARE_OUT_USED t.outp) n).peakShared
  | .siding => s
  | .retain p => s.addF (F.BUF.PORT_STS.RETAINED p) n
  | .rsv _ => s
  | .none => s

/-- Take n carriages of a train out of the account it is charged to. -/
def State.dischargeN (s : State) (t : Train) (n : Nat) : State :=
  match t.acct with
  | .pool p q => s.subF (F.BUF.POOL_STS.USED p q) n
  | .shared => ((s.subF F.BUF.SHARED_STS.SHARED_USED n).subF (F.BUF.PORT_STS.SHARE_IN_USED t.src) n).subF (F.BUF.PORT_STS.SHARE_OUT_USED t.outp) n
  | .siding => s
  | .retain p => s.subF (F.BUF.PORT_STS.RETAINED p) n
  | .rsv _ => (s.subF F.BUF.SHARED_STS.SHARED_USED n).subF F.GW.GW_STS.RSV_USED n
  | .none => s

/-- Book a train's carriages to an account, and take them out of its own. -/
def State.charge (s : State) (t : Train) (a : Acct) : State := s.chargeN t a t.nheld
def State.discharge (s : State) (t : Train) : State := s.dischargeN t t.nheld

/-- Pool a waiting header is charged to (R199). -/
def InTrain.pool (it : InTrain) : Nat := match it.hal with
  | some h => if it.vh.isSome then (if h.op ≤ 1 then 0 else if h.op ≤ 5 then 1 else 2) else it.vc
  | none => tlpPool it.t

/-- Headers that an ingress instance has taken in and not yet admitted: waiting for lookup, for a window or context, for an ORT entry. -/
def State.waiting (s : State) (p : Nat) : List InTrain :=
  Tab.getD s.core.inq p [] ++ (Tab.getD s.core.miss p []).map Pend.it ++ ((Tab.getD s.core.gwWait p []).map fun g => g.tr.it)

/-- A port's link initialises afresh: what it holds was charged against credits that no longer stand, and returns none (R118, R142). -/
def State.staleCredits (s : State) (p : Nat) : State :=
  let old (it : InTrain) : InTrain := { it with stale := true }
  { s with core := { s.core with
      trains := s.core.trains.map fun e => (e.1, if e.2.src = p then { e.2 with charge := none } else e.2),
      inq := Tab.upd s.core.inq p fun l => l.map old, miss := Tab.upd s.core.miss p fun l => l.map fun e => { e with it := old e.it },
      gwWait := Tab.upd s.core.gwWait p fun l => l.map fun g => { g with tr := { g.tr with it := old g.tr.it } } } }

/-- A message of the device's own waits for the arbiter of a port (R177). -/
def State.pushMsg (s : State) (p : Nat) (t : Tlp) : State := s.setPort p { s.port p with msgs := (s.port p).msgs ++ [t] }

/-- Carriages of a header that waits: those of the train as it arrived (R165, R199). -/
def InTrain.cars (it : InTrain) : Nat := carriages (if it.hal.isSome then 32 else tlpHdrBytes it.flit it.t) it.t.data.length

/-- Carriages charged to a pool: those of its admitted trains and those of the headers that wait at its instance (R199). -/
def State.poolUsed (s : State) (p q : Nat) : Nat :=
  s.get (F.BUF.POOL_STS.USED p q) + (((s.waiting p).filter fun it => it.pool == q).map InTrain.cars).sum

/-- The charge a received header has made against what its ingress advertised (R118, R142): a header unit, and data units of 16 B. -/
def InTrain.charge (it : InTrain) : Option (Nat × Nat × Nat × Nat × Nat) :=
  if it.src ≥ 48 || it.vh.isSome || it.stale then none
  else
    match it.hal with
    | some h => some (it.src, it.vc, it.vc, 1, h.units)
    | none => some (it.src, tlpPool it.t, it.vc, 1, (it.t.data.length + 15) / 16)

/-- Header and data credits of a pool that its partner has spent and that have not been returned. -/
def State.poolOut (s : State) (p q : Nat) : Nat × Nat :=
  let l := ((s.waiting p).filterMap InTrain.charge ++ s.trainList.filterMap Train.charge).filter fun c => c.1 == p && c.2.1 == q
  ((l.map fun c => c.2.2.2.1).sum, (l.map fun c => c.2.2.2.2).sum)

/-- Is a pool full: no room for another header, or its partner has spent all its header or all its data credits (R207)? -/
def State.poolFull (s : State) (p q : Nat) : Bool :=
  let (h, d) := s.poolOut p q
  let spent (n adv : Nat) : Bool := decide (0 < adv ∧ adv ≤ n)
  decide (s.poolUsed p q + 3 > s.get (F.BUF.POOL_STS.RESERVED p q)) || spent h (s.get (F.BUF.POOL_STS.ADV_HDR p q)) ||
    spent d (s.get (F.BUF.POOL_STS.ADV_DATA p q))

/-- FULL_SEEN of a pool that is full. -/
def State.noteFull (s : State) (p q : Nat) : State := if s.poolFull p q then s.set (F.BUF.POOL_STS.FULL_SEEN p q) 1 else s

/-- Move a train to another account; leaving a pool returns its credits (R206). -/
def State.moveAcct (s : State) (t : Train) (a : Acct) : State :=
  let s := s.discharge t
  let s := match t.acct with
    | .pool .. => s.returnCredits t.charge
    | _ => s
  (s.charge t a).putTrain { t with acct := a, charge := none }

/-- Does a member still use a train it has retained: its copy waits, is being sent, or is not yet covered? -/
def Train.at' (t : Train) (p : Nat) : Bool := t.unacked.contains p || t.copies.any fun c => c.port == p

/-- A train's carriages go to the retention account of the member that sends it (R131, R206). A multicast train that has yet to cross a plane, or has
residue, keeps its own account and is charged there too, as is one that another member still retains; otherwise it leaves its account, and what the
siding held for it is free (R220). -/
def State.retainAt (s : State) (p : Nat) (t : Train) : State :=
  let crossing : Bool := t.mcast && t.legs.any fun l => l.cpls.any fun c => decide (c.st < 3) || c.st == 5
  let add (s : State) : State := (s.addF (F.BUF.PORT_STS.RETAINED p) t.nheld).putTrain { t with also := t.also ++ [p] }
  if t.acct == .retain p || (crossing && t.also.contains p) then s
  else if crossing then add s
  else
    match t.acct with
    | .retain q => if t.also.contains p then s else if t.at' q then add s else s.moveAcct t (.retain p)
    | _ =>
      let s := if t.mcRsv > 0 then s.subF F.MCAST.SIDING_STS.USED t.ncar else s
      let s := if t.also.contains p then s.subF (F.BUF.PORT_STS.RETAINED p) t.nheld else s
      s.moveAcct { t with mcRsv := 0, also := t.also.filter (· ≠ p) } (.retain p)

/-- A member no longer retains a train that another still does. -/
def State.unretain (s : State) (t : Train) (p : Nat) : State :=
  let less (s : State) (t : Train) : State := (s.subF (F.BUF.PORT_STS.RETAINED p) t.nheld).putTrain t
  if t.also.contains p then less s { t with also := t.also.filter (· ≠ p) }
  else
    match t.acct, t.also with
    | .retain q, r :: rest => if q = p then less s { t with acct := .retain r, also := rest } else s
    | _, _ => s

/-- The retention accounts a train is charged to beside its own let it go. -/
def State.unretainAll (s : State) (t : Train) : State := t.also.foldl (fun s p => s.subF (F.BUF.PORT_STS.RETAINED p) t.nheld) s

/-- The egress has copied a number of bytes of a train: the carriages it is done with, the header carriage aside, go back to the free list (R179). -/
def State.copied (s : State) (t : Train) (n : Nat) : State :=
  let k := min (n / 64) t.ncar - 1
  if t.mcast || !t.inBuffer || k ≤ t.gone then s
  else
    let s := s.dischargeN t (k - t.gone)
    s.putTrain { t with gone := k }

/-- Oldest generation a train still in the device was translated under (R161), shown in DRAIN_GEN of the XLAT page. -/
def State.drainGen (s : State) : State :=
  let g := s.get (F.HDR.COMMIT_GEN.GEN 0x40)
  let ages := (s.trainList.filter Train.inBuffer).map (fun t => (g + 2 ^ 32 - t.gen) % 2 ^ 32)
    ++ (s.core.miss.flatMap fun e => e.2.map fun p => (g + 2 ^ 32 - p.gen) % 2 ^ 32)
    ++ (s.core.gwWait.flatMap fun e => e.2.map fun p => (g + 2 ^ 32 - p.tr.gen) % 2 ^ 32)
  s.set (F.HDR.DRAIN_GEN.GEN 0x40) ((g + 2 ^ 32 - ages.foldl max 0) % 2 ^ 32)

/-! ### Cairns (14_telemetry.md R405) -/

/-- Core cycles since a moment, as a cairn counts them. -/
def State.cycles (s : State) (t0 : Nat) : Nat := min 0xFFFFFF (16 * (s.time.now - t0))

/-- A tagged train reaches a stage: 2 plane, 3 shunt, 4 egress, 5 ack. -/
def State.cairnStage (s : State) (id k : Nat) : State :=
  { s with tele := { s.tele with cairns := Tab.upd s.tele.cairns id fun c =>
                                   if c.done || c.stages.getD k 0 != 0 then c else { c with stages := c.stages.set k (s.cycles c.time), done := k == 5 } } }

/-- End a train's cairn: its last byte acknowledged, performed or answered, or it was nullified or dropped. -/
def State.endCairn (s : State) (id : Nat) (null : Bool) : State :=
  { s with tele := { s.tele with cairns := Tab.upd s.tele.cairns id fun c => if c.done then c else
                                 { c with done := true, null := null, stages := if null then c.stages else c.stages.set 5 (s.cycles c.time) } } }

/-! ### Records about trains (R410) -/

/-- The detail words of a record about a train. -/
def trainW (rid tag inp outp vh cls len addr wtag srcN dstN cause : Nat) : List Nat :=
  [rid % 65536 * 2 ^ 48 + tag % 16384 * 2 ^ 34 + inp % 64 * 2 ^ 28 + outp % 64 * 2 ^ 22 + vh % 32 * 2 ^ 17 + cls % 16 * 2 ^ 13 + len % 8192,
    addr % 2 ^ 64, wtag % 2 ^ 64, srcN % 4096 * 2 ^ 52 + dstN % 4096 * 2 ^ 40 + cause % 16 * 2 ^ 36]

/-- Detail words of a received TLP. LEN is the length of the data it carries or, for a read, asks for (DEDUCED, notes/assumptions/29.md). -/
def tlpW (src vh : Nat) (t : Tlp) (dst addr wtag : Nat) : List Nat :=
  trainW t.reqId.toNat t.tag.toNat src dst vh (tlpClass t) (if t.data.isEmpty then t.len else t.data.length) addr wtag 0 0 0

/-- Detail words of a Halud packet. -/
def halW (src dst : Nat) (h : Hdr) : List Nat :=
  trainW h.reqId h.ftag src dst h.dvh (if h.op = 8 ∨ h.op = 9 then 5 else if h.op ≥ 0x10 then 6 else 3) (if h.op = 2 then h.rlen else h.len) h.addr
    h.wtag h.src h.dst 0

/-! ### Whom an event concerns (R343, R345) -/

/-- The VF_MAP entry of a bound VF of a port by its physical routing ID, if STATE is not FREE. -/
def State.vfOf (s : State) (p rid : Nat) : Option Nat :=
  (List.range 1024).find? fun i => s.flag (F.VH.VF_MAP0.VALID i) && s.get (F.VH.VF_MAP0.STATE i) != 0 &&
    s.get (F.VH.VF_MAP0.PORT i) == p && s.get (F.VH.VF_MAP0.PHYS_RID i) == rid

/-- Where AER about a train that arrived at an ingress instance is reported: VH and function (R343). -/
def State.aerOf (s : State) (src vh rid : Nat) : Option (Nat × Nat) :=
  if src ≥ 48 then none
  else if s.role src = 1 then (s.vhOfHost src).map fun v => (v, 0)
  else if s.role src = 2 then
    match s.vdspOfPort src with
    | none => none
    | some (v, d) =>
      if s.get (F.VH.VDSP.KIND v d) = 2 then
        match s.vfOf src rid with
        | some i => some (s.get (F.VH.VF_MAP0.VH i), s.get (F.VH.VF_MAP0.DEV i))
        | none => some (v, d)
      else some (v, d)
  else (if vh < 24 then none else none)

/-- The ingress instance an escalation would contain (R345): bound VF, KIND 1 port, tenant VH; never the manager's. -/
def State.ingressOf (s : State) (src rid : Nat) : Option (Nat × Nat) :=
  if src ≥ 48 then none
  else if s.role src = 2 then
    match s.vfOf src rid with
    | some i => if s.get (F.VH.VF_MAP0.STATE i) = 1 then some (2, i) else none
    | none =>
      match s.vdspOfPort src with
      | some (v, d) => if s.get (F.VH.VDSP.KIND v d) = 1 then some (0, src) else none
      | none => none
  else if s.role src = 1 then
    match s.vhOfHost src with
    | some v => if v = s.managerVh then none else some (1, v)
    | none => none
  else none

/-- Raise an event about a train received at an instance, with its record, AER and escalation. -/
def State.raiseTrain (s : State) (code src vh : Nat) (t : Tlp) (dst addr wtag : Nat) (aerOn : Bool := true) (inst : Nat := src)
    (ckey : Option Nat := none) (w : Option (List Nat) := none) (quiet : Bool := false) : State :=
  let rid := (if isCplKind t.kind then t.cplId else t.reqId).toNat
  s.raise code { quiet := quiet, inst := inst, ckey := ckey, key := vh, detail := 1, w := w.getD (tlpW src vh t dst addr wtag), aerAt := s.aerOf src vh rid, aerOn := aerOn, hdr := s.aerHeader src t,
                 ingress := s.ingressOf src rid, page := if code / 256 = 0x20 then some 0x20 else none }

/-! ### Trains the device builds -/

/-- Put a built train into an ingress instance's queue. -/
def State.inject (s : State) (it : InTrain) : State :=
  let it := { it with id := s.core.nextId, time := s.time.now }
  { s with core := { s.core with nextId := s.core.nextId + 1, inq := Tab.put s.core.inq it.src (Tab.getD s.core.inq it.src [] ++ [it]) } }

/-- A completion for a request. -/
def cplFor (t : Tlp) (st : CplSt) (cplId : Nat) (data : List Byte := []) : Tlp :=
  { kind := if data.isEmpty then (if t.kind == .mrdLk then .cplLk else .cpl) else (if t.kind == .mrdLk then .cplDLk else .cplD),
    reqId := t.reqId, tag := t.tag, tc := t.tc, ro := t.ro, ido := t.ido, ns := t.ns, status := st, cplId := BitVec.ofNat 16 cplId,
    byteCount := if isRead t.kind then t.len else 4, lowAddr := BitVec.ofNat 7 (t.addr.toNat % 128), len := data.length, data := data }

/-- Answer a non-posted request received at an instance in its own VH: the completion goes back to where the request came from. -/
def State.answer (s : State) (src vh : Nat) (t : Tlp) (st : CplSt) (data : List Byte := []) : State :=
  if !isNpKind t.kind then s
  else s.inject { id := 0, src := src, vh := some vh, t := cplFor t st 0 data, eg := some src }

/-- Send a Halud packet that this node issues, from the gateway of an instance. -/
def State.sendHal (s : State) (src : Nat) (h : Hdr) (data : List Byte := []) : State :=
  s.inject { id := 0, src := src, vh := some h.svh, t := { kind := .msg, data := data }, hal := some h }

/-- Data bytes of the responses to a Halud request. -/
def rspBytes (h : Hdr) : Nat := if h.op = 2 then h.rlen else if h.op = 5 then h.len / 2 else h.len

/-- A response to a Halud request of which some bytes are left to return (R250, R251); LOWER_ADDR is a read's, as in PCIe completions. -/
def rspFor (node : Nat) (h : Hdr) (status : Nat) (left : Nat := rspBytes h) : Hdr :=
  { op := 0x08, dst := h.src, src := node, dvh := h.svh, svh := h.dvh, tc := h.tc, ro := h.ro, ido := h.ido, reqId := h.reqId, ftag := h.ftag,
    epoch := h.epoch, status := status, byteCount := left, lowerAddr := if h.op = 2 then (h.addr + (rspBytes h - left)) % 128 else 0 }

/-! ### The posted-failure log (R273, R274) -/

/-- What a posted-failure entry holds. -/
structure PfnRec where
  np : Bool := false
  cause : Nat
  tnode : Nat
  rnode : Nat
  tport : Nat
  tvh : Nat
  ovh : Nat
  tc : Nat
  addr : Nat
  reqId : Nat
  len : Nat
  wtag : Nat
  /-- Instance a train of this node came from (R345). -/
  ingress : Option (Nat × Nat) := none
deriving DecidableEq, Repr

/-- Enter a notice: coalesced with an entry of the same target and page within 1 ms, or a new entry, or counted as overflow (R273). -/
def State.pfnEnter (s : State) (r : PfnRec) : State :=
  let head := s.get F.GW.PFN_STS.HEAD
  let n := s.get F.GW.PFN_STS.COUNT
  let w := trainW r.reqId 0 63 r.tport r.ovh 0 r.len r.addr r.wtag r.rnode r.tnode r.cause
  let same (i : Nat) : Bool := s.get (F.GW.PFN_LOG0.TGT_NODE i) == r.tnode && s.get (F.GW.PFN_LOG0.TGT_PORT i) == r.tport &&
    s.get (F.GW.PFN_LOG0.TGT_VH i) == r.tvh && s.get (F.GW.PFN_LOG1.ADDR i) / 1024 == r.addr / 4096 &&
    s.time.now - Tab.getD s.fab.pfnFirst i 0 < 100000
  match ((List.range n).map fun k => (head + k) % 256).find? same with
  | some i =>
    (s.addSat (F.GW.PFN_LOG0.COUNT i) 1).set (F.GW.PFN_LOG2.LAST_DELTA i) (s.time.now - Tab.getD s.fab.pfnFirst i 0)
  | none =>
    if n ≥ 256 then (s.addSat F.GW.PFN_STS.OVERFLOW 1).raise Ev.PFN_OVERFLOW { inst := r.tport, key := r.ovh, recC := 2, detail := 1, w := w }
    else
      let i := (head + n) % 256
      let s := s.sets [(F.GW.PFN_LOG0.VALID i, 1), (F.GW.PFN_LOG0.NP i, b2n r.np), (F.GW.PFN_LOG0.CAUSE i, r.cause),
        (F.GW.PFN_LOG0.TGT_NODE i, r.tnode), (F.GW.PFN_LOG0.REPORT_NODE i, r.rnode), (F.GW.PFN_LOG0.TGT_PORT i, r.tport),
        (F.GW.PFN_LOG0.TGT_VH i, r.tvh), (F.GW.PFN_LOG0.ORIG_VH i, r.ovh), (F.GW.PFN_LOG0.TC i, r.tc), (F.GW.PFN_LOG0.COUNT i, 1),
        (F.GW.PFN_LOG1.ADDR i, r.addr / 4), (F.GW.PFN_LOG2.FIRST_TIME i, s.time.now), (F.GW.PFN_LOG2.LAST_DELTA i, 0),
        (F.GW.PFN_LOG3.REQ_ID i, r.reqId), (F.GW.PFN_LOG3.LEN i, r.len), (F.GW.PFN_LOG3.WTAG i, r.wtag), (F.GW.PFN_STS.COUNT, n + 1)]
      let s := { s with fab := { s.fab with pfnFirst := Tab.put s.fab.pfnFirst i s.time.now } }
      let s := (s.raise Ev.PFN_ENTRY { inst := r.tport, key := r.ovh, detail := 1, w := w, ingress := r.ingress }).count (Ctr.vh r.ovh 13) 1
      let s := if s.flag F.GW.PFN_CFG.MGR_IRQ_EN then s.raiseMsix s.managerVh 2 else s
      if bitOf (s.get F.GW.PFN_CFG.VH_IRQ_EN) r.ovh then s.raiseMsix r.ovh 2 else s

/-- The local entry of a TLP write that failed (causes PORT_DOWN, CORE_NULL, UNREACHABLE ...). -/
def State.pfnTlp (s : State) (vh tport tvh : Nat) (t : Tlp) (cause wtag : Nat) (src : Nat := 63) : State :=
  s.pfnEnter { cause := cause, tnode := s.get F.ROUTE.NODE_ID.ID, rnode := s.get F.ROUTE.NODE_ID.ID, tport := tport, tvh := tvh, ovh := vh,
               tc := t.tc.toNat, addr := t.addr.toNat, reqId := t.reqId.toNat, len := t.len, wtag := wtag, ingress := s.ingressOf src t.reqId.toNat }

/-- The PFN of R272 for a dropped Halud transaction, entered locally when this node is its source. -/
def State.pfnHal (s : State) (src : Nat) (h : Hdr) (cause : Nat) (np : Bool) : State :=
  let me := s.get F.ROUTE.NODE_ID.ID
  let len := if h.op = 2 then h.rlen else h.len
  if h.src = me then
    s.pfnEnter { np := np, cause := cause, tnode := h.dst, rnode := me, tport := h.dport, tvh := h.dvh, ovh := h.svh, tc := h.tc, addr := h.addr,
                 reqId := h.reqId, len := len, wtag := h.wtag, ingress := s.ingressOf src h.reqId }
  else
    s.sendHal src { h with op := 0x10, dst := h.src, src := me, desc := false, hops := 0, mc := false, group := 0, ftag := h.ftag / 4096 * 4096 + h.dst % 4096,
                           len := 0, rlen := len, cause := cause, np := np }

/-! ### The ORT (R266 to R270) -/

def State.ort? (s : State) (e : Nat) : Option Ort := Tab.get? s.fab.ort e
def State.putOrt (s : State) (e : Nat) (o : Ort) : State := { s with fab := { s.fab with ort := Tab.put s.fab.ort e o } }
/-- Counts of R279, from the entries; those in quarantine count as in use (R266). -/
def State.ortSts (s : State) : State :=
  let n (f : Ort → Bool) : Nat := min 16383 (s.fab.ort.countP fun e => f e.2)
  s.sets [(F.GW.ORT_STS.SRC, n fun o => o.kind == 0), (F.GW.ORT_STS.DST, n fun o => o.kind == 1), (F.GW.ORT_STS.LCL, n fun o => o.kind == 2), (F.GW.ORT_STS.QUAR, n fun o => o.quar),
    (F.GW.ORT_STS.WAIT, min 255 ((s.core.gwWait.map fun e => e.2.length).foldl (· + ·) 0))]

/-- Release what is left of an entry's reservation (R267). -/
def State.freeRsv (s : State) (o : Ort) : State := (s.subF F.BUF.SHARED_STS.SHARED_USED o.rsv).subF F.GW.GW_STS.RSV_USED o.rsv

/-- Free an entry that has completed normally (R268). -/
def State.ortFree (s : State) (e : Nat) : State :=
  match s.ort? e with
  | none => s
  | some o => ({ s.freeRsv o with fab := { s.fab with ort := Tab.del s.fab.ort e } } : State).ortSts

/-- A response uses up its entry: freed when nothing is left to return, or at an error. -/
def State.ortUse (s : State) (e n : Nat) (err : Bool) : State :=
  match s.ort? e with
  | none => s
  | some o => if err || n ≥ o.left then s.ortFree e else s.putOrt e { o with left := o.left - n }

/-- A response has been sent (R268). -/
def State.ortSent (s : State) (t : Train) : State :=
  match t.resp with
  | some (e, n, err) => if (s.ort? e).any fun o => !o.quar then s.ortUse e n err else s
  | none => s

/-- Answer an entry's requester with Completion Abort, release its reservation and quarantine it: a timeout, or the closure of its target
port (R268, R270). -/
def State.ortAbort (s : State) (e : Nat) : State :=
  match s.ort? e with
  | none => s
  | some o =>
    if o.quar then s
    else
      let s := match o.hal with
        | some h => s.sendHal o.src (rspFor (s.get F.ROUTE.NODE_ID.ID) h 4 o.left)
        | none => s.answer o.src o.vh o.req .ca
      ((s.freeRsv o).putOrt e { o with quar := true, rsv := 0 }).ortSts

/-- Record about an ORT entry. -/
def ortW (e : Nat) (o : Ort) : List Nat := trainW o.req.reqId.toNat e o.src o.port o.vh 1 o.req.len o.req.addr.toNat 0 0 o.node 0

/-- Close every entry that targets a port that goes down or is contained (R268). -/
def State.ortClosePort (s : State) (p : Nat) : State :=
  (s.fab.ort.map Prod.fst).foldl (fun s e =>
    match s.ort? e with
    | none => s
    | some o =>
      if o.kind ≠ 0 && !o.quar && o.port == p then (s.ortAbort e).raise Ev.ORT_CLOSE { inst := p, key := o.vh, detail := 1, w := ortW e o, ingress := s.ingressOf o.src o.req.reqId.toNat } else s) s

/-! ### Fences (R326, R328) -/

/-- Is a posted train of this stamp covered by its VH's pending fence? -/
def State.covered (s : State) (stamp : Option (Nat × Nat)) (toHut : Bool) : Bool :=
  match stamp with
  | none => false
  | some (v, k) =>
    let c := s.vctl v
    c.st == 1 && k != c.stamp && (c.scope || toHut)

/-- Declare a covered write lost (R326, R334): causes 1 port, 2 nullified, 3 refused, 4 dropped here, 5 multicast copy, 6 link state. -/
def State.fenceLose (s : State) (stamp : Option (Nat × Nat)) (toHut : Bool) (addr cause : Nat) : State :=
  if !s.covered stamp toHut then s
  else
    match stamp with
    | none => s
    | some (v, _) =>
      let c := s.vctl v
      (s.setVctl v { c with loss := min 65535 (c.loss + 1), firstCause := if c.loss = 0 then cause else c.firstCause,
                            lossAddr := if c.loss = 0 then addr else c.lossAddr }).count (Ctr.vh v 22) 1

/-! ### Couplings at an output (R173) -/

/-- Couplings of the trains toward an egress plane port that satisfy a test: train, its leg, index, coupling. -/
def State.cplsAt (s : State) (y : Nat) (f : Train → Cpl → Bool) : List (Train × Leg × Nat × Cpl) :=
  s.trainList.flatMap fun t => (t.legs.filter fun l => l.y == y).flatMap fun l =>
    ((List.range l.cpls.length).zip l.cpls).filterMap fun c => if f t c.2 then some (t, l, c.1, c.2) else none

/-- Has an input a request out on a plane toward an output? -/
def State.requested (s : State) (x n y : Nat) : Bool := !(s.cplsAt y fun t c => t.x == x && c.plane == n && c.st == 1).isEmpty

/-- A parked request ends with its train: the slot of its input is empty again, unless another request of the input stands there (R173). -/
def State.unpark (s : State) (t : Train) : State :=
  t.legs.foldl (fun s l => l.cpls.foldl (fun s c =>
    let b := s.get (F.PLANE.OUT_STS.BIV c.plane l.y)
    if c.st = 1 ∧ bitOf b t.x ∧ !s.requested t.x c.plane l.y then s.set (F.PLANE.OUT_STS.BIV c.plane l.y) (withBit b t.x false) else s) s) s

/-! ### End of a train -/

/-- A train leaves the device whole: its carriages are released and everything counts it out. -/
def State.endTrain (s : State) (t : Train) (null : Bool) : State :=
  let s := (s.discharge t).unretainAll t
  let s := match t.acct with
    | .pool .. => s.returnCredits t.charge
    | _ => s
  let s := if t.mcRsv > 0 then s.subF F.MCAST.SIDING_STS.USED t.ncar else s
  let s := if t.mcRsv = 2 then s.subF F.MCAST.SIDING_STS.ENTRIES 1 else s
  (((s.delTrain t.id).unpark t).endCairn t.id null).drainGen

/-- Its carriages are released but the partner has yet to acknowledge it (R326): only the train's record stays. -/
def State.releaseCarriages (s : State) (t : Train) : State :=
  let s := (s.discharge t).unretainAll t
  let s := match t.acct with
    | .pool .. => s.returnCredits t.charge
    | _ => s
  let s := if t.mcRsv > 0 then s.subF F.MCAST.SIDING_STS.USED t.ncar else s
  let s := if t.mcRsv = 2 then s.subF F.MCAST.SIDING_STS.ENTRIES 1 else s
  (s.putTrain { t with acct := .none, charge := none, mcRsv := 0, also := [] }).drainGen

/-- Address a train's requester sent. -/
def Train.sentAddr (t : Train) : Nat := match t.rxHal with
  | some h => h.addr
  | none => t.rx.addr.toNat
def Train.toHut (t : Train) : Bool := t.dst == 48

/-- QUEUE_STS.DEPTH and BACKLOGGED of a port's queue: trains that have not begun (R248); an empty queue's deficit is 0 (R229). -/
def State.queueSts (s : State) (p q : Nat) : State :=
  let n := (s.trainList.map fun t => t.copies.countP fun c => c.port == p && c.queue == q && c.sent == 0 && !c.again).foldl (· + ·) 0
  let s := s.sets [(F.EGR.QUEUE_STS.DEPTH p q, min n 4095), (F.EGR.QUEUE_STS.BACKLOGGED p q, b2n (n > 0))]
  if n = 0 then s.set (F.EGR.QUEUE_STS.DEFICIT p q) 0 else s

/-- Couplings of a unicast train that its egress has placed on the link whole: their yard slots are free again. A cut-through train keeps all of
them until its tail has gone (R178, R183), unless it has more couplings than its ingress has tokens (notes/assumptions/23.md). -/
def Train.freed (t : Train) (big : Bool) : Nat :=
  match t.copies with
  | c :: _ => if t.ct && !big then 0 else c.sent * 4 / 256
  | [] => 0

/-- Tokens of an ingress plane port for an egress port (R178). -/
def State.tokenMax (s : State) (dst : Nat) : Nat :=
  if dst ≥ 48 then 36 else
    let w := s.widthOf dst
    if w ≥ 16 then 36 else if w ≥ 8 then 18 else 9
/-- Has a train more couplings than its ingress has tokens? -/
def State.bigTrain (s : State) (t : Train) : Bool := decide ((t.legs.map fun l => l.cpls.length).sum > s.tokenMax t.dst)

/-- Yard slots of an egress plane port in use (R178, R193): unicast couplings in the yard, or released and not yet sent. -/
def State.yardOcc (s : State) (y : Nat) : State :=
  let occ := (s.trainList.map fun t =>
    if !t.mcast && t.inBuffer && (t.copies ≠ [] || !t.released) then
      (t.legs.map fun l => if l.y = y then (l.cpls.countP fun c => c.st == 3 || c.st == 4) - t.freed (s.bigTrain t) else 0).foldl (· + ·) 0
    else 0).foldl (· + ·) 0
  let s := s.set (F.EGR.YARD_STS.OCC y) (min occ 512)
  s.set (F.EGR.YARD_STS.OCC_MAX y) (max (s.get (F.EGR.YARD_STS.OCC_MAX y)) (min occ 512))

def State.refreshQueues (s : State) (t : Train) : State :=
  let s := t.copies.foldl (fun s c => s.queueSts c.port c.queue) s
  t.legs.foldl (fun s l => s.yardOcc l.y) s

/-! ### Slot accounting (R401, R402) -/

/-- Add bytes to a slot counter of a port: whole slots of 64 B are counted, the rest is kept. -/
def State.slots (s : State) (p e n : Nat) : State :=
  let r := Tab.getD s.tele.rem (16 * p + e) 0 + n
  ({ s with tele := { s.tele with rem := Tab.setD s.tele.rem (16 * p + e) (r % 64) 0 } } : State).count (Ctr.port p e) (r / 64)

/-- Book bytes a port sends, or the bytes of slots it loses, to a category (R402): 1 CARRIED, 2 WASTED_REPLAY, 3 WASTED_NULL,
4 WASTED_OVERHEAD, 5 WASTED_WITHDRAW, 6 FRONT_STARVED, 7 to 11 BACK_*. -/
def State.book (s : State) (p e n : Nat) : State := s.slots p e n

/-! ### Reports about lost trains -/

/-- Core class of a packet: a request that has turned to descent is on D-REQ (R167, R258). -/
def Hdr.cls (h : Hdr) : Nat := if h.op = 8 ∨ h.op = 9 then 5 else if h.op ≥ 0x10 then 6 else if h.desc then 4 else 3

/-- What the record of a fabric drop holds of the route, in the low bits of its last word: HOPS, DESC, and of the RT_ENTRY consulted VALID, NM1 and the
four ports (R271; the place is a DESIGN CHOICE, notes/assumptions/108.md). -/
def State.routeW (s : State) (h : Hdr) : Nat :=
  h.hops % 32 * 2 ^ 31 + b2n h.desc * 2 ^ 30 +
    (if h.dst = s.get F.ROUTE.NODE_ID.ID || h.mc then 0
     else s.get (F.ROUTE.RT_ENTRY.VALID h.dst) * 2 ^ 26 + s.get (F.ROUTE.RT_ENTRY.NM1 h.dst) * 2 ^ 24 + s.get (F.ROUTE.RT_ENTRY.PORT3 h.dst) * 2 ^ 18 +
       s.get (F.ROUTE.RT_ENTRY.PORT2 h.dst) * 2 ^ 12 + s.get (F.ROUTE.RT_ENTRY.PORT1 h.dst) * 2 ^ 6 + s.get (F.ROUTE.RT_ENTRY.PORT0 h.dst))

/-- The event, record and counts of a fabric drop (R259, R271). OUT_PORT of the record holds DST_PORT. -/
def State.fabDropNote (s : State) (src : Nat) (h : Hdr) (cause : Nat) : State :=
  let w := (trainW h.reqId h.ftag src h.dport h.dvh h.cls (if h.op = 2 then h.rlen else h.len) h.addr h.wtag h.src h.dst cause).modify 3 (· + s.routeW h)
  let s := s.raise (0x4200 + cause) { inst := src, key := h.dvh, detail := 1, w := w, ingress := s.ingressOf src h.reqId }
  let s := s.sets (if cause ≤ 4 then [(F.ROUTE.ROUTE_STS.LAST_DST, h.dst), (F.ROUTE.ROUTE_STS.LAST_SRC, h.src)] else [])
  if cause = 1 then s.addSat F.ROUTE.ROUTE_STS.UNREACH 1 else if cause = 2 then s.addSat F.ROUTE.ROUTE_STS.TURN 1
  else if cause = 3 then s.addSat F.ROUTE.ROUTE_STS.DIR_MISMATCH 1 else if cause = 4 then s.addSat F.ROUTE.ROUTE_STS.HOP_LIMIT 1 else s

/-- The fabric drop of R271: by kind, a PFN, a response toward the source, or a record. `np` requests of cause LINK_LOST get a PFN. -/
def State.fabDrop (s : State) (src : Nat) (h : Hdr) (cause : Nat) : State :=
  let me := s.get F.ROUTE.NODE_ID.ID
  let s := s.fabDropNote src h cause
  if h.op = 1 then s.pfnHal src h cause false
  else if 2 ≤ h.op ∧ h.op ≤ 5 then
    let st : CplSt := if cause = 5 ∨ cause = 7 ∨ cause = 0xB then .ur else .ca
    if h.src = me then
      match s.ort? h.ftag with
      | some o => if o.kind = 0 && !o.quar then (s.answer o.src o.vh o.req st).ortFree h.ftag else s
      | none => s
    else if cause = 9 then s.pfnHal src h cause true
    else s.sendHal src (rspFor me h (cplCode st))
  else s

/-- The counts, LOSS_LAST, record and interrupt of an MC_LOSS (R219): its group, whether that is a Halud group, the VH, the port, the cause, and the
words of its record. -/
def State.mcLost (s : State) (g : Nat) (hal : Bool) (vh p cause : Nat) (w : List Nat) (ingress : Option (Nat × Nat) := none) : State :=
  let s := s.sets [(F.MCAST.LOSS_LAST.GROUP, g), (F.MCAST.LOSS_LAST.KIND, b2n hal), (F.MCAST.LOSS_LAST.VH, vh), (F.MCAST.LOSS_LAST.PORT, p),
    (F.MCAST.LOSS_LAST.CAUSE, cause), (F.MCAST.LOSS_LAST.TIME, s.time.now)]
  let s := (s.addSat F.MCAST.SIDING_STS.LOSS 1).count (Ctr.vh vh 28) 1
  let s := s.raise Ev.MC_LOSS { inst := p, key := g, detail := 1, w := w, ingress := ingress }
  if s.flag F.MCAST.SIDING_CFG.IRQ_EN then s.raiseMsix s.managerVh 0 else s

/-- An MC_LOSS (R219): counted, recorded, interrupting the manager. CAUSE 1 siding timeout, 2 port down. The group is
of the kind the train leaves as. -/
def State.mcLoss (s : State) (t : Train) (p cause : Nat) : State :=
  (s.mcLost (t.mcGroup.getD 0) t.hal.isSome t.vh p cause (tlpW t.src t.vh t.rx p t.sentAddr t.wtag) (s.ingressOf t.src t.rx.reqId.toNat)).fenceLose
    t.stamp false t.sentAddr 5

/-- Core VH class of a nullified train's record (R184): `code` is CORE_TIMEOUT, NULL_LINK_LOST, NULL_UE, NULL_ECRC or NULL_PARTNER. `out` is, of a
routed TLP, the form it was to leave in and its target VH, which a posted-failure entry names with the requester's own ID, `outHal` its Halud form: a
write of another node is reported to its source (R271, R273). `answered`: the closure of its ORT entry has answered it (R268). -/
def State.nullReport (s : State) (src vh : Nat) (rx : Tlp) (hal : Option Hdr) (dst code wtag : Nat) (stamp : Option (Nat × Nat))
    (out : Option (Tlp × Nat) := none) (outHal : Option Hdr := none) (answered : Bool := false) : State :=
  if code = Ev.NULL_PARTNER then (s.raise code { inst := src, key := vh, page := some 0x20 }).fenceLose stamp (dst = 48) rx.addr.toNat 2
  else
    let np := match hal with
      | some h => decide (2 ≤ h.op ∧ h.op ≤ 5)
      | none => isNpKind rx.kind
    let posted := match hal with
      | some h => h.op == 1
      | none => isPostedKind rx.kind
    let s := s.raiseTrain code src vh rx dst rx.addr.toNat wtag (np || code == Ev.NULL_ECRC) src none (hal.map fun h => halW src dst h)
    let s :=
      if np then
        if answered then s
        else match hal with
        | some h => s.sendHal src (rspFor (s.get F.ROUTE.NODE_ID.ID) h 4)
        | none => s.answer src vh rx .ca
      else if posted then
        match outHal.or hal with
        | some h => s.pfnHal src h 0xA false
        | none => let (t, tvh) := out.getD (rx, vh); s.pfnTlp vh (dst % 64) tvh { t with reqId := rx.reqId } 0xA wtag src
      else s
    s.fenceLose stamp (dst = 48) rx.addr.toNat 2

/-- VC of a queue of a PCIe port: that of its TC (R225). -/
def State.vcOfQueue (s : State) (p q : Nat) : Nat :=
  let tc := s.get (F.EGR.DRR_QUANTUM.TC p q)
  bitsOf (s.get (F.EGR.TCVC.MAP p)) (2 * tc + 1) (2 * tc)

/-- Class lane of a train at a PCIe port: 0 posted, 1 non-posted, 2 completion. -/
def pcieClass (t : Train) : Nat := if t.mcast then 0 else tlpClass t.t

/-- A TLP that ends nullified on a PCIe link gives its credits back (R183, R184). -/
def State.uncharge (s : State) (t : Train) (c : Copy) : State :=
  let d := s.dll c.port
  let key := 3 * s.vcOfQueue c.port c.queue + pcieClass t
  let (uh, ud) := Tab.getD d.used key (0, 0)
  s.setDll c.port { d with used := Tab.put d.used key ((uh + 4095) % 4096, (ud + 65536 - (t.t.data.length + 15) / 16 % 65536) % 65536) }

/-- Nullify an admitted train (R184): reported, its head ended on a link that already carries it (a TAIL_ABORT is owed: train 0, and the granules sent), and
taken out. -/
def State.nullify (s : State) (t : Train) (code : Nat) : State :=
  let answered := match t.ort with
    | some e => (match s.ort? e with
      | some o => o.quar
      | none => true)
    | none => false
  let s := s.nullReport t.src t.vh t.rx t.rxHal t.dst code t.wtag t.stamp (some (t.t, t.tvh.getD t.vh)) t.hal answered
  -- the answer was the entry's (R268)
  let s := match t.ort with
    | some e => if answered then s else s.ortFree e
    | none => s
  let s := t.copies.foldl (fun s c =>
    if c.sent > 0 && s.role c.port = 3 then
      let h := s.hll c.port
      s.setHll c.port { h with txOpen := h.txOpen.map (fun e => if e.2.1 = t.id then (e.1, (0, c.sent)) else e), sent := h.sent.filter fun k => k.train != t.id }
    else if c.sent > 0 then ((s.uncharge t c).book c.port 3 (4 * c.sent)).emit (.link c.port "NULLIFY" t.id)
    else s) s
  (s.endTrain t true).refreshQueues t

/-- Kind of a train in CLOSED_DROP's coalescing: 0 posted, 1 non-posted, 2 completion, response or notice. -/
def dropKind (rx : Tlp) (hal : Option Hdr) : Nat :=
  match hal with
  | some h => if h.op = 1 then 0 else if 2 ≤ h.op ∧ h.op ≤ 5 then 1 else 2
  | none => if isPostedKind rx.kind then 0 else if isNpKind rx.kind then 1 else 2

/-- Status a non-posted request is answered with at a closed port (R349). Where a port's own containment and its VH's both hold, either command's
CPL_CA selects Completion Abort (DESIGN CHOICE, notes/assumptions/108.md). -/
def State.closedStatus (s : State) (p : Nat) : CplSt :=
  if s.flag (F.ERR.PORT_STS.BY_SAFE p) then .ca
  else if s.flag (F.ERR.PORT_STS.BY_DPC p) then
    (match s.vdspOfPort p with
     | some (v, d) => if bitOf (s.cfg v d 0x55) 18 then .ur else .ca
     | none => .ca)
  else if (s.flag (F.ERR.PORT_STS.BY_DEVICE p) && (s.port p).cplCa) || (s.flag (F.ERR.PORT_STS.BY_VH p) && (s.port p).cplCaVh) then .ca
  else .ur

/-- Handle a train that meets a closed port (R348, R349): non-posted requests are answered, writes reported, the rest discarded. A request whose
ORT entry the closure has already closed gets no second answer. A write's CLOSED_DROP is as the worked example of 12_errors_containment.md
counts it; its entry in the posted-failure log names the VH it was to enter, `tvh` for a cross-VH write, and the requester's own ID (R273). -/
def State.closedDrop (s : State) (p src vh : Nat) (rx : Tlp) (hal : Option Hdr) (t : Tlp) (stamp : Option (Nat × Nat)) (wtag : Nat)
    (ort : Option Nat := none) (tvh : Option Nat := none) : State :=
  let s := (s.addSat (F.ERR.PORT_STS.DROPS p) 1).count (Ctr.port p 29) 1
  let kind := dropKind rx hal
  let answered := match ort with
    | some e => (match s.ort? e with
      | some o => o.quar
      | none => true)
    | none => false
  let free (s : State) : State := match ort with
    | some e => s.ortFree e
    | none => s
  let report (s : State) : State := s.raiseTrain Ev.CLOSED_DROP src vh rx p rx.addr.toNat wtag false p (some kind)
  match hal with
  | some h =>
    if kind = 2 then report s
    else if answered then report s
    else (free (s.fabDrop src h 6)).fenceLose stamp false h.addr 1
  | none =>
    if kind = 1 then (if answered then report s else free ((report s).answer src vh rx (s.closedStatus p)))
    else if kind = 0 then (report (s.pfnTlp vh p (tvh.getD vh) { t with reqId := rx.reqId } 6 wtag src)).fenceLose stamp false rx.addr.toNat 1
    else report s

/-- Is a port closed (R348)? -/
def State.closed (s : State) (p : Nat) : Bool :=
  p < 48 && (s.flag (F.ERR.PORT_STS.BY_SAFE p) || s.flag (F.ERR.PORT_STS.BY_VH p) || s.flag (F.ERR.PORT_STS.BY_DEVICE p) ||
    s.flag (F.ERR.PORT_STS.BY_DPC p) || s.flag (F.ERR.PORT_STS.BY_LINK p))

/-- A HOST port whose link is up in SAFE: its requests are still answered there (R358). -/
def State.safeHost (s : State) (p : Nat) : Bool :=
  s.role p == 1 && s.flag (F.ERR.PORT_STS.BY_SAFE p) && !s.flag (F.ERR.PORT_STS.BY_LINK p)

/-- A HOST port that only the containment of its VH closes: what the management endpoint answers there still passes (R351). -/
def State.vhShut (s : State) (p : Nat) : Bool :=
  s.role p == 1 && s.flag (F.ERR.PORT_STS.BY_VH p) &&
    !(s.flag (F.ERR.PORT_STS.BY_SAFE p) || s.flag (F.ERR.PORT_STS.BY_DEVICE p) || s.flag (F.ERR.PORT_STS.BY_DPC p) || s.flag (F.ERR.PORT_STS.BY_LINK p))

/-- The enabled rope pair of a FAB port, unless its pairing is mismatched (R129, R130). -/
def State.ropeOf (s : State) (p : Nat) : Option Nat :=
  (List.range 24).find? fun m => s.flag (F.ROUTE.ROPE_PAIR.EN m) && s.get (F.ROUTE.ROPE_PAIR.STATE m) != 5 &&
    (s.get (F.ROUTE.ROPE_PAIR.PORT_A m) == p || s.get (F.ROUTE.ROPE_PAIR.PORT_B m) == p)
/-- The pair a port is named in, whatever its state. -/
def State.ropeNamed (s : State) (p : Nat) : Option Nat :=
  (List.range 24).find? fun m => s.flag (F.ROUTE.ROPE_PAIR.EN m) &&
    (s.get (F.ROUTE.ROPE_PAIR.PORT_A m) == p || s.get (F.ROUTE.ROPE_PAIR.PORT_B m) == p)
def State.ropeOther (s : State) (m p : Nat) : Nat :=
  if s.get (F.ROUTE.ROPE_PAIR.PORT_A m) = p then s.get (F.ROUTE.ROPE_PAIR.PORT_B m) else s.get (F.ROUTE.ROPE_PAIR.PORT_A m)
def State.rope (s : State) (m : Nat) : RopeSt := Tab.getD s.fab.ropes m {}
def State.setRope (s : State) (m : Nat) (x : RopeSt) : State := { s with fab := { s.fab with ropes := Tab.setD s.fab.ropes m x {} } }

/-- Is a train retained until a rope-pair member's packet of it is covered (R131)? -/
def State.retainedOn (s : State) (l : List Nat) : Bool := l.any fun p => s.role p == 3 && (s.ropeOf p).isSome

/-- Take one member port's copy out of a multicast train, ending the train when none is left. -/
def State.dropCopy (s : State) (t : Train) (p cause : Nat) : State :=
  let s := s.mcLoss t p cause
  let s := if cause = 2 then (s.addSat (F.ERR.PORT_STS.DROPS p) 1).count (Ctr.port p 29) 1 else s
  let t' : Train := { t with legs := (t.legs.map fun l => ({ l with ports := l.ports.filter (· ≠ p) } : Leg)).filter (fun l => l.ports ≠ []),
                             copies := t.copies.filter fun c => c.port ≠ p }
  if t'.legs.isEmpty then (s.endTrain t true).refreshQueues t
  else if t'.copies.isEmpty && t'.unacked.isEmpty && t'.released then (s.endTrain t' false).refreshQueues t
  else if t'.copies.isEmpty && t'.released && t'.inBuffer && !s.retainedOn t'.unacked then (s.releaseCarriages t').refreshQueues t
  else (s.putTrain t').refreshQueues t

/-- Port a unicast train is queued for: that of its copy once released, else its destination. -/
def Train.queuedAt (t : Train) : Nat := match t.copies with
  | c :: _ => c.port
  | [] => t.dst

/-- Has a multicast train yet to reach a port: its copy waits there or has begun, or it is not released at the port's yard? -/
def Train.waits (t : Train) (p : Nat) : Bool :=
  t.copies.any (fun c => c.port == p) || t.legs.any fun l => l.ports.contains p && l.cpls.any fun c => c.st != 4

/-- A received header leaves without being admitted: its credits return. -/
def State.dropHead (s : State) (it : InTrain) : State := s.returnCredits it.charge

/-- A header bound for a closed port (R348). A request of this node that waited for its entry is a drop inside the fabric at its source, with cause
PORT_DOWN (R271). -/
def State.toClosed (s : State) (d : Draft) : State :=
  match (if d.it.hal.isNone && isNpKind d.it.t.kind then d.hal else none) with
  | some h =>
    let s := (s.addSat (F.ERR.PORT_STS.DROPS d.dst) 1).count (Ctr.port d.dst 29) 1
    ((s.fabDropNote d.it.src h 6).answer d.it.src d.vh d.it.t .ca).dropHead d.it
  | none =>
  (s.closedDrop d.dst d.it.src d.vh d.it.t d.it.hal d.t d.stamp d.tag (tvh := d.tvh)).dropHead d.it

/-- Requests in the gateway wait lanes for a port that has closed. -/
def State.gwClosed (s : State) (p : Nat) : State :=
  let hit := s.core.gwWait.flatMap fun e => e.2.filter fun g => g.tr.dst == p
  if hit.isEmpty then s
  else
    let s : State := { s with core := { s.core with gwWait :=
      (s.core.gwWait.map fun e => (e.1, e.2.filter fun g => g.tr.dst != p)).filter fun e => !e.2.isEmpty } }
    ((hit.foldl (fun s g => s.toClosed g.tr) s).ortSts).drainGen

/-- Resolve every train queued for a port that has closed (R348); a copy that the port has already sent stands (R219). -/
def State.resolveQueued (s : State) (p : Nat) : State :=
  let s := s.gwClosed p
  s.trainList.foldl (fun s t0 =>
    match s.train? t0.id with
    | none => s
    | some t =>
      if !t.inBuffer then s
      else if t.mcast then (if t.waits p then s.dropCopy t p 2 else s)
      else if t.queuedAt = p && t.unacked.isEmpty then
        let s := s.closedDrop p t.src t.vh t.rx (t.hal.or t.rxHal) t.t t.stamp t.wtag t.ort t.tvh
        (s.endTrain t true).refreshQueues t
      else s) s

/-- Trains already sent on a PCIe link that is lost: unacknowledged posted writes are lost to their fences (R326, R142). -/
def State.loseUnacked (s : State) (p : Nat) : State :=
  let s := s.setDll p {}
  s.trainList.foldl (fun s t =>
    if t.unacked.contains p then
      let s := s.fenceLose t.stamp false t.sentAddr 1
      let u := t.unacked.filter (· ≠ p)
      if u.isEmpty && t.copies.isEmpty then (s.endTrain t false) else s.putTrain { t with unacked := u }
    else s) s

end Sys2Proof.Machine
end

