-- ==== Sys2Proof/Machine/Carriage.lean ====
section
/-! DEFINITION. Carriages: the check bits of the words and tags they carry, the sideband tag of each, and what an uncorrectable one does to its
train (06_switch_core.md R165, R166, R184, R185; 07_buffer_multicast.md R196, R198). -/
namespace Sys2Proof.Machine

/-! ### SECDED check bits (R166, R196) -/

/-- Columns of the check matrix: the numbers that are no power of two, in rising order (DESIGN CHOICE, notes/assumptions/106.md). -/
def secCols : List Nat := (List.range 128).filter fun n => decide (n ≥ 3) && n &&& (n - 1) != 0

/-- Parity of the low n bits of a number. -/
def parity (n w : Nat) : Bool := (List.range n).foldl (fun b i => xor b (bitOf w i)) false

/-- Column sum of a word: the columns of its set bits added bit by bit. -/
def secSum (w : Nat) : Nat := ((List.range 64).zip secCols).foldl (fun h e => if bitOf w e.1 then h ^^^ e.2 else h) 0

/-- The eight check bits of a word of up to 64 bits: seven of the columns, and one that makes the parity of all even. -/
def secded (w : Nat) : Nat := secSum w + 128 * b2n (xor (parity 64 w) (parity 7 (secSum w)))

/-- A word of n bits read with its check bits: as it was, and whether a single bit was wrong; none when the error cannot be corrected. -/
def secRead (n w c : Nat) : Option (Nat × Bool) :=
  let syn := secSum w ^^^ (c % 128)
  if !xor (parity 64 w) (parity 8 c) then (if syn = 0 then some (w, false) else none)
  else if syn = 0 ∨ syn &&& (syn - 1) = 0 then some (w, true)
  else match ((List.range n).zip secCols).find? fun e => e.2 == syn with
    | some e => some (w ^^^ 2 ^ e.1, true)
    | none => none

/-! ### Tags (R166) -/

/-- Carriages of coupling i of a train (R165). -/
def Train.beats (t : Train) (i : Nat) : Nat := min 4 (t.ncar - 4 * i)

/-- Valid bytes of carriage k of a train. -/
def Train.carBytes (t : Train) (k : Nat) : Nat := min 64 (t.bytes - 64 * k)

/-- Tag of carriage j of coupling i of a train on its way to an egress plane port, without its check bits. -/
def Train.tagBits (t : Train) (y i j : Nat) (null : Bool) : Nat :=
  let cpl := (t.legs.find? fun l => l.y == y).bind fun l => l.cpls[i]?
  let csn := (cpl.map Cpl.csn).getD 0
  t.cls % 16 * 2 ^ 60 + t.x % 16 * 2 ^ 56 + t.dst % 64 * 2 ^ 50 + csn % 1024 * 2 ^ 40 + i % 32 * 2 ^ 35 + (t.ncar + 3) / 4 % 32 * 2 ^ 30 + j % 4 * 2 ^ 28 +
    b2n (decide (j + 1 = t.beats i)) * 2 ^ 27 + b2n t.ct * 2 ^ 26 + b2n null * 2 ^ 25 + b2n t.hold * 2 ^ 24 + t.gen % 16 * 2 ^ 20 +
    (t.carBytes (4 * i + j) - 1) % 64 * 2 ^ 14 + t.tc % 8 * 2 ^ 8

/-- The tag with its check bits over bits 63 to 8. -/
def Train.tag (t : Train) (y i j : Nat) (null : Bool) : Nat := let b := t.tagBits y i j null; b + secded (b / 256)

/-- A tag read: its 56 bits as they were, and whether a bit was corrected; none when the error cannot be corrected, which makes the train bad. -/
def tagRead (tag : Nat) : Option (Nat × Bool) := secRead 56 (tag / 256) (tag % 256)

/-! ### A carriage that reads uncorrectable (R184, R185) -/

/-- Carriages of a bank that trains hold, with their trains. -/
def State.liveIn (s : State) (b : Nat) : List (Train × Nat) :=
  s.trainList.flatMap fun t => (t.heldCars.filter fun c => c / 8192 == b).map fun c => (t, c)

/-- A carriage of a train reads uncorrectable: in a payload carriage, while no head has left the egress, it poisons the train; else the train is bad, as is
one under IDE, whose header may not be altered (R163). -/
def State.carriageLost (s : State) (t : Train) (c : Nat) : State :=
  let payload : Bool := t.cars.head? != some c && !t.t.data.isEmpty && !t.rx.ide
  let left : Bool := !t.unacked.isEmpty || t.copies.any fun x => x.sent > 0 || x.again
  if payload && !left then
    (s.putTrain { t with t := { t.t with ep := true }, hal := t.hal.map fun h => { h with ep := true } }).raiseTrain Ev.BUF_POISON t.src t.vh t.rx t.dst
      t.rx.addr.toNat t.wtag false t.src none (t.rxHal.map fun h => halW t.src t.dst h)
  else s.nullify t Ev.NULL_UE

/-- n uncorrectable errors of a bank, each in one of the carriages it holds for a train, or in its tag, which makes the train bad: in which is a free
choice (notes/assumptions/106.md). -/
def State.bankUes (s : State) (b : Nat) : Nat → State
  | 0 => s
  | n + 1 =>
    match s.pick ((s.liveIn b).flatMap fun e => [(e, false), (e, true)]) with
    | (none, s) => s
    | (some ((t, c), tag), s) => (if tag then s.nullify t Ev.NULL_UE else s.carriageLost t c).bankUes b n

/-! ### Errors of a bank (R210) -/

/-- A retirement is decided for a logical bank; one already leaving, gone or being moved is not retired again. While another is moved, one that software
asks for is ignored (R221), and any other waits for the end of that move (R210). -/
def State.retireBank (s : State) (b cause : Nat) : State :=
  if (s.core.draining.any fun e => e.1 == b) || s.core.unmapped.contains b || s.core.copying == some b then s
  else if s.get F.BUF.BANK_STS.STATE ≠ 0 then
    if cause = 3 || s.core.retireQ.any fun e => e.1 == b then s else { s with core := { s.core with retireQ := s.core.retireQ ++ [(b, cause)] } }
  else
    let s := s.sets [(F.BUF.BANK_STS.LAST_BANK, b), (F.BUF.BANK_STS.LAST_CAUSE, cause)]
    match s.core.spares with
    | [] => { s with core := { s.core with draining := s.core.draining ++ [(b, cause)] } }
    | _ => ({ s with core := { s.core with copying := some b } } : State).set F.BUF.BANK_STS.STATE 1

/-- A bank has shown errors: those of one second are counted together, and more corrected ones than CE_LIMIT, or two uncorrectable ones, retire it. -/
def State.bankErr (s : State) (b ce ue : Nat) : State :=
  let (t0, c, u) := match Tab.get? s.core.bankErrs b with
    | some (t0, c, u) => if s.time.run - t0 < 100000000 then (t0, c + ce, u + ue) else (s.time.run, ce, ue)
    | none => (s.time.run, ce, ue)
  let s : State := { s with core := { s.core with bankErrs := Tab.put s.core.bankErrs b (t0, c, u) } }
  if c > s.get F.BUF.BANK_CFG.CE_LIMIT then s.retireBank b 1 else if u ≥ 2 then s.retireBank b 2 else s

/-- Coupling i of a train is read from the buffer: a carriage that a bank copy marked reports its error now (R211). -/
def State.readCpl (s : State) (id i : Nat) : State :=
  match s.train? id with
  | none => s
  | some t => (((t.cars.drop (4 * i)).take 4).filter fun c => s.core.marks.contains c).foldl (fun s c =>
      let s : State := { s with core := { s.core with marks := s.core.marks.erase c } }
      match s.train? id with
      | some t => s.carriageLost t c
      | none => s) s

/-- Bits of carriage j of coupling i of a train have flipped by the time it is in its yard (R166, R196). A single bit is corrected and counted as
Corrected, for the plane when it is the tag's and for the bank when it is the data's; any other error of a tag makes the train bad, and of a data word is
that of an uncorrectable carriage. An error that the code would read as a wrong single bit counts as uncorrectable (DESIGN CHOICE,
notes/assumptions/106.md). The code is linear, so a data word's own bits do not matter. An error of a data word counts toward its bank's
retirement (R210). -/
def State.bitErr (s : State) (n y : Nat) (id i : Nat) (e : BitErr) : State :=
  match s.train? id with
  | none => s
  | some t =>
    if e.car.val ≥ t.beats i then s
    else if e.word = 8 then
      let g := t.tag y i e.car.val false
      match tagRead (g ^^^ (e.flips.toNat % 2 ^ 64)) with
      | some (b, fixed) => if b ≠ g / 256 then s.nullify t Ev.NULL_UE else if fixed then s.raise Ev.PLANE_CE { inst := n } else s
      | none => s.nullify t Ev.NULL_UE
    else
      let c := t.cars.getD (4 * i + e.car.val) 0
      match secRead 64 (e.flips.toNat % 2 ^ 64) (e.flips.toNat / 2 ^ 64) with
      | some (0, fixed) => if fixed then (s.raise Ev.BUF_CE { inst := c / 8192, detail := 2 }).bankErr (c / 8192) 1 0 else s
      | _ => (s.carriageLost t c).bankErr (c / 8192) 0 1

end Sys2Proof.Machine
end

