-- ==== Sys2Proof/Machine/Hut.lean ====
section
/-! DEFINITION. The Hut: partitions, the write buffers, the aliases, reservations, AtomicOps, fences and doorbells (11_hut_ordering.md R307 to
R338). -/
namespace Sys2Proof.Machine

/-! ### Memory (R308, R310, R332) -/

def State.hutRead (s : State) (a n : Nat) : List Byte := Memory.readBytes s.hut.mem 0 a n
/-- Does a range touch a word that holds an uncorrectable error? -/
def State.hutBad (s : State) (a n : Nat) : Bool := s.hut.ue.any fun w => decide (a / 8 ≤ w ∧ w ≤ (a + n - 1) / 8) && decide (0 < n)
/-- Offset of the first such word of a range. -/
def State.hutBadAt (s : State) (a n : Nat) : Nat := 8 * ((s.hut.ue.filter fun w => decide (a / 8 ≤ w ∧ w ≤ (a + n - 1) / 8)).foldl min (2 ^ 20 - 1))
/-- Banks of the lines a range touches, in ascending line order. -/
def hutBanks (a n : Nat) : List Nat :=
  if n = 0 then [] else ((List.range ((a + n - 1) / 64 + 1 - a / 64)).map fun i => (a / 64 + i) % 32).eraseDups

/-- Monitors in use (HUT_STS.MON_IN_USE). -/
def State.setMons (s : State) (m : List Monitor) : State :=
  ({ s with hut := { s.hut with mons := m } }).set F.HUT.HUT_STS.MON_IN_USE (min 2047 m.length)

/-- Clear the reservations held that satisfy a test, with a CAUSE of R323. -/
def State.clearRes (s : State) (which : Monitor → Bool) (cause : Nat) : State :=
  s.setMons (s.hut.mons.map fun m => if m.held && which m then { m with held := false, cause := cause, clr := cause } else m)

/-- Raise HUT_UE (R332). -/
def State.hutUe (s : State) (src vh rid off : Nat) : State :=
  (s.addSat F.HUT.HUT_STS.UE 1).raise Ev.HUT_UE
    { inst := src, key := vh, detail := 1, w := trainW rid 0 src 48 vh 0 8 off 0 0 0 0, aerAt := none, ingress := s.ingressOf src rid }

/-- Perform a write: byte enables apply; a whole 8 B word replaces an uncorrectable word and clears its error, a part of one is not merged
(R332); every reservation on a granule written is cleared with CAUSE 1 (R323). -/
def State.hutStore (s : State) (src vh rid a : Nat) (data : List Byte) (be : List Bool) : State :=
  let n := data.length
  let words := if n = 0 then [] else (List.range ((a + n - 1) / 8 + 1 - a / 8)).map (a / 8 + ·)
  let word (s : State) (w : Nat) : State :=
    let idx := (List.range n).filter fun i => (a + i) / 8 = w && be.getD i true
    if idx.isEmpty then s
    else if s.hut.ue.contains w && idx.length < 8 then s.hutUe src vh rid (8 * w)
    else
      let m := idx.foldl (fun m i => Memory.write m 0 (a + i) (data.getD i 0)) s.hut.mem
      ({ s with hut := { s.hut with mem := m, ue := s.hut.ue.filter (· ≠ w) } }).clearRes (fun m => m.granule == 8 * w / 256) 1
  words.foldl word s

/-! ### Write buffers (R314, R316) -/

def State.hutBuf (s : State) (b : Nat) : List HutWr := Tab.getD s.hut.buf b []
def State.setHutBuf (s : State) (b : Nat) (l : List HutWr) : State := { s with hut := { s.hut with buf := Tab.setD s.hut.buf b l [] } }

/-- A train of the Hut is resolved once none of its buffered lines is left. -/
def State.hutResolve (s : State) (id : Nat) : State :=
  if id = 0 || s.hut.buf.any (fun e => e.2.any fun w => w.train == id) then s
  else
    match s.train? id with
    | some t => s.endTrain t false
    | none => s

/-- Perform the oldest write of a bank's buffer. -/
def State.hutPerform (s : State) (b : Nat) : State :=
  match s.hutBuf b with
  | [] => s
  | w :: rest => ((s.setHutBuf b rest).hutStore 48 w.vh w.rid w.addr w.data w.be).hutResolve w.train

/-- Perform the first `n` buffered writes of a bank, in arrival order. -/
def State.hutFlushN (s : State) (b : Nat) : Nat → State
  | 0 => s
  | n + 1 => (s.hutPerform b).hutFlushN b n

/-- Perform a bank's writes up to the last that satisfies a test: writes leave a bank in arrival order. -/
def State.hutFlush (s : State) (b : Nat) (which : HutWr → Bool) : State :=
  let q := s.hutBuf b
  s.hutFlushN b (q.length - (q.reverse.takeWhile fun w => !which w).length)

def State.hutFlushRange (s : State) (a n : Nat) (which : HutWr → Bool) : State := (hutBanks a n).foldl (fun s b => s.hutFlush b which) s
/-- Every buffered write of a VH is performed (R327, R330). -/
def State.hutDrainVh (s : State) (v : Nat) : State := (List.range 32).foldl (fun s b => s.hutFlush b fun w => w.vh == v) s

/-- Put one line of a Normal write into its bank's buffer of sixteen; the head of a buffer that is full is performed. -/
def State.hutEnter (s : State) (w : HutWr) : State :=
  let b := w.addr / 64 % 32
  let s := s.setHutBuf b (s.hutBuf b ++ [w])
  if (s.hutBuf b).length ≥ 16 then s.hutPerform b else s

/-- Split a write into lines. -/
def hutLines (a : Nat) (data : List Byte) (be : List Bool) : List (Nat × List Byte × List Bool) :=
  if data.length = 0 then []
  else
    (List.range ((a + data.length - 1) / 64 + 1 - a / 64)).map fun i =>
      let lo := max a (64 * (a / 64 + i))
      let hi := min (a + data.length) (64 * (a / 64 + i + 1))
      (lo, (data.drop (lo - a)).take (hi - lo), ((List.range (hi - lo)).map fun k => be.getD (lo - a + k) true))

/-! ### Answers and refusals (R310, R331) -/

/-- The request as a TLP, for its answer and its record. -/
def hutTlp (q : HutReq) (kind : TlpKind) (addr : Nat) : Tlp :=
  { kind := kind, reqId := q.rid, tag := q.tag, addr := BitVec.ofNat 64 addr, len := q.len, tc := q.tc }

/-- Completions with data, split at 64 B boundaries (R310), each poisoned if a word of its own is bad (R332). -/
def State.hutReply (s : State) (q : HutReq) (data : List Byte) (bad : Nat → Nat → Bool) : State :=
  let a := q.addr.toNat
  let n := data.length
  (hutLines a data []).foldl (fun s x =>
    s.inject { id := 0, src := 48, vh := some q.vh.val, eg := some q.src.val,
               t := { kind := .cplD, reqId := q.rid, tag := q.tag, tc := q.tc, cplId := BitVec.ofNat 16 (s.get (F.GW.GW_RID.RID q.vh.val)),
                      byteCount := n - (x.1 - a), lowAddr := BitVec.ofNat 7 x.1, len := x.2.1.length, data := x.2.1, ep := bad x.1 x.2.1.length } }) s

/-- A completion without data. -/
def State.hutStatus (s : State) (q : HutReq) (kind : TlpKind) (st : CplSt) : State :=
  s.answer q.src.val q.vh.val (hutTlp q kind q.addr.toNat) st

/-- The requester ID as received: that of the train, or the one the access carries. -/
def State.hutRid (s : State) (q : HutReq) (train : Nat) : Nat :=
  match s.train? train with
  | some t => t.rx.reqId.toNat
  | none => q.rid.toNat

/-- Refuse an access (R331): the event with its record and AER, the answer of a non-posted request, a covered write declared lost. -/
def State.hutRefuse (s : State) (q : HutReq) (kind : TlpKind) (train code logged : Nat) (st : CplSt) : State :=
  let v := q.vh.val
  let rid := s.hutRid q train
  let (stamp, sent) : Option (Nat × Nat) × Nat := match s.train? train with
    | some t => (t.stamp, t.sentAddr)
    | none => (none, q.addr.toNat)
  let s := s.raise code { inst := q.src.val, key := v, detail := 1, w := tlpW q.src.val v (hutTlp q kind logged) 48 logged 0,
                          aerAt := s.aerOf q.src.val v rid, aerOn := code != Ev.HUT_POISON || isNpKind kind,
                          ingress := s.ingressOf q.src.val rid,
                          hdr := ((s.train? train).map fun t => s.aerHeader t.src t.rx).getD [] }
  let s := s.count (Ctr.vh v 20) 1
  let s := if isNpKind kind then s.hutStatus q kind st else s.fenceLose stamp true sent 3
  s.hutResolve train

/-! ### Partitions (R311, R312) -/

def State.partBase (s : State) (p : Nat) : Nat := s.get (F.HUT.PART0.BASE p) * 4096
def State.partEnd (s : State) (p : Nat) : Nat := s.partBase p + s.get (F.HUT.PART0.SIZE p) * 4096
/-- The enabled partition that contains a byte. -/
def State.partAt (s : State) (a : Nat) : Option Nat :=
  (List.range 64).find? fun p => s.flag (F.HUT.PART0.EN p) && decide (s.partBase p ≤ a ∧ a < s.partEnd p)

/-- The outcome of R312 for operation `op` (0 Device read, 1 Device write, 2 Normal read, 3 Normal write, 4 Reserve read, 5 Conditional
write, 6 AtomicOp): none when permitted, or the event, the logged address and the status. -/
def State.partCheck (s : State) (op : Nat) (q : HutReq) : Option (Nat × Nat × CplSt) :=
  let a := q.addr.toNat
  let n := max q.len 1
  match s.partAt a with
  | none => some (Ev.HUT_CROSS, a, .ur)
  | some p =>
    if a + n > s.partEnd p then some (Ev.HUT_CROSS, s.partEnd p, .ur)
    else
      let admits := if op ≤ 1 then s.flag (F.HUT.PART0.DEV_EN p) else if op ≤ 3 then s.flag (F.HUT.PART0.NORM_EN p)
        else if op ≤ 5 then s.flag (F.HUT.PART0.RSV_EN p)
        else s.flag (F.HUT.PART0.ATOMIC_EN p) && (if q.normal then s.flag (F.HUT.PART0.NORM_EN p) else s.flag (F.HUT.PART0.DEV_EN p))
      let rd := bitOf (s.get (F.HUT.PART1.RD_VH p)) q.vh.val
      let wr := bitOf (s.get (F.HUT.PART1.WR_VH p)) q.vh.val
      let right := if op = 6 then rd && wr else if op = 1 ∨ op = 3 ∨ op = 5 then wr else rd
      if !admits || !right then some (Ev.HUT_PERM, a, .ca)
      else if op = 4 && a / 256 != (a + n - 1) / 256 then some (Ev.HUT_ALIAS, a, .ur)
      else none

/-! ### Monitors (R321 to R323) -/

def Monitor.of (m : Monitor) (q : HutReq) : Bool := m.vh == q.vh.val && m.rid == q.rid.toNat

/-- The requester's monitor, taking a free one or the least recently used of its VH at the quota, or of the device (R321). It becomes the most
recently used. -/
def State.takeMon (s : State) (q : HutReq) : Monitor × State :=
  match s.hut.mons.find? (·.of q) with
  | some m => (m, s.setMons (s.hut.mons.filter (fun x => !x.of q) ++ [m]))
  | none =>
    let m : Monitor := { vh := q.vh.val, rid := q.rid.toNat }
    let own := s.hut.mons.filter fun x => x.vh == q.vh.val
    let victim := if own.length ≥ max 1 (s.get F.HUT.RSV_CFG.VH_MON_MAX) then own.head? else if s.hut.mons.length ≥ 2048 then s.hut.mons.head? else none
    match victim with
    | some x => (m, (s.setMons (s.hut.mons.filter (· != x) ++ [m])).addSat F.HUT.HUT_STS.EVICTS 1)
    | none => (m, s.setMons (s.hut.mons ++ [m]))

def State.putMon (s : State) (m : Monitor) : State :=
  s.setMons (s.hut.mons.map fun x => if x.vh == m.vh && x.rid == m.rid then m else x)

/-! ### Performing an access -/

/-- A read through the Device, Normal or Reserve alias (R315, R316, R321). A Reserve read clears the reservation its requester held (R323), and one that
returns poisoned data sets none. -/
def State.hutDoRead (s : State) (op : Nat) (q : HutReq) (train : Nat) : State :=
  let a := q.addr.toNat
  let v := q.vh.val
  let s := s.hutFlushRange a q.len fun w => op != 2 || (w.vh == v && w.rid == q.rid.toNat)
  let s := s.count (Ctr.vh v 14) 1
  let bad := s.hutBad a q.len
  let s := if bad then s.hutUe q.src.val v q.rid.toNat (s.hutBadAt a q.len) else s
  let s :=
    if op ≠ 4 then s
    else if bad then s.clearRes (·.of q) 2
    else
      let (m, s) := s.takeMon q
      let m := if m.held then { m with cause := 2 } else m
      (s.putMon { m with held := true, granule := a / 256, clr := 0 }).count (Ctr.vh v 17) 1
  (s.hutReply q (s.hutRead a q.len) s.hutBad).hutResolve train

/-- A Device write (R315). -/
def State.hutDoWrite (s : State) (q : HutReq) (train : Nat) : State :=
  let a := q.addr.toNat
  let s := s.hutFlushRange a q.len fun _ => true
  ((s.count (Ctr.vh q.vh.val 15) 1).hutStore q.src.val q.vh.val q.rid.toNat a q.data q.be).hutResolve train

/-- A Normal write: each line enters its bank's buffer (R316). -/
def State.hutDoNormal (s : State) (q : HutReq) (train : Nat) : State :=
  let s := s.count (Ctr.vh q.vh.val 15) 1
  let s := (hutLines q.addr.toNat q.data q.be).foldl (fun s x =>
    s.hutEnter { vh := q.vh.val, rid := q.rid.toNat, addr := x.1, data := x.2.1, be := x.2.2, train := train }) s
  s.hutResolve train

/-- A Conditional write (R322, R335): performed when the requester's monitor holds a reservation whose granule contains it. -/
def State.hutDoCond (s : State) (q : HutReq) (train : Nat) : State :=
  let a := q.addr.toNat
  let v := q.vh.val
  let n := q.data.length
  let s := s.hutFlushRange a n fun _ => true
  let (m, s) := s.takeMon q
  let m := { m with seq := (m.seq + 1) % 256 }
  let inside := decide (n ≤ 256 ∧ 0 < n) && m.granule == a / 256 && m.granule == (a + n - 1) / 256
  if m.held && inside then
    let s := s.putMon { m with held := false, result := 1, cause := 0, clr := 0 }
    (((s.hutStore q.src.val v q.rid.toNat a q.data q.be).count (Ctr.vh v 15) 1).count (Ctr.vh v 18) 1).hutResolve train
  else
    let cause := if m.held || n > 256 then 5 else if m.clr ≠ 0 then m.clr else 6
    ((s.putMon { m with held := false, result := 2, cause := cause, clr := 0 }).count (Ctr.vh v 19) 1).hutResolve train

/-- Is the operand size of an AtomicOp one the Hut supports, and aligned (R325)? -/
def atomOk (k : AtomKind) (q : HutReq) : Bool :=
  let sz := q.len
  decide (q.addr.toNat % sz = 0) && (match k with
    | .fetchAdd | .swap => decide ((sz = 4 ∨ sz = 8) ∧ q.data.length = sz)
    | .cas => decide ((sz = 4 ∨ sz = 8 ∨ sz = 16) ∧ q.data.length = 2 * sz))

/-- An AtomicOp, at one instant, as a Device access (R325). A malformed one is discarded and reported as a Malformed TLP, as PCIe has it (PRESUMED,
notes/assumptions/59.md). -/
def State.hutDoAtomic (s : State) (k : AtomKind) (q : HutReq) (train : Nat) : State :=
  let a := q.addr.toNat
  let sz := q.len
  let v := q.vh.val
  if !atomOk k q then
    (match s.aerOf q.src.val v (s.hutRid q train) with
     | some (v, f) => s.aer v f .mal 0 (((s.train? train).map fun t : Train => s.aerHeader t.src t.rx).getD [])
     | none => s).hutResolve train
  else
    let s := (s.hutFlushRange a sz fun _ => true).count (Ctr.vh v 16) 1
    if s.hutBad a sz then ((s.hutUe q.src.val v q.rid.toNat (s.hutBadAt a sz)).hutStatus q .fetchAdd .ca).hutResolve train
    else
      let old := s.hutRead a sz
      let new : Option (List Byte) := match k with
        | .fetchAdd => some (leBytes sz (leNat old + leNat q.data))
        | .swap => some q.data
        | .cas => if old == q.data.take sz then some (q.data.drop sz) else none
      let s := match new with
        | some d => s.hutStore q.src.val v q.rid.toNat a d []
        | none => s
      (s.hutReply q old fun _ _ => false).hutResolve train

/-- TLP kind of an operation, for its answer. -/
def hutKind (op : Nat) : TlpKind := if op = 1 ∨ op = 3 ∨ op = 5 then .mwr else if op = 6 then .fetchAdd else .mrd

/-- First BAR2 offset of the alias an operation comes by (R307); an AtomicOp comes by the Device alias or, if `normal`, by the Normal alias. -/
def aliasBase (op : Nat) (normal : Bool) : Nat :=
  if op = 2 ∨ op = 3 ∨ (op = 6 ∧ normal) then 0x800000 else if op = 4 then 0x1000000 else if op = 5 then 0x1800000 else 0

/-- An access that has arrived and is not held: poison, then its alias, the partitions and its effect (R347, R307, R312). A refusal logs the alias with the
address. -/
def State.hutDo (s : State) (x : HutAcc) : State :=
  let kind := (x.refused.map Prod.fst).getD (hutKind x.op)
  if x.r.poisoned then s.hutRefuse x.r kind x.train Ev.HUT_POISON ((x.refused.map Prod.snd).getD (aliasBase x.op x.r.normal + x.r.addr.toNat)) .ur
  else
    match x.refused with
    | some (k, a) => s.hutRefuse x.r k x.train Ev.HUT_ALIAS a .ur
    | none =>
    match s.partCheck x.op x.r with
    | some (code, logged, st) => s.hutRefuse x.r kind x.train code (aliasBase x.op x.r.normal + logged) st
    | none =>
      if x.op = 1 then s.hutDoWrite x.r x.train
      else if x.op = 3 then s.hutDoNormal x.r x.train
      else if x.op = 5 then s.hutDoCond x.r x.train
      else if x.op = 6 then s.hutDoAtomic (x.atom.getD .fetchAdd) x.r x.train
      else s.hutDoRead x.op x.r x.train

/-- HUT_STS.HELD: accesses held by fences. -/
def State.hutHeldSts (s : State) : State :=
  s.set F.HUT.HUT_STS.HELD (min 255 ((s.hut.ctl.map fun e => e.2.held.length).foldl (· + ·) 0))

/-- May the Hut take an access of this VH: its fence does not hold, or its hold queue has room (R327)? -/
def State.hutRoom (s : State) (v : Nat) : Bool := !(s.vctl v).holding || decide ((s.vctl v).held.length < 256)

/-- The arrival of an access at the Hut: held by a fence of its VH, or performed (R327). -/
def State.hutArrive (s : State) (x : HutAcc) : State :=
  let v := x.r.vh.val
  let c := s.vctl v
  if c.holding then (s.setVctl v { c with held := c.held ++ [x] }).hutHeldSts else s.hutDo x

/-! ### Fences (R326 to R329) -/

/-- Posted trains of a VH whose stamp is not its current one: the writes a pending fence waits for. With SCOPE 0 those to the Hut. -/
def State.openWrites (s : State) (v : Nat) : List Train :=
  let c := s.vctl v
  s.trainList.filter fun t => (match t.stamp with
    | some (v', k) => v' == v && k != c.stamp
    | none => false) && (c.scope || t.toHut)

/-- Writes translated but still waiting in a miss lane, stamped at their lookup instant. -/
def State.openPend (s : State) (v : Nat) : Nat :=
  let c := s.vctl v
  (s.core.miss.map fun e => e.2.countP fun p => (match p.stamp with
    | some (v', k) => v' == v && k != c.stamp
    | none => false) && (c.scope || p.toHut)).foldl (· + ·) 0

/-- A write of CTL_FENCE at its lookup instant (R326, R329, R334). -/
def State.fenceStart (s : State) (v data : Nat) : State :=
  let c := s.vctl v
  let next := (c.stamp + 1) % 8
  let used := s.trainList.any (fun t => t.stamp == some (v, next)) || s.core.miss.any fun e => e.2.any fun p => p.stamp == some (v, next)
  if c.st = 1 then s.setVctl v { c with refused := true, refuseCode := 1 }
  else if used then s.setVctl v { c with refused := true, refuseCode := 2 }
  else
    (s.setVctl v { c with refused := false, refuseCode := 0, seq := (c.seq + 1) % 65536, loss := 0, outstanding := 0, firstCause := 0,
                          lossAddr := 0, scope := bitOf data 0, irq := bitOf data 1, st := 1, stamp := next, holding := false }).count
      (Ctr.vh v 21) 1

/-- The fence reaches the Hut (R327). -/
def State.fenceArrive (s : State) (v : Nat) : State :=
  if (s.vctl v).st ≠ 1 then s
  else
    let s := s.hutDrainVh v
    s.setVctl v { s.vctl v with holding := true }

/-- End a fence in STATE 2 or 3: the MSI-X, and the held accesses in arrival order (R327, R328). -/
def State.fenceEnd (s : State) (v st : Nat) : State :=
  let c := s.vctl v
  let held := c.held
  let s := (s.setVctl v { c with st := st, holding := false, held := [] }).hutHeldSts
  let s := if c.irq then s.raiseMsix v 3 else s
  held.foldl (fun s x => s.hutDo x) s

/-- A VH reset or unbinding: the fence returns to IDLE, held accesses are discarded, the control page, the VH's pending bits in every target and
its reservations are cleared; stamps are kept (R329, R338, R323). -/
def State.hutVhReset (s : State) (v : Nat) : State :=
  let c := s.vctl v
  let s := c.held.foldl (fun s x => s.hutResolve x.train) (s.setVctl v { stamp := c.stamp })
  let s := (List.range 24).foldl (fun s t =>
    let x := s.vctl t
    s.setVctl t { x with dbPend := withBit x.dbPend v false }) s.hutHeldSts
  s.clearRes (fun m => m.vh == v) 4

/-! ### Doorbells (R330) -/

/-- A write of CTL_DB_RING (R330); one that DB_ALLOW turns away is lost to the fence that covers it (R326), at the address `sent`
the requester gave it. -/
def State.dbRing (s : State) (src v rid target data : Nat) (stamp : Option (Nat × Nat) := none)
    (sent : Nat := 0) : State :=
  if bitOf (s.get (F.HUT.DB_ALLOW.FROM target)) v then
    let s := s.hutDrainVh v
    let x := s.vctl target
    let fresh := !bitOf x.dbPend v
    let s := s.setVctl target { x with dbPend := withBit x.dbPend v true, dbData := Tab.setD x.dbData v data 0 }
    let s := (s.count (Ctr.vh v 24) 1).count (Ctr.vh target 25) 1
    if fresh && s.flag (F.HUT.DB_ALLOW.IRQ_EN target) then s.raiseMsix target 4 else s
  else
    (s.raise Ev.HUT_DB_DENY { inst := src, key := v, detail := 1, w := trainW rid 0 src 48 v 0 4 (0x2000100 + 8 * target) 0 0 0 0,
                              ingress := s.ingressOf src rid }).count (Ctr.vh v 20) 1 |>.fenceLose stamp true sent 3

/-- In BASECAMP there is no Hut service: an access of a VH's host is refused as HUT_CROSS (R338). -/
def State.hutClosed (s : State) (v len off : Nat) : State :=
  let p := s.get (F.VH.VH_BIND.HOST_PORT v)
  (s.raise Ev.HUT_CROSS { inst := p, key := v, detail := 1, w := trainW 0 0 p 48 v 0 len off 0 0 0 0, aerAt := s.aerOf p v 0,
                          ingress := s.ingressOf p 0 }).count (Ctr.vh v 20) 1

/-- A read of CTL_DB_PEND: the pending bits returned, and exactly those cleared. -/
def State.dbPendTake (s : State) (v : Nat) : Nat × State :=
  let x := s.vctl v
  (x.dbPend, s.setVctl v { x with dbPend := 0 })

/-- R337: a write of HUT.ZERO: SIZE and BASE, and GO, which starts the clear of that range unless one is running. -/
def State.wrHutZero (s : State) (v : Nat) : State :=
  let s := s.sets [(F.HUT.ZERO.SIZE, bitsOf v 47 36), (F.HUT.ZERO.BASE, bitsOf v 22 12)]
  if bitOf v 63 && s.hut.zero.isNone then
    ({ s with hut := { s.hut with zero := some (bitsOf v 22 12 * 4096, bitsOf v 47 36 * 4096) } } : State).set F.HUT.ZERO.BUSY 1
  else s


/-! ### HUT.ZERO (R337) -/

/-- The range of HUT.ZERO is zero with valid ECC, and its reservations are cleared with CAUSE 1. -/
def State.hutZeroEnd (s : State) : State :=
  match s.hut.zero with
  | none => s
  | some (b, n) =>
    let s := { s with hut := { s.hut with mem := s.hut.mem.filter fun c => !(b ≤ c.1 && c.1 < b + n),
                                          ue := s.hut.ue.filter fun w => !(b / 8 ≤ w && w < (b + n) / 8), zero := none } }
    (s.clearRes (fun m => decide (b ≤ m.granule * 256 + 255 ∧ m.granule * 256 < b + n)) 1).set F.HUT.ZERO.BUSY 0

end Sys2Proof.Machine
end

