-- ==== Sys2Proof/Machine/Closure.lean ====
section
/-! DEFINITION. Closing and reopening: link states, PRST_N lines, virtual downstream ports, discards of link-layer state, rope-pair failover, VH
reset, DPC, device containment, escalation and SAFE (03_ports.md R71, R79, R89 to R91; 04_link_layer.md R125, R126, R133, R137; 10_sharing.md
R282 to R288, R294, R297; 12_errors_containment.md R345, R348 to R358). -/
namespace Sys2Proof.Machine

/-! ### Link state (R79, R80) -/

/-- PORT_STS bits by cause: 0 SAFE, 1 VH, 2 device, 3 DPC, 4 link down (R353). -/
def byFld (c p : Nat) : Fld :=
  if c = 0 then F.ERR.PORT_STS.BY_SAFE p else if c = 1 then F.ERR.PORT_STS.BY_VH p else if c = 2 then F.ERR.PORT_STS.BY_DEVICE p
  else if c = 3 then F.ERR.PORT_STS.BY_DPC p else F.ERR.PORT_STS.BY_LINK p

/-- Held by anything other than link down: STATE reads 0x0C (R348). -/
def State.heldPort (s : State) (p : Nat) : Bool := (List.range 4).any fun c => s.flag (byFld c p)

/-- The link itself is held: by SAFE, device containment or DPC. Containment of a VH closes its ports and leaves their links as they are (R351). -/
def State.linkHeld (s : State) (p : Nat) : Bool := [0, 2, 3].any fun c => s.flag (byFld c p)

/-- The data link layer is up: L0 or ACTIVE, or L1, RECOVERY or an equalisation of a speed change entered from them. On a FAB port RETRAIN counts as
RECOVERY does (DEDUCED, notes/assumptions/104.md). -/
def State.linkUp (s : State) (p : Nat) : Bool :=
  let x := s.port p
  x.under == 6 || ((x.under == 4 || x.under == 5 || x.under == 8) && x.upBefore)

/-- VH_BIND.STATE (R281): 0 unbound, 1 bound with its link down, 2 up, 3 a VH reset in progress. -/
def State.bindState (s : State) (v : Nat) : State :=
  let p := s.get (F.VH.VH_BIND.HOST_PORT v)
  s.set (F.VH.VH_BIND.STATE v)
    (if s.share.vhReset.any (fun e => e.1 == v) then 3
     else if !s.vhBound v && !s.share.unbinding.contains v then 0
     else if s.role p == 1 && s.linkUp p then 2 else 1)

/-- Show a port's link state: 0x0C while held, else the link's own. -/
def State.showLink (s : State) (p : Nat) : State :=
  let st := if s.heldPort p then 0xC else (s.port p).under
  let s := s.sets [(F.STN.LINK_STS.STATE p, st), (F.STN.LINK_STS.LINK_UP p, b2n (!s.heldPort p && s.linkUp p && (s.port p).under != 4))]
  match s.vhOfHost p with
  | some v => s.bindState v
  | none => s

/-- A training begins: the limits and checks it works under are those in force now (R72, R86). -/
def State.latchTraining (s : State) (p : Nat) : State :=
  s.setPort p { s.port p with
    trainRate := s.get (F.STN.PORT_ROLE.MAX_RATE p), trainWidth := s.get (F.STN.PORT_ROLE.MAX_WIDTH p),
    trainExpect := bitsOf (s.get (F.STN.HFL_CFG.EXPECT (p / 4))) (13 * (p % 4) + 12) (13 * (p % 4)),
    trainDown := bitOf (s.get (F.STN.HFL_CFG.WIDTH_DOWN_OK (p / 4))) (p % 4) }

/-- Move a link to a state. DETECT begins a training, and so do RECOVERY and RETRAIN but from within one; leaving LOOPBACK takes the follower's loopback away (R59). -/
def State.setLink (s : State) (p st : Nat) : State :=
  let s := if st = 1 ∨ (st = 5 ∧ (s.port p).under ≠ 4 ∧ (s.port p).under ≠ 5) then s.latchTraining p else s
  let s := if (s.port p).under = 0xB ∧ st ≠ 0xB then s.follow p false else s
  let x := s.port p
  (s.setPort p { x with under := st, upBefore := st == 6 || ((st == 4 || st == 5 || st == 8) && s.linkUp p),
                        l1sub := if st = 8 then x.l1sub else 0 }).showLink p

/-- A width change of the port's own that is in progress or pending ends with WIDTH_RESULT 6 (R82, R85). -/
def State.supersedeWidth (s : State) (p : Nat) : State :=
  let x := s.port p
  let s := s.setPort p { x with widthOwn := none, widthNew := none, widthRetry := false, widthTried := false, hll := { x.hll with widthOut := [], want := false, ackSent := false, ackGot := false, switchOut := none, rxSwitch := none } }
  let s := s.set (F.STN.LINK_STS.WIDTH_CHG p) 0
  if s.get (F.STN.LINK_CTL.WIDTH_RESULT p) = 2 then s.set (F.STN.LINK_CTL.WIDTH_RESULT p) 6 else s

/-- A link leaves service: its lanes go to IDLE and the trained values return to their reset values (R71, R473 Port domain); FLIT
stays 1 on a FAB port (R80). -/
def State.clearLink (s : State) (p : Nat) : State :=
  let s := (s.lanesOf p).foldl (fun s n => if s.testing n && s.laneOff n then s else s.laneIdle n) (s.supersedeWidth p)
  s.sets [(F.STN.LINK_STS.RATE p, 0xF), (F.STN.LINK_STS.NEG_WIDTH p, 0), (F.STN.LINK_STS.ACTIVE_WIDTH p, 0), (F.STN.LINK_STS.FLIT p, b2n (s.role p == 3)),
    (F.STN.LINK_STS.REVERSED p, 0), (F.STN.LINK_STS.RETIMERS p, 0), (F.STN.LINK_STS.PARTNER_NODE p, 0)]

/-! ### Virtual downstream ports (R283, R284) -/

/-- Set a slot status bit of a vDSP and raise the slot's interrupt if the host has enabled it and hot-plug interrupts (the PCIe
specification's Slot Control and Slot Status: 0 attention button, 3 presence, 8 data link layer state; enables 0, 3, 12). -/
def State.slotEvent (s : State) (v d st en : Nat) : State :=
  let s := s.orCfg v d 0x22 (16 + st)
  let c := s.cfg v d 0x22
  if bitOf c 5 && bitOf c en then s.emit (.portIrq v d) else s

def State.dllsc (s : State) (v d : Nat) : State := s.slotEvent v d 8 12
def State.attention (s : State) (v d : Nat) : State := s.slotEvent v d 0 0
/-- Presence Detect State, with Presence Detect Changed when it moves. -/
def State.setPresence (s : State) (v d : Nat) (b : Bool) : State :=
  let c := s.cfg v d 0x22
  if bitOf c 22 = b then s else (s.setCfg v d 0x22 (withBit c 22 b)).slotEvent v d 3 3

/-- The vDSP through which a DEV port is attached now (R284); none while it is being emptied. -/
def State.attachedPort (s : State) (p : Nat) : Option (Nat × Nat) :=
  match s.vdspOfPort p with
  | some (v, d) => if s.get (F.VH.VDSP.STATE v d) = 3 then none else some (v, d)
  | none => none

/-- VF_MAP entries of a shared port that are bound or in use. -/
def State.vfsOf (s : State) (p : Nat) : List Nat :=
  (List.range 1024).filter fun i => s.flag (F.VH.VF_MAP0.VALID i) && s.get (F.VH.VF_MAP0.STATE i) != 0 && s.get (F.VH.VF_MAP0.PORT i) == p
/-- VF_MAP entries bound to a VH. -/
def State.vfsIn (s : State) (v : Nat) : List Nat :=
  (List.range 1024).filter fun i => s.flag (F.VH.VF_MAP0.VALID i) && s.get (F.VH.VF_MAP0.STATE i) != 0 && s.get (F.VH.VF_MAP0.VH i) == v
/-- The vDSP of a VF_MAP entry, and its tenant ID (R290). -/
def State.vdspOfVf (s : State) (i : Nat) : Nat × Nat := (s.get (F.VH.VF_MAP0.VH i), s.get (F.VH.VF_MAP0.DEV i))
def State.tenantId (s : State) (i : Nat) : Nat := s.get (F.VH.VDSP.SEC_BUS (s.vdspOfVf i).1 (s.vdspOfVf i).2) * 256

/-- Bus numbers below a vDSP, as the host has written them. -/
def State.busRange (s : State) (v d : Nat) : Nat × Nat := (bitsOf (s.cfg v d 6) 15 8, bitsOf (s.cfg v d 6) 23 16)

/-- Clear the reservations of what a port carries (R323, CAUSE 4). -/
def State.clearResPort (s : State) (p : Nat) : State :=
  let s := match s.vdspOfPort p with
    | some (v, d) =>
      let (lo, hi) := s.busRange v d
      s.clearRes (fun m => m.vh == v && decide (0 < lo ∧ lo ≤ m.rid / 256 ∧ m.rid / 256 ≤ hi)) 4
    | none => s
  (s.vfsOf p).foldl (fun s i => s.clearRes (fun m => m.vh == (s.vdspOfVf i).1 && m.rid == s.tenantId i) 4) s

/-- A vDSP's DPC status shows a trigger with a reason of the PCIe specification, its interrupt if enabled. What its DPC Error Source ID reads for a
trigger that no message brings is a free value: PCIe gives it a meaning only for one that does (notes/assumptions/12.md). -/
def State.dpcStatus (s : State) (v d reason : Nat) : State :=
  let (x, s) := s.free
  let c := s.cfg v d 0x56
  let s := s.setCfg v d 0x56 (x % 65536 * 65536 + 1 + reason % 4 * 2 + reason / 4 % 4 * 32 + c / 8 % 2 * 8)
  let s : State := { s with share := { s.share with dpc := (s.share.dpc.filter (· ≠ 32 * v + d)) ++ [32 * v + d] } }
  let s := (s.count (Ctr.vh v 32) 1)
  if bitOf (s.cfg v d 0x55) 19 then (s.orCfg v d 0x56 3).emit (.portIrq v d) else s

/-- R288 step 1 applies to a VF without a detach (R297, R351): its vDSP enters CONTAINED, or goes on waiting for its host to power it off, with
routing stopped; its reservations go. -/
def State.holdVf (s : State) (i : Nat) : State :=
  let (v, d) := s.vdspOfVf i
  let st := s.get (F.VH.VDSP.STATE v d)
  if st ≠ 1 ∧ st ≠ 2 then s
  else
    let s := if st = 1 then s.set (F.VH.VDSP.STATE v d) 4 else s
    s.clearRes (fun m => m.vh == v && m.rid == s.tenantId i) 4

/-- May the DPC of a bound VF's vDSP trigger: in use, with no trigger standing? -/
def State.canDpcVf (s : State) (i : Nat) : Bool :=
  let (v, d) := s.vdspOfVf i
  let st := s.get (F.VH.VDSP.STATE v d)
  (st == 1 || st == 2 || st == 4) && !s.share.dpc.contains (32 * v + d)

/-- DPC at a KIND 3 vDSP contains only its VF (R297). -/
def State.dpcVf (s : State) (i reason : Nat) : State :=
  (s.holdVf i).dpcStatus (s.vdspOfVf i).1 (s.vdspOfVf i).2 reason

/-- Every tenant vDSP of a shared port enters CONTAINED, with Surprise Down as the reason of its DPC (R297): the error bit, and the trigger reason
of an uncorrectable error. -/
def State.containTenants (s : State) (p : Nat) : State :=
  (s.vfsOf p).foldl (fun s i =>
    if s.canDpcVf i then (s.orCfg (s.vdspOfVf i).1 (s.vdspOfVf i).2 0x41 5).dpcVf i 0 else s) s

/-- The owning vDSP of a DEV port learns that its link went down; tenants of a shared port are contained (R297, R351, R354). -/
def State.devLinkLost (s : State) (p : Nat) : State :=
  match s.vdspOfPort p with
  | some (v, d) =>
    let s := s.dllsc v d
    if s.get (F.VH.VDSP.KIND v d) = 2 then s.containTenants p else s
  | none => s

/-! ### Closing (R348, R352) -/

/-- A cause closes a port: what is queued for it is resolved at once; at a port already closed the event only counts in DROPS. -/
def State.closePort (s : State) (p c code : Nat) : State :=
  if s.flag (byFld c p) then s
  else
    let was := s.closed p
    let s := s.set (byFld c p) 1
    let s :=
      if was then s.addSat (F.ERR.PORT_STS.DROPS p) 1
      else (((s.set (F.ERR.PORT_STS.FIRST_CODE p) code).ortClosePort p).resolveQueued p)
    s.showLink p

/-- A cause is released: the port reopens when none is left; while its link is down it stays closed by that (R352, R362). -/
def State.openPort (s : State) (p c : Nat) : State :=
  if !s.flag (byFld c p) then s
  else
    let s := s.set (byFld c p) 0
    let up := if s.role p = 3 then s.get (F.STN.HLL_STS.STATE p) == 2 else s.linkUp p
    let s := if c ≠ 4 && !s.closed p && s.role p ≠ 0 && !up then s.set (byFld 4 p) 1 else s
    let s := if s.closed p then s else s.set (F.ERR.PORT_STS.FIRST_CODE p) 0
    s.showLink p

/-- A PCIe link goes down to a state: what it carried unacknowledged is lost, and the port closes with BY_LINK under the code given. The device's
own taking down (code 0) adds no second cause to a port already closed. -/
def State.takeDown (s : State) (p st code : Nat) : State :=
  let was := s.linkUp p
  let s := (s.setLink p st).clearLink p
  if !was then s
  else
    let s := (s.count (Ctr.port p 26) 1).loseUnacked p
    let s : State := { s with share := { s.share with pfRegs := s.share.pfRegs.filter fun e => e.1 / 2 ^ 26 ≠ p } }
    if code = 0 && s.closed p then s else s.closePort p 4 code

/-! ### Halud link-layer state (R125, R126, R133, R137) -/

/-- Scramblers after a width change: lanes that were not in use are seeded afresh. -/
def scrChange (old : Nat) (l : List Nat) : List Nat := (List.range 16).map fun n => if n < old then l.getD n (scrSeed n) else scrSeed n

/-- HLL_STS and HLL_CREDIT of a port without link-layer state. -/
def State.clearHll (s : State) (p : Nat) : State :=
  let h := s.hll p
  let s := s.setHll p { txScr := h.txScr, rxScr := h.rxScr, txW := h.txW, rxW := h.rxW }
  let s := s.sets [(F.STN.HLL_STS.TX_NEXT_FSN p, 0), (F.STN.HLL_STS.RX_EXPECT_FSN p, 0), (F.STN.HLL_STS.UNACKED p, 0),
    (F.STN.HLL_STS.REPLAY_RUN p, 0), (F.STN.HLL_STS.MGT_OFF_RX p, 0), (F.STN.HLL_STS.MGT_OFF_TX p, 0), (F.STN.HLL_STS.NAK_PEND p, 0),
    (F.STN.HLL_STS.RESUMED p, 0)]
  (List.range 3).foldl (fun s v => s.sets [(F.STN.HLL_CREDIT.ADV_HDR p v, 0), (F.STN.HLL_CREDIT.ADV_DATA p v, 0),
    (F.STN.HLL_CREDIT.AVAIL_HDR p v, 0), (F.STN.HLL_CREDIT.AVAIL_DATA p v, 0)]) s

/-- MGT_OFF, from the free space of the MGT reserve, as every outbound flit shows it (R122); 1 through initialisation (R124). -/
def State.mgtOff (s : State) (p : Nat) : State :=
  if s.get (F.STN.HLL_STS.STATE p) ≠ 2 ∧ !(s.hll p).resuming then s
  else
    let free := 2048 - s.poolUsed p 3
    if free < 1024 then s.set (F.STN.HLL_STS.MGT_OFF_TX p) 1
    else if free ≥ 1536 then s.set (F.STN.HLL_STS.MGT_OFF_TX p) 0 else s

/-- Send a flit of width w whose first 238 bytes are given, with a link command: Ack fields, CRC, FEC and scrambling are made fresh (R107, R113, R114).
An INIT_DONE carries the current ACK_FSN (R125). -/
def State.sealFlit (s : State) (p w : Nat) (b : List Byte) (kind arg : Nat) : State :=
  let x := s.hll p
  let current : Bool := x.nakNow || x.ackNow || kind == 3 || s.flag (F.STN.HLL_STS.NAK_PEND p)
  let ack := if current then x.accepted else x.ackOut
  let s := if x.nakNow then s.count (Ctr.port p 17) 1 else s
  let cmd : LinkCmd := { ack := ack, nak := x.nakNow, mgtOff := s.flag (F.STN.HLL_STS.MGT_OFF_TX p), kind := kind, arg := arg }
  let (out, scr) := scramble w (flitSeal (b ++ cmd.bytes)) 0 x.txScr
  ((s.setHll p { x with nakNow := false, ackNow := false, ackOut := ack, since := if current then 0 else x.since,
                        txScr := if x.txW = w then scr else scrChange (min w x.txW) scr }).emit (.flit p out)).emit (.symbols p (laneSymbols w out))

/-- The bytes of a NULL flit: its FSN field is that of the next SEQ flit. -/
def State.nullBytes (s : State) (p : Nat) : List Byte := leBytes 2 (s.get (F.STN.HLL_STS.TX_NEXT_FSN p)) ++ List.replicate 236 0

/-- RETRAIN_REQ, ahead of every other command, on a NULL flit of a link layer that runs (R108, R109, R132). -/
def State.sendRetrainReq (s : State) (p : Nat) : State :=
  if (s.port p).under = 6 && (s.get (F.STN.HLL_STS.STATE p) == 1 || s.get (F.STN.HLL_STS.STATE p) == 2) then
    (s.mgtOff p).sealFlit p (s.hll p).txW (s.nullBytes p) 7 0
  else s


/-- A sent packet's train no longer waits on a port; its carriages go once no member retains it, and it leaves when nothing of it is left to send or
cover (R131, R220). -/
def State.coverTrain (s : State) (id p : Nat) : State :=
  match s.train? id with
  | none => s
  | some t =>
    let t := { t with unacked := t.unacked.filter (· ≠ p) }
    if t.unacked.isEmpty && t.copies.isEmpty && t.released then s.endTrain t false
    else
      let s := (s.putTrain t).unretain t p
      match s.train? id with
      | some t => if t.copies.isEmpty && t.released && t.inBuffer && !s.retainedOn t.unacked then s.releaseCarriages t else s
      | none => s

/-- Report a packet that is not covered at a discard (R126). -/
def State.lostPacket (s : State) (p : Nat) (k : SentPk) : State :=
  let s := s.fenceLose k.stamp false k.hdr.addr 6
  let s :=
    if k.hdr.mc then
      match s.train? k.train with
      | some t => s.mcLoss t p 2
      | none => s
    else s.fabDrop p k.hdr 9
  let s := match s.train? k.train with
    | some t => (s.putTrain { t with copies := t.copies.filter fun c => c.port ≠ p }).refreshQueues t
    | none => s
  s.coverTrain k.train p

/-- Is a rope pair's member in service? -/
def State.memberUp (s : State) (p : Nat) : Bool := s.get (F.STN.HLL_STS.STATE p) == 2

/-- The status words of a record about a port's link-layer state: LINK_STS, HLL_STS, a count, a cause. -/
def State.llW (s : State) (p n cause : Nat) : List Nat := (s.statusW 0x1000 p).take 2 ++ [n, cause]

/-- The packets a pair still has to send again are reported as lost, off the member they went on first: the pair has ended (R126, R130). -/
def State.resendLost (s : State) (m : Nat) : State :=
  let r := s.rope m
  let s := s.setRope m { r with resend := [], via := none }
  match r.via with
  | some q => r.resend.foldl (fun s k => s.lostPacket (s.ropeOther m q) k) s
  | none => s

/-- Packets retained by the pair of a port that has no member left to send them again on, once this port goes too (R126, R137). -/
def State.strandedOf (s : State) (p : Nat) : List SentPk :=
  match s.ropeOf p with
  | some m => if s.memberUp (s.ropeOther m p) then [] else (s.rope m).resend
  | none => []

/-- STATE of a port's pair once the port has no link layer: the other member alone, or neither (R129). -/
def State.ropeLeft (s : State) (p : Nat) : State :=
  match s.ropeOf p with
  | some m =>
    let q := s.ropeOther m p
    let up := s.memberUp q
    let r := s.rope m
    (s.setRope m { r with resend := if up then r.resend else [], via := if up then some q else none }).set (F.ROUTE.ROPE_PAIR.STATE m)
      (if !up then 3 else if s.get (F.ROUTE.ROPE_PAIR.PORT_A m) = q then 1 else 2)
  | none => s

/-- A packet of which the link has brought the header and not the tail is bad (R184): it goes to lookup as cut off. -/
def State.cutPart (s : State) (p : Nat) (x : Part) : State :=
  let h := Hdr.ofBytes x.bytes
  if x.bytes.length < 32 || !h.ok x.vc h.len then s
  else s.inject { id := 0, src := p, t := { kind := .msg, data := x.bytes.drop 32 }, hal := some h, vc := x.vc, tail := .cut, stale := true }

/-- Discard a port's link-layer state (R126): uncovered packets and stranded pair-retained ones are reported, a record names the cause and their
number, the port closes. Off a rope pair, whose partner sends it again, a packet that was being received is cut off. -/
def State.discardLL (s : State) (p cause : Nat) (report : Bool := true) : State :=
  if s.get (F.STN.HLL_STS.STATE p) = 0 then s
  else
    let other := match s.ropeOf p with
      | some m => s.ropeOther m p
      | none => p
    let lost := (s.hll p).sent ++ s.strandedOf p
    let w := s.llW p lost.length cause
    let s := if (s.ropeOf p).isSome then s else (s.hll p).parts.foldl (fun s x => s.cutPart p x) s
    let s := ((s.clearHll p).sets [(F.STN.HLL_STS.STATE p, 0), (F.STN.HLL_STS.LOST_CAUSE p, cause)]).ropeLeft p
    if !report then lost.foldl (fun s k => (s.coverTrain k.train p).coverTrain k.train other) s
    else
      let s := lost.foldl (fun s k => (s.lostPacket p k).coverTrain k.train other) s
      let s := s.raise Ev.LL_STATE_LOST { inst := p, detail := 2, w := w }
      s.closePort p 4 Ev.LL_STATE_LOST

/-- Order retained packets by PSN from the oldest: PSNs are compared modulo 65,536 against the newest sent. -/
def psnSort (last : Nat) (l : List SentPk) : List SentPk :=
  l.mergeSort fun a b => decide ((last + 65536 - a.psn) % 65536 ≥ (last + 65536 - b.psn) % 65536)

/-- A member of a rope pair fails (R133); when the other is not in service its uncovered trains are reported instead (R137). `why` is the cause, by its
place in R132's list from 1; the record's last word holds it above the LOST_CAUSE (DESIGN CHOICE, notes/assumptions/104.md). -/
def State.failover (s : State) (m p why : Nat) (cause : Nat := 6) : State :=
  let st := s.get (F.STN.HLL_STS.STATE p)
  if st = 0 ∨ st = 4 then s
  else
    let q := s.ropeOther m p
    let r := s.rope m
    let isA := s.get (F.ROUTE.ROPE_PAIR.PORT_A m) == p
    let s := if why = 0 then s else s.sendRetrainReq p
    if s.get (F.STN.HLL_STS.STATE q) ≠ 2 then s.discardLL p cause
    else
      let last (vc : Nat) : Nat := (r.psn.getD vc 0 + 65535) % 65536
      let keep := (List.range 4).flatMap fun vc => psnSort (last vc) ((r.resend ++ (s.hll p).sent).filter fun k => k.vc == vc)
      let n := keep.length
      let w := s.llW p n (16 * why + cause)
      let s := (s.clearHll p).sets [(F.STN.HLL_STS.STATE p, if why = 0 then 0 else 4), (F.STN.HLL_STS.LOST_CAUSE p, cause)]
      let s := s.setRope m { r with resend := keep, via := some q, closedRx := r.closedRx.erase p ++ [p], late := [0, 1, 2, 3], switched := [],
                                       rejoinRx := r.rejoinRx.filter fun e => e.1 != p, failTime := some s.time.now }
      let s := s.trainList.foldl (fun s t =>
        if t.copies.any (fun c => c.port == p) then
          let t' := { t with copies := (t.copies.filter fun c => !(c.port == p && c.sent > 0)).map fun c => if c.port = p then { c with port := q } else c }
          ((s.putTrain t').refreshQueues t).refreshQueues t'
        else s) s
      let s := s.sets [(F.ROUTE.ROPE_PAIR.STATE m, if isA then 2 else 1), (F.ROUTE.ROPE_PAIR.LAST_RESENT m, min n 65535)]
      let s := s.addSat (F.ROUTE.ROPE_PAIR.FAILOVERS m) 1
      s.raise Ev.ROPE_FAILOVER { inst := p, detail := 2, w := w }

/-- A FAB port leaves its role or is disabled (R126, cause 2): a rope-pair member whose partner serves fails over and closes nothing (R354), any
other's state is discarded. -/
def State.fabOff (s : State) (p : Nat) : State :=
  match s.ropeOf p with
  | some m => if s.get (F.STN.HLL_STS.STATE p) = 4 then s.discardLL p 2 else s.failover m p 0 2
  | none => s.discardLL p 2

/-- A FAB link that held state and leaves ACTIVE: a rope-pair member fails, any other keeps its state, also when the link had not yet resumed it
(R125, R132). -/
def State.holdLL (s : State) (p why : Nat) : State :=
  match s.ropeOf p with
  | some m => s.failover m p why
  | none =>
    let st := s.get (F.STN.HLL_STS.STATE p)
    if st = 2 then
      let h := s.hll p
      (s.setHll p { h with retained := true, resuming := false, cycle := false, owedDone := false, replay := none }).set
        (F.STN.HLL_STS.STATE p) 3
    else if st = 1 && (s.hll p).resuming then (s.setHll p { s.hll p with resuming := false }).set (F.STN.HLL_STS.STATE p) 3
    else if st = 1 then (s.clearHll p).set (F.STN.HLL_STS.STATE p) 0 else s

/-- Retrain a port (R78, R85): PCIe links enter RECOVERY, Halud links RETRAIN. `why` is the cause for a rope pair's member, as R132 lists them: by itself
the fourth. -/
def State.retrain (s : State) (p : Nat) (why : Nat := 4) : State :=
  let s := (s.supersedeWidth p).count (Ctr.port p 27) 1
  if s.role p = 3 then (s.holdLL p why).setLink p 5 else s.setLink p 5

/-! ### PRST_N (R89, R91) -/

def State.prst (s : State) (p : Nat) : Prst := Tab.getD s.pins.prst p {}
def State.setPrst (s : State) (p : Nat) (x : Prst) : State := { s with pins := { s.pins with prst := Tab.setD s.pins.prst p x {} } }

/-- Does any cause of R89 hold the line of a DEV port asserted? -/
def State.prstCause (s : State) (p : Nat) : Bool :=
  s.flag (F.STN.LINK_CTL.PRST_ASSERT p) || (s.attachedPort p).isNone || (s.prst p).removal || s.flag (F.ERR.PORT_STS.BY_SAFE p) || s.phase == 4 ||
    (s.prst p).minTimer

/-- Is a hot-plug slot's power enable on, as host software of its vDSP has set Power Controller Control? Always where it has none (R92). -/
def State.slotPowered (s : State) (p : Nat) : Bool :=
  !s.flag (F.STN.PORT_ROLE.HP_SLOT p) || !bitOf (s.get (F.HOTPLUG.SLOT_MAP.PWR_EN p)) 4 ||
    (match s.vdspOfPort p with
     | some (v, d) => !bitOf (s.cfg v d 0x22) 10
     | none => false)

/-- Drive PRST_N asserted for at least 1 ms; the link goes to RESET. -/
def State.assertPrst (s : State) (p : Nat) : State :=
  if s.role p ≠ 2 then s
  else (s.setPrst p { s.prst p with out := true, asserted := true, minTimer := true }).takeDown p 7 0

/-- Where training starts or where the link is held when it may not. -/
def State.startTrain (s : State) (p : Nat) : State :=
  let fab := s.role p = 3
  let s := (s.set (F.STN.LINK_CTL.FAIL_REASON p) 0).setPort p { s.port p with alignFails := 0 }
  if s.role p = 0 then s.setLink p 0
  else if s.role p = 2 && (s.prst p).asserted then s.setLink p 7
  else if s.flag (F.STN.LINK_CTL.DISABLE p) then s.setLink p (if fab then 0 else 0xA)
  else if s.role p = 1 && (s.port p).hostRst then s.setLink p 1
  else if s.flag (byFld 0 p) || s.flag (byFld 2 p) || s.flag (byFld 3 p) then s.setLink p (if fab then 0 else 0xA)
  else s.setLink p 1

/-- Release PRST_N when nothing holds it, the root PLL has lock and a hot-plug slot has power; training starts (R91). -/
def State.releasePrst (s : State) (p : Nat) : State :=
  if s.role p = 2 && (s.prst p).asserted && !s.prstCause p && s.flag F.CLK.ROOT_STS.ROOT_LOCK && s.slotPowered p then
    (s.setPrst p { s.prst p with asserted := false, out := true }).startTrain p
  else s

/-- Hot reset sent on a DEV port's link (R85, R90). -/
def State.hotReset (s : State) (p : Nat) : State :=
  if s.role p = 2 && s.linkUp p then ((s.supersedeWidth p).emit (.link p "HOT_RESET" 0)).takeDown p 9 0 else s

/-! ### Emptying a vDSP (R287, R288) -/

/-- Function Level Reset written to a physical VF (R288, R294). -/
def State.sendFlr (s : State) (i : Nat) : State := s.emit (.link (s.get (F.VH.VF_MAP0.PORT i)) "VF_FLR" (s.get (F.VH.VF_MAP0.PHYS_RID i)))

/-- Reset of a vDSP being emptied is over: it drains (R288 step 3). -/
def State.toDrain (s : State) (v d : Nat) : State :=
  if s.share.resetting.contains (v, d) then
    { s with share := { s.share with resetting := s.share.resetting.filter (· ≠ (v, d)), drains := s.share.drains ++ [(v, d)] } }
  else s

/-- The DPC of a vDSP being emptied ends with it: its status is clear for the next owner, and a port it held stays closed by its link. -/
def State.dpcEnd (s : State) (v d : Nat) : State :=
  if !s.share.dpc.contains (32 * v + d) then s
  else
    let s := s.setCfg v d 0x56 (withBit (s.cfg v d 0x56) 0 false)
    let s : State := { s with share := { s.share with dpc := s.share.dpc.filter (· ≠ 32 * v + d) } }
    if s.get (F.VH.VDSP.KIND v d) = 3 then s else s.openPort (s.get (F.VH.VDSP.PORT v d)) 3

/-- A vDSP enters RESETTING: routing stops, presence is gone, its port is put in reset or its VF receives FLR (R288 steps 1 and 2).
A port that is no longer a DEV port has no PRST_N to wait for. -/
def State.startEmpty (s : State) (v d : Nat) : State :=
  let k := s.get (F.VH.VDSP.KIND v d)
  let p := s.get (F.VH.VDSP.PORT v d)
  let i := s.get (F.VH.VDSP.VFI v d)
  let s := if k = 3 then s.clearRes (fun m => m.vh == v && m.rid == s.tenantId i) 4 else s.clearResPort p
  let s := ((s.set (F.VH.VDSP.STATE v d) 3).setPresence v d false).dpcEnd v d
  let s := s.dllsc v d
  let s : State := { s with share := { s.share with resetting := s.share.resetting ++ [(v, d)] } }
  if k = 3 then
    let s := (s.set (F.VH.VF_MAP0.STATE i) 3).sendFlr i
    { s with share := { s.share with flr := s.share.flr.filter (· ≠ i), flrBack := s.share.flrBack.filter (· ≠ i) } }
  else
    let s := s.containTenants p
    if s.role p = 2 then s.assertPrst p else s.toDrain v d

/-- FORCE_DETACH of a vDSP that is attached, detaching or contained (R287). -/
def State.forceDetach (s : State) (v d : Nat) : State :=
  let st := s.get (F.VH.VDSP.STATE v d)
  if st = 1 ∨ st = 2 ∨ st = 4 then s.startEmpty v d else s

/-- Start a mediated FLR of a VF (R294); `back` returns its vDSP to ATTACHED at its end (R297, R351). -/
def State.startFlr (s : State) (i : Nat) (back : Bool) : State :=
  if s.get (F.VH.VF_MAP0.STATE i) = 3 ∨ s.get (F.VH.VF_MAP0.STATE i) = 0 then s
  else
    let s := (s.set (F.VH.VF_MAP0.STATE i) 2).sendFlr i
    let s := s.clearRes (fun m => m.vh == (s.vdspOfVf i).1 && m.rid == s.tenantId i) 4
    { s with share := { s.share with flr := (s.share.flr.filter (· ≠ i)) ++ [i],
                                     flrBack := if back then (s.share.flrBack.filter (· ≠ i)) ++ [i] else s.share.flrBack } }

/-! ### Segment locks (R455, R456) -/

/-- Show the lock table in PAGE_STS.SEG_LOCKED and LOCK_STS.HELD. -/
def State.showLocks (s : State) (pages : List Nat) : State :=
  let s := pages.foldl (fun s pg => s.set (F.HDR.PAGE_STS.SEG_LOCKED pg)
    ((s.mgmt.locks.filter fun l => l.page == pg).foldl (fun acc l => withBit acc l.seg true) 0)) s
  (s.set F.RPU.LOCK_STS.HELD s.mgmt.locks.length).set F.SIDEBAND.SB_STS.LOCK_HELD (b2n (s.mgmt.locks.any fun l => l.who == 1))

/-- Release the lock of a locker. -/
def State.releaseLock (s : State) (who : Nat) : State :=
  let pages := (s.mgmt.locks.filter fun l => l.who == who).map SegLock.page
  ({ s with mgmt := { s.mgmt with locks := s.mgmt.locks.filter fun l => l.who != who } } : State).showLocks pages

/-- SB_LOCK_BREAK, its record naming the broken lock in LOCK_STS and the writes discarded since (R457). -/
def State.lockBreakNote (s : State) (n : Nat) : State :=
  s.raise Ev.SB_LOCK_BREAK { detail := 2, w := [s.regVal 0x06 0x18, s.regVal 0x06 0x20, s.regVal 0x08 0x118, n] }

/-- A lock is broken after 1 ms (R457): LOCK_STS, the event, and the holder's sequence, which fails until it ends it. -/
def State.breakLock (s : State) (page seg : Nat) : State :=
  match s.mgmt.locks.find? fun l => l.page == page && l.seg == seg with
  | none => s
  | some l =>
    let s := s.releaseLock l.who
    let s := (s.sets [(F.RPU.LOCK_STS.LAST_BREAK_REQ, l.who), (F.RPU.LOCK_STS.LAST_BREAK_PAGE, page), (F.RPU.LOCK_STS.LAST_BREAK_SEG, seg)]).addSat
      F.RPU.LOCK_STS.BREAKS 1
    let s := s.lockBreakNote 0
    if l.who = 0 then s.emit (.guideData false [])
    else { s with mgmt := { s.mgmt with broken := (s.mgmt.broken.filter fun b => b.1 != l.who) ++ [(l.who, page, seg, 0)] } }

/-- The Unlock message of a VH (R455, R457): its lock is released; after a broken lock, the count of writes discarded is recorded. -/
def State.hostUnlock (s : State) (v : Nat) : State :=
  let s := s.releaseLock (8 + v)
  match s.mgmt.broken.find? fun b => b.1 == 8 + v with
  | none => s
  | some (_, _, _, n) => ({ s with mgmt := { s.mgmt with broken := s.mgmt.broken.filter fun b => b.1 != 8 + v } } : State).lockBreakNote n

/-! ### VH reset (R90, R473) -/

/-- The VH domain of R473: virtual switch, management endpoint, MSI-X, GW_RID, control page, reservations, fence, lock. -/
def State.vhDomain (s : State) (v : Nat) : State :=
  let s := s.hotCfg v
  let s := (List.range 32).foldl (fun s d =>
    let s := s.set (F.VH.VDSP.SEC_BUS v d) 0
    if s.get (F.VH.VDSP.STATE v d) = 0 ∨ s.get (F.VH.VDSP.STATE v d) = 3 ∨ d = 0 then s else s.orCfg v d 0x22 22) s
  let s : State := { s with mgmt := { s.mgmt with msix := s.mgmt.msix.filter (fun e => e.1 / 24 ≠ v),
                                                  msixPend := s.mgmt.msixPend.filter (fun e => e.1 / 6 ≠ v) } }
  let s := s.sets [(F.GW.GW_RID.VALID v, 0), (F.GW.GW_RID.RID v, 0)]
  let s := (s.hutVhReset v).releaseLock (8 + v)
  if s.flag F.LOG.DMA_CTL.EN && s.get F.LOG.DMA_CTL.DEST_VH == v then s.set F.LOG.DMA_CTL.STATE 3 else s

/-- Start a VH reset: `prst` when PRST_N caused it. -/
def State.vhReset (s : State) (v : Nat) (prst : Bool) : State :=
  let s : State := { s with share := { s.share with vhReset := (s.share.vhReset.filter fun e => e.1 ≠ v) ++ [(v, prst)] } }
  let s := (s.count (Ctr.vh v 33) 1).raise Ev.VH_RESET { inst := v }
  let devs := (List.range 48).filter fun p => s.role p == 2 && (match s.attachedPort p with
    | some (w, d) => w == v && (s.get (F.VH.VDSP.KIND w d) == 1 || !s.flag F.VH.SHARE_CTL.PF_GUARD)
    | none => false)
  let s := devs.foldl (fun s p =>
    let shared := match s.attachedPort p with
      | some (w, d) => s.get (F.VH.VDSP.KIND w d) == 2
      | none => false
    let s := if shared then (s.vfsOf p).foldl (fun s i => s.forceDetach (s.vdspOfVf i).1 (s.vdspOfVf i).2) s else s
    let s := s.hotReset p
    if prst && !shared then s.assertPrst p else s) s
  let s := if v = s.managerVh then s else (s.vfsIn v).foldl (fun s i => s.startFlr i (s.share.flrBack.contains i)) s
  (s.vhDomain v).bindState v

/-- What a VH reset waits for has ended (R90). -/
def State.vhResetOver (s : State) (v : Nat) : Bool :=
  let hp := s.get (F.VH.VH_BIND.HOST_PORT v)
  let causeOver := !s.vhBound v || (!(s.port hp).hostRst && (s.port hp).under != 9)
  let ports := (List.range 48).all fun p => !(s.role p == 2 && (match s.attachedPort p with
    | some (w, _) => w == v
    | none => false) && ((s.prst p).minTimer || (s.port p).under == 9))
  causeOver && ports && (s.vfsIn v).all fun i => s.get (F.VH.VF_MAP0.STATE i) != 2

/-! ### DPC, containment, escalation (R345, R350, R351) -/

/-- RESULT of the containment command in progress becomes done for a target (R351). -/
def State.cmdDone (s : State) (op target idx : Nat) : State :=
  if s.err.cmd = some (op, target, idx) then
    ({ s with err := { s.err with cmd := none } } : State).set F.ERR.CONTAIN_CTL.RESULT 1
  else s

/-- Contain a port (R351). -/
def State.containPort (s : State) (p : Nat) (ca : Bool) : State :=
  if s.flag (byFld 2 p) then s
  else
    let s := s.setPort p { s.port p with cplCa := ca }
    let s := (s.closePort p 2 Ev.PORT_CONTAIN).raise Ev.PORT_CONTAIN { inst := p, detail := 2 }
    if s.role p = 3 then ((s.discardLL p 2).clearLink p).setLink p 0
    else ((s.clearResPort p).takeDown p (if (s.prst p).asserted then 7 else 0xA) 0).devLinkLost p

/-- KIND 1 ports of a VH. -/
def State.kind1Of (s : State) (v : Nat) : List Nat :=
  (List.range 48).filter fun p => match s.attachedPort p with
    | some (w, d) => w == v && s.get (F.VH.VDSP.KIND w d) == 1
    | none => false

/-- Contain a tenant VH (R351). -/
def State.containVh (s : State) (v : Nat) (ca : Bool) : State :=
  if s.err.vhHeld.contains v then s
  else
    let s : State := { s with err := { s.err with vhHeld := s.err.vhHeld ++ [v] } }
    let ports := (if s.role (s.get (F.VH.VH_BIND.HOST_PORT v)) = 1 then [s.get (F.VH.VH_BIND.HOST_PORT v)] else []) ++ s.kind1Of v
    let s := ports.foldl (fun s p =>
      let s := s.setPort p { s.port p with cplCaVh := ca }
      s.closePort p 1 Ev.VH_CONTAIN) s
    let s := (s.vfsIn v).foldl (fun s i => s.holdVf i) s
    let s := (s.clearRes (fun m => m.vh == v) 4).releaseLock (8 + v)
    let c := s.vctl v
    let s := c.held.foldl (fun s x => s.hutResolve x.train) ((s.setVctl v { c with st := if c.st = 1 then 0 else c.st, holding := false, held := [] }).hutHeldSts)
    s.raise Ev.VH_CONTAIN { inst := v, detail := 2, aerAt := some (v, 32) }

/-- Contain a bound VF (R351). -/
def State.containVf (s : State) (i : Nat) : State :=
  if s.err.vfHeld.contains i then s
  else
    let s : State := { s with err := { s.err with vfHeld := s.err.vfHeld ++ [i] } }
    (s.holdVf i).raise Ev.VF_CONTAIN { inst := i, detail := 2 }

/-- Contain an ingress instance of R345: 0 port, 1 VH, 2 VF. -/
def State.containTarget (s : State) (k i : Nat) (ca : Bool) : State :=
  if k = 0 then s.containPort i ca else if k = 1 then s.containVh i ca else s.containVf i

/-! ### DPC (R350, R297) -/

/-- A DPC trigger at a vDSP; its reason is the PCIe specification's, trigger reason in bits 1:0 and extension in bits 3:2. -/
def State.dpcTrig (s : State) (v d reason : Nat) : State :=
  let st := s.get (F.VH.VDSP.STATE v d)
  let k := s.get (F.VH.VDSP.KIND v d)
  let p := s.get (F.VH.VDSP.PORT v d)
  let note (s : State) : State := s.raise Ev.DPC_TRIGGER { inst := p, detail := 2, aerAt := some (v, d) }
  if k = 3 then
    let i := s.get (F.VH.VDSP.VFI v d)
    if s.canDpcVf i then note (s.dpcVf i reason) else s
  else if (st ≠ 1 ∧ st ≠ 2) ∨ s.flag (byFld 3 p) then s
  else
    let up := s.linkUp p
    let s := note (s.closePort p 3 Ev.DPC_TRIGGER)
    let s := ((s.clearResPort p).dpcStatus v d reason).takeDown p (if (s.prst p).asserted then 7 else 0xA) 0
    let s := if up then s.dllsc v d else s
    if k = 2 then s.containTenants p else s

/-! ### SAFE (R358) -/

/-- Trains and headers in flight by core class. -/
def State.inFlight (s : State) : List Nat :=
  (s.trainList.filter Train.inBuffer).map Train.cls ++
    (s.core.inq.flatMap fun e => e.2.map fun x => match x.hal with
      | some _ => x.vc + 3
      | none => tlpClass x.t) ++
    (s.core.miss.flatMap fun e => e.2.map fun x => tlpClass x.it.t) ++ (s.core.gwWait.flatMap fun e => e.2.map fun x => x.tr.cls)

/-- Discard every train in flight or queued. -/
def State.dropAll (s : State) : State :=
  let s := s.trainList.foldl (fun s t =>
    let s := s.fenceLose t.stamp t.toHut t.sentAddr 1
    (s.endTrain t true).refreshQueues t) s
  let s := (s.core.miss.flatMap Prod.snd).foldl (fun s u => s.fenceLose u.stamp u.toHut u.it.t.addr.toNat 1) s
  ({ s with core := { s.core with inq := [], miss := [], gwWait := [] } } : State).ortSts.drainGen

/-- SAFE entry (R358, R359): a second F event changes nothing more. -/
def State.enterSafe (s : State) (code : Nat) : State :=
  if s.phase = 4 then s
  else
    let s := s.sets [(F.CHIP.STATE.STATE, 4), (F.ERR.SAFE_STS.CODE, code),
      (F.ERR.SAFE_STS.TIME, s.time.now % 2 ^ 36)]
    let s : State := { s with pins := { s.pins with faultN := true } }
    let n := s.inFlight
    let cnt (c : Nat) : Nat := min 65535 (n.countP fun x => x == c)
    let s := s.dropAll
    let s := (List.range 48).foldl (fun s p =>
      if s.role p = 3 then
        let s := s.discardLL p 2 false
        ((s.closePort p 0 code).clearLink p).setLink p 0
      else if s.role p = 2 then
        let s := s.setPrst p { s.prst p with out := true, asserted := true }
        ((s.closePort p 0 code).takeDown p 0xA 0).devLinkLost p
      else if s.role p = 1 then s.closePort p 0 code
      else s) s
    s.log (s.mkRec code 3 4 { detail := 2, w := [cnt 0 + 65536 * cnt 1 + 2 ^ 32 * cnt 2 + 2 ^ 48 * cnt 3, s.regVal 0x58 0x108,
                                                 s.regVal 0x58 0x110, cnt 4 + 65536 * cnt 5 + 2 ^ 32 * cnt 6] })

/-- Carry out what events raised in a command call for: SAFE, then escalations and DPC triggers, each of which may raise further events. -/
def State.settle (s : State) : Nat → State
  | 0 => s
  | n + 1 =>
    match s.err.safePend with
    | some code => (({ s with err := { s.err with safePend := none } } : State).enterSafe code).settle n
    | none =>
      match s.err.escPend with
      | (k, i) :: rest => (({ s with err := { s.err with escPend := rest } } : State).containTarget k i false).settle n
      | [] =>
        match s.err.dpcPend with
        | (v, d) :: rest => (({ s with err := { s.err with dpcPend := rest } } : State).dpcTrig v d 0).settle n
        | [] => s

end Sys2Proof.Machine
end

