-- ==== Sys2Proof/Machine/Buffer.lean ====
section
/-! DEFINITION. The shared packet buffer: reservations and advertised credits, the move to the shared account, bank sparing and the census
(07_buffer_multicast.md R196 to R212). -/
namespace Sys2Proof.Machine

/-! ### Reservations (R200 to R203) -/

/-- Number of VCs of a PCIe port (R243). -/
def State.pcieVcs (s : State) (p : Nat) : Nat := s.get (F.EGR.TCVC.VCS p) + 1

/-- Header and data credits advertised, summed over VCs, and the effective reservation, for a pool's LIMIT and HDR_PART (R201). The PCIe minimum, one
for each VC of the port, and the largest values with and without scaling are the PCIe specification's (notes/assumptions/12.md). -/
def poolCredits (hal scaled : Bool) (vcs q limit hdr : Nat) : Nat × Nat × Nat :=
  if q = 3 then (0, 0, limit)
  else
    let h0 := hdr / 3
    let d0 := 4 * (limit - hdr)
    let (hmin, dmin, hmax, dmax) :=
      if hal then (1, 256, 2047, 32767)
      else (vcs, (if q = 1 then 2 else 256) * vcs, if scaled then 2032 else 127, if scaled then 32752 else 2047)
    let h := min (max h0 hmin) hmax
    let d := min (max d0 dmin) dmax
    let (h, d) := if hal then (h, d) else (h / vcs * vcs, d / vcs * vcs)
    (h, d, 3 * h + (d + 3) / 4)

/-- What a pool's limits in force give in the port's role and at the scale its link negotiated; before any link, at the largest (R201). -/
def State.poolWant (s : State) (p q : Nat) : Nat × Nat × Nat :=
  poolCredits (s.role p == 3) (!s.linkUp p || (s.dll p).scaled) (s.pcieVcs p) q (s.get (F.BUF.POOL_LIMIT.LIMIT p q)) (s.get (F.BUF.POOL_LIMIT.HDR_PART p q))

/-- The carriages a pool's limits in force reserve: what its port may advertise in any role, so that a role change never changes RESERVED (R200;
DEDUCED, notes/assumptions/107.md). -/
def State.poolRsv (s : State) (p q : Nat) : Nat :=
  let l := s.get (F.BUF.POOL_LIMIT.LIMIT p q)
  let h := s.get (F.BUF.POOL_LIMIT.HDR_PART p q)
  max (poolCredits true true 1 q l h).2.2 (poolCredits false true (s.pcieVcs p) q l h).2.2

/-- Is the controller used in its station's bifurcation? -/
def State.usedCtl (s : State) (p : Nat) : Bool := s.widthOf p != 0

/-- Effective reservation: the larger of the advertised and the new one until the next link initialisation (R203). -/
def State.effRsv (s : State) (p q : Nat) : Nat :=
  match Tab.get? s.core.advert (4 * p + q) with
  | some (_, _, r) => max r (s.poolRsv p q)
  | none => s.poolRsv p q

/-- The effective reservation that POOL_STS shows, in the form of the port's own role (R201): with the advertisement in force, by what it gives. -/
def State.poolShown (s : State) (p q : Nat) : Nat :=
  let (_, _, r) := s.poolWant p q
  match Tab.get? s.core.advert (4 * p + q) with
  | some (h, d, _) => if q = 3 then r else max r (3 * h + (d + 3) / 4)
  | none => r

/-- RESERVED of R200. -/
def State.reservedSum (s : State) : Nat :=
  let ports := (List.range 48).map fun p =>
    if s.usedCtl p then s.effRsv p 0 + s.effRsv p 1 + s.effRsv p 2 + s.effRsv p 3 + s.get (F.BUF.PORT_LIMIT.RETAIN_MAX p) else 0
  ports.foldl (· + ·) 0 + 6656 + s.get F.MCAST.SIDING_RSV.RSV

/-- May the limits in force stand (R200)? -/
def State.limitsOk (s : State) : Bool :=
  decide (s.reservedSum ≤ s.get F.BUF.CAP_STS.CAPACITY - 65536) &&
    (List.range 48).all fun p => s.get (F.BUF.POOL_LIMIT.LIMIT p 3) == 0 || s.get (F.BUF.POOL_LIMIT.LIMIT p 3) == 2048

/-- The credits of a pool that a port advertises, summed over its VCs: on a PCIe port what each VC is given, in the units of its scale (R201). -/
def State.advShown (s : State) (p q : Nat) : Nat × Nat :=
  match Tab.get? s.core.advert (4 * p + q) with
  | none => let (h, d, _) := s.poolWant p q; (h, d)
  | some (h, d, _) =>
    if s.role p = 3 then (h, d)
    else
      let (vh, vd, _, _) := s.pcieAdv p q
      (s.pcieVcs p * vh, s.pcieVcs p * vd)

/-- Show RESERVED, SHARED_SIZE and POOL_STS for the limits and advertisements in force. -/
def State.refreshBuf (s : State) : State :=
  let r := s.reservedSum
  let s := s.sets [(F.BUF.CAP_STS.RESERVED, r), (F.BUF.SHARED_STS.SHARED_SIZE, s.get F.BUF.CAP_STS.CAPACITY - r)]
  let s := (List.range 192).foldl (fun s i =>
    let p := i / 4
    let q := i % 4
    let (h, d) := s.advShown p q
    if s.usedCtl p then s.sets [(F.BUF.POOL_STS.RESERVED p q, s.poolShown p q), (F.BUF.POOL_STS.ADV_HDR p q, h), (F.BUF.POOL_STS.ADV_DATA p q, d)]
    else s.sets [(F.BUF.POOL_STS.RESERVED p q, 0), (F.BUF.POOL_STS.ADV_HDR p q, 0), (F.BUF.POOL_STS.ADV_DATA p q, 0)]) s
  [48, 49].foldl (fun s p => s.sets [(F.BUF.POOL_STS.RESERVED p 0, 1024), (F.BUF.POOL_STS.RESERVED p 1, 256), (F.BUF.POOL_STS.RESERVED p 2, 2048)]) s

/-- A port's link initialises: the limits in force govern it (R203). -/
def State.advertise (s : State) (p : Nat) : State :=
  ([0, 1, 2, 3].foldl (fun (s : State) q =>
    let (h, d, _) := s.poolWant p q
    { s with core := { s.core with advert := Tab.put s.core.advert (4 * p + q) (h, d, s.poolRsv p q) } }) s).refreshBuf

/-- The limits of R202 for a role and width: LIMIT and HDR_PART of pools 0 to 3, then SHARE and RETAIN_MAX. -/
def limitsOf (fab : Bool) (w : Nat) : List (Nat × Nat) × Nat × Nat :=
  let share := 8192 * w
  if fab then
    let lim := if w = 16 then 9216 else 608 * w
    ([(lim, 96 * w), (lim, 96 * w), (lim, 96 * w), (2048, 0)], share, 512 * w)
  else ([(384 * w, 96 * w), (64 * w, 48 * w), (384 * w, 96 * w), (0, 0)], share, 0)

/-- The boot ROM writes the limits of R202 for a used controller. -/
def State.bootLimits (s : State) (p : Nat) : State :=
  let (pools, share, retain) := limitsOf (s.role p == 3) (s.widthOf p)
  let s := (List.range 4).foldl (fun s q => s.sets
    [(F.BUF.POOL_LIMIT.LIMIT p q, (pools.getD q (0, 0)).1), (F.BUF.POOL_LIMIT.HDR_PART p q, (pools.getD q (0, 0)).2)]) s
  s.sets [(F.BUF.PORT_LIMIT.SHARE_IN p, share), (F.BUF.PORT_LIMIT.SHARE_OUT p, share), (F.BUF.PORT_LIMIT.RETAIN_MAX p, retain)]

/-! ### The shared account (R205) -/

/-- Can a train move to the shared account, under the limits of its admission (R203)? -/
def State.shareRoom (s : State) (t : Train) : Bool :=
  decide (s.get F.BUF.SHARED_STS.SHARED_USED + t.nheld ≤ s.get F.BUF.SHARED_STS.SHARED_SIZE ∧
    s.get (F.BUF.PORT_STS.SHARE_IN_USED t.src) + t.nheld ≤ t.shareIn ∧
    s.get (F.BUF.PORT_STS.SHARE_OUT_USED t.outp) + t.nheld ≤ t.shareOut)

/-- Trains charged to a pool, in admission order. -/
def State.poolTrains (s : State) (p q : Nat) : List Train :=
  (s.trainList.filter fun t => t.acct == .pool p q).mergeSort fun a b => decide (a.adm ≤ b.adm)

/-- Move trains of a pool to the shared account in admission order, up to the first that cannot move. -/
def State.sharePool (s : State) : List Train → State
  | [] => s
  | t :: rest => if s.shareRoom t then (s.moveAcct t .shared).sharePool rest else s

def State.shareMove (s : State) (p : Nat) : State :=
  (List.range 4).foldl (fun s q => s.sharePool (s.poolTrains p q)) s

/-! ### The repair map (13_dependability.md R369) -/

/-- Enter a repair: kind, cause, instance and location, while the map has room. -/
def State.repairEnter (s : State) (kind cause inst loc : Nat) : State :=
  let n := s.get F.REPAIR.MAP_STS.ENTRIES
  if n ≥ 1024 then s.set F.REPAIR.MAP_STS.FULL 1
  else
    let s := s.sets [(F.REPAIR.ENTRY.VALID n, 1), (F.REPAIR.ENTRY.KIND n, kind), (F.REPAIR.ENTRY.CAUSE n, cause), (F.REPAIR.ENTRY.RETEST n, 0),
      (F.REPAIR.ENTRY.INSTANCE n, inst), (F.REPAIR.ENTRY.LOCATION n, loc), (F.REPAIR.MAP_STS.ENTRIES, n + 1),
      (F.REPAIR.MAP_STS.UNWRITTEN, s.get F.REPAIR.MAP_STS.UNWRITTEN + 1), (F.REPAIR.MAP_STS.FULL, b2n (n + 1 ≥ 1024))]
    { s with boot := { s.boot with ageDirty := true } }

/-! ### Bank sparing (R210 to R212) -/

/-- CAUSE of a repair-map entry for a LAST_CAUSE of BANK_STS, and the event of a retirement: AGE_RETIRE from the acclimatisation pass (R383). -/
def bankCause (c : Nat) : Nat := if c = 1 then 3 else if c = 2 then 2 else if c = 3 then 5 else if c = 4 then 4 else 1
def bankEvent (c code : Nat) : Nat := if c = 4 then Ev.AGE_RETIRE else code

/-- Retirements that waited for the end of a move: all of them while none starts another. -/
def State.retireNext (s : State) : Nat → State
  | 0 => s
  | n + 1 =>
    match s.core.retireQ with
    | [] => s
    | (b, c) :: rest =>
      if s.get F.BUF.BANK_STS.STATE ≠ 0 then s
      else (({ s with core := { s.core with retireQ := rest } } : State).retireBank b c).retireNext n

/-- Every live carriage of the bank has been copied (R211 step 3): `n` is how many, at least those the bank holds now, and `bad` the rows that read
uncorrectable: they are written with a poison marker, which later reads report (R184, R185). -/
def State.bankCopied (s : State) (n : Nat) (bad : List Nat) : State :=
  match s.core.copying with
  | none => s
  | some b =>
    if s.get F.BUF.BANK_STS.STATE ≠ 1 then s
    else
      let live := s.liveIn b
      let s := s.sets [(F.BUF.BANK_STS.LAST_COPIED, max live.length (min n 8192)), (F.BUF.BANK_STS.STATE, 2)]
      { s with core := { s.core with marks := (s.core.marks ++ (live.map Prod.snd).filter fun c => bad.contains (c % 8192)).eraseDups } }

/-- The map entry has moved to the spare (R211 step 5). -/
def State.bankSwitched (s : State) (ticks : Nat) : State :=
  match s.core.copying, s.core.spares with
  | some b, sp :: rest =>
    if s.get F.BUF.BANK_STS.STATE = 2 then
      let s : State := { s with core := { s.core with copying := none, spares := rest } }
      let cause := s.get F.BUF.BANK_STS.LAST_CAUSE
      let s := s.repairEnter 2 (bankCause cause) (s.get (F.BUF.BANK_MAP.PHYS b)) 0
      let s := s.sets [(F.BUF.BANK_STS.STATE, 0), (F.BUF.BANK_MAP.PHYS b, sp), (F.BUF.CAP_STS.SPARES_LEFT, rest.length),
        (F.BUF.BANK_STS.LAST_INTERRUPT, ticks)]
      let s := (s.addSat F.BUF.BANK_STS.RETIREMENTS 1).raise (bankEvent cause Ev.BANK_RETIRE) { inst := b, detail := 2 }
      s.retireNext s.core.retireQ.length
    else s
  | _, _ => s

/-- A bank retired without a spare leaves the map (R212). -/
def State.bankGone (s : State) (b cause : Nat) : State :=
  let s : State := { s with core := { s.core with draining := s.core.draining.filter (fun e => e.1 ≠ b), unmapped := s.core.unmapped ++ [b] } }
  let s := s.repairEnter 2 (bankCause cause) (s.get (F.BUF.BANK_MAP.PHYS b)) 0
  let s := (((s.set (F.BUF.BANK_MAP.PHYS b) 0xFF).subF F.BUF.CAP_STS.CAPACITY 8192).addSat F.BUF.BANK_STS.RETIREMENTS 1).refreshBuf
  let s := s.raise (bankEvent cause Ev.BANK_LOST) { inst := b, detail := 2 }
  if s.get F.BUF.CAP_STS.CAPACITY < s.get F.BUF.CAP_STS.RESERVED then s.raise Ev.BUF_CAPACITY { inst := b, detail := 2 } else s

/-- Every bank retired without a spare that has released its last carriage leaves. -/
def State.bankDrained (s : State) : State :=
  (s.core.draining.filter fun e => !(s.trainList.any fun t => t.heldCars.any fun c => c / 8192 == e.1)).foldl (fun s e => s.bankGone e.1 e.2) s

/-- A write of BUF.BANK_CFG. -/
def State.wrBankCfg (s : State) (v : Nat) : State :=
  let s := s.writePlain 0x28 0x120 0 v
  if bitOf v 0 then s.retireBank (bitsOf v 7 1) 3 else s

/-! ### Census (R208, R209) -/

/-- The pass goes on while the CENSUS class has allowance: an access a state word of four carriages (R208, R387). -/
def State.censusWalk (s : State) : State :=
  let u := s.classUse 1
  let n := min s.core.censusLeft (u.limReg - u.usedReg)
  if s.core.censusLeft = 0 then s
  else if n = 0 then s.turnedAway 1
  else ({ s with core := { s.core with censusLeft := s.core.censusLeft - n } } : State).spend 1 n 0

/-- Start a pass: the census epoch flips, the pass marks the carriages of the trains it finds, and sweeps all of the buffer. How many accesses that takes
is the model's count: one for every four carriages (DESIGN CHOICE, notes/assumptions/68.md). -/
def State.censusStart (s : State) : State :=
  let held := (s.trainList.map Train.nheld).sum
  (({ s with core := { s.core with epoch := !s.core.epoch, censusOpen := true, censusDue := false,
                                   censusLeft := (held + 3) / 4 + (s.get F.BUF.CAP_STS.CAPACITY + 3) / 4 } } : State).set F.BUF.CENSUS_STS.BUSY 1).censusWalk

/-- A write of BUF.CENSUS_CFG. -/
def State.wrCensusCfg (s : State) (v : Nat) : State :=
  let s := s.writePlain 0x28 0x110 0 v
  if bitOf v 1 && !s.flag F.BUF.CENSUS_STS.BUSY then s.censusStart else s

/-- A leaked carriage goes back to the free list: its account is reduced and, of a header carriage in a pool, its credit charge is returned (R209). -/
def State.reclaim (s : State) (a : LeakAcct) : State :=
  match a with
  | .pool p q c =>
    let s := s.subF (F.BUF.POOL_STS.USED p.val q.val) 1
    s.returnCredits (c.map fun e => (p.val, q.val, e.1.val, e.2.1, e.2.2))
  | .shared i o => ((s.subF F.BUF.SHARED_STS.SHARED_USED 1).subF (F.BUF.PORT_STS.SHARE_IN_USED i.val) 1).subF (F.BUF.PORT_STS.SHARE_OUT_USED o.val) 1
  | .siding => s.subF F.MCAST.SIDING_STS.USED 1
  | .retain p => s.subF (F.BUF.PORT_STS.RETAINED p.val) 1

/-- Header carriages with a reference count that this pass and the one before have found wrong, while their train stays in place. -/
def State.refFixes (s : State) (f : CensusFindings) : List Nat :=
  (f.refWrong.map Prod.fst).filter fun x => s.trainList.any fun t => t.inBuffer && t.cars.head? == some x && t.refSeen.isSome

/-- End of a pass with its findings, once it has made all its accesses: leaks are reclaimed, conflicts held out, and a reference count found wrong in two
passes running is set to the number of holders; one EVENT record for the pass. A pass that came due meanwhile starts (R208). -/
def State.censusEnd (s : State) (f : CensusFindings) : State :=
  if !s.flag F.BUF.CENSUS_STS.BUSY || s.core.censusLeft != 0 then s
  else
    let fixed := s.refFixes f
    let left := f.refWrong.filter fun e => !fixed.contains e.1
    -- a free carriage found marked is held out until warm reset
    let s : State := { s with core := { s.core with censusOpen := false, carsHeld := (s.core.carsHeld ++ f.conflicts).eraseDups } }
    let s := s.trainList.foldl (fun s t =>
      let seen := (left.find? fun e => t.inBuffer && t.cars.head? == some e.1).map fun e => e.2.val
      if seen = t.refSeen then s else s.putTrain { t with refSeen := seen }) s
    let s := f.leaked.foldl (fun s e => s.reclaim e.2) s
    let s := (s.set F.BUF.CENSUS_STS.BUSY 0).addSat F.BUF.CENSUS_STS.LEAKED f.leaked.length
    let s := (s.addSat F.BUF.CENSUS_STS.FREE_CONFLICT f.conflicts.length).addSat F.BUF.CENSUS_STS.REF_FIXED fixed.length
    let cars := f.leaked.map Prod.fst
    let s := match cars with
      | x :: _ => s.set F.BUF.CENSUS_STS.FIRST_LEAK x
      | [] => s
    let w := [cars.length, f.conflicts.length, fixed.length, (cars ++ f.conflicts ++ fixed).headD 0]
    let evs := cars.map (fun _ => Ev.BUF_LEAK) ++ f.conflicts.map (fun _ => Ev.BUF_FREE_CONFLICT) ++ fixed.map (fun _ => Ev.BUF_REF_FIX)
    let s := match evs with
      | [] => s
      | e :: rest =>
        let s := s.raise e { recC := 1, detail := 2, w := w }
        rest.foldl (fun s e => s.countEvent e 0x28) s
    if s.core.censusDue && s.flag F.BUF.CENSUS_CFG.EN then s.censusStart else s

end Sys2Proof.Machine
end

