-- ==== Sys2Proof/Machine/Ports.lean ====
section
/-! DEFINITION. Ports: bifurcation, roles, link control, widths, trained links, surprise removal, and who owns a port's counters (03_ports.md
R66 to R93; 12_errors_containment.md R354, R355; 14_telemetry.md R398). -/
namespace Sys2Proof.Machine

/-! ### Owners of counters (R398) -/

def State.ownerOf (s : State) (p : Nat) : Nat :=
  if s.role p = 1 then (s.vhOfHost p).getD s.managerVh
  else if s.role p = 2 then
    match s.attachedPort p with
    | some (v, d) => if s.get (F.VH.VDSP.KIND v d) = 1 then v else s.managerVh
    | none => s.managerVh
  else s.managerVh

/-- Is a port shared: the port of a KIND 2 vDSP (R284, R291)? -/
def State.sharedPort (s : State) (p : Nat) : Bool := s.role p == 2 && (match s.attachedPort p with
  | some (v, d) => s.get (F.VH.VDSP.KIND v d) == 2
  | none => false)

/-- Record the base of a counter as its owner changes to a tenant. -/
def State.setBase (s : State) (i : Nat) : State := { s with tele := { s.tele with base := Tab.setD s.tele.base i (s.ctr i) 0 } }

/-- Record the bases of a port's counters and of its lanes' counters. -/
def State.rebase (s : State) (p : Nat) : State :=
  let s := (List.range 32).foldl (fun s e => s.setBase (Ctr.port p e)) s
  (s.lanesOf p).foldl (fun s n => (List.range 4).foldl (fun s e => s.setBase (Ctr.lane n e)) s) s

/-- Run a change that may move ports between VHs, recording bases for those that go to a tenant. -/
def State.owning (s : State) (ports : List Nat) (f : State → State) : State :=
  let t := f s
  ports.foldl (fun t p => if t.ownerOf p = s.ownerOf p || t.ownerOf p == t.managerVh then t else t.rebase p) t

/-! ### PTM on the selected HOST port (R88) -/

/-- Is this the HOST port PTM measures by: selected, up, with its PTM capability presented (R88)? What the host wrote to PTM Enable
in that capability does not count (DESIGN CHOICE, notes/assumptions/104.md). -/
def State.ptmOn (s : State) (p : Nat) : Bool :=
  s.get F.TIME.SRC_CTL.SRC == 1 && s.get F.TIME.SRC_CTL.PTM_PORT == p && s.role p == 1 && s.linkUp p && s.flag (F.STN.PORT_ROLE.PTM_EN p)

/-- Send a PTM Request on the selected HOST port, as its VH's upstream port: when it is selected, when its link comes up or PTM_EN is set there, and
after each exchange. -/
def State.ptmAsk (s : State) : State :=
  let p := s.get F.TIME.SRC_CTL.PTM_PORT
  if !s.ptmOn p then s
  else
    let bus := match s.vhOfHost p with
      | some v => s.cfg v 0 6 % 256
      | none => 0
    s.pushMsg p { kind := .msg, reqId := BitVec.ofNat 16 (256 * bus), code := 0x52, msgRoute := 4 }

/-- The first request of a port that has just become able to ask. -/
def State.ptmBegin (s : State) (p : Nat) : State := if s.ptmOn p then s.ptmAsk else s

/-! ### Bifurcation (R67) -/

/-- A write of STN.BIFURC. -/
def State.wrBifurc (s : State) (st v : Nat) : State :=
  if (List.range 4).any fun k => s.role (4 * st + k) != 0 then s.set (F.STN.BIFURC.REFUSED st) 1
  else (s.sets [(F.STN.BIFURC.MODE st, bitsOf v 1 0), (F.STN.BIFURC.REFUSED st, 0)]).refreshBuf

/-! ### Roles (R70 to R72) -/

/-- The first cause for which a write of PORT_ROLE is refused, in the order of R70; 0 when it is accepted. Code 4 is judged by the role written, so a DEV
port goes OFF only with L1_EN and L1SS_EN written 0; a HP_SLOT that a DEV port already has does not stop it, for code 7 keeps that field (DEDUCED,
notes/assumptions/104.md). -/
def State.roleRefusal (s : State) (p v : Nat) : Nat :=
  let cur := s.role p
  let new := bitsOf v 1 0
  let w := bitsOf v 10 6
  let rate := bitsOf v 5 2
  if s.widthOf p = 0 then 2
  else if cur ≠ 0 ∧ new ≠ 0 ∧ new ≠ cur then 1
  else if cur ≠ 0 ∧ (bitsOf v 15 15 ≠ s.get (F.STN.PORT_ROLE.HP_SLOT p) ∨ bitsOf v 11 11 ≠ s.get (F.STN.PORT_ROLE.CLK_MODE p)) then 7
  else if !([0, 1, 2, 4, 8, 16].contains w) || rate > 6 then 9
  else if new ≠ 2 ∧ (bitOf v 14 ∨ bitOf v 13 ∨ (bitOf v 15 ∧ cur ≠ 2)) then 4
  else if w > s.widthOf p then 5
  else if new = 3 ∧ (s.phase ≤ 1 ∨ bitOf v 11 ∨ rate < 5) then 3
  else if new = 3 ∧ (s.poolWant p 3).2.2 ≠ 2048 then 8
  else if new = 1 ∧ cur ≠ 1 ∧ ((List.range 48).countP fun q => s.role q == 1) ≥ 24 then 6
  else 0

/-- A port leaves its role for OFF (R71): its link is taken down as for a link down of the role. -/
def State.leaveRole (s : State) (p : Nat) : State :=
  if s.role p = 1 then
    let up := s.linkUp p
    let s := (s.setPort p { s.port p with hostRst := false }).takeDown p 0xA Ev.LINK_DOWN
    let s := if up then s.raise Ev.LINK_DOWN { inst := p, detail := 2 } else s
    match s.vhOfHost p with
    | some v => if up then s.vhReset v false else s
    | none => s
  else if s.role p = 2 then
    let up := s.linkUp p
    let s := (s.setPrst p { s.prst p with out := true, asserted := true }).takeDown p 0xA 0
    let s := if up then s.devLinkLost p else s
    s.setPort p { s.port p with detecting := false }
  else if s.role p = 3 then ((s.fabOff p).clearLink p)
  else s

/-- A port enters a role from OFF (R71, R89): test functions are cleared, PRST_N takes its direction, and training starts. A port that is no DEV port
any longer has no PRST_N to hold, so a vDSP still being emptied over it goes on to its drain at once (R288). -/
def State.enterRole (s : State) (p : Nat) : State :=
  let s := (s.lanesOf p).foldl (fun s n => (s.clearTests n).laneIdle n) s
  let s := if s.role p = 2 then s.setPrst p { s.prst p with out := true, asserted := true, removal := false }
    else
      let early := (s.prst p).minTimer
      let s := s.setPrst p {}
      if early then (match s.vdspOfPort p with
        | some (v, d) => s.toDrain v d
        | none => s) else s
  let s := if s.role p = 3 then s else s.closePort p 4 0
  s.startTrain p

/-- A write of STN.PORT_ROLE. -/
def State.wrPortRole (s : State) (p v : Nat) : State :=
  let code := s.roleRefusal p v
  if code ≠ 0 then s.sets [(F.STN.PORT_ROLE.REFUSED p, 1), (F.STN.PORT_ROLE.REFUSE_CODE p, code)]
  else
    let cur := s.role p
    let new := bitsOf v 1 0
    let ptm := s.flag (F.STN.PORT_ROLE.PTM_EN p)
    s.owning [p] fun s =>
      let s := if cur ≠ 0 ∧ new = 0 then s.leaveRole p else s
      let s := s.sets [(F.STN.PORT_ROLE.HP_SLOT p, bitsOf v 15 15), (F.STN.PORT_ROLE.L1SS_EN p, bitsOf v 14 14),
        (F.STN.PORT_ROLE.L1_EN p, bitsOf v 13 13), (F.STN.PORT_ROLE.PTM_EN p, bitsOf v 12 12), (F.STN.PORT_ROLE.CLK_MODE p, bitsOf v 11 11),
        (F.STN.PORT_ROLE.MAX_WIDTH p, bitsOf v 10 6), (F.STN.PORT_ROLE.MAX_RATE p, bitsOf v 5 2), (F.STN.PORT_ROLE.ROLE p, new),
        (F.STN.PORT_ROLE.REFUSED p, 0)]
      if cur = new then (if ptm then s else s.ptmBegin p)
      else
        let s := s.sets [(F.STN.LINK_STS.CAP_BASECAMP p, 0), (F.STN.LINK_STS.CAP_CONV p, 0), (F.STN.LINK_STS.CONV_FAIL p, 0)]
        let s := (s.setPort p { s.port p with failRate := 16 }).set (F.STN.LINK_STS.FLIT p) (b2n (new == 3))
        if new = 0 then (s.lanesOf p).foldl (fun s n => s.testLane n) (s.setLink p 0) else s.enterRole p

/-! ### Widths in service (R81 to R85) -/

/-- Lanes of a trained link in logical order. -/
def State.trainedLanes (s : State) (p : Nat) : List Nat :=
  let l := s.lanesOf p
  (if s.flag (F.STN.LINK_STS.REVERSED p) then l.reverse else l).take (s.get (F.STN.LINK_STS.NEG_WIDTH p))

/-- A lane leaves IDLE with the coefficients it held (R39). It passes through ACQUIRE however short its idle was, and shows lock at once (DESIGN
CHOICE, notes/assumptions/103.md). -/
def State.laneWake (s : State) (n rate : Nat) : State :=
  ((s.sets [(F.LANE.RXSTS.RATE n, rate), (F.LANE.RXSTS.CDR_LOCK n, 1)]).setLane n { s.lane n with parked := false }).setLaneState n 1

/-- Bring the lanes a wider width needs out of IDLE; a FAB port's transmitter sends ALIGN on each of them (R127). -/
def State.wakeLanes (s : State) (p w : Nat) : State :=
  ((s.trainedLanes p).take w).foldl (fun s n =>
    if s.get (F.LANE.RXSTS.RATE n) = 0xF then
      let s := s.laneWake n (s.get (F.STN.LINK_STS.RATE p))
      if s.role p = 3 then s.sendTrain n 1 [] [] else s
    else s) s

/-- Are all the lanes a width needs in TRACK, and on a FAB port flit-aligned (R127)? -/
def State.widthReady (s : State) (p w : Nat) : Bool :=
  ((s.trainedLanes p).take w).all fun n => s.laneState n == 2 && (s.role p != 3 || (s.lane n).aligned)

/-- ALIGN messages have given a lane its flit boundary (R74, R127). -/
def State.alignLanes (s : State) (l : List Nat) : State := l.foldl (fun s n => s.setLane n { s.lane n with aligned := true }) s

/-- The width becomes w: the lowest logical lanes carry traffic, the others go to IDLE with their coefficients. -/
def State.applyWidth (s : State) (p w : Nat) : State :=
  let s := ((s.trainedLanes p).drop w).foldl (fun s n =>
    let s := s.laneIdle n
    s.setLane n { s.lane n with parked := true }) s
  (s.set (F.STN.LINK_STS.ACTIVE_WIDTH p) w).count (Ctr.port p 28) 1

/-- May the port's own request for a width be made (R82)? -/
def State.widthOk (s : State) (p w : Nat) : Bool :=
  (s.port p).under == 6 && !s.heldPort p && (s.role p == 3 || s.flag (F.STN.LINK_STS.FLIT p)) && [1, 2, 4, 8, 16].contains w &&
    decide (w ≤ s.get (F.STN.LINK_STS.NEG_WIDTH p))

/-- Start the port's own change. -/
def State.startWidth (s : State) (p w : Nat) : State :=
  let x := s.port p
  let s := (s.sets [(F.STN.LINK_CTL.WIDTH_RESULT p, 2), (F.STN.LINK_STS.WIDTH_CHG p, 1)])
  if s.role p = 3 then
    let tok := (x.hll.token + 1) % 16
    (s.setPort p { x with widthOwn := some w, widthNew := some w,
                          hll := { x.hll with token := tok, widthTok := tok, want := false, ackSent := false, ackGot := false, widthOut := x.hll.widthOut ++ [(4, tok * 256 + w)] } }).wakeLanes p w
  else ((s.setPort p { x with widthOwn := some w, widthNew := some w }).wakeLanes p w).emit (.link p "L0P_REQUEST" w)

/-- WIDTH_GO (R82, R83). -/
def State.goWidth (s : State) (p : Nat) : State :=
  let w := s.get (F.STN.LINK_CTL.WIDTH_REQ p)
  if s.get (F.STN.LINK_CTL.WIDTH_RESULT p) = 2 then s
  else if !s.widthOk p w then s.set (F.STN.LINK_CTL.WIDTH_RESULT p) 4
  else if (s.port p).widthNew.isSome then
    if s.role p = 3 then s.set (F.STN.LINK_CTL.WIDTH_RESULT p) 3
    else (s.setPort p { s.port p with widthRetry := true, widthTried := false }).set (F.STN.LINK_CTL.WIDTH_RESULT p) 2
  else (s.setPort p { s.port p with widthTried := false }).startWidth p w

/-! ### Link control (R85) -/

/-- A higher rate that lanes failed at may be tried again (R77). -/
def State.capLift (s : State) (p : Nat) : State := (s.setPort p { s.port p with failRate := 16 }).set (F.STN.LINK_STS.CAP_CONV p) 0

/-- RETRAIN written by software. -/
def State.goRetrain (s : State) (p : Nat) : State :=
  let st := (s.port p).under
  if s.linkHeld p then s
  else if s.role p = 3 then
    if st = 6 then ((s.capLift p).sendRetrainReq p).retrain p
    else if st = 0xD then (s.capLift p).startTrain p else s
  else if (s.role p = 1 ∨ s.role p = 2) ∧ (st = 6 ∨ st = 8) then
    ((s.capLift p).emit (.link p "RECOVERY" 0)).retrain p
  else s

/-- DISABLE rises: the link is held down. -/
def State.disable (s : State) (p : Nat) : State :=
  let up := s.linkUp p
  if s.role p = 1 then
    let s := s.takeDown p 0xA Ev.LINK_DOWN
    let s := if up then s.raise Ev.LINK_DOWN { inst := p, detail := 2 } else s
    match s.vhOfHost p with
    | some v => if up then s.vhReset v false else s
    | none => s
  else if s.role p = 2 then
    let s := s.takeDown p (if (s.prst p).asserted then 7 else 0xA) 0
    if up then s.devLinkLost p else s
  else if s.role p = 3 then ((s.fabOff p).clearLink p).setLink p 0
  else s

/-- A write of STN.LINK_CTL: the levels first, then the first action set; HOT_RESET on a port that is not DEV has no effect, and keeps later ones from
acting as it does on a DEV port. -/
def State.wrLinkCtl (s : State) (p v : Nat) : State :=
  let dis := s.flag (F.STN.LINK_CTL.DISABLE p)
  let prst := s.flag (F.STN.LINK_CTL.PRST_ASSERT p)
  let s := s.sets [(F.STN.LINK_CTL.WIDTH_REQ p, bitsOf v 28 24), (F.STN.LINK_CTL.PRST_ASSERT p, bitsOf v 8 8),
    (F.STN.LINK_CTL.DISABLE p, bitsOf v 4 4)]
  let s := if bitOf v 4 && !dis then s.disable p else if !bitOf v 4 && dis then s.startTrain p else s
  let s :=
    if bitOf v 8 && !prst && s.role p == 2 then
      let up := s.linkUp p
      let s := s.assertPrst p
      if up then s.devLinkLost p else s
    else s
  if bitOf v 4 || bitOf v 8 then (if bitOf v 2 then s.set (F.STN.LINK_CTL.WIDTH_RESULT p) 6 else s)
  else if bitOf v 3 then
    let up : Bool := s.role p == 2 && s.linkUp p
    let s := s.hotReset p
    let s := if up then s.devLinkLost p else s
    if bitOf v 2 then s.set (F.STN.LINK_CTL.WIDTH_RESULT p) 6 else s
  else if bitOf v 1 then
    let s := s.goRetrain p
    if bitOf v 2 then s.set (F.STN.LINK_CTL.WIDTH_RESULT p) 6 else s
  else if bitOf v 2 then s.goWidth p
  else s

/-! ### PCIe training (R73, R76, R77, R87) -/

/-- The rate a PCIe port may reach with what the partner offers, without and with the Base Camp ceiling. -/
def State.rateLimits (s : State) (p : Nat) (t : TrainStep) : Nat × Nat :=
  let m := min (min (s.port p).trainRate 6) t.partnerRate.toNat
  let m := if s.flag (F.STN.PORT_ROLE.CLK_MODE p) then min m 4 else m
  let m := if t.retimers.toNat > 2 then min m 4 else m
  let m := if t.flit then m else min m 4
  (m, if s.phase ≤ 1 then min m 4 else m)

/-- The widest power of two not above a number. -/
def floorWidth (n : Nat) : Nat := if n ≥ 16 then 16 else if n ≥ 8 then 8 else if n ≥ 4 then 4 else if n ≥ 2 then 2 else 1

/-- MAX_WIDTH of the training, with 0 as the bifurcation width. -/
def State.maxWidth (s : State) (p : Nat) : Nat :=
  let m := (s.port p).trainWidth
  if m = 0 then s.widthOf p else m

/-- Start or go on acquiring the lanes of a port at a rate; lanes in TRACK at it are left alone (R78), and a lane that a width command idled at it goes
on from the coefficients it held (R39). -/
def State.acquire (s : State) (lanes : List Nat) (rate : Nat) : State :=
  lanes.foldl (fun s n =>
    if s.get (F.LANE.RXSTS.RATE n) = rate && s.laneState n == 2 then s
    else if (s.lane n).parked && s.get (F.STN.LINK_STS.RATE (s.portOfLane n)) == rate then s.laneWake n rate
    else s.laneStart n rate) s

/-! ### Halud training (R74, R75, R130) -/

/-- Halud training fails and stops; the record's last word is the cause (R75). -/
def State.trainFail (s : State) (p reason : Nat) : State :=
  let w := s.stnW p reason
  let s := ((s.discardLL p 3).clearLink p).set (F.STN.LINK_CTL.FAIL_REASON p) reason
  (s.setLink p 0xD).raise Ev.TRAIN_FAIL { inst := p, recC := 2, detail := 2, w := w }

/-- Width a list of lanes in logical order supports: the widest whose lanes are all in TRACK; 0 for none. -/
def State.trackWidth (s : State) (l : List Nat) : Nat :=
  ([16, 8, 4, 2, 1].find? fun w => decide (w ≤ l.length) && (l.take w).all fun n => s.laneState n == 2).getD 0

/-- Width the working lanes support, in the port's lane order. -/
def State.workingWidth (s : State) (p : Nat) : Nat :=
  let l := s.lanesOf p
  s.trackWidth (if s.flag (F.STN.LINK_STS.REVERSED p) then l.reverse else l)

/-- Our own PARAM message, bytes 4 to 9 of its payload (R100). -/
def State.ownParam (s : State) (p : Nat) : List Nat :=
  let pair := match (List.range 24).find? fun m => s.flag (F.ROUTE.ROPE_PAIR.EN m) &&
      (s.get (F.ROUTE.ROPE_PAIR.PORT_A m) == p || s.get (F.ROUTE.ROPE_PAIR.PORT_B m) == p) with
    | some m => s.ropeOther m p
    | none => 0x3F
  let id := s.get F.ROUTE.NODE_ID.ID
  [id % 256, id / 256, (s.port p).trainRate, s.workingWidth p, p, pair]

/-- Do the two PARAM messages of a pair agree (R130)? The other member's is compared once it has come. -/
def paramAgree (a : ParamMsg) (b : Option ParamMsg) : Bool :=
  a.pairPort != 0x3F && (match b with
    | some b => a.node == b.node && a.pairPort == b.ownPort && b.pairPort == a.ownPort
    | none => true)

/-- Check a rope pair's cabling (R130). What a mismatched pair still had to send again is lost with it. -/
def State.ropeCheck (s : State) (p : Nat) (m : ParamMsg) : State :=
  match s.ropeNamed p with
  | none => s
  | some r =>
    if paramAgree m (s.port (s.ropeOther r p)).partner then
      if s.get (F.ROUTE.ROPE_PAIR.STATE r) = 5 then s.set (F.ROUTE.ROPE_PAIR.STATE r) 3 else s
    else if s.get (F.ROUTE.ROPE_PAIR.STATE r) = 5 then s
    else ((s.set (F.ROUTE.ROPE_PAIR.STATE r) 5).resendLost r).raise Ev.ROPE_MISMATCH { inst := p, recC := 2, detail := 2 }

/-- A PARAM message (R74, R75): checks, then the link's rate and width; equalisation at that rate of the lanes not yet in TRACK there: at 128 GT/s, or,
where a retrain lowers the rate (R72), at 64 GT/s. A width of 0, this
end's or the partner's, fails with reason 4, for which R75 lists no cause (DESIGN CHOICE, notes/assumptions/104.md). -/
def State.gotParam (s : State) (p : Nat) (m : ParamMsg) : State :=
  let x := (s.port p).trainExpect
  let s := s.set (F.STN.LINK_STS.PARTNER_NODE p) m.node.toNat
  let w := min (min (s.workingWidth p) m.width.toNat) (s.maxWidth p)
  if m.node.toNat = s.get F.ROUTE.NODE_ID.ID then s.trainFail p 1
  else if bitOf x 12 && x % 4096 != m.node.toNat then s.trainFail p 2
  else if w = 0 then s.trainFail p 4
  else if w < s.maxWidth p && !(s.port p).trainDown then s.trainFail p 5
  else
    let s := (s.ropeCheck p m).set (F.STN.LINK_STS.NEG_WIDTH p) (floorWidth w)
    let rate := if s.flag (F.STN.LINK_STS.CAP_CONV p) then 5 else min (min (s.port p).trainRate m.rate.toNat) 6
    if (s.trainedLanes p).all fun n => s.laneState n == 2 && s.get (F.LANE.RXSTS.RATE n) == rate then s
    else (s.setLink p 4).acquire (s.trainedLanes p) rate

/-- TRAIN messages on every lane of a port (R100). -/
def State.sendAlign (s : State) (l : List Nat) : State := l.foldl (fun s n => s.sendTrain n 1 [] []) s

/-- Equalisation at the first rate is over once no lane acquires and one has converged: PARAM is sent on every working lane, in the lane order that
supports the wider link (R73, R74); a partner's PARAM that is already here is taken. -/
def State.eqSettled (s : State) (p : Nat) : State :=
  let x := s.port p
  let l := s.lanesOf p
  if s.role p ≠ 3 || x.under ≠ 4 || x.paramSent || (l.any fun n => s.laneState n == 1) || !(l.any fun n => s.laneState n == 2) then s
  else
    let rev := s.flag (F.STN.LINK_STS.REVERSED p)
    let flip : Bool := s.trackWidth (if rev then l.reverse else l) < s.trackWidth (if rev then l else l.reverse)
    let s := if flip then s.set (F.STN.LINK_STS.REVERSED p) (b2n (!rev)) else s
    let s := (s.setPort p { s.port p with paramSent := true }).setLink p 3
    let s := l.foldl (fun s n => if s.laneState n = 2 then s.sendTrain n 3 (s.ownParam p) [] else s) s
    match x.partner with
    | some m => s.gotParam p m
    | none => s

/-- A PARAM message arrives: kept, and taken once this end's own has gone out. -/
def State.paramRx (s : State) (p : Nat) (m : ParamMsg) : State :=
  if s.role p ≠ 3 ∨ ((s.port p).under ≠ 3 ∧ (s.port p).under ≠ 4) ∨ (s.port p).partner.isSome then s
  else
    let s := s.setPort p { s.port p with partner := some m }
    if (s.port p).paramSent then s.gotParam p m else s

/-! ### Surprise removal (R355) and link down (R354) -/

/-- Declare a surprise removal. -/
def State.surprise (s : State) (p : Nat) : State :=
  if (s.prst p).removal then s
  else
    let s := s.setPort p { s.port p with detecting := false }
    let s := s.raise Ev.SURPRISE_REMOVAL { inst := p, detail := 2 }
    let closed := s.flag (byFld 4 p)
    let s := s.closePort p 4 Ev.SURPRISE_REMOVAL
    let s := if closed && s.get (F.ERR.PORT_STS.FIRST_CODE p) = Ev.LINK_DOWN then s.set (F.ERR.PORT_STS.FIRST_CODE p) Ev.SURPRISE_REMOVAL else s
    let s := (s.setPrst p { s.prst p with removal := true }).assertPrst p
    match s.vdspOfPort p with
    | some (v, d) =>
      let s := (s.setPresence v d false).dllsc v d
      if s.get (F.VH.VDSP.KIND v d) = 2 then s.containTenants p else s
    | none => s

/-- Report a link down of a DEV port that is no removal. -/
def State.devLinkDown (s : State) (p : Nat) : State :=
  ((s.setPort p { s.port p with detecting := false }).raise Ev.LINK_DOWN { inst := p, detail := 2 }).devLinkLost p

/-- DL_Down on a HOST or DEV port that the device did not cause (R354). On a DEV port the receiver detection, or on a hot-plug slot two reads of its
presence, decide whether it is a removal (R355). -/
def State.dlDown (s : State) (p : Nat) : State :=
  if !s.linkUp p then s
  else if s.role p = 1 then
    let s := s.takeDown p 1 Ev.LINK_DOWN
    let s := s.raise Ev.LINK_DOWN { inst := p, detail := 2 }
    match s.vhOfHost p with
    | some v => s.vhReset v false
    | none => s
  else if s.role p = 2 then
    let s := s.takeDown p 1 Ev.LINK_DOWN
    s.setPort p { s.port p with detecting := true, detReads := 0 }
  else s

/-! ### PCIe training states (R49, R73, R76 to R79) -/

/-- A port has completed link training: the sequences toward it that hold no numbered train start at CSN 0, at every ingress and in the yard (R180). -/
def State.resetSeqs (s : State) (p : Nat) : State :=
  let keep (k : Nat) : Bool := decide (k ≥ 2 ^ 20) || k / 16 % 64 != p ||
    s.trainList.any fun t => !t.mcast && t.dst == p && (t.x * 64 + t.dst) * 16 + t.cls == k && t.legs.any fun l => l.numbered && l.cpls.any fun c => c.st != 4
  { s with core := { s.core with csn := s.core.csn.filter fun e => keep e.1, expect := s.core.expect.filter fun e => keep e.1 } }

/-- The data link layer of a PCIe port starts afresh: scaled flow control when both ends take it up, and the initial credits of each class of each VC
(R142, R201). -/
def State.pcieInit (s : State) (p : Nat) (scaled : Bool) : State :=
  let s := ((s.resetSeqs p).setPort p { s.port p with dll := { scaled := scaled }, msgs := [] }).staleCredits p |>.advertise p
  ((List.range (s.pcieVcs p)).flatMap fun vc => [0, 1, 2].map fun q => (vc, q)).foldl (fun s k =>
    let (h, d, kh, kd) := s.pcieAdv p k.2
    let x := s.dll p
    (s.setDll p { x with given := Tab.put x.given (3 * k.1 + k.2) (h, d) }).emit (.initFc p k.1 k.2 (h / scaleUnit kh) (d / scaleUnit kd) kh kd)) s

/-- A PCIe link reaches L0: trained values are shown, the data link layer starts afresh unless the link came from Recovery, and the port opens. -/
def State.reachL0 (s : State) (p : Nat) (t : TrainStep) : State :=
  let (free, ceil) := s.rateLimits p t
  let rate := min t.rate.toNat ceil
  let neg := floorWidth (min (min t.width.toNat t.partnerWidth.toNat) (s.maxWidth p))
  let was := s.linkUp p
  let s := s.sets [(F.STN.LINK_STS.RATE p, rate), (F.STN.LINK_STS.NEG_WIDTH p, neg), (F.STN.LINK_STS.ACTIVE_WIDTH p, neg),
    (F.STN.LINK_STS.FLIT p, b2n t.flit), (F.STN.LINK_STS.REVERSED p, b2n t.reversed), (F.STN.LINK_STS.RETIMERS p, min t.retimers.toNat 2),
    (F.STN.LINK_STS.CAP_BASECAMP p, b2n (decide (s.phase ≤ 1 ∧ rate = ceil ∧ ceil < free)))]
  let s := if rate = ceil then (s.capLift p).set (F.STN.LINK_STS.CONV_FAIL p) 0 else s
  let s := (s.lanesOf p).foldl (fun s n => s.set (F.LANE.RXSTS.POL_INV n) (b2n (bitOf t.polarity.toNat (n % 16)))) s
  let s := (s.lanesOf p).foldl (fun s n => if (s.trainedLanes p).contains n then s else s.laneIdle n) s
  let s := s.setLink p 6
  let s := if was then s else s.pcieInit p (t.flit || t.scaledFc)
  let s := s.openPort p 4
  let s := if was then s else s.ptmBegin p
  if neg < s.maxWidth p then s.raise Ev.WIDTH_NARROW { inst := p, recC := 1, detail := 2 } else s

/-- May a PCIe port carry traffic at this rate: every lane of the width has converged at it (R49)? -/
def State.lanesOk (s : State) (p : Nat) (t : TrainStep) : Bool :=
  let rate := min t.rate.toNat (s.rateLimits p t).2
  let l := s.lanesOf p
  let l := (if t.reversed then l.reverse else l).take (floorWidth (min (min t.width.toNat t.partnerWidth.toNat) (s.maxWidth p)))
  l.all fun n => s.laneState n == 2 && s.get (F.LANE.RXSTS.RATE n) == rate

/-- May equalisation at a rate begin: within the port's limits, and below a rate that has failed (R77)? -/
def State.eqAllowed (s : State) (p : Nat) (t : TrainStep) : Bool :=
  decide (t.rate.toNat ≤ (s.rateLimits p t).2) && !(s.flag (F.STN.LINK_STS.CAP_CONV p) && decide ((s.port p).failRate ≤ t.rate.toNat))

/-- May a DEV port enter L1: its vDSP's host has enabled L1 of the Active State Power Management, or the device asks for it under PCI power management
(R69, R72). -/
def State.l1On (s : State) (p : Nat) (pciPm : Bool) : Bool :=
  s.role p == 2 && s.flag (F.STN.PORT_ROLE.L1_EN p) &&
    (match s.attachedPort p with
     | some (v, d) => pciPm || bitOf (s.cfg v d 0x20) 1
     | none => false)
/-- Has the vDSP's host enabled an L1 PM substate, 1 L1.1 or 2 L1.2: L1 PM Substates Control 1 has L1.2 and L1.1 of PCI power management in bits 0 and 1
and those of the Active State Power Management in bits 2 and 3. -/
def State.l1ssOn (s : State) (p k : Nat) (pciPm : Bool) : Bool :=
  s.flag (F.STN.PORT_ROLE.L1SS_EN p) && 1 ≤ k && k ≤ 2 &&
    (match s.attachedPort p with
     | some (v, d) => bitOf (s.cfg v d 0x82) ((if pciPm then 2 else 4) - k)
     | none => false)

/-- Electrical idle of a link: its lanes hold their coefficients in IDLE (R37). -/
def State.idleLanes (s : State) (l : List Nat) : State := l.foldl (fun s n => s.laneIdle n) s

/-- The PCIe Loopback state entered from RECOVERY: the data link layer goes down, and the lanes go on at the rate of the link (R37, R59). -/
def State.loopback (s : State) (p : Nat) : State :=
  let lanes := s.trainedLanes p
  let rate := s.get (F.STN.LINK_STS.RATE p)
  let s := (s.dlDown p).setLink p 0xB
  (lanes.foldl (fun s n => s.laneWake n rate) s).follow p true

/-- One move of the PCIe training state machine, when it is one the port may make now. -/
def State.trainStep (s : State) (p : Nat) (t : TrainStep) : State :=
  let st := (s.port p).under
  let new := t.state.toNat
  let stuck : Bool := s.linkHeld p || st == 0 || st == 7 || st == 0xA || (s.role p == 1 && (s.port p).hostRst)
  if !(s.role p == 1 || s.role p == 2) || stuck then s
  else if s.linkUp p then
    if new = 5 then (s.setLink p 5).wakeLanes p (s.get (F.STN.LINK_STS.NEG_WIDTH p))
    else if new = 4 then (if st ≠ 8 && s.eqAllowed p t then (s.setLink p 4).acquire (s.trainedLanes p) t.rate.toNat else s)
    else if new = 6 then (if t.width.toNat > 0 && s.lanesOk p t then s.reachL0 p t else s)
    else if new = 8 then
      (if st = 6 && s.l1On p t.pciPm then
        let s := (s.idleLanes (s.trainedLanes p)).setLink p 8
        s.setPort p { s.port p with l1sub := if s.l1ssOn p t.l1sub.toNat t.pciPm then t.l1sub.toNat else 0 }
      else s)
    else if new = 0xB then (if st = 5 then s.loopback p else s)
    else s
  else if new = 1 then (s.idleLanes (s.lanesOf p)).setLink p 1
  else if new = 3 then s.setLink p 3
  else if new = 2 then (s.setLink p 2).acquire (s.lanesOf p) 0
  else if new = 4 then (if s.eqAllowed p t then (s.setLink p 4).acquire (s.lanesOf p) t.rate.toNat else s)
  else if new = 0xB then (s.setLink p 0xB).follow p true
  else if new = 6 then (if t.width.toNat > 0 && s.lanesOk p t then s.reachL0 p t else s)
  else s

end Sys2Proof.Machine
end

