-- ==== Sys2Proof/Machine/Hll.lean ====
section
/-! DEFINITION. The Halud link layer: initialisation and resume, Ack and NAK, replay, credits, received packets, rope pairs, and the flit a port
sends (04_link_layer.md R94 to R137). -/
namespace Sys2Proof.Machine

/-! ### Credits and what HLL_CREDIT shows (R118, R119, R141) -/

def sub12 (a b : Nat) : Nat := (a + 4096 - b % 4096) % 4096
def sub16 (a b : Nat) : Nat := (a + 65536 - b % 65536) % 65536

/-- Credits available to send on a VC. -/
def State.availH (s : State) (p v : Nat) : Nat :=
  s.get (F.STN.HLL_CREDIT.ADV_HDR p v) - sub12 ((s.hll p).txH.getD v 0) ((s.hll p).frH.getD v 0)
def State.availD (s : State) (p v : Nat) : Nat :=
  s.get (F.STN.HLL_CREDIT.ADV_DATA p v) - sub16 ((s.hll p).txD.getD v 0) ((s.hll p).frD.getD v 0)
def State.showAvail (s : State) (p v : Nat) : State :=
  s.sets [(F.STN.HLL_CREDIT.AVAIL_HDR p v, s.availH p v), (F.STN.HLL_CREDIT.AVAIL_DATA p v, s.availD p v)]

/-- Show UNACKED. -/
def State.showBelay (s : State) (p : Nat) : State := s.set (F.STN.HLL_STS.UNACKED p) (s.hll p).belay.length

/-- What this port advertises on a VC. -/
def State.advOf (s : State) (p v : Nat) : Nat × Nat :=
  match Tab.get? s.core.advert (4 * p + v) with
  | some (h, d, _) => (h, d)
  | none => (0, 0)

/-- Header and data units of a VC that have arrived and whose credits have not been returned. -/
def State.rxHeld (s : State) (p v : Nat) : Nat × Nat :=
  let q := (s.waiting p).filterMap fun it => match it.hal with
    | some h => if it.vh.isNone && !it.stale && it.vc = v then some h.units else none
    | none => none
  let t := s.trainList.filterMap fun t => match t.charge with
    | some (p', v', _, _, d) => if p' = p ∧ v' = v then some d else none
    | none => none
  (q.length + t.length, (q ++ t).foldl (· + ·) 0)

/-- Return the credits of a packet that is not kept (R106, R123, R134). -/
def State.giveBack (s : State) (p v : Nat) (h : Hdr) : State :=
  if v ≥ 3 then s else s.returnCredits (some (p, v, v, 1, h.units))

/-! ### Start and end of the link layer (R124, R125, R135) -/

/-- Initialise afresh. -/
def State.hllInit (s : State) (p : Nat) : State :=
  let w := s.get (F.STN.LINK_STS.NEG_WIDTH p)
  let x : Hll := { cycle := true, txW := w, rxW := w, txScr := (s.hll p).txScr, rxScr := (s.hll p).rxScr, limit := max 1 (s.get (F.STN.HLL_CFG.REPLAY_LIMIT p)),
                   pairLimit := max 1 (s.get (F.STN.HLL_CFG.PAIR_REPLAY_LIMIT p)), coalesce := s.get (F.STN.HLL_CFG.ACK_COALESCE p) }
  (((s.clearHll p).setHll p x).sets [(F.STN.HLL_STS.STATE p, 1), (F.STN.HLL_STS.MGT_OFF_TX p, 1)]).staleCredits p |>.advertise p

/-- The link has reached ACTIVE: resume retained state, or initialise. -/
def State.hllStart (s : State) (p : Nat) : State :=
  if s.get (F.STN.HLL_STS.STATE p) = 3 then
    let w := s.get (F.STN.LINK_STS.NEG_WIDTH p)
    let x := s.hll p
    (s.setHll p { x with resuming := true, txW := w, rxW := w,
                         limit := max 1 (s.get (F.STN.HLL_CFG.REPLAY_LIMIT p)), pairLimit := max 1 (s.get (F.STN.HLL_CFG.PAIR_REPLAY_LIMIT p)),
                         coalesce := s.get (F.STN.HLL_CFG.ACK_COALESCE p), widthOut := [], want := false, ackSent := false, ackGot := false,
                         switchOut := none, rxSwitch := none }).sets [(F.STN.HLL_STS.STATE p, 1), (F.STN.HLL_STS.RESUMED p, 0)]
  else s.hllInit p

/-- ALIGN seeds the scramblers of both directions (R95). -/
def State.seedScramblers (s : State) (p : Nat) : State := s.setHll p { s.hll p with txScr := scrInit, rxScr := scrInit }

/-- The link layer is up: the port opens; a rope pair's member rejoins (R135). MGT_OFF is cleared after an initialisation and stands over a resume
(R122, R124). -/
def State.hllUp (s : State) (p : Nat) : State :=
  let x := s.hll p
  let s := (s.setHll p { x with cycle := false, resuming := false, retained := false }).sets
    [(F.STN.HLL_STS.STATE p, 2), (F.STN.HLL_STS.MGT_OFF_TX p, if x.resuming then s.get (F.STN.HLL_STS.MGT_OFF_TX p) else 0)]
  let s := s.openPort p 4
  match s.ropeOf p with
  | none => s
  | some m =>
    let r := s.rope m
    let r := { r with closedRx := r.closedRx.erase p }
    if s.memberUp (s.ropeOther m p) then
      (s.setRope m { r with switched := [], back := some p, rejoinRx := [(p, 0), (p, 1), (p, 2), (p, 3)] }).set (F.ROUTE.ROPE_PAIR.STATE m) 4
    else (s.setRope m r).set (F.ROUTE.ROPE_PAIR.STATE m) (if s.get (F.ROUTE.ROPE_PAIR.PORT_A m) = p then 1 else 2)

/-- The link is declared in error and retrains (R78, R115, R132). -/
def State.linkError (s : State) (p why : Nat) : State :=
  if (s.port p).under ≠ 6 then s else (s.raise Ev.LINK_ERROR { inst := p, detail := 2 }).retrain p why

/-- A protocol error (R103): an ERROR record whose last word is the fault (1 a reserved Type, 2 a reserved KIND, 3 a LEN of 0 or past the payload, 4 a
START in an open packet, 5 a continuation of none, 6 a packet too long, 7 credits overrun), and the link retrains. -/
def State.protoError (s : State) (p fault : Nat) : State :=
  let s := s.raise Ev.HLL_PROTO { inst := p, recC := 2, detail := 2, w := s.stnW p fault }
  if (s.port p).under = 6 then s.retrain p 5 else s

/-! ### Ack, NAK, replay (R110 to R115) -/

/-- Start a replay from the oldest unacked flit. -/
def State.startReplay (s : State) (p : Nat) : State :=
  let x := s.hll p
  match x.belay with
  | [] => s
  | b :: _ =>
    let n := if x.runFsn = some b.fsn then s.get (F.STN.HLL_STS.REPLAY_RUN p) + 1 else 1
    let s := (s.setHll p { x with runFsn := some b.fsn }).set (F.STN.HLL_STS.REPLAY_RUN p) (min n 15)
    let lim := if (s.ropeOf p).isSome then x.pairLimit else x.limit
    if n ≥ lim then s.linkError p 2
    else (s.setHll p { s.hll p with replay := some b.fsn }).count (Ctr.port p 18) 1

/-- Was FSN f at or before a, that is, does an Ack of a cover it? -/
def fsnDone (a f : Nat) : Bool := f < 4096 && decide (sub12 a f < 2048)

/-- An ACK_FSN arrives: belay entries and MGT packets it covers leave. -/
def State.ackRx (s : State) (p a : Nat) : State :=
  let x := s.hll p
  let keep := x.belay.filter fun b => !fsnDone a b.fsn
  if keep.length = x.belay.length then s
  else
    let mgt := x.sent.filter fun k => k.vc == 3 && fsnDone a k.fsn
    let replay := match x.replay with
      | some f => if keep.any (fun b => b.fsn == f) then some f else (keep.head?.map BFlit.fsn)
      | none => none
    let s := s.setHll p { x with belay := keep, replay := replay, runFsn := none, sent := x.sent.filter fun k => !(k.vc == 3 && fsnDone a k.fsn) }
    let s := (s.set (F.STN.HLL_STS.REPLAY_RUN p) 0).showBelay p
    let s := if (s.ropeOf p).isSome then s else (x.sent.filter fun k => fsnDone a k.fsn).foldl (fun s k => s.cairnStage k.train 5) s
    mgt.foldl (fun s k => s.coverTrain k.train p) s

/-- A NAK: everything up to its ACK_FSN is acked and the rest sent again, unless that replay runs already (R114). -/
def State.nakRx (s : State) (p a : Nat) : State :=
  let s := s.ackRx p a
  let x := s.hll p
  if x.replay.isSome && x.runFsn == some ((a + 1) % 4096) then s else s.startReplay p

/-- A missing flit (R111, R112): NAK in the next flit, unless one is pending. -/
def State.needNak (s : State) (p : Nat) : State :=
  if s.flag (F.STN.HLL_STS.NAK_PEND p) then s
  else (s.setHll p { s.hll p with nakNow := true }).set (F.STN.HLL_STS.NAK_PEND p) 1

/-! ### Credits (R119, R121, R124) -/

/-- A CREDIT command: cumulative counts, and the packets they cover. -/
def State.creditRx (s : State) (p v h d : Nat) : State :=
  if s.get (F.STN.HLL_STS.STATE p) ≠ 2 ∨ v ≥ 3 then s
  else
    let x := s.hll p
    let done (k : SentPk) : Bool := k.vc == v && decide (sub12 h k.h < 2048)
    let cov := x.sent.filter done
    let s := s.setHll p { x with frH := x.frH.set v h, frD := x.frD.set v d, sent := x.sent.filter fun k => !done k }
    (cov.foldl (fun s k => s.coverTrain k.train p) s).showAvail p v

/-- Leave the initialisation cycle when both ends have all advertisements. -/
def State.initCheck (s : State) (p : Nat) : State :=
  let x := s.hll p
  if x.cycle && x.gotAdv == 7 && x.partnerGot then s.hllUp p else s

/-- An INIT_CREDIT. -/
def State.initCredit (s : State) (p v h d : Nat) : State :=
  let x := s.hll p
  if s.get (F.STN.HLL_STS.STATE p) = 2 then s.setHll p { x with owedDone := true }
  else if !x.cycle || v ≥ 3 then s
  else
    let s := s.sets [(F.STN.HLL_CREDIT.ADV_HDR p v, h), (F.STN.HLL_CREDIT.ADV_DATA p v, d)]
    ((s.setHll p { x with gotAdv := withBit x.gotAdv v true }).showAvail p v).initCheck p

/-- An INIT_DONE. The replay of a resume counts as REPLAY and not in REPLAY_RUN (DESIGN CHOICE, notes/assumptions/104.md). -/
def State.initDone (s : State) (p : Nat) (got resume : Bool) : State :=
  let x := s.hll p
  let st := s.get (F.STN.HLL_STS.STATE p)
  if st = 2 then s.setHll p { x with owedDone := true }
  else if st ≠ 1 then s
  else if x.resuming then
    if resume then
      let s := (s.hllUp p).set (F.STN.HLL_STS.RESUMED p) 1
      let s := s.setHll p { s.hll p with replay := (s.hll p).belay.head?.map BFlit.fsn, runFsn := (s.hll p).belay.head?.map BFlit.fsn }
      if (s.hll p).belay.isEmpty then s else s.count (Ctr.port p 18) 1
    else (s.discardLL p 4).hllInit p
  else if x.cycle && !resume then (s.setHll p { x with partnerGot := x.partnerGot || got }).initCheck p
  else s

/-- Initialisation or resume has not finished within 1 ms: what link-layer state there is goes, with its record, and the port retrains (R124 to R126). -/
def State.initTimeout (s : State) (p : Nat) : State :=
  if s.get (F.STN.HLL_STS.STATE p) ≠ 1 then s
  else
    let s := s.discardLL p 5
    if (s.port p).under = 6 then s.retrain p else s

/-! ### Width commands (R127, R128) -/

/-- A WIDTH_REQ of the partner. With a request of its own pending, the end with the lower node ID ignores it; the other withdraws its own and answers
(R128), with REFUSE where the width exceeds NEG_WIDTH. -/
def State.widthReq (s : State) (p tok w : Nat) : State :=
  let x := s.port p
  let lose : Bool := decide (s.get F.ROUTE.NODE_ID.ID > s.get (F.STN.LINK_STS.PARTNER_NODE p))
  if (s.port p).under ≠ 6 ∨ (x.widthOwn.isSome && !lose) then s
  else
    let s := if x.widthOwn.isSome then s.set (F.STN.LINK_CTL.WIDTH_RESULT p) 3 else s
    if w > s.get (F.STN.LINK_STS.NEG_WIDTH p) then
      let out := (x.hll.widthOut.filter fun c => x.widthOwn.isNone || c.1 ≠ 4) ++ [(5, 4096 + tok % 16 * 256 + w % 32)]
      if x.widthOwn.isSome then
        (s.setPort p { x with widthOwn := none, widthNew := none, hll := { x.hll with widthOut := out, want := false, ackSent := false, ackGot := false } }).set
          (F.STN.LINK_STS.WIDTH_CHG p) 0
      else s.setPort p { x with hll := { x.hll with widthOut := out } }
    else
    let s := s.setPort p { x with widthOwn := none, widthNew := some w,
                                  hll := { x.hll with widthOut := x.hll.widthOut.filter (fun c => c.1 ≠ 4), widthTok := tok % 16, want := true,
                                                      ackSent := false, ackGot := false } }
    (s.set (F.STN.LINK_STS.WIDTH_CHG p) 1).wakeLanes p w

/-- A WIDTH_ACK: of our own request, or of a change we have answered. -/
def State.widthAck (s : State) (p tok : Nat) (accept : Bool) : State :=
  let x := s.port p
  if (s.port p).under ≠ 6 || tok % 16 != x.hll.widthTok || x.widthNew.isNone then s
  else if !accept then
    if x.widthOwn.isSome then
      (s.setPort p { x with widthOwn := none, widthNew := none }).sets [(F.STN.LINK_CTL.WIDTH_RESULT p, 5), (F.STN.LINK_STS.WIDTH_CHG p, 0)]
    else s
  else if x.hll.ackGot then s
  else if x.hll.ackSent then s.setPort p { x with hll := { x.hll with ackGot := true, switchOut := x.hll.switchOut.or (some 3) } }
  else s.setPort p { x with hll := { x.hll with ackGot := true, want := true } }

/-- A WIDTH_SWITCH: the receive width changes after the flit whose countdown would be 0. -/
def State.widthSwitch (s : State) (p tok left : Nat) : State :=
  let x := s.port p
  if (s.port p).under ≠ 6 || tok % 16 != x.hll.widthTok || x.widthNew.isNone || x.hll.rxSwitch.isSome then s
  else s.setPort p { x with hll := { x.hll with rxSwitch := some (left % 4) } }

/-- Count a received flit toward a receive width change. -/
def State.rxCount (s : State) (p : Nat) : State :=
  let x := s.port p
  match x.hll.rxSwitch, x.widthNew with
  | some 0, some w => s.setPort p { x with hll := { x.hll with rxSwitch := none, rxW := w, rxScr := scrChange (min x.hll.rxW w) x.hll.rxScr } }
  | some (n + 1), _ => s.setPort p { x with hll := { x.hll with rxSwitch := some n } }
  | _, _ => s

/-- A RETRAIN_REQ: the port goes to RETRAIN (R128). -/
def State.retrainReq (s : State) (p : Nat) : State := if (s.port p).under = 6 then s.retrain p else s

/-! ### Received packets (R101, R103, R106, R120, R134, R251, R256) -/

/-- Trains of the other member of a pair that came on a VC and are still to be released by their yards, in whatever class and wherever they wait. -/
def State.unreleased (s : State) (q v : Nat) : List Nat :=
  ((s.waiting q).filterMap fun it => if it.hal.isSome && it.vh.isNone && it.vc == v then some it.id else none) ++
    (s.trainList.filterMap fun t => if t.src = q ∧ t.inVc = some v ∧ !t.released then some t.id else none)

/-- Hold a VC's trains that arrive on a member until the other's are released (R256). -/
def State.ropeHold (s : State) (m p v : Nat) : State :=
  let ids := s.unreleased (s.ropeOther m p) v
  if ids.isEmpty then s
  else
    let r := s.rope m
    s.setRope m { r with holds := (r.holds.filter fun h => !(h.1 == v && h.2.1 == p)) ++ [(v, p, ids)] }

/-- Is a header of this VC held at a port's ingress? -/
def State.heldVc (s : State) (p v : Nat) : Bool :=
  s.fab.ropes.any fun e => e.2.holds.any fun h => h.1 == v && h.2.1 == p

/-- LAST_PSN of a member and VC; 0xFFFF before any packet of it, so that no PSN of a pair that has just begun is a duplicate (DESIGN CHOICE,
notes/assumptions/104.md). -/
def RopeSt.lastOf (r : RopeSt) (isA : Bool) (v : Nat) : Nat := (if isA then r.lastA else r.lastB).getD v 0xFFFF
def RopeSt.setLast (r : RopeSt) (isA : Bool) (v psn : Nat) : RopeSt :=
  if isA then { r with lastA := r.lastA.set v psn } else { r with lastB := r.lastB.set v psn }

/-- The start of a packet on a rope pair's member: a first RESEND declares the other failed; holds begin (R134, R256). A RESEND of a VC of which no
new packet has come since the last failure belongs to that failure, and closes nothing though the other has rejoined (DEDUCED,
notes/assumptions/104.md). -/
def State.ropeStart (s : State) (m p v : Nat) (resend : Bool) : State :=
  let q := s.ropeOther m p
  let r := s.rope m
  if resend then
    let s :=
      if r.closedRx.contains q || r.late.contains v then s
      else (s.setRope m { r with closedRx := r.closedRx ++ [q], late := [0, 1, 2, 3], rejoinRx := r.rejoinRx.filter fun e => e.1 != q }).setHll q
        { s.hll q with parts := [] }
    if (s.rope m).holds.any (fun h => h.1 == v && h.2.1 == p) then s else s.ropeHold m p v
  else
    let s := s.setRope m { r with late := r.late.erase v, rejoinRx := r.rejoinRx.filter (· ≠ (p, v)) }
    if r.rejoinRx.contains (p, v) then s.ropeHold m p v else s

/-- A whole packet: checked, recorded on its pair, and placed in the port's ingress queue. -/
def State.packetRx (s : State) (p : Nat) (part : Part) (abort : Bool) : State :=
  let v := part.vc
  let h := Hdr.ofBytes part.bytes
  let rope := s.ropeOf p
  let isA : Bool := match rope with
    | some m => s.get (F.ROUTE.ROPE_PAIR.PORT_A m) == p
    | none => false
  let bad : Bool := part.bytes.length < 32 || !h.ok v (part.bytes.length - 32)
  let dup : Bool := part.resend && (match rope with
    | some m =>
      let d := sub16 part.psn ((s.rope m).lastOf (!isA) v)
      d == 0 || decide (d ≥ 32768)
    | none => false)
  let w := trainW h.reqId h.ftag p 63 h.dvh (v + 3) (if h.op = 2 then h.rlen else h.len) h.addr h.wtag h.src h.dst 0
  if dup then ((s.giveBack p v h).count (Ctr.port p 22) 1).raise Ev.DUP_PSN { inst := p, detail := 1, w := w }
  else
    let (nh, nd) := s.rxHeld p v
    let (ah, ad) := s.advOf p v
    let ovr : Bool := !abort && h.ok v (part.bytes.length - 32) && v < 3 && (nh + 1 > ah || nd + h.units > ad)
    -- LAST_PSN moves for what is admitted or tail-aborted, not for a bad header or what overran its credits (R134, R204, R251)
    let s := match rope with
      | some m => if ovr || (bad && !abort) then s else s.setRope m ((s.rope m).setLast isA v part.psn)
      | none => s
    if abort then ((s.giveBack p v h).count (Ctr.port p 21) 1).raise Ev.TAIL_ABORT_RX { inst := p, key := h.dvh, detail := 1, w := w }
    else if bad then
      (s.giveBack p v h).raise Ev.HDR_BAD { inst := p, key := h.dvh, detail := 1, w := w }
    else
      if ovr then
        (s.raise Ev.FC_OVERRUN { inst := p, detail := 1, w := w }).protoError p 7
      else (s.inject { id := 0, src := p, t := { kind := .msg, data := (part.bytes.drop 32).take h.len }, hal := some h, vc := v }).noteFull p v

/-- One segment of an accepted flit. -/
def State.segRx (s : State) (p : Nat) (x : Seg) : State :=
  let s := match s.ropeOf p with
    | some m => if x.start then s.ropeStart m p x.vc x.resend else s
    | none => s
  let h := s.hll p
  let part : Part :=
    if x.start then { vc := x.vc, bytes := x.bytes, psn := x.psn, resend := x.resend }
    else match h.parts.find? fun q => q.vc == x.vc with
      | some q => { q with bytes := q.bytes ++ x.bytes }
      | none => { vc := x.vc, bytes := x.bytes, psn := x.psn, resend := x.resend }
  let others := h.parts.filter fun q => q.vc != x.vc
  if x.fin then (s.setHll p { h with parts := others }).packetRx p part x.abort else s.setHll p { h with parts := others ++ [part] }

/-- A SEQ flit that is the expected one: its segments, then the Ack bookkeeping (R110, R112, R113). -/
def State.acceptFlit (s : State) (p fsn : Nat) (segs : List Seg) : State :=
  let x := s.hll p
  let pend := s.flag (F.STN.HLL_STS.NAK_PEND p)
  let since := x.since + 1
  let due : Bool := since ≥ max 1 x.coalesce
  let s := s.setHll p { x with accepted := fsn, since := if due then 0 else since, ackOut := if due then fsn else x.ackOut,
                               ackNow := x.ackNow || pend }
  let s := s.sets [(F.STN.HLL_STS.RX_EXPECT_FSN p, (fsn + 1) % 4096), (F.STN.HLL_STS.NAK_PEND p, 0)]
  segs.foldl (fun s g => s.segRx p g) s

/-- A NULL or SEQ flit that is not bad (R110, R112). -/
def State.seqRx (s : State) (p type fsn : Nat) (l : List Byte) : State :=
  let exp := s.get (F.STN.HLL_STS.RX_EXPECT_FSN p)
  if type = 0 then
    if fsn = exp then s.set (F.STN.HLL_STS.NAK_PEND p) 0 else s.needNak p
  else
    let d := sub12 fsn exp
    let closed : Bool := match s.ropeOf p with
      | some m => (s.rope m).closedRx.contains p
      | none => false
    if d = 0 then
      if closed then s
      else
        match parseSegs l 59 2 with
        | none => s.protoError p 3
        | some segs =>
          let fault := segFault segs fun v => ((s.hll p).parts.find? fun q => q.vc == v).map fun q => q.bytes.length
          if fault = 0 then s.acceptFlit p fsn segs else s.protoError p fault
    else if d < 2048 then s.needNak p
    else s

/-- The link command of a good flit (R107, R108). -/
def State.cmdRx (s : State) (p : Nat) (c : LinkCmd) : State :=
  let s := if c.nak then s.nakRx p c.ack else s.ackRx p c.ack
  let s := s.set (F.STN.HLL_STS.MGT_OFF_RX p) (b2n c.mgtOff)
  if c.kind = 0 then s
  else if c.kind = 1 then s.creditRx p (bitsOf c.arg 29 28) (bitsOf c.arg 27 16) (bitsOf c.arg 15 0)
  else if c.kind = 2 then s.initCredit p (bitsOf c.arg 29 28) (bitsOf c.arg 27 16) (bitsOf c.arg 15 0)
  else if c.kind = 3 then s.initDone p (bitOf c.arg 0) (bitOf c.arg 1)
  else if c.kind = 4 then s.widthReq p (bitsOf c.arg 11 8) (bitsOf c.arg 4 0)
  else if c.kind = 5 then s.widthAck p (bitsOf c.arg 11 8) (!bitOf c.arg 12)
  else if c.kind = 6 then s.widthSwitch p (bitsOf c.arg 11 8) (bitsOf c.arg 14 13)
  else if c.kind = 7 then s.retrainReq p
  else s.protoError p 2

/-- May this port receive or send flits now: ACTIVE, not held, link layer running? -/
def State.flitsRun (s : State) (p : Nat) : Bool :=
  s.role p == 3 && (s.port p).under == 6 && !s.heldPort p && (s.get (F.STN.HLL_STS.STATE p) == 1 || s.get (F.STN.HLL_STS.STATE p) == 2)

/-- A bad flit after the width handshake of which no WIDTH_SWITCH has come: with the four switch flits gone, the fifth in a row shows that flit alignment
is lost, and the link is in error (R127; DEDUCED, notes/assumptions/104.md). -/
def State.badFlit (s : State) (p : Nat) : State :=
  let x := s.hll p
  let s := s.setHll p { x with badRun := x.badRun + 1 }
  let lost : Bool := x.ackSent && x.ackGot && x.rxSwitch.isNone && decide (x.badRun ≥ 4) && (match (s.port p).widthNew with
    | some w => x.rxW != w
    | none => false)
  if lost then s.linkError p 4 else s

/-- A bad flit is counted, and treated as a missing SEQ flit (R99, R111); with no link layer there is nothing to NAK. -/
def State.crcFail (s : State) (p : Nat) : State :=
  let s := (s.count (Ctr.port p 16) 1).raise Ev.FLIT_BAD { inst := p, detail := 2 }
  if s.get (F.STN.HLL_STS.STATE p) = 0 then s else s.needNak p

/-- A flit corrected by the FEC (R99). -/
def State.fecFixed (s : State) (p : Nat) : State := (s.count (Ctr.port p 15) 1).raise Ev.FEC_CORR { inst := p, detail := 2 }

/-- A flit of 256 bytes arrives on a logical lane outside ACTIVE (R96, R99, R100): an EQ message of that lane, or a PARAM message; a reserved Type is
a protocol error. An ALIGN flit seeds the lane's descrambler; what ALIGN finds over all the lanes of the port is TRAIN_ALIGN_RX's. Before the lock a
flit that is no ALIGN flit cannot be read. -/
def State.trainRx (s : State) (p lane : Nat) (raw : List Byte) : State :=
  let st := (s.port p).under
  let x := s.hll p
  if s.role p ≠ 3 ∨ st < 2 ∨ st > 5 then s
  else if isAlign lane raw then s.setHll p { x with rxScr := x.rxScr.set lane (scrSeed lane) }
  else if st = 2 ∨ st = 5 then s
  else
    let (l, r) := laneScramble raw (x.rxScr.getD lane (scrSeed lane))
    let s := s.setHll p { x with rxScr := x.rxScr.set lane r }
    match flitOpen l with
    | none => s.crcFail p
    | some (l, fixed) =>
      let s := if fixed then s.fecFixed p else s
      let type := leNat (l.take 2) / 4096
      match trainPayload l with
      | none => if type ≤ 1 then s else s.protoError p 1
      | some b =>
        let lanes := s.lanesOf p
        let lanes := if s.flag (F.STN.LINK_STS.REVERSED p) then lanes.reverse else lanes
        let at' (i : Nat) : Nat := b.getD i 0
        if at' 0 = 2 then (match lanes[lane]? with
          | some n => s.eqRx n (at' 10) (at' 11) (at' 12 == 1)
          | none => s)
        else if at' 0 = 3 then s.paramRx p { node := BitVec.ofNat 12 (at' 2 + 256 * at' 3), rate := BitVec.ofNat 4 (at' 4), width := BitVec.ofNat 5 (at' 5),
                                             ownPort := BitVec.ofNat 6 (at' 6), pairPort := BitVec.ofNat 6 (at' 7) }
        else s

/-- A 256-byte flit as it arrives from the lanes (R99): descrambled, decoded, checked, then its command and its payload. -/
def State.flitRx (s : State) (p : Nat) (raw : List Byte) : State :=
  let x := s.hll p
  let (l, scr) := scramble x.rxW raw 0 x.rxScr
  let s := s.setHll p { x with rxScr := scr }
  let bad (s : State) : State := (s.crcFail p).badFlit p
  let s := match fecDecodeAll l with
    | none => bad s
    | some (l, fixed) =>
      let s := if fixed then s.fecFixed p else s
      if crc48 (l.take 244) ≠ leNat ((l.drop 244).take 6) then bad s
      else
        let hdr := leNat (l.take 2)
        let type := hdr / 4096
        if type = 8 then s
        else if type ≠ 0 ∧ type ≠ 1 then s.protoError p 1
        else
          let s := (s.setHll p { s.hll p with badRun := 0 }).cmdRx p (LinkCmd.ofBytes l)
          if s.flitsRun p then s.seqRx p type (hdr % 4096) l else s
  s.rxCount p

/-! ### The flit a port sends (R104, R107, R109, R112, R113, R117, R122) -/

/-- The belay share of a port in flits (R116). -/
def State.belayShare (s : State) (p : Nat) : Nat := 128 * s.widthOf p

/-- INIT commands, then CREDIT. -/
def State.plainCmd (s : State) (p : Nat) : (Nat × Nat) × State :=
  let h := s.hll p
  let credit (v : Nat) : Nat := v * 2 ^ 28 + h.reH.getD v 0 % 4096 * 65536 + h.reD.getD v 0 % 65536
  if h.cycle then
    let adv := s.advOf p h.turn
    let c := if h.turn < 3 then (2, h.turn * 2 ^ 28 + adv.1 * 65536 + adv.2) else (3, b2n (h.gotAdv == 7))
    (c, s.setHll p { h with turn := (h.turn + 1) % 4, widthLast := false })
  else if h.resuming then ((3, 3), s.setHll p { h with widthLast := false })
  else if h.owedDone then
    ((3, 1 + 2 * s.get (F.STN.HLL_STS.RESUMED p)), s.setHll p { h with owedDone := false, widthLast := false })
  else if s.get (F.STN.HLL_STS.STATE p) = 2 then
    let changed := [0, 1, 2].find? fun v => (h.reH.getD v 0, h.reD.getD v 0) != h.crOut.getD v (0, 0)
    let v := changed.getD (h.turn % 3)
    ((1, credit v), s.setHll p { h with crOut := h.crOut.set v (h.reH.getD v 0, h.reD.getD v 0), turn := (v + 1) % 3, widthLast := false })
  else ((0, 0), s.setHll p { h with widthLast := false })

/-- The link command of the next flit, by the precedence of R109; RETRAIN_REQ, the first, takes a flit of its own (`State.sendRetrainReq`). The four
WIDTH_SWITCH flits are consecutive (R127); before the first of them, as before every other width command, stands a flit that carries none (R109). -/
def State.nextCmd (s : State) (p : Nat) : (Nat × Nat) × State :=
  let x := s.port p
  let h := x.hll
  let w := x.widthNew.getD 0
  let ready : Bool := h.want && (decide (w ≤ s.get (F.STN.LINK_STS.ACTIVE_WIDTH p)) || s.widthReady p w)
  match h.switchOut, h.widthOut with
  | some k, _ =>
    if k = 3 ∧ h.widthLast then s.plainCmd p
    else ((6, k * 8192 + h.widthTok * 256 + w), s.setPort p { x with hll :=
                                                                if k = 0 then { h with switchOut := none, txW := w, widthLast := true }
                                                                else { h with switchOut := some (k - 1), widthLast := true } })
  | none, c :: rest =>
    if h.widthLast then s.plainCmd p else (c, s.setPort p { x with hll := { h with widthOut := rest, widthLast := true } })
  | none, [] =>
    if ready && !h.widthLast then
      ((5, h.widthTok * 256 + w), s.setPort p { x with hll :=
                                                       { h with want := false, ackSent := true, switchOut := if h.ackGot then some 3 else none, widthLast := true } })
    else s.plainCmd p

/-- Send a flit whose first 238 bytes are given: link command, Ack fields, CRC, FEC and scrambling are made fresh. -/
def State.putFlit (s : State) (p : Nat) (b : List Byte) : State :=
  let w := (s.hll p).txW
  let ((kind, arg), s) := (s.mgtOff p).nextCmd p
  s.sealFlit p w b kind arg

/-- A NULL flit: its FSN field is that of the next SEQ flit. -/
def State.putNull (s : State) (p : Nat) : State :=
  s.putFlit p (s.nullBytes p)

/-- Send the next flit of a running replay; none when it has ended. -/
def State.putReplay (s : State) (p : Nat) : Option State :=
  let x := s.hll p
  match x.replay with
  | none => none
  | some f =>
    match x.belay.dropWhile (fun b => b.fsn != f) with
    | [] => none
    | b :: rest =>
      let s := (s.setHll p { x with replay := rest.head?.map BFlit.fsn }).count (Ctr.port p 19) 1
      some (s.putFlit p b.bytes)

/-- A new SEQ flit with segments; it enters the belay share. -/
def State.putSeq (s : State) (p : Nat) (segs : List Seg) : State :=
  let fsn := s.get (F.STN.HLL_STS.TX_NEXT_FSN p)
  let body := segs.flatMap Seg.toBytes
  let b := leBytes 2 (4096 + fsn) ++ body ++ List.replicate (236 - body.length) 0
  let x := s.hll p
  let s := (s.setHll p { x with belay := x.belay ++ [{ fsn := fsn, bytes := b }] }).set (F.STN.HLL_STS.TX_NEXT_FSN p) ((fsn + 1) % 4096)
  (s.showBelay p).putFlit p b

/-! ### Rope pairs (R129, R135, R256) -/

/-- A write of ROUTE.ROPE_PAIR. -/
def State.wrRopePair (s : State) (m v : Nat) : State :=
  let a := bitsOf v 61 56
  let b := bitsOf v 53 48
  let other (p : Nat) : Bool := (List.range 24).any fun k => k != m && s.flag (F.ROUTE.ROPE_PAIR.EN k) &&
    (s.get (F.ROUTE.ROPE_PAIR.PORT_A k) == p || s.get (F.ROUTE.ROPE_PAIR.PORT_B k) == p)
  if a ≥ 48 ∨ b ≥ 48 ∨ s.role a ≠ 0 ∨ s.role b ≠ 0 ∨ a = b ∨ other a ∨ other b then s.set (F.ROUTE.ROPE_PAIR.REFUSED m) 1
  else
    (s.sets [(F.ROUTE.ROPE_PAIR.EN m, bitsOf v 63 63), (F.ROUTE.ROPE_PAIR.PORT_A m, a), (F.ROUTE.ROPE_PAIR.PORT_B m, b),
      (F.ROUTE.ROPE_PAIR.REFUSED m, 0), (F.ROUTE.ROPE_PAIR.STATE m, if bitOf v 63 then 3 else 0)]).setRope m {}

/-- The trains a hold waits for have been released (R256). -/
def State.ropeRelease (s : State) (m v : Nat) : State :=
  let r := s.rope m
  s.setRope m { r with holds := r.holds.filter fun h =>
                       !(h.1 == v && h.2.2.all fun id => !((s.unreleased (s.ropeOther m h.2.1) v).contains id)) }

end Sys2Proof.Machine
end

