-- ==== Sys2Proof/Machine/Native.lean ====
section
/-! DEFINITION. Routing within a VH's virtual switch: bridge windows, the management endpoint's BARs, virtual BARs of virtual endpoints, the
Multicast BAR, ID routing and the access controls of the ingress virtual downstream port (05_lookup_windows.md R143 to R145;
07_buffer_multicast.md R213; 10_sharing.md R288, R290, R293, R294). Bit places of the configuration registers are the PCIe specification's
(notes/assumptions/12.md). -/
namespace Sys2Proof.Machine

/-! ### The functions of a VH -/

/-- May trains be routed through a vDSP: attached, or waiting for its host to power it off (R287, R288 step 1), unless DPC or device containment
holds its VF meanwhile (R297, R351)? -/
def State.vdspLive (s : State) (v d : Nat) : Bool :=
  s.get (F.VH.VDSP.STATE v d) == 1 ||
    (s.get (F.VH.VDSP.STATE v d) == 2 && !(s.get (F.VH.VDSP.KIND v d) == 3 &&
      (s.share.dpc.contains (32 * v + d) || s.err.vhHeld.contains v || s.err.vfHeld.contains (s.get (F.VH.VDSP.VFI v d)))))

/-- The functions of a VH that take part in routing: vDSPs with a live attachment. -/
def State.liveVdsps (s : State) (v : Nat) : List Nat := (List.range 32).filter fun d => d != 0 && s.vdspLive v d

/-- The memory window and the prefetchable memory window of a bridge function: base and limit (limit included), empty when the limit lies below. -/
def State.npWindow (s : State) (v fn : Nat) : Nat × Nat :=
  let c8 := s.cfg v fn 8
  (bitsOf c8 15 4 * 2 ^ 20, bitsOf c8 31 20 * 2 ^ 20 + 2 ^ 20 - 1)
def State.pfWindow (s : State) (v fn : Nat) : Nat × Nat :=
  let c9 := s.cfg v fn 9
  (bitsOf c9 15 4 * 2 ^ 20 + s.cfg v fn 0xA * 2 ^ 32, bitsOf c9 31 20 * 2 ^ 20 + 2 ^ 20 - 1 + s.cfg v fn 0xB * 2 ^ 32)
/-- The memory windows of a bridge function that are not empty. -/
def State.memWindows (s : State) (v fn : Nat) : List (Nat × Nat) := [s.npWindow v fn, s.pfWindow v fn].filter fun w => w.1 ≤ w.2

/-- The I/O window of a bridge function. -/
def State.ioWindow (s : State) (v fn : Nat) : Nat × Nat :=
  let c := s.cfg v fn 7
  let u := s.cfg v fn 0xC
  (bitsOf c 7 4 * 4096 + bitsOf u 15 0 * 65536, bitsOf c 15 12 * 4096 + 4095 + bitsOf u 31 16 * 65536)

def inWindow (w : Nat × Nat) (a : Nat) : Bool := decide (w.1 ≤ a ∧ a ≤ w.2)

/-- A 64-bit BAR of a function: register pair at dword dw, of a size in bytes. -/
def State.bar64 (s : State) (v fn dw : Nat) : Nat := s.cfg v fn dw / 16 * 16 + s.cfg v fn (dw + 1) * 2 ^ 32

/-- Sizes of the management endpoint's BARs 0, 2 and 4 (R442). -/
def meBarSize (b : Nat) : Nat := if b = 0 then 2 ^ 25 else if b = 2 then 2 ^ 26 else 2 ^ 20

/-- Do the BARs of the management endpoint answer: Memory Space Enable set and the function in D0 (R441, R442)? -/
def State.meOpen (s : State) (v : Nat) : Bool := s.mse v 32 && s.cfg v 32 0x11 % 4 != 3

/-- The management endpoint's BAR that holds an address, and the offset in it. -/
def State.meBar (s : State) (v a : Nat) : Option (Nat × Nat) :=
  if !s.meOpen v then none
  else ([0, 2, 4].find? fun b => let x := s.bar64 v 32 (4 + b); decide (x ≤ a ∧ a < x + meBarSize b)).map fun b => (b, a - s.bar64 v 32 (4 + b))

/-- A virtual BAR of the virtual endpoint below vDSP d that holds an address: BAR number, offset and size (R290). -/
def State.vfBar (s : State) (v d a : Nat) : Option (Nat × Nat × Nat) :=
  if !s.mse v (64 + d) then none
  else
    let i := s.get (F.VH.VDSP.VFI v d)
    ([0, 1, 2].find? fun b =>
      let lg := s.get (F.VH.VF_BAR.SIZE_LOG2 i b)
      let x := s.bar64 v (64 + d) (4 + 2 * b)
      decide (lg ≠ 0 ∧ x ≤ a ∧ a < x + 2 ^ lg)).map fun b =>
      (b, a - s.bar64 v (64 + d) (4 + 2 * b), 2 ^ s.get (F.VH.VF_BAR.SIZE_LOG2 i b))

/-- The bound VF of a shared port whose BAR slice a range touches (R293). -/
def State.vfSlice (s : State) (p a n : Nat) : Option Nat :=
  (s.vfsOf p).find? fun i => [0, 1, 2].any fun b =>
    let lg := s.get (F.VH.VF_BAR.SIZE_LOG2 i b)
    let x := s.get (F.VH.VF_BAR.PHYS_BASE i b) * 4096
    decide (lg ≠ 0 ∧ x < a + max n 1 ∧ a < x + 2 ^ lg)

/-- Bytes of memory a request touches: for CAS, whose payload holds both operands, half of it. -/
def memExtent (t : Tlp) : Nat := if t.kind == .cas then t.len / 2 else t.len

/-! ### Whose a train is (R144) -/

/-- A train's VH, the function it enters its virtual switch by (0 the upstream port, 1 to 31 a vDSP, 32 the management endpoint or the Hut), and
its VF_MAP entry when a bound VF sent it. -/
structure Owner where
  vh : Nat
  fn : Nat
  vf : Option Nat := none
deriving DecidableEq, Repr

/-- R144 for a train of a HOST or DEV port; none when its attachment is not routed. -/
def State.ownerOfTrain (s : State) (p : Nat) (t : Tlp) : Option Owner :=
  let id := if isCplKind t.kind then t.cplId.toNat else t.reqId.toNat
  if s.role p = 1 then (s.vhOfHost p).map fun v => { vh := v, fn := 0 }
  else
    match s.vdspOfPort p with
    | none => none
    | some (v, d) =>
      if s.get (F.VH.VDSP.KIND v d) = 2 then
        match s.vfOf p id with
        | some i =>
          let (w, e) := s.vdspOfVf i
          if s.vdspLive w e then some { vh := w, fn := e, vf := some i } else none
        | none => if s.vdspLive v d then some { vh := v, fn := d } else none
      else if s.vdspLive v d then some { vh := v, fn := d } else none

/-- The requester and completer IDs as the owning VH knows them (R290). -/
def State.tenantTlp (s : State) (o : Owner) (t : Tlp) : Tlp :=
  match o.vf with
  | none => t
  | some i => if isCplKind t.kind then { t with cplId := BitVec.ofNat 16 (s.tenantId i) } else { t with reqId := BitVec.ofNat 16 (s.tenantId i) }

/-! ### Where a train goes -/

/-- The outcome of classification (R143): an event and refusal, an answer without one, a discard, an egress with the TLP as it leaves, a multicast
group, the gateway toward a local or a remote VH, or a broadcast to every DEV port of the VH. -/
inductive Route where
  | refuse (code : Nat) (st : CplSt) (logged tag : Nat)
  | ur
  | ca
  | drop
  | go (dst : Nat) (t : Tlp)
  | mcast (g : Nat)
  | cross (dst tvh : Nat) (t : Tlp) (tag : Nat)
  | fabric (node port tvh : Nat) (t : Tlp) (tag : Nat)
  | bcast
  | gateCpl
  | busy (i : Nat)
deriving DecidableEq, Repr

/-- ACS control bit of the ingress vDSP (0 source validation, 1 translation blocking, 2 request redirect, 3 completion redirect, 4 upstream
forwarding, 6 direct translated P2P). -/
def State.acs (s : State) (o : Owner) (b : Nat) : Bool := 1 ≤ o.fn && o.fn < 32 && bitOf (s.cfg o.vh o.fn 0x51) (16 + b)

/-- ACS Source Validation at step 1: the requester's bus lies below the vDSP (a bound VF's tenant ID always does). -/
def State.sourceBad (s : State) (o : Owner) (t : Tlp) : Bool :=
  s.acs o 0 && o.vf.isNone && !isCplKind t.kind &&
    (let r := s.busRange o.vh o.fn; !decide (r.1 ≤ t.reqId.toNat / 256 ∧ t.reqId.toNat / 256 ≤ r.2))

/-- Is a peer request sent upstream instead (ACS P2P Request Redirect; a translated request goes direct when so enabled)? -/
def State.redirected (s : State) (o : Owner) (t : Tlp) : Bool := s.acs o 2 && !(s.acs o 6 && t.at2 == 2)

/-- A violation of an ACS control: the AER ACS Violation, and Completion Abort for a non-posted request. -/
def acsRoute (t : Tlp) : Route := .refuse Ev.ACS_VIOL .ca t.addr.toNat 0

/-- Requests of a bound VF whose virtual endpoint has Bus Master Enable = 0 (R294): memory, I/O and AtomicOp requests, which that bit governs
in PCIe (DEDUCED, notes/assumptions/12.md). -/
def State.vfMute (s : State) (o : Owner) (t : Tlp) : Bool :=
  o.vf.isSome && !s.bme o.vh (64 + o.fn) && !isCplKind t.kind && t.kind != .msg && t.kind != .msgD

/-- Up the virtual switch to the VH's HOST port, if both bridges on the way forward (Bus Master Enable). -/
def State.goUp (s : State) (o : Owner) (t : Tlp) : Route :=
  if o.fn = 0 then .ur
  else if o.fn < 32 && !s.bme o.vh o.fn then .ur
  else if !s.bme o.vh 0 then .ur
  else .go (s.get (F.VH.VH_BIND.HOST_PORT o.vh)) t

/-! ### Multicast (R213) -/

/-- Base, log2 size of a group, and number of groups of a function's Multicast BAR; none while it is disabled. -/
def State.mcBar (s : State) (v fn : Nat) : Option (Nat × Nat × Nat) :=
  let c := s.cfg v fn 0x5D
  let b := s.cfg v fn 0x5E
  if !bitOf c 31 || b % 64 < 12 then none else some (b / 4096 * 4096 + s.cfg v fn 0x5F * 2 ^ 32, b % 64, bitsOf c 21 16 + 1)

/-- The PCIe group an address falls in at an ingress function. -/
def State.mcGroupAt (s : State) (v fn a : Nat) : Option Nat :=
  match s.mcBar v (if fn < 32 then fn else 0) with
  | none => none
  | some (base, lg, n) => if base ≤ a && (a - base) / 2 ^ lg < n then some ((a - base) / 2 ^ lg) else none

def State.mcBit (s : State) (v fn dw g : Nat) : Bool := bitOf (s.cfg v fn (dw + g / 32)) (g % 32)

/-- MC_Overlay of the virtual port of the train's own VH a multicast copy leaves by (R213): the address bits above the overlay size are replaced. -/
def State.overlay (s : State) (v : Nat) (t : Tlp) (p : Nat) : Tlp :=
  let fn := if s.role p = 1 then 0 else ((s.liveVdsps v).find? fun d => s.get (F.VH.VDSP.PORT v d) = p).getD 0
  let lo := s.cfg v fn 0x66
  let n := lo % 64
  if n < 6 then t
  else
    let bar := lo / 64 * 64 + s.cfg v fn 0x67 * 2 ^ 32
    { t with addr := BitVec.ofNat 64 (bar / 2 ^ n * 2 ^ n + t.addr.toNat % 2 ^ n) }

/-- Ports of a VH whose virtual port has a group set in MC_Receive; a shared port counts once, in the manager's VH. -/
def State.pgroupPorts (s : State) (v g : Nat) : List Nat :=
  let up := if s.mcBit v 0 0x60 g && s.role (s.get (F.VH.VH_BIND.HOST_PORT v)) == 1 && s.vhBound v then [s.get (F.VH.VH_BIND.HOST_PORT v)] else []
  (up ++ (s.liveVdsps v).filterMap fun d => if s.mcBit v d 0x60 g then some (s.get (F.VH.VDSP.PORT v d)) else none).eraseDups

/-- Is a group blocked at the ingress function (MC_Block_All, MC_Block_Untranslated)? -/
def State.mcBlocked (s : State) (o : Owner) (t : Tlp) (g : Nat) : Bool :=
  o.fn < 32 && (s.mcBit o.vh o.fn 0x62 g || (t.at2 != 2 && s.mcBit o.vh o.fn 0x64 g))

/-! ### Steps 3 to 5 and 7 of R143 -/

/-- The vDSP of a VH whose bus range holds a bus number. -/
def State.vdspOfBus (s : State) (v bus : Nat) : Option Nat :=
  (s.liveVdsps v).find? fun d => let r := s.busRange v d; decide (0 < r.1 ∧ r.1 ≤ bus ∧ bus ≤ r.2)

/-- Down to what is attached below a vDSP, for a completion or message routed by ID: the physical ID behind a virtual endpoint (R290). -/
def State.downById (s : State) (v d id : Nat) (t : Tlp) : Option Route :=
  let p := s.get (F.VH.VDSP.PORT v d)
  if s.get (F.VH.VDSP.KIND v d) = 3 then
    let i := s.get (F.VH.VDSP.VFI v d)
    if id ≠ s.tenantId i then none
    else
      let phys := BitVec.ofNat 16 (s.get (F.VH.VF_MAP0.PHYS_RID i))
      some (.go p (if isCplKind t.kind then { t with reqId := phys } else { t with addr := BitVec.ofNat 64 (t.addr.toNat / 2 ^ 32 * 2 ^ 32 + phys.toNat * 65536 + t.addr.toNat % 65536) }))
  else some (.go p t)

/-- A completion (step 3): the gateway's and the management endpoint's are matched there; the others go by requester ID. -/
def State.routeCpl (s : State) (o : Owner) (t : Tlp) : Route :=
  let id := t.reqId.toNat
  if s.flag (F.GW.GW_RID.VALID o.vh) && s.get (F.GW.GW_RID.RID o.vh) == id then .gateCpl
  else
    match s.vdspOfBus o.vh (id / 256) with
    | some d =>
      if s.acs o 3 && !t.ro && o.fn != 0 then .go (s.get (F.VH.VH_BIND.HOST_PORT o.vh)) t
      else (s.downById o.vh d id t).getD (.refuse Ev.CPL_NO_ROUTE .ur 0 0)
    | none =>
      let (lo, hi) := s.busRange o.vh 0
      if o.fn = 0 || decide (0 < lo ∧ lo ≤ id / 256 ∧ id / 256 ≤ hi) then .refuse Ev.CPL_NO_ROUTE .ur 0 0
      else .go (s.get (F.VH.VH_BIND.HOST_PORT o.vh)) t

/-- A message (step 4), by its routing field: 0 and 5 to the root, 2 by ID (the management endpoint takes its own, R8), 3 from the root to every port, 4 ends at the receiver. -/
def State.routeMsg (s : State) (o : Owner) (t : Tlp) : Route :=
  let r := t.msgRoute.toNat
  if r = 0 ∨ r = 5 then (if o.fn = 0 then .ur else .go (s.get (F.VH.VH_BIND.HOST_PORT o.vh)) t)
  else if r = 2 then
    let id := t.addr.toNat / 65536 % 65536
    if id == s.get (F.GW.GW_RID.RID o.vh) && s.flag (F.GW.GW_RID.VALID o.vh) then .go 49 t
    else
    match s.vdspOfBus o.vh (id / 256) with
    | some d => (s.downById o.vh d id t).getD .ur
    | none => if o.fn = 0 then .ur else .go (s.get (F.VH.VH_BIND.HOST_PORT o.vh)) t
  else if r = 3 then (if o.fn = 0 then .bcast else .ur)
  else if r = 4 then .drop
  else .ur

/-- An I/O request (step 5). -/
def State.routeIo (s : State) (o : Owner) (t : Tlp) : Route :=
  let a := t.addr.toNat % 2 ^ 32
  match (s.liveVdsps o.vh).find? fun d =>
      d != o.fn && s.get (F.VH.VDSP.KIND o.vh d) != 3 && bitOf (s.cfg o.vh d 1) 0 && inWindow (s.ioWindow o.vh d) a with
  | some d => if o.fn = 0 && !(bitOf (s.cfg o.vh 0 1) 0 && inWindow (s.ioWindow o.vh 0) a) then .ur else .go (s.get (F.VH.VDSP.PORT o.vh d)) t
  | none => s.goUp o t

/-- A memory request of the manager VH for a shared port: fenced from the BAR slices of bound VFs while PF_GUARD is 1 (R293). -/
def State.fenced (s : State) (o : Owner) (p : Nat) (t : Tlp) : Route :=
  let shared : Bool := match s.attachedPort p with
    | some (v, d) => v == o.vh && s.get (F.VH.VDSP.KIND v d) == 2
    | none => false
  if shared && s.flag F.VH.SHARE_CTL.PF_GUARD then
    match s.vfSlice p t.addr.toNat (memExtent t) with
    | some j => .busy j
    | none => .go p t
  else .go p t

/-- Down through a vDSP that claims an address (step 7): fenced slices of bound VFs, virtual BARs, or the port itself. -/
def State.downMem (s : State) (o : Owner) (d : Nat) (t : Tlp) : Route :=
  let v := o.vh
  let a := t.addr.toNat
  let p := s.get (F.VH.VDSP.PORT v d)
  let i := s.get (F.VH.VDSP.VFI v d)
  if s.get (F.VH.VDSP.KIND v d) = 3 then
    match s.vfBar v d a with
    | none => .ur
    | some (b, off, size) =>
      if off + memExtent t > size then .refuse Ev.VF_CROSS .ur (a - off + size) 0
      else .go p { t with addr := BitVec.ofNat 64 (s.get (F.VH.VF_BAR.PHYS_BASE i b) * 4096 + off) }
  else s.fenced o p t

/-- The vDSP whose memory windows hold an address. -/
def State.claimMem (s : State) (v a : Nat) : Option Nat :=
  (s.liveVdsps v).find? fun d => s.mse v d && (s.memWindows v d).any fun w => inWindow w a

/-- A memory request or AtomicOp (step 7). -/
def State.routeMem (s : State) (o : Owner) (t : Tlp) : Route :=
  let v := o.vh
  let a := t.addr.toNat
  let p2p := o.fn != 0
  if s.acs o 1 && t.at2 != 0 then acsRoute t
  else
    match s.mcGroupAt v o.fn a with
    | some g => if isNpKind t.kind then .ur else .mcast g
    | none =>
      match s.meBar v a with
      | some (b, off) =>
        if p2p && s.redirected o t then s.goUp o t
        else if off + max (memExtent t) 1 > meBarSize b then .ur
        else if b = 2 then .go 48 { t with addr := BitVec.ofNat 64 off }
        else .go 49 { t with addr := BitVec.ofNat 64 (b * 2 ^ 32 + off) }
      | none =>
        match s.claimMem v a with
        | some d =>
          if !p2p then (if s.mse v 0 && (s.memWindows v 0).any (fun w => inWindow w a) then s.downMem o d t else .ur)
          else if d = o.fn then (if s.acs o 4 then s.goUp o t else .ur)
          else if s.redirected o t then s.goUp o t
          else if o.fn < 32 && !s.bme v o.fn then .ur
          else s.downMem o d t
        | none => s.goUp o t

end Sys2Proof.Machine
end

