-- ==== Sys2Proof/Machine/Windows.lean ====
section
/-! DEFINITION. Apertures, the Window and Route Table, the translation cache, and commits of the XLAT page (05_lookup_windows.md R145, R147 to
R164; 17_register_conventions.md R481 for the XLAT page). -/
namespace Sys2Proof.Machine

/-! ### Apertures (R147, R148) -/

/-- An aperture: its VH and number, and its registers' values. -/
structure Apt where
  vh : Nat
  a : Nat
  en : Bool
  base : Nat
  ap : Nat
  win : Nat
  idx : Nat
  remote : Bool
  ports : Nat
deriving DecidableEq, Repr

def aptOf (f : Fld → Nat) (v a : Nat) : Apt :=
  { vh := v, a := a, en := f (F.XLAT.APT_CTL.EN v a) != 0, base := f (F.XLAT.APT_BASE.BASE v a) * 4096, ap := f (F.XLAT.APT_CTL.AP_LOG2 v a),
    win := f (F.XLAT.APT_CTL.WIN_LOG2 v a), idx := f (F.XLAT.APT_CTL.IDX_BASE v a), remote := f (F.XLAT.APT_MASK.REMOTE v a) != 0,
    ports := f (F.XLAT.APT_MASK.PORTS v a) }

/-- An aperture in force. -/
def State.apt (s : State) (v a : Nat) : Apt := aptOf s.get v a
/-- The aperture a commit of the shadows would give. -/
def State.aptShadow (s : State) (v a : Nat) : Apt := aptOf s.shadowOf v a

def Apt.covers (x : Apt) (a : Nat) : Bool := x.en && decide (x.base ≤ a ∧ a < x.base + 2 ^ x.ap)
/-- The WRT index of an address (R147). -/
def Apt.index (x : Apt) (a : Nat) : Nat := x.idx + (a - x.base) / 2 ^ x.win
def Apt.count (x : Apt) : Nat := 2 ^ (x.ap - x.win)
def Apt.owns (x : Apt) (i : Nat) : Bool := x.en && decide (x.idx ≤ i ∧ i < x.idx + x.count)
/-- The shape a commit requires of an enabled aperture. -/
def Apt.shapeOk (x : Apt) : Bool :=
  decide (12 ≤ x.win ∧ x.win ≤ 52 ∧ x.win ≤ x.ap ∧ x.ap ≤ x.win + 19 ∧ x.base % 2 ^ x.ap = 0 ∧ x.idx + x.count ≤ 524288)

/-- The enabled aperture of a VH that holds an address. -/
def State.aptAt (s : State) (v addr : Nat) : Option Apt := ((List.range 8).map (s.apt v)).find? fun x => x.covers addr

/-! ### WRT entries (R149) -/

def zeroEntry : List Nat := List.replicate 8 0
def entValid (w : List Nat) : Bool := bitOf (w.getD 0 0) 0
def entVh (w : List Nat) : Nat := bitsOf (w.getD 0 0) 5 1
def entWin (w : List Nat) : Nat := bitsOf (w.getD 0 0) 11 6
def entSrc (w : List Nat) : Nat := w.getD 0 0 / 4096 * 4096
def entTgt (w : List Nat) : Nat := w.getD 1 0 / 4096 * 4096
def entNode (w : List Nat) : Nat := w.getD 1 0 % 4096
def entPort (w : List Nat) : Nat := bitsOf (w.getD 2 0) 63 58
def entTvh (w : List Nat) : Nat := bitsOf (w.getD 2 0) 57 53
def entKind (w : List Nat) : Nat := bitsOf (w.getD 2 0) 52 51
def entIde (w : List Nat) : Bool := bitOf (w.getD 2 0) 50
def entAcs (w : List Nat) : Bool := bitOf (w.getD 2 0) 49
def entAt (w : List Nat) : Nat := bitsOf (w.getD 2 0) 48 47
def entRd (w : List Nat) : Bool := bitOf (w.getD 2 0) 46
def entWr (w : List Nat) : Bool := bitOf (w.getD 2 0) 45
def entAtom (w : List Nat) : Bool := bitOf (w.getD 2 0) 44
def entTag (w : List Nat) : Nat := w.getD 3 0

/-- Base of the window at an index of an aperture. -/
def Apt.winBase (x : Apt) (i : Nat) : Nat := x.base + (i - x.idx) * 2 ^ x.win

/-- Does an entry carry the key its index gives (R149)? -/
def keyOk (x : Apt) (i : Nat) (w : List Nat) : Bool := entVh w == x.vh && entWin w == x.win && entSrc w == x.winBase i

/-- Is a port at this moment a HOST port bound to a VH, or a DEV port that serves it: attached there, or with a VF attached there (R151, R286,
R288)? -/
def State.serves (s : State) (p v : Nat) : Bool :=
  if p ≥ 48 ∨ v ≥ 24 then false
  else if s.role p = 1 then s.vhBound v && s.get (F.VH.VH_BIND.HOST_PORT v) == p
  else if s.role p = 2 then
    (match s.vdspOfPort p with
     | some (w, d) => w == v && s.vdspLive w d
     | none => false) || (s.liveVdsps v).any fun d => s.get (F.VH.VDSP.KIND v d) == 3 && s.get (F.VH.VDSP.PORT v d) == p
  else false

/-! ### Reading the table (R153, R157, R160) -/

/-- An entry as DRAM holds it. -/
def State.wrtDram (s : State) (i : Nat) : List Nat := Tab.getD s.xlat.wrt i zeroEntry
/-- The entry in force: the apply overlay first. -/
def State.wrtNow (s : State) (i : Nat) : List Nat := (Tab.get? s.xlat.overlay i).getD (s.wrtDram i)

/-- Set of the translation cache an index maps to. -/
def cacheSet (i : Nat) : Nat := Nat.xor (i % 4096) (i / 4096 % 128 * 32 % 4096)

/-- The way the replacement tree names: 15 nodes numbered from 1 in heap order, node n in bit n; a 0 leads to the lower half. -/
def plruVictim (tree : Nat) : Nat :=
  let step (n : Nat) : Nat := 2 * n + b2n (bitOf tree n)
  step (step (step (step 1))) - 16
/-- Turn the nodes on a way's path away from it. -/
def plruTouch (tree way : Nat) : Nat :=
  let leaf := way + 16
  [leaf, leaf / 2, leaf / 4, leaf / 8].foldl (fun t n => withBit t (n / 2) (n % 2 == 0)) tree

def State.cacheWays (s : State) (set : Nat) : List (Option (Nat × List Nat)) × Nat := Tab.getD s.xlat.cache set (List.replicate 16 none, 0)
def State.setWays (s : State) (set : Nat) (x : List (Option (Nat × List Nat)) × Nat) : State :=
  { s with xlat := { s.xlat with cache := Tab.setD s.xlat.cache set x (List.replicate 16 none, 0) } }

/-- A hit in the cache, and the replacement state after it. -/
def State.cacheHit (s : State) (i : Nat) : Option (List Nat × State) :=
  let (ways, tree) := s.cacheWays (cacheSet i)
  match ways.findIdx? fun w => (w.map Prod.fst) == some i with
  | some k =>
    match ways.getD k none with
    | some (_, w) => some (w, s.setWays (cacheSet i) (ways, plruTouch tree k))
    | none => none
  | none => none

/-- Place a valid entry: in a free way, else in the way the tree names. -/
def State.cachePut (s : State) (i : Nat) (w : List Nat) : State :=
  let (ways, tree) := s.cacheWays (cacheSet i)
  let k := match ways.findIdx? fun x => (x.map Prod.fst) == some i with
    | some k => k
    | none => (ways.findIdx? fun x => x.isNone).getD (plruVictim tree)
  s.setWays (cacheSet i) (ways.set k (some (i, w)), plruTouch tree k)

/-- Drop the cached copy of an index, the replacement state as it is (R157). -/
def State.cacheForget (s : State) (i : Nat) : State :=
  let (ways, tree) := s.cacheWays (cacheSet i)
  s.setWays (cacheSet i) (ways.map fun x => if x.map Prod.fst = some i then none else x, tree)

/-- Invalidate the cached entries whose index satisfies a test. -/
def State.cacheInval (s : State) (which : Nat → Bool) : State :=
  { s with xlat := { s.xlat with cache :=
                                 (s.xlat.cache.map fun e =>
                                 (e.1, (e.2.1.map fun w => match w with
                                 | some (i, x) => if which i then none else some (i, x)
                                 | none => none), e.2.2)).filter fun e => e.2 != (List.replicate 16 none, 0) } }

/-- WRT reads in flight, of the whole device (R146). -/
def State.wrtReads (s : State) : Nat := (s.core.miss.map (fun e => e.2.countP fun p => p.idx.isSome)).sum
def State.missSts (s : State) : State := s.set F.XLAT.TC_CTL.MISS_PEND s.wrtReads

/-- INV_ALL (R156). -/
def State.invAll (s : State) : State :=
  ({ s.cacheInval (fun _ => true) with xlat := { (s.cacheInval fun _ => true).xlat with invWalk := true } } : State).set F.XLAT.TC_CTL.INV_BUSY 1

/-- The walk over the sets ends. -/
def State.invDone (s : State) : State :=
  if s.xlat.invWalk then ({ s with xlat := { s.xlat with invWalk := false } } : State).set F.XLAT.TC_CTL.INV_BUSY 0 else s

/-- A write of XLAT.TC_CTL. -/
def State.wrTcCtl (s : State) (v : Nat) : State :=
  let s := s.set F.XLAT.TC_CTL.EN (bitsOf v 0 0)
  if bitOf v 1 then s.invAll else s

/-! ### What a window makes of a request (R150 to R152, R163) -/

/-- The refusal of a request at its window, in the order of R152, once the entry has been read. -/
def State.judge (s : State) (x : Apt) (i : Nat) (w : List Nat) (v : Nat) (t : Tlp) : Option Route :=
  let a := t.addr.toNat
  let fin := x.winBase i + 2 ^ x.win
  let perm := if isRead t.kind then entRd w else if isAtomic t.kind then entAtom w else entWr w
  let atOk := (entAt w == 0 && t.at2 == 0) || (entAt w == 1 && t.at2 == 2) || (entAt w == 2 && (t.at2 == 0 || t.at2 == 2))
  let tag := entTag w
  if !entValid w || !keyOk x i w then some (.refuse Ev.XLAT_NO_WIN .ur a 0)
  else if a + max (memExtent t) 1 > fin then some (.refuse Ev.XLAT_CROSS .ur fin tag)
  else if !perm then some (.refuse Ev.XLAT_PERM .ca a tag)
  else if !atOk then some (.refuse Ev.XLAT_AT .ur a tag)
  else if entKind w == 0 && !s.serves (entPort w) (entTvh w) then some (.refuse Ev.XLAT_UNBOUND .ur a tag)
  else if t.kind == .mrdLk && !(entKind w == 0 && entTvh w == v) then some (.refuse Ev.XLAT_LOCK .ur a tag)
  else if t.ide && !entIde w then some (.refuse Ev.XLAT_IDE .ur a tag)
  else none

/-- The translation of a permitted request (R150), with the ACS controls of step 6. -/
def State.translate (s : State) (x : Apt) (i : Nat) (w : List Nat) (o : Owner) (t : Tlp) : Route :=
  let t' := { t with addr := BitVec.ofNat 64 (entTgt w + t.addr.toNat % 2 ^ x.win) }
  if s.acs o 1 && t.at2 != 0 then acsRoute t
  else
    match s.judge x i w o.vh t with
    | some r => r
    | none =>
      if entAcs w && s.redirected o t then s.goUp o t
      else if entKind w = 1 then .fabric (entNode w) (entPort w) (entTvh w) t' (entTag w)
      else if entTvh w = o.vh then s.fenced o (entPort w) t'
      else .cross (entPort w) (entTvh w) t' (entTag w)

/-! ### Staging (R158) -/

/-- WIN_UPDATE DISCARD: the queue and the aperture shadows are emptied. -/
def State.winDiscard (s : State) : State :=
  let s : State := { s with xlat := { s.xlat with updates := [] },
                            mgmt := { s.mgmt with shadow := s.mgmt.shadow.filter fun e => e.1 / 64 / 65536 % 512 != 0x40 } }
  s.sets [(F.HDR.SHADOW_CTL.DIRTY 0x40, 0), (F.HDR.PAGE_STS.DIRTY 0x40, 0), (F.HDR.SHADOW_CTL.STAGERS 0x40, 0)]

/-- A write of XLAT.WIN_UPDATE. -/
def State.wrWinUpdate (s : State) (v : Nat) : State :=
  let op := bitsOf v 63 62
  let i := bitsOf v 18 0
  if op = 0 then s
  else if op = 3 then s.winDiscard
  else if s.xlat.updates.length ≥ 256 then s.set F.XLAT.WIN_STATUS.QFULL 1
  else
    let w := if op = 1 then (List.range 8).map fun k => s.get (F.XLAT.WIN_DATA.DATA k) else zeroEntry
    { s with xlat := { s.xlat with updates := s.xlat.updates ++ [(i, w ++ [op])] } }

/-! ### Checks (R159) -/

/-- A fault of a commit: its number, position, index and VH, and the page offset of the register at fault. -/
structure WinFault where
  fault : Nat
  pos : Nat
  idx : Nat
  vh : Nat
  off : Nat
deriving DecidableEq, Repr

def entFormatBad (w : List Nat) : Bool :=
  w.getD 2 0 % 2 ^ 44 != 0 || ((w.drop 4).take 4).any (· != 0) || decide (entKind w > 1) || entAt w == 3 || entTgt w % 2 ^ entWin w != 0

/-- The checks of one entry with VALID = 1 against the aperture that owns its index. -/
def State.entFault (s : State) (x : Apt) (i : Nat) (w : List Nat) : Nat :=
  if !entValid w then 0
  else if !keyOk x i w then 2
  else if entTvh w > 23 then 6
  else if entKind w = 1 ∧ !x.remote then 6
  else if entKind w = 0 ∧ (entPort w > 47 ∨ !bitOf x.ports (entPort w) ∨ entNode w ≠ 0 ∨ !s.serves (entPort w) (entTvh w)) then 6
  else if entKind w = 1 ∧ entNode w = s.get F.ROUTE.NODE_ID.ID then 7
  else if entIde w ∧ !(entKind w == 0 && entTvh w == x.vh && entTgt w == entSrc w) then 8
  else 0

/-- Aperture checks, in the order 8 × vh + a; `seen` the enabled apertures before. -/
def aptFaults (res : Nat → Nat → Option Nat) : List Apt → List Apt → Option WinFault
  | [], _ => none
  | x :: rest, seen =>
    let pos := 0x1F8 + x.a
    let off := 0x1000 + 0x18 * (8 * x.vh + x.a)
    match res x.vh x.a with
    | some o => some ⟨0xA, pos, 0, x.vh, o⟩
    | none =>
      if !x.en then aptFaults res rest seen
      else if !x.shapeOk then some ⟨5, pos, 0, x.vh, off + 8⟩
      else if seen.any (fun y => y.vh == x.vh && decide (x.base < y.base + 2 ^ y.ap ∧ y.base < x.base + 2 ^ x.ap)) then some ⟨3, pos, 0, x.vh, off⟩
      else
        match seen.find? fun y => decide (x.idx < y.idx + y.count ∧ y.idx < x.idx + x.count) with
        | some y => some ⟨4, pos, max x.idx y.idx, x.vh, off + 8⟩
        | none => aptFaults res rest (seen ++ [x])

/-- Update checks, in queue order. -/
def State.updFaults (s : State) (apts : List Apt) : List (Nat × List Nat) → Nat → List Nat → Option WinFault
  | [], _, _ => none
  | (i, w) :: rest, pos, seen =>
    let write := w.getD 8 0 == 1
    let owner := apts.find? fun x => x.owns i
    let f :=
      if write && entFormatBad w then 0xA
      else if write && owner.isNone then 1
      else if seen.contains i then 9
      else match owner with
        | some x => if write then s.entFault x i w else 0
        | none => 0
    if f ≠ 0 then some ⟨f, pos, i, entVh w, 0x100⟩ else s.updFaults apts rest (pos + 1) (seen ++ [i])

/-- Offset of the first aperture register of (v, a) with a reserved bit staged. -/
def State.aptReserved (s : State) (v a : Nat) : Option Nat :=
  ([0, 8, 16].map fun k => 0x1000 + 0x18 * (8 * v + a) + k).find? fun off => Tab.getD s.mgmt.shadow (resKey 0x40 off) 0 != 0

/-- The apertures the shadows give, in order. -/
def State.aptShadows (s : State) : List Apt := (List.range 192).map fun i => s.aptShadow (i / 8) (i % 8)

/-- All checks of a commit of the queued updates and the aperture shadows. -/
def State.winCheck (s : State) : Option WinFault :=
  if s.phase ≤ 1 then some ⟨0xB, 0, 0, 0, 0⟩
  else
    let apts := s.aptShadows
    match aptFaults s.aptReserved apts [] with
    | some f => some f
    | none => s.updFaults apts s.xlat.updates 0 []

/-- Show the outcome of a GO or CHECK in WIN_STATUS. -/
def State.winResult (s : State) (r : Nat) (f : WinFault) : State :=
  s.sets [(F.XLAT.WIN_STATUS.RESULT, r), (F.XLAT.WIN_STATUS.FAULT, f.fault), (F.XLAT.WIN_STATUS.FAULT_POS, f.pos),
    (F.XLAT.WIN_STATUS.FAULT_IDX, f.idx), (F.XLAT.WIN_STATUS.FAULT_VH, f.vh)]

def noFault : WinFault := ⟨0, 0, 0, 0, 0⟩

def WinFault.words (f : WinFault) : List Nat := [f.fault, f.pos, f.idx, f.vh, f.off]
def faultOfWords (l : List Nat) : WinFault := ⟨l.getD 0 0, l.getD 1 0, l.getD 2 0, l.getD 3 0, l.getD 4 0⟩

/-- A check begins: STATE shows CHECKING until it ends. -/
def State.winChecking (s : State) (go : Bool) (r : Nat) (f : WinFault) : State :=
  ({ s with xlat := { s.xlat with checking := some (go, r, f.words) } } : State).set F.XLAT.WIN_STATUS.STATE 1

/-- GO: the set as it stands is checked; what passes is taken out of the queue, what fails is kept (R159, R160). -/
def State.winGo (s : State) : State :=
  if s.get F.XLAT.WIN_STATUS.STATE ≠ 0 then s.sets [(F.XLAT.WIN_STATUS.BUSY_GO, 1), (F.HDR.SHADOW_CTL.BUSY_GO 0x40, 1)]
  else
    let s := s.set (F.HDR.SHADOW_CTL.STATE 0x40) 1
    match s.winCheck with
    | some f => s.winChecking true 2 f
    | none =>
      let apt := s.mgmt.shadow.filter fun e => e.1 / 64 / 65536 % 512 == 0x40
      ({ s with xlat := { s.xlat with commit := s.xlat.updates, commitApt := apt, updates := [] } } : State).winChecking true 0 noFault

/-- CHECK: the checks alone. -/
def State.winCheckCmd (s : State) : State :=
  if s.get F.XLAT.WIN_STATUS.STATE ≠ 0 then s.set F.XLAT.WIN_STATUS.BUSY_GO 1
  else
    match s.winCheck with
    | some f => s.winChecking false 2 f
    | none => s.winChecking false 3 noFault

/-- The checks under way end: their result shows, and a set that passed for a GO waits for its instant (R160). They end at the next tick of the time
base, or when the set is to be applied (DESIGN CHOICE, notes/assumptions/108.md). -/
def State.winChecked (s : State) : State :=
  match s.xlat.checking with
  | none => s
  | some (go, r, l) =>
    let f := faultOfWords l
    let s := ({ s with xlat := { s.xlat with checking := none } } : State).set F.XLAT.WIN_STATUS.STATE (if r = 0 then 2 else 0)
    if r = 0 then s
    else if !go then s.winResult r f
    else (s.winResult r f).sets [(F.HDR.SHADOW_CTL.STATE 0x40, 0), (F.HDR.SHADOW_CTL.RESULT 0x40, 2),
      (F.HDR.SHADOW_CTL.FAULT 0x40, if f.fault = 0xB then 3 else 2), (F.HDR.SHADOW_CTL.FAULT_OFF 0x40, f.off)]

/-- A write of XLAT.WIN_COMMIT: CHECK before GO (R162). -/
def State.wrWinCommit (s : State) (v : Nat) : State :=
  if bitOf v 1 then s.winCheckCmd else if bitOf v 0 then s.winGo else s

/-! ### Effect of a commit (R160, R161) -/

/-- Trains that carry a generation stamp. -/
def State.stampCount (s : State) (g : Nat) : Nat :=
  (s.trainList.countP fun t => t.inBuffer && t.gen % 16 == g) +
    (s.core.miss.map fun e => e.2.countP fun p => p.gen % 16 == g).sum + (s.core.gwWait.map fun e => e.2.countP fun p => p.tr.gen % 16 == g).sum

/-- Two values of an aperture differ, its mask included. -/
def Apt.moved (x y : Apt) : Bool := x != y

/-- The commit takes effect: a new generation, the entries in the overlay, precise invalidation. -/
def State.winApply (s : State) : State :=
  let s := s.winChecked
  let g := (s.get (F.HDR.COMMIT_GEN.GEN 0x40) + 1) % 2 ^ 32
  if s.get F.XLAT.WIN_STATUS.STATE ≠ 2 ∨ s.stampCount (g % 16) ≠ 0 ∨ s.xlat.overlay ≠ [] then s
  else
    let old := (List.range 192).map fun i => s.apt (i / 8) (i % 8)
    let cm := s.xlat.commitApt
    let s : State := { s with flds := cm.foldl (fun t e => if e.1 ≥ 512 * 65536 * 64 then t else
                              match regAt 0x40 (e.1 / 64 % 65536) with
                              | some r => (match r.fields.find? fun d => d.lo == e.1 % 64 with
                              | some d => Tab.setD t e.1 e.2 (d.toFld 0x40 (e.1 / 64 % 65536)).rst
                              | none => t)
                              | none => t) s.flds }
    let s : State := { s with mgmt := { s.mgmt with shadow := s.mgmt.shadow.filter fun e => !cm.contains e } }
    let left := s.mgmt.shadow.any fun e => e.1 / 64 / 65536 % 512 == 0x40
    let s := if left then s else s.sets
      [(F.HDR.SHADOW_CTL.DIRTY 0x40, 0), (F.HDR.PAGE_STS.DIRTY 0x40, 0), (F.HDR.SHADOW_CTL.STAGERS 0x40, 0)]
    let new := (List.range 192).map fun i => s.apt (i / 8) (i % 8)
    let changed := (List.zip old new).filter fun e => e.1.moved e.2
    let idx := s.xlat.commit.map Prod.fst
    let hit (i : Nat) : Bool := idx.contains i || changed.any fun e => e.1.owns i || e.2.owns i
    let s := s.cacheInval hit
    let s : State := { s with core := { s.core with miss := s.core.miss.map fun e => (e.1, e.2.map fun p =>
                                        { p with stale := p.stale || (match p.idx with
                                                                      | some i => hit i
                                                                      | none => false) }) } }
    let ov := s.xlat.commit.foldl (fun o e => Tab.put o e.1 (e.2.take 8)) s.xlat.overlay
    let s : State := { s with xlat := { s.xlat with overlay := ov, commit := [], commitApt := [],
                                                    ueSeen := s.xlat.ueSeen.filter fun i => !idx.contains i } }
    let s := (s.winResult 1 noFault).sets [(F.XLAT.WIN_STATUS.STATE, 3), (F.HDR.COMMIT_GEN.GEN 0x40, g), (F.HDR.SHADOW_CTL.STATE 0x40, 0),
      (F.HDR.SHADOW_CTL.RESULT 0x40, 1), (F.HDR.SHADOW_CTL.FAULT 0x40, 0)]
    (s.count (Ctr.dev 21) 1).drainGen

/-- The overlay is in DRAM and is released. -/
def State.overlayDone (s : State) : State :=
  if s.get F.XLAT.WIN_STATUS.STATE ≠ 3 then s
  else
    let w := s.xlat.overlay.foldl (fun t e => Tab.setD t e.1 e.2 zeroEntry) s.xlat.wrt
    let idx := s.xlat.overlay.map Prod.fst
    ({ s with xlat := { s.xlat with wrt := w, overlay := [], wrtUe := s.xlat.wrtUe.filter fun i => !idx.contains i } } : State).set
      F.XLAT.WIN_STATUS.STATE 0

/-- The overlay is written back, 64 B for each changed index in the TABLE class, and released (R160). -/
def State.winWriteback (s : State) : State :=
  if s.get F.XLAT.WIN_STATUS.STATE ≠ 3 || s.core.miss.any (fun e => e.2.any fun p => p.idx.isSome && p.gen != s.get (F.HDR.COMMIT_GEN.GEN 0x40)) then s
  else if s.xlat.overlay = [] then s.overlayDone
  else s.budgeted 2 0 s.xlat.overlay.length .overlay State.overlayDone

/-! ### Overlaps with native routing (R145) -/

/-- The lowest address common to a range and an enabled aperture of a VH. -/
def State.nativeOvl (s : State) (v lo hi : Nat) : Option Nat :=
  ((List.range 8).filterMap fun a =>
    let x := s.apt v a
    if x.en && decide (lo ≤ hi ∧ lo < x.base + 2 ^ x.ap ∧ x.base ≤ hi) then some (max lo x.base) else none).min?

/-- Host software has programmed a window or BAR: note an overlap, naming the VH, the register and the address. -/
def State.checkOvl (s : State) (v fn dw : Nat) (ranges : List (Nat × Nat)) : State :=
  match (ranges.filterMap fun r => s.nativeOvl v r.1 r.2).min? with
  | some a => (s.set F.XLAT.WIN_STATUS.NATIVE_OVL 1).raise Ev.NATIVE_OVL
      { inst := v, recC := 1, detail := 2, w := [v, fn * 4096 + dw * 4, a, 0] }
  | none => s

end Sys2Proof.Machine
end

