-- ==== Sys2Proof/Machine/Context.lean ====
section
/-! DEFINITION. Stream contexts and dirty-page logging (10_sharing.md R298 to R305; 12_errors_containment.md R346). -/
namespace Sys2Proof.Machine

/-! ### Stream contexts (R298 to R300) -/

/-- Word 0 of a context with a key (R299). -/
def ctxKey (v rid : Nat) (pasid : Option Nat) : Nat :=
  2 ^ 63 + v % 32 * 2 ^ 58 + rid % 65536 * 2 ^ 42 + (match pasid with
    | some q => 2 ^ 41 + q % 2 ^ 20 * 2 ^ 21
    | none => 0)

def zeroCtx : List Nat := List.replicate 32 0
def State.ctxAt (s : State) (i : Nat) : List Nat := Tab.getD s.ctxs.dram i zeroCtx
def State.setCtx (s : State) (i : Nat) (w : List Nat) : State := { s with ctxs := { s.ctxs with dram := Tab.setD s.ctxs.dram i w zeroCtx } }

/-- The index of a key in the directory. -/
def State.ctxFindKey (s : State) (key : Nat) : Option Nat := (s.ctxs.dram.find? fun e => e.2.getD 0 0 == key).map Prod.fst

/-- The context of a request: with its PASID, else without (R298). -/
def State.ctxFor (s : State) (v : Nat) (t : Tlp) : Option Nat :=
  match t.pasid with
  | some q => (s.ctxFindKey (ctxKey v t.reqId.toNat (some q.toNat))).or (s.ctxFindKey (ctxKey v t.reqId.toNat none))
  | none => s.ctxFindKey (ctxKey v t.reqId.toNat none)

def ctxTc (w : List Nat) (tc : BitVec 3) : BitVec 3 := if bitOf (w.getD 1 0) 56 then BitVec.ofNat 3 (bitsOf (w.getD 1 0) 55 53) else tc
def ctxQueue (w : List Nat) : Option Nat := if bitOf (w.getD 1 0) 57 then some (bitsOf (w.getD 1 0) 63 58) else none
def ctxTag (w : List Nat) : Nat := w.getD 2 0

/-- Does a context permit a request toward every destination it has, each told by whether it is the VH's HOST port (R299)? -/
def ctxPermits (w : List Nat) (t : Tlp) (ups : List Bool) : Bool :=
  let p := w.getD 1 0
  (if isRead t.kind then bitOf p 52 else if isAtomic t.kind then bitOf p 50 else bitOf p 51) && ups.all fun up => bitOf p (if up then 48 else 49)

/-- Add to counters of a context (words 8 to 14), which wrap at 2^40. -/
def State.ctxCount (s : State) (i : Nat) (adds : List (Nat × Nat)) : State :=
  s.setCtx i (adds.foldl (fun w e => w.set e.1 ((w.getD e.1 0 + e.2) % 2 ^ 40)) (s.ctxAt i))

/-- A request counted at its lookup: posted requests and bytes, non-posted requests, bytes read, AtomicOps. -/
def State.ctxCountReq (s : State) (i : Nat) (t : Tlp) : State :=
  if t.kind == .mwr then s.ctxCount i [(8, 1), (9, t.data.length)]
  else if isRead t.kind then s.ctxCount i [(10, 1), (11, t.len)]
  else s.ctxCount i [(10, 1), (12, 1)]

/-- Put an index into the context cache of 16,384, the oldest leaving. -/
def State.ctxCache (s : State) (i : Nat) : State :=
  let l := (s.ctxs.cache.filter (· ≠ i)) ++ [i]
  { s with ctxs := { s.ctxs with cache := l.drop (l.length - 16384) } }

/-- Is a context's words of the layout of R299: VALID, a VH, reserved bits clear? -/
def ctxFormatOk (w : List Nat) : Bool :=
  bitOf (w.getD 0 0) 63 && decide (bitsOf (w.getD 0 0) 62 58 < 24) && w.getD 0 0 % 2 ^ 21 == 0 && w.getD 1 0 % 2 ^ 39 == 0 &&
    ([3, 4, 5, 6, 7, 15].all fun k => w.getD k 0 == 0) && ([8, 9, 10, 11, 12, 13, 14].all fun k => decide (w.getD k 0 < 2 ^ 40))

def State.ctxUse (s : State) : State := s.set F.CTX.CTX_STS.IN_USE (s.ctxs.dram.countP fun e => bitOf (e.2.getD 0 0) 63)

/-- Slots of a bucket in use, and its lowest free slot. -/
def State.bucketUse (s : State) (b : Nat) : Nat := (List.range 8).countP fun k => bitOf ((s.ctxAt (8 * b + k)).getD 0 0) 63
def State.bucketFree (s : State) (b : Nat) : Option Nat := (List.range 8).find? fun k => !bitOf ((s.ctxAt (8 * b + k)).getD 0 0) 63

/-- The operation in CTX_ACCESS, at one TABLE cycle. -/
def State.ctxRun (s : State) : State :=
  let op := s.get F.CTX.CTX_ACCESS.OP
  let i := s.get F.CTX.CTX_ACCESS.INDEX
  let data := (List.range 32).map fun k => s.get (F.CTX.CTX_DATA.DATA k)
  let result (s : State) (r : Nat) : State := s.set F.CTX.CTX_ACCESS.RESULT r
  let fresh (s : State) (i : Nat) : State := { s with ctxs := { s.ctxs with ue := s.ctxs.ue.filter (· ≠ i), cache := s.ctxs.cache.filter (· ≠ i) } }
  if op = 1 then
    if s.ctxs.ue.contains i then result (s.raise Ev.DRAM_UE { inst := i }) 1
    else result (s.sets ((List.range 32).map fun k => (F.CTX.CTX_DATA.DATA k, (s.ctxAt i).getD k 0))) 1
  else if op = 2 then
    let old := s.ctxAt i
    if data.getD 0 0 ≠ old.getD 0 0 ∨ !ctxFormatOk data then result s 6
    else
      let w := if s.flag F.CTX.CTX_ACCESS.KEEP_CNT then (List.range 32).map fun k => if 8 ≤ k ∧ k ≤ 14 then old.getD k 0 else data.getD k 0 else data
      result (fresh (s.setCtx i w) i) 1
  else if op = 3 then
    let key := data.getD 0 0
    if !ctxFormatOk data then result s 6
    else if (s.ctxFindKey key).isSome then result s 5
    else
      let b0 := Config.ctxHash key 0 % 32768
      let b1 := Config.ctxHash key 1 % 32768
      let b := if s.bucketUse b1 < s.bucketUse b0 then b1 else b0
      match s.bucketFree b with
      | some k => result ((fresh (s.setCtx (8 * b + k) data) (8 * b + k)).ctxUse.set F.CTX.CTX_ACCESS.INDEX (8 * b + k)) 1
      | none => result s 4
  else if op = 4 then
    if bitOf ((s.ctxAt i).getD 0 0) 63 then result (fresh (s.setCtx i zeroCtx) i).ctxUse 1 else result s 3
  else if op = 5 then
    match s.ctxFindKey (data.getD 0 0) with
    | some j => result (s.set F.CTX.CTX_ACCESS.INDEX j) 1
    | none => result s 3
  else s

/-- The TABLE class has paid for the CTX_ACCESS command. -/
def State.ctxPaid (s : State) : State := ({ s with ctxs := { s.ctxs with wait := false } } : State).ctxRun

/-- Run the CTX_ACCESS command if the TABLE class allows, one access of four 64 B units; else it waits, busy. -/
def State.ctxGo (s : State) : State :=
  if s.canPay 2 0 4 true then (s.spend 2 0 4 0x44).ctxPaid
  else ({ s.defer ⟨2, 0, 4, 0x44, true, .context⟩ with ctxs := { s.ctxs with wait := true } } : State).set F.CTX.CTX_ACCESS.RESULT 2

/-- A write of CTX.CTX_ACCESS. -/
def State.wrCtxAccess (s : State) (v : Nat) : State :=
  if s.ctxs.wait then s
  else
    let s := s.sets [(F.CTX.CTX_ACCESS.OP, bitsOf v 62 60), (F.CTX.CTX_ACCESS.KEEP_CNT, bitsOf v 59 59), (F.CTX.CTX_ACCESS.INDEX, bitsOf v 17 0)]
    if bitOf v 63 then s.ctxGo else s

/-! ### Dirty-page logging (R301 to R303) -/

def dlKey (slot ep line : Nat) : Nat := (2 * slot + ep) * 2 ^ 23 + line
def State.granule (s : State) (j : Nat) : Nat := if s.flag (F.DIRTY.DL_SLOT0.GRAN j) then 2 ^ 21 else 4096
/-- Bytes a bitmap of a slot takes in the region. -/
def dlBytes (bits : Nat) : Nat := ((bits + 7) / 8 + 4095) / 4096 * 4096

/-- The bit a write marks: its slot, granule and open epoch (R301); none when it is not logged. -/
def State.dlMarkOf (s : State) (w : List Nat) (t : Tlp) : Option (Nat × Nat × Nat) :=
  let j := bitsOf (w.getD 1 0) 46 39
  let base := s.get (F.DIRTY.DL_SLOT0.BASE j) * 4096
  let a := t.addr.toNat
  let g := (a - base) / s.granule j
  let sel := s.get (F.DIRTY.DL_SLOT0.AT_SEL j)
  let atOk := (sel == 0 && t.at2 == 0) || (sel == 1 && t.at2 == 2) || (sel == 2 && (t.at2 == 0 || t.at2 == 2))
  let wr := (t.kind == .mwr && !t.data.isEmpty) || isAtomic t.kind
  if bitOf (w.getD 1 0) 47 && s.flag F.DIRTY.DL_CTL.EN && s.flag (F.DIRTY.DL_SLOT0.EN j) && wr && atOk && base ≤ a &&
      g < s.get (F.DIRTY.DL_SLOT1.BITS j) then
    some (j, g, s.get (F.DIRTY.DL_SLOT0.OPEN j))
  else none

/-- Must a logged write wait: a line it marks is not in the coalescing cache and all 16,384 lines are in use (R302)? -/
def State.dlFull (s : State) (l : List (Nat × Nat × Nat)) : Bool :=
  let new := ((l.map fun m => dlKey m.1 m.2.2 (m.2.1 / 512)).eraseDups).countP fun k => (Tab.get? s.dirty.cache k).isNone
  decide (new ≠ 0 ∧ s.dirty.cache.length + new > 16384)

/-- Lines of the closed epoch still to be written back, shown in LINES_PEND. -/
def State.linesPend (s : State) : State :=
  let j := s.get F.DIRTY.DL_HARVEST.SLOT
  let ep := 1 - s.get (F.DIRTY.DL_SLOT0.OPEN j)
  s.set F.DIRTY.DL_STS.LINES_PEND
    (if s.get F.DIRTY.DL_HARVEST.STATE = 0 then 0 else min 65535 (s.dirty.cache.countP fun e => e.1 / 2 ^ 23 == 2 * j + ep))

/-- Tier 1 of the DRAM takes a request (R24). -/
def State.issueRead (s : State) : State := { s with core := { s.core with nextRead := s.core.nextRead + 1 } }

/-- Tier 1 serves its requests in the order they arrived, whatever the ingress (R24): no window read, context read or write-back older than the n-th
waits. -/
def State.oldestRead (s : State) (n : Nat) : Bool :=
  (s.core.miss.all fun e => e.2.all fun u => !(u.idx.isSome && decide (u.winRead < n)) && !(u.ctxWait && decide (u.ctxRead < n))) &&
    s.dirty.wb.all fun e => decide (n ≤ e.2)

/-- The write-back of some lines arrives at tier 1; one that waits there keeps its place. The lines of a slot that is being zeroed wait outside it
(R303). -/
def State.wbAsk (s : State) (ks : List Nat) : State :=
  let ks := ks.filter fun k => (Tab.get? s.dirty.wb k).isNone && !s.dirty.zeroing.contains (k / 2 ^ 24)
  { s with core := { s.core with nextRead := s.core.nextRead + 1 },
           dirty := { s.dirty with wb := ks.foldl (fun t k => Tab.put t k s.core.nextRead) s.dirty.wb } }

/-- Mark a granule. -/
def State.dlMark (s : State) (v : Nat) (i : Nat) (m : Nat × Nat × Nat) : State :=
  let k := dlKey m.1 m.2.2 (m.2.1 / 512)
  let s : State := { s with dirty := { s.dirty with cache := Tab.put s.dirty.cache k (withBit (Tab.getD s.dirty.cache k 0) (m.2.1 % 512) true) } }
  (s.count (Ctr.vh v 26) 1).ctxCount i [(14, 1)]

/-- Does tier 1 serve a line's write-back now: it is cached, its slot is not being zeroed, and nothing older waits (R24, R303)? -/
def State.wbDue (s : State) (k : Nat) : Bool :=
  (Tab.get? s.dirty.cache k).isSome && !s.dirty.zeroing.contains (k / 2 ^ 23 / 2) && (s.wbAsk [k]).oldestRead (Tab.getD (s.wbAsk [k]).dirty.wb k 0)

/-- A line is ORed into its bitmap in DRAM (R302); an uncorrectable line becomes all ones (R346). Nothing while its slot is being zeroed. An evicted
line takes its place in tier 1 and is written back once nothing older waits there. -/
def State.dlWriteback (s : State) (k : Nat) (bad : Bool) : State :=
  match Tab.get? s.dirty.cache k with
  | none => s
  | some x =>
    let j := k / 2 ^ 23 / 2
    if s.dirty.zeroing.contains j then s
    else
      let s := s.wbAsk [k]
      if !s.oldestRead (Tab.getD s.dirty.wb k 0) then s
      else
      let s := if bad then s.raise Ev.DL_UE { inst := j } else s
      let new := if bad then 2 ^ 512 - 1 else Nat.lor (Tab.getD s.dirty.dram k 0) x
      let s : State := { s with dirty := { s.dirty with cache := Tab.del s.dirty.cache k, wb := Tab.del s.dirty.wb k,
                                                        dram := Tab.setD s.dirty.dram k new 0 } }
      (((s.count (Ctr.dev 2) 1).dramUse 3 1)).linesPend

/-- Would the bitmaps of a slot be inside the region and clear of every other enabled slot's (R303)? -/
def State.dlFits (s : State) (j : Nat) : Bool :=
  let span (k : Nat) : Nat × Nat :=
    let o := s.get (F.DIRTY.DL_SLOT1.OFFSET k) * 4096
    (o, o + 2 * dlBytes (s.get (F.DIRTY.DL_SLOT1.BITS k)))
  let me := span j
  decide (me.2 ≤ s.get F.DIRTY.DL_CTL.REGION_MIB * 2 ^ 20) &&
    (List.range 256).all fun k => k == j || !s.flag (F.DIRTY.DL_SLOT0.EN k) || decide (me.2 ≤ (span k).1 ∨ (span k).2 ≤ me.1)

/-- A write of a word of DIRTY.DL_SLOT. -/
def State.wrDlSlot (s : State) (j w v : Nat) : State :=
  let en := s.flag (F.DIRTY.DL_SLOT0.EN j)
  if w = 1 then
    if en then s else s.sets [(F.DIRTY.DL_SLOT1.BITS j, bitsOf v 63 32), (F.DIRTY.DL_SLOT1.OFFSET j, bitsOf v 19 0)]
  else if en then (if bitOf v 11 then s else s.set (F.DIRTY.DL_SLOT0.EN j) 0)
  else
    let s := s.sets [(F.DIRTY.DL_SLOT0.BASE j, bitsOf v 63 12), (F.DIRTY.DL_SLOT0.GRAN j, bitsOf v 10 10), (F.DIRTY.DL_SLOT0.AT_SEL j, bitsOf v 9 8)]
    if !bitOf v 11 then s
    else if !s.dlFits j then s.set (F.DIRTY.DL_SLOT0.REFUSED j) 1
    else
      { s.sets [(F.DIRTY.DL_SLOT0.EN j, 1), (F.DIRTY.DL_SLOT0.REFUSED j, 0)] with
        dirty := { s.dirty with cache := s.dirty.cache.filter (fun e => e.1 / 2 ^ 24 != j),
                                wb := s.dirty.wb.filter (fun e => e.1 / 2 ^ 24 != j),
                                zeroing := (s.dirty.zeroing.filter (· ≠ j)) ++ [j] } }

/-- Both bitmaps of a slot are zero. -/
def State.dlZeroEnd (s : State) (j : Nat) : State :=
  if !s.dirty.zeroing.contains j then s
  else { s with dirty := { s.dirty with zeroing := s.dirty.zeroing.filter (· ≠ j), dram := s.dirty.dram.filter fun e => e.1 / 2 ^ 24 != j } }

/-- 64 B blocks of a slot's bitmap. -/
def State.dlBlocks (s : State) (j : Nat) : Nat := dlBytes (s.get (F.DIRTY.DL_SLOT1.BITS j)) / 64

/-- Both bitmaps of a slot have been zeroed, once the TABLE class has paid for every block of them (R303, R387). -/
def State.dlZeroed (s : State) (j : Nat) : State :=
  if !s.dirty.zeroing.contains j then s else s.budgeted 2 0 (2 * s.dlBlocks j) (.zero j) (fun s => s.dlZeroEnd j) (page := 0x45)

/-- A write of DIRTY.DL_CTL: REGION_MIB only while EN is 0, within 2,048 MiB. -/
def State.wrDlCtl (s : State) (v : Nat) : State :=
  let s := if !s.flag F.DIRTY.DL_CTL.EN && bitsOf v 47 32 ≤ 2048 then s.set F.DIRTY.DL_CTL.REGION_MIB (bitsOf v 47 32) else s
  s.set F.DIRTY.DL_CTL.EN (bitsOf v 63 63)

/-! ### Harvest (R304, R305) -/

def State.hvSlot (s : State) : Nat := s.get F.DIRTY.DL_HARVEST.SLOT
/-- The epoch the running harvest has closed. -/
def State.hvEpoch (s : State) : Nat := 1 - s.get (F.DIRTY.DL_SLOT0.OPEN s.hvSlot)
def State.hvState (s : State) (x : Nat) : State := (s.set F.DIRTY.DL_HARVEST.STATE x).linesPend

/-- Can bitmap writes reach the destination VH: its link up, its port open, Bus Master Enable set (R305, R444)? -/
def State.hvReach (s : State) : Bool :=
  let v := s.get F.DIRTY.DL_HARVEST.DEST_VH
  let p := s.get (F.VH.VH_BIND.HOST_PORT v)
  decide (v < 24) && s.vhBound v && s.role p == 1 && s.linkUp p && !s.closed p && s.bme v 32

/-- GO: the first fault found, or the swap of epochs; the flush takes the closed epoch's lines to tier 1 together (R302). -/
def State.hvGo (s : State) : State :=
  let j := s.hvSlot
  let v := s.get F.DIRTY.DL_HARVEST.DEST_VH
  let refuse (s : State) (f : Nat) : State := s.sets [(F.DIRTY.DL_HARVEST.RESULT, 2), (F.DIRTY.DL_HARVEST.FAULT, f)]
  if s.get F.DIRTY.DL_HARVEST.STATE ≠ 0 then refuse s 2
  else if !s.flag (F.DIRTY.DL_SLOT0.EN j) then refuse s 1
  else if v ≥ 24 ∨ s.get (F.VH.VH_BIND.STATE v) ≠ 2 ∨ !s.flag (F.GW.GW_RID.VALID v) then refuse s 3
  else
    let s := (s.sets [(F.DIRTY.DL_SLOT0.OPEN j, 1 - s.get (F.DIRTY.DL_SLOT0.OPEN j)), (F.DIRTY.DL_HARVEST.RESULT, 0), (F.DIRTY.DL_HARVEST.FAULT, 0)]).hvState 1
    s.wbAsk ((s.dirty.cache.map Prod.fst).filter fun k => k / 2 ^ 23 == 2 * j + s.hvEpoch)

/-- The closed bitmap is to be merged: after an ABORT, or a delivery that cannot complete. -/
def State.hvMerge (s : State) (abort : Bool) : State := ({ s with dirty := { s.dirty with abort := abort } } : State).hvState 6

/-- A write of DIRTY.DL_HARVEST: its fields change only between harvests; then the first action set. -/
def State.wrDlHarvest (s : State) (v : Nat) : State :=
  let st := s.get F.DIRTY.DL_HARVEST.STATE
  let s :=
    if st ≠ 0 then s
    else s.sets [(F.DIRTY.DL_HARVEST.MODE, bitsOf v 60 60), (F.DIRTY.DL_HARVEST.TC, bitsOf v 59 57), (F.DIRTY.DL_HARVEST.DEST_VH, bitsOf v 56 52),
      (F.DIRTY.DL_HARVEST.SLOT, bitsOf v 51 44), (F.DIRTY.DL_HARVEST.IRQ_EN, bitsOf v 32 32)]
  if bitOf v 62 && decide (1 ≤ st ∧ st ≤ 4) then s.hvMerge true
  else if bitOf v 61 && st == 4 then s.hvState 5
  else if bitOf v 63 then s.hvGo
  else s

/-- Bytes of the closed bitmap, a whole number of dwords. -/
def State.hvBytes (s : State) : List Byte :=
  let n := ((s.get (F.DIRTY.DL_SLOT1.BITS s.hvSlot) + 7) / 8 + 3) / 4 * 4
  ((List.range ((n + 63) / 64)).flatMap fun l => leBytes 64 (Tab.getD s.dirty.dram (dlKey s.hvSlot s.hvEpoch l) 0)).take n

/-- Bytes of a list in pieces. -/
def chunks (n : Nat) : Nat → List Byte → List (List Byte)
  | 0, _ => []
  | k + 1, l => if l.isEmpty then [] else l.take n :: chunks n k (l.drop n)

/-- One write of the bitmap, the next Max_Payload_Size bytes of it, leaves through the VH's HOST port with its gateway requester ID. -/
def State.hvPiece (s : State) (c : List Byte) : State :=
  let v := s.get F.DIRTY.DL_HARVEST.DEST_VH
  let s : State := { s with dirty := { s.dirty with ids := s.dirty.ids ++ [s.core.nextId], sendAt := s.dirty.sendAt + c.length } }
  s.inject { id := 0, src := 49, vh := some v, eg := some (s.get (F.VH.VH_BIND.HOST_PORT v)),
             t := { kind := .mwr, reqId := BitVec.ofNat 16 (s.get (F.GW.GW_RID.RID v)),
                    addr := BitVec.ofNat 64 (s.get F.DIRTY.DL_DEST.ADDR * 4096 + (s.dirty.sendAt - c.length)),
                    len := c.length, tc := BitVec.ofNat 3 (s.get F.DIRTY.DL_HARVEST.TC), data := c } }

/-- The pieces of the bitmap still to be sent. -/
def State.hvPieces (s : State) : List (List Byte) :=
  let rest := s.hvBytes.drop s.dirty.sendAt
  chunks (128 * 2 ^ min 5 (bitsOf (s.cfg (s.get F.DIRTY.DL_HARVEST.DEST_VH) 32 0x1E) 7 5)) rest.length rest

/-- DELIVER by DMA: each piece is one read of the bitmap within the TABLE class; the first that has no allowance waits for the next pitch, and the
others behind it (R24, R388). -/
def State.hvSend (s : State) : List (List Byte) → State
  | [] => s
  | c :: rest =>
    let n := (c.length + 63) / 64
    if s.canPay 2 0 n true then ((s.spend 2 0 n 0x45).hvPiece c).hvSend rest else s.defer ⟨2, 0, n, 0x45, true, .harvest⟩

/-- A piece that waited has been paid for: it leaves, and the delivery goes on. -/
def State.hvMore (s : State) : State :=
  if s.get F.DIRTY.DL_HARVEST.STATE = 3 && s.hvReach then
    match s.hvPieces with
    | [] => s
    | c :: rest => (s.hvPiece c).hvSend rest
  else s

/-- The closed epoch's lines are all written back, and the slot's bitmaps have been zeroed since EN was set (R303). -/
def State.hvFlushed (s : State) : State :=
  if s.get F.DIRTY.DL_HARVEST.STATE ≠ 1 || s.dirty.zeroing.contains s.hvSlot || s.dirty.cache.any (fun e => e.1 / 2 ^ 23 == 2 * s.hvSlot + s.hvEpoch) then s else s.hvState 2

/-- DELIVER begins. -/
def State.hvDeliver (s : State) : State := s.hvSend s.hvPieces

/-- No train stamped with the closed epoch remains in the device, one that waits for the gateway included. -/
def State.hvDrained (s : State) : State :=
  if s.get F.DIRTY.DL_HARVEST.STATE ≠ 2 || s.trainList.any (fun t => t.inBuffer && t.dl == some (s.hvSlot, s.hvEpoch)) ||
      s.core.gwWait.any (fun e => e.2.any fun g => g.tr.dl == some (s.hvSlot, s.hvEpoch)) then s
  else if s.flag F.DIRTY.DL_HARVEST.MODE then s.hvState 4
  else if !s.hvReach then s.hvMerge false
  else (({ s with dirty := { s.dirty with ids := [], sendAt := 0 } } : State).hvState 3).hvDeliver

def State.hvIrq (s : State) : State := if s.flag F.DIRTY.DL_HARVEST.IRQ_EN then s.raiseMsix (s.get F.DIRTY.DL_HARVEST.DEST_VH) 5 else s

/-- Has the last bitmap write been sent? -/
def State.hvSent (s : State) : Bool :=
  decide (s.hvBytes.length ≤ s.dirty.sendAt) && !((Tab.getD s.core.inq 49 []).any fun x => s.dirty.ids.contains x.id) &&
    !(s.trainList.any fun t => s.dirty.ids.contains t.id && t.inBuffer)

/-- DELIVER ends. -/
def State.hvDelivered (s : State) : State :=
  if s.get F.DIRTY.DL_HARVEST.STATE ≠ 3 then s
  else if !s.hvReach then s.hvMerge false
  else if s.hvSent then s.hvIrq.hvState 5 else s

/-- Remove a bitmap from DRAM: it reads zero. -/
def State.dlErase (s : State) (j ep : Nat) : State :=
  { s with dirty := { s.dirty with dram := s.dirty.dram.filter fun e => e.1 / 2 ^ 23 != 2 * j + ep } }

/-- The closed bitmap is zero: CLEAR ends. -/
def State.hvClearEnd (s : State) : State :=
  if s.get F.DIRTY.DL_HARVEST.STATE ≠ 5 then s
  else
    let s := s.dlErase s.hvSlot s.hvEpoch
    let s := if s.flag F.DIRTY.DL_HARVEST.MODE then s.hvIrq else s
    (s.set F.DIRTY.DL_HARVEST.RESULT 1).hvState 0

/-- CLEAR: the TABLE class pays for every block that is zeroed (R303, R387). -/
def State.hvCleared (s : State) : State :=
  if s.get F.DIRTY.DL_HARVEST.STATE ≠ 5 then s else s.budgeted 2 0 (s.dlBlocks s.hvSlot) .clear State.hvClearEnd (page := 0x45)

/-- MERGE ends: every line of the closed epoch, cached or in DRAM, has joined the open one; it waits while the slot is being zeroed, so that no mark is
lost (R303). -/
def State.hvMergeEnd (s : State) : State :=
  if s.get F.DIRTY.DL_HARVEST.STATE ≠ 6 || s.dirty.zeroing.contains s.hvSlot then s
  else
    let j := s.hvSlot
    let ep := s.hvEpoch
    let mine (t : Tab Nat) : Tab Nat := t.filter fun e => e.1 / 2 ^ 23 == 2 * j + ep
    let add (t : Tab Nat) (e : Nat × Nat) : Tab Nat :=
      let k := dlKey j (1 - ep) (e.1 % 2 ^ 23)
      Tab.put t k (Nat.lor (Tab.getD t k 0) e.2)
    let d := (mine s.dirty.cache ++ mine s.dirty.dram).foldl add s.dirty.dram
    let s := ({ s with dirty := { s.dirty with dram := d, cache := s.dirty.cache.filter fun e => e.1 / 2 ^ 23 != 2 * j + ep,
                                               wb := s.dirty.wb.filter fun e => e.1 / 2 ^ 23 != 2 * j + ep } } : State).dlErase j ep
    let s := (s.raise Ev.DL_MERGE { inst := j }).hvIrq
    (s.set F.DIRTY.DL_HARVEST.RESULT (if s.dirty.abort then 3 else 4)).hvState 0

/-- MERGE: the TABLE class pays for a read and a write of every block of both bitmaps (R24, R387; notes/assumptions/109.md). -/
def State.hvMerged (s : State) : State :=
  if s.get F.DIRTY.DL_HARVEST.STATE ≠ 6 || s.dirty.zeroing.contains s.hvSlot then s
  else s.budgeted 2 0 (4 * s.dlBlocks s.hvSlot) .merge State.hvMergeEnd (page := 0x45)

end Sys2Proof.Machine
end

