-- ==== Sys2Proof/Machine/Fabric.lean ====
section
/-! DEFINITION. The fabric: choice of a route, ascent and descent, conversion at the gateway, ORT entries, local delivery checks and the node's
registers (09_fabric_mode.md R249 to R279). -/
namespace Sys2Proof.Machine

/-! ### Route table (R252 to R259) -/

def State.node (s : State) : Nat := s.get F.ROUTE.NODE_ID.ID
/-- Does a port lead up (R257)? -/
def State.leadsUp (s : State) (p : Nat) : Bool := bitOf (s.get F.ROUTE.PORT_DIR.UP) p

/-- Ports listed for a node. -/
def State.listed (s : State) (n : Nat) : List Nat :=
  ([s.get (F.ROUTE.RT_ENTRY.PORT0 n), s.get (F.ROUTE.RT_ENTRY.PORT1 n), s.get (F.ROUTE.RT_ENTRY.PORT2 n), s.get (F.ROUTE.RT_ENTRY.PORT3 n)]).take
    (s.get (F.ROUTE.RT_ENTRY.NM1 n) + 1)

/-- Is a listed port available, leaving its direction aside (R253)? -/
def State.fabUp (s : State) (p : Nat) : Bool :=
  decide (p < 48) && s.role p == 3 && s.flag (F.STN.LINK_STS.LINK_UP p) && s.get (F.STN.HLL_STS.STATE p) == 2

/-- Flow key and hash (R254). -/
def State.flowHash (s : State) (h : Hdr) : Nat :=
  let k := Nat.xor (Nat.xor (Nat.xor (Nat.xor (Nat.xor h.src h.dst) (h.svh * 32)) h.dvh) (h.tc * 1024)) (s.get F.ROUTE.ROUTE_CFG.HASH_SEED)
  Nat.xor (Nat.xor k (k / 16)) (k / 256) % 16

/-- The number of a flow, for the moves the device counts (R255). -/
def flowKey (h : Hdr) : Nat := (((h.src * 32 + h.svh) * 4096 + h.dst) * 32 + h.dvh) * 8 + h.tc

/-- The port a packet takes among those listed, with an availability test (R254). -/
def State.pickPort (s : State) (h : Hdr) (ok : Nat → Bool) : Option Nat :=
  let l := s.listed h.dst
  let n := l.length
  let i := s.flowHash h % n
  let first := l.getD i 0
  if ok first then some first
  else
    let partner := match s.ropeOf first with
      | some m => some (s.ropeOther m first)
      | none => none
    match partner with
    | some q => if l.contains q && ok q then some q else ((List.range n).map fun k => l.getD ((i + 1 + k) % n) 0).find? ok
    | none => ((List.range n).map fun k => l.getD ((i + 1 + k) % n) 0).find? ok

/-- Route lookup of a packet for another node: a port, or the cause of the drop. A descending packet whose only available ports lead up would
climb. -/
def State.routePort (s : State) (h : Hdr) : Except Nat Nat :=
  if !s.flag (F.ROUTE.RT_ENTRY.VALID h.dst) then .error 1
  else
    match s.pickPort h fun p => s.fabUp p && !(h.desc && s.leadsUp p) with
    | some p => .ok p
    | none => if (s.listed h.dst).any s.fabUp then .error 2 else .error 1

/-- Note the port of a flow; a change that is not to the rope partner is a move (R255). -/
def State.noteFlow (s : State) (h : Hdr) (p : Nat) : State :=
  let k := flowKey h
  let old := Tab.get? s.fab.flows k
  let s : State := { s with fab := { s.fab with flows := Tab.put s.fab.flows k p } }
  match old with
  | none => s
  | some q =>
    if q = p then s
    else
      let pair := match s.ropeOf q with
        | some m => s.ropeOther m q == p
        | none => false
      if pair then s
      else ((s.addSat F.ROUTE.ROUTE_STS.FLOW_MOVES 1).count (Ctr.dev 47) 1).raise Ev.FLOW_MOVE { inst := p }

def State.hopLimit (s : State) : Nat := max 2 (s.get F.ROUTE.ROUTE_CFG.HOP_LIMIT)

/-- A packet leaving by a port (R258): its class, DESC and HOPS, or the cause of its drop. `vc` is the VC it came on, none for a new one. -/
def State.departs (s : State) (h : Hdr) (vc : Option Nat) (p : Nat) : Except Nat (Nat × Hdr) :=
  let hops := if vc.isNone then 0 else h.hops + 1
  let up := s.leadsUp p
  let req : Bool := decide (h.op ≤ 5)
  if req then
    match vc, up with
    | some 1, true => .error 2
    | _, _ =>
      if hops ≥ s.hopLimit then .error 4
      else if up then .ok (3, { h with hops := hops, desc := false }) else .ok (4, { h with hops := hops, desc := true })
  else
    let cls := if h.op = 8 ∨ h.op = 9 then 5 else 6
    if h.desc && up then .error 2
    else if hops ≥ s.hopLimit then .error 4
    else .ok (cls, { h with hops := hops, desc := h.desc || !up })

/-- Route a packet to another node: egress, class and header, or the cause of its drop. -/
def State.routeHal (s : State) (h : Hdr) (vc : Option Nat) : Except Nat (Nat × Nat × Hdr) :=
  match s.routePort h with
  | .error c => .error c
  | .ok p =>
    match s.departs h vc p with
    | .error c => .error c
    | .ok (cls, h') => .ok (p, cls, h')

/-- Does a request's arrival contradict the direction of its port (R258)? -/
def State.dirBad (s : State) (h : Hdr) (vc p : Nat) : Bool :=
  decide (1 ≤ h.op ∧ h.op ≤ 5) && ((vc == 0 && s.leadsUp p) || (vc == 1 && !s.leadsUp p))

/-! ### Conversion (R250, R251, R260 to R265) -/

def opOf : TlpKind → Nat
  | .mwr => 1
  | .mrd => 2
  | .fetchAdd => 3
  | .swap => 4
  | .cas => 5
  | _ => 0
def kindOfOp (op : Nat) : TlpKind := if op = 1 then .mwr else if op = 2 then .mrd else if op = 3 then .fetchAdd else if op = 4 then .swap else .cas

/-- A TLP as a transaction for a node, port and VH. -/
def State.toHal (s : State) (v : Nat) (t : Tlp) (node port tvh tag : Nat) : Hdr :=
  { op := opOf t.kind, dst := node, src := s.node, dport := port, dvh := tvh, svh := v, tc := t.tc.toNat, ns := t.ns, ro := t.ro, ido := t.ido,
    ep := t.ep, at2 := t.at2.toNat, addr := t.addr.toNat, len := t.data.length, rlen := if t.kind == .mrd then t.len else 0,
    fbe := t.fbe.toNat, lbe := t.lbe.toNat, reqId := t.reqId.toNat, pasid := (t.pasid.getD 0).toNat, pv := t.pasid.isSome,
    pmr := t.pasid.isSome && t.pmr, exe := t.pasid.isSome && t.exe, wtag := tag % 2 ^ 24 }

/-- A delivered request as a TLP of its target VH (R265), toward a port. -/
def State.fromHal (s : State) (h : Hdr) (data : List Byte) (p v : Nat) : Tlp :=
  let pasid : Bool := h.pv && s.flag (F.GW.PORT_CFG.PASID_FWD p)
  { kind := kindOfOp h.op, reqId := BitVec.ofNat 16 (s.get (F.GW.GW_RID.RID v)), tag := 0, addr := BitVec.ofNat 64 h.addr,
    len := if h.op = 2 then h.rlen else h.len, fbe := BitVec.ofNat 4 h.fbe, lbe := BitVec.ofNat 4 h.lbe, tc := BitVec.ofNat 3 h.tc, ro := h.ro,
    ido := h.ido, ns := h.ns, at2 := BitVec.ofNat 2 h.at2, ep := h.ep,
    pasid := if pasid then some (BitVec.ofNat 20 h.pasid) else none, pmr := pasid && h.pmr, exe := pasid && h.exe, data := data }

/-- Largest payload sent to a port (R263). -/
def State.mpsOf (s : State) (p : Nat) : Nat := let m := s.get (F.GW.PORT_CFG.MPS p); 128 * 2 ^ (if m ≥ 6 then 0 else m)

/-- Pieces of a payload at naturally aligned boundaries of a size, from an address. -/
def splitAt (size : Nat) : Nat → Nat → List Byte → List (List Byte)
  | 0, _, _ => []
  | fuel + 1, a, l =>
    let n := size - a % size
    if l.length ≤ n then [l] else l.take n :: splitAt size fuel (a + n) (l.drop n)

/-- A write as the gateway sends it to a port: split at its MPS, first and last byte enables at the ends (R263). -/
def State.splitWrite (s : State) (p : Nat) (t : Tlp) : List Tlp :=
  let ps := splitAt (s.mpsOf p) (t.data.length + 1) t.addr.toNat t.data
  if ps.length ≤ 1 then [t]
  else
    let n := ps.length
    (List.range n).map fun i =>
      let off := ((ps.take i).map List.length).sum
      let d := ps.getD i []
      { t with addr := BitVec.ofNat 64 (t.addr.toNat + off), len := d.length, data := d, fbe := if i = 0 then t.fbe else if i + 1 = n ∧ d.length ≤ 4 then t.lbe else 0xF,
               lbe := if d.length ≤ 4 then 0 else if i + 1 = n then t.lbe else 0xF }

/-- A completion as the gateway sends it to a port, split where the PCIe specification allows. -/
def State.splitCpl (s : State) (p : Nat) (t : Tlp) : List Tlp :=
  let ps := splitAt (s.mpsOf p) (t.data.length + 1) t.lowAddr.toNat t.data
  if ps.length ≤ 1 then [t]
  else
    (List.range ps.length).map fun i =>
      let off := ((ps.take i).map List.length).sum
      let d := ps.getD i []
      { t with byteCount := t.byteCount - off, lowAddr := BitVec.ofNat 7 (t.lowAddr.toNat + off), len := d.length, data := d }

/-- The checks of a request delivered at this node, in the order of R265. -/
def State.localFault (s : State) (h : Hdr) : Option Nat :=
  if h.dport > 47 ∨ h.dvh > 23 then some 0xB
  else if !s.serves h.dport h.dvh then some 5
  else if !s.linkUp h.dport || s.closed h.dport then some 6
  else if !s.flag (F.GW.GW_RID.VALID h.dvh) then some 7
  else none

/-! ### The ORT (R262, R266, R267) -/

/-- Data bytes of the response to a request. -/
def respBytes (t : Tlp) : Nat := if isRead t.kind then t.len else if t.kind == .cas then t.data.length / 2 else t.data.length
/-- Carriages reserved for it. -/
def respRsv (n : Nat) : Nat := (32 + n + 63) / 64

/-- Tiers of an entry of a kind toward a port, in the order taken: (first, one past last). -/
def State.ortTiers (s : State) (kind p : Nat) : List (Nat × Nat) :=
  let a := (0, 256)
  let b := (256, 1024)
  let c := (1024, 16128)
  if kind = 0 then [(16128, 16384), c, b, a]
  else
    let n := s.get (F.GW.PORT_CFG.TAG_BITS p)
    if n = 2 then [c, b, a] else if n = 1 then [b, a] else [a]

/-- Free entries of the first permitted tier that has any. -/
def State.ortFreeList (s : State) (kind p : Nat) : List Nat :=
  ((s.ortTiers kind p).map fun r => ((List.range (r.2 - r.1)).map (r.1 + ·)).filter fun e => (s.ort? e).isNone).find? (· ≠ []) |>.getD []

/-- Do the conditions of R266 hold for a request of a VH, beside a free entry? -/
def State.ortRoom (s : State) (kind v rsv : Nat) : Bool :=
  let out := s.fab.ort.countP fun e => e.2.kind != 1
  let mine := s.fab.ort.countP fun e => e.2.kind != 1 && e.2.vh == v
  (kind == 1 || (decide (out < 16384 - max 256 (s.get F.GW.ORT_CFG.INBOUND_RSV)) && decide (mine < s.get F.GW.ORT_CFG.VH_MAX))) &&
    decide (s.get F.GW.GW_STS.RSV_USED + rsv ≤ s.get F.GW.ORT_CFG.RSV_MAX) &&
    decide (s.get F.BUF.SHARED_STS.SHARED_USED + rsv ≤ s.get F.BUF.SHARED_STS.SHARED_SIZE)

/-- May a request take an entry now? -/
def State.ortCan (s : State) (kind p v rsv : Nat) : Bool := s.ortRoom kind v rsv && !(s.ortFreeList kind p).isEmpty

/-- Take an entry: which of the tier's free entries is a free choice (notes/assumptions/9.md). -/
def State.ortTake (s : State) (kind p : Nat) (o : Ort) : Nat × State :=
  let l := s.ortFreeList kind p
  let (x, s) := s.free
  let e := l.getD (x % l.length) 0
  let s := ((s.addF F.BUF.SHARED_STS.SHARED_USED o.rsv).addF F.GW.GW_STS.RSV_USED o.rsv).peakShared
  (e, ((s.putOrt e o).ortSts).count (Ctr.vh o.vh 9) 1)

def State.epochOf (s : State) (e : Nat) : Nat := Tab.getD s.fab.epoch e 0

/-- An entry's completion timeout (R270). -/
def State.ortExpire (s : State) (e : Nat) : State :=
  match s.ort? e with
  | none => s
  | some o =>
    if o.quar then s
    else
      let s := (s.ortAbort e).addSat F.GW.GW_STS.TIMEOUTS 1
      (s.count (Ctr.vh o.vh 11) 1).raise Ev.CPL_TIMEOUT { inst := o.src, key := o.vh, detail := 1, w := ortW e o,
                                                                  ingress := s.ingressOf o.src o.req.reqId.toNat }

/-- End of a quarantine: the entry's EPOCH advances and it is free (R270). -/
def State.ortUnquar (s : State) (e : Nat) : State :=
  match s.ort? e with
  | none => s
  | some o =>
    if !o.quar then s
    else ({ s with fab := { s.fab with ort := Tab.del s.fab.ort e, epoch := Tab.setD s.fab.epoch e ((s.epochOf e + 1) % 16) 0 } } : State).ortSts

/-! ### Registers (R249, R274) -/

/-- A write of ROUTE.NODE_ID. -/
def State.wrNodeId (s : State) (v : Nat) : State :=
  if (List.range 48).any fun p => s.role p == 3 then s.set F.ROUTE.NODE_ID.REFUSED 1
  else s.sets [(F.ROUTE.NODE_ID.ID, bitsOf v 11 0), (F.ROUTE.NODE_ID.REFUSED, 0)]

/-- A write of GW.PFN_POP: the oldest entries are freed. -/
def State.wrPfnPop (s : State) (v : Nat) : State :=
  let head := s.get F.GW.PFN_STS.HEAD
  let n := min (bitsOf v 8 0) (s.get F.GW.PFN_STS.COUNT)
  let s := (List.range n).foldl (fun s k => s.set (F.GW.PFN_LOG0.VALID ((head + k) % 256)) 0) s
  s.sets [(F.GW.PFN_STS.HEAD, (head + n) % 256), (F.GW.PFN_STS.COUNT, s.get F.GW.PFN_STS.COUNT - n)]

/-- A PFN addressed to this node (R273): what it says of the failed transaction. -/
def State.pfnRx (s : State) (h : Hdr) : State :=
  s.pfnEnter { np := h.np, cause := h.cause, tnode := h.ftag % 4096, rnode := h.src, tport := h.dport, tvh := h.dvh, ovh := h.svh, tc := h.tc,
               addr := h.addr, reqId := h.reqId, len := h.rlen, wtag := h.wtag }

end Sys2Proof.Machine
end

