-- ==== Sys2Proof/Machine/Admit.lean ====
section
/-! DEFINITION. Admission of a routed train: its carriages and account, its planes, the posted hold, the cut-through mark, its cairn
(06_switch_core.md R165 to R169, R178, R182, R186; 07_buffer_multicast.md R199, R204, R205, R214; 09_fabric_mode.md R264, R267;
14_telemetry.md R404, R405). -/
namespace Sys2Proof.Machine

/-! ### Cairns (R404, R405) -/

/-- One step of the Galois LFSR of R404, shifting right (notes/assumptions/21.md). -/
def lfsrNext (x : Nat) : Nat := if x % 2 = 1 then Nat.xor (x / 2) 0x80200003 else x / 2

/-- Entries of the cairn table in use, shown in TRACE.STS.IN_FLIGHT. -/
def State.cairnSts (s : State) : State := s.set F.TRACE.STS.IN_FLIGHT (s.tele.cairns.countP fun c => !c.2.done)

/-- A train finishes lookup: its LFSR advances, and the train is tagged if every condition holds. -/
def State.tagTrain (s : State) (t : Train) (time : Nat) : State :=
  let x := lfsrNext (Tab.getD s.tele.lfsr t.x 1)
  let s : State := { s with tele := { s.tele with lfsr := Tab.put s.tele.lfsr t.x x } }
  let want := s.flag F.TRACE.TAG_CTL.EN && bitOf (s.get F.TRACE.PORT_MASK.MASK) t.src && bitOf (s.get F.TRACE.TAG_CTL.CLASS_MASK) t.cls &&
    x % 2 ^ min 24 (s.get F.TRACE.TAG_CTL.K) == 0
  if !want then s
  else if s.tele.cairns.length ≥ 256 then s.count (Ctr.dev 40) 1
  else
    let n := s.cycles time
    let c : Cairn := { train := t.id, inPort := t.src, outPort := t.dst, cls := t.cls, tc := t.tc, vh := t.vh, len := t.bytes, ct := t.ct,
                       gen := t.gen % 16, time := time, stages := [n, n, 0, 0, 0, 0], reqId := t.rx.reqId.toNat, tag := t.rx.tag.toNat,
                       dstNode := match t.hal with
                         | some h => h.dst
                         | none => 0,
                       addr := match t.hal with
                         | some h => h.addr
                         | none => if isMem t.t.kind then t.t.addr.toNat else 0 }
    ({ s with tele := { s.tele with cairns := Tab.put s.tele.cairns t.id c } } : State).cairnSts.count (Ctr.dev 39) 1

/-! ### Planes and tokens (R168, R178) -/

/-- Planes in the active list. -/
def State.activePlanes (s : State) : List Nat := (List.range 5).filter fun n => s.get (F.PLANE.STS.STATE n) != 2

/-- Couplings of n carriages given their planes: the train's start on the rotation, coupling by coupling. -/
def State.planesFor (s : State) (start ncar : Nat) : List Cpl :=
  let l := s.activePlanes
  (List.range ((ncar + 3) / 4)).map fun c => { plane := l.getD ((start + c) % max l.length 1) 0 }

/-- Yard slots a train holds toward a port: couplings offered and not yet sent. -/
def Train.slots (t : Train) (big : Bool) : Nat :=
  let n := (t.legs.map fun l => l.cpls.countP fun c => c.st != 0).sum
  if !t.inBuffer || (t.copies.isEmpty && t.released) then 0 else n - t.freed big

/-- Tokens of an ingress plane port for an egress port that it has spent (R178). -/
def State.tokenUsed (s : State) (x dst : Nat) : Nat :=
  (s.trainList.map fun t => if t.x = x ∧ t.dst = dst ∧ !t.mcast then t.slots (s.bigTrain t) else 0).sum

/-- Egress instances of a plane port. -/
def instsAt (y : Nat) : List Nat := if y < 12 then [4 * y, 4 * y + 1, 4 * y + 2, 4 * y + 3] else [y + 36]

/-- Urgent core classes (R167). -/
def urgentClass (c : Nat) : Bool := c == 2 || c == 5 || c == 6

/-- Does an ingress hold a token for a port: one of its own, or, for an urgent coupling, one of the eight slots of the port's yard that no ingress
holds tokens for (R178)? -/
def State.hasToken (s : State) (x dst cls : Nat) : Bool :=
  decide (s.tokenUsed x dst < s.tokenMax dst) ||
    (urgentClass cls && decide (((instsAt (planePort dst)).map fun e =>
      ((List.range 14).map fun x' => s.tokenUsed x' e - s.tokenMax e).sum).sum < 8))

/-! ### Holds (R186, R187, R264) -/

/-- The ID an IDO comparison uses: a completion's completer, else the requester. -/
def idoId (t : Tlp) (h : Option Hdr) : Nat := match h with
  | some h => h.reqId
  | none => if isCplKind t.kind then t.cplId.toNat else t.reqId.toNat

/-- Requester of a posted train. -/
def Train.reqOf (t : Train) : Nat := match t.hal with
  | some h => h.reqId
  | none => t.t.reqId.toNat

/-- Does a train count on a path (ingress port, egress port, TC)? -/
def Train.onPath (t : Train) (src dst tc : Nat) : Bool := t.src == src && t.tc == tc && (t.dst == dst || (t.mcast && t.members.contains dst))

/-- HOLD of a train about to enter its VOQ; `ord` is the number of its header. A train that IDO exempts is held behind an earlier posted one of its ID
that has yet to be transmitted. -/
def State.holdOf (s : State) (ord src dst tc cls : Nat) (t : Tlp) (hal : Option Hdr) : Bool :=
  let (ro, ido) := match hal with
    | some h => (h.ro, h.ido)
    | none => (t.ro, t.ido)
  let np := match hal with
    | some h => decide (2 ≤ h.op ∧ h.op ≤ 5)
    | none => isNpKind t.kind
  let cpl := cls == 2 || cls == 5
  if cls = 6 then false
  else if np && !ido then true
  else if cpl && !ro && !ido then true
  else if ido && (np || (cpl && !ro)) then
    s.trainList.any fun u => u.posted && decide (u.ord ≤ ord) && u.onPath src dst tc && u.reqOf == idoId t hal &&
      (!u.released || u.copies.any fun c => !u.mcast || c.port == dst)
  else false

/-! ### Couplings at an output (R173) -/

/-- Parked requests at a plane output, one bit per input (R173). -/
def State.biv (s : State) (n y : Nat) : Nat :=
  (List.range 14).foldl (fun b i => if bitOf (s.get (F.PLANE.OUT_STS.BIV n y)) i && s.requested i n y then b + 2 ^ i else b) 0

/-! ### Cut-through (R182) -/

/-- Transfer rate of a RATE code, in tenths of a GT/s. -/
def rateOf (code : Nat) : Nat := [25, 50, 80, 160, 320, 640, 1280].getD code 0

/-- Is a train marked cut-through at VOQ entry? `pl` is the plane of its first coupling. The Hut and the management endpoint, which have no link to
be slower than an egress port's, meet the condition on rates as an ingress too (DESIGN CHOICE, notes/assumptions/83.md). -/
def State.ctMark (s : State) (src x dst cls pl : Nat) : Bool :=
  let voqEmpty := !(s.trainList.any fun t => t.x == x && t.dst == dst && t.cls == cls && t.legs.any fun l => l.cpls.any fun c => decide (c.st ≤ 1))
  let idle := !(s.trainList.any fun t => t.inBuffer &&
    (t.copies.any (fun c => c.port == dst) ||
      t.legs.any fun l => (if t.mcast then l.ports.contains dst else t.queuedAt == dst) &&
        l.cpls.any fun c => c.st == 3 || (decide (dst ≥ 48) && c.st == 4 && !t.released)))
  let grant := s.biv pl (planePort dst) == 0 && s.hasToken x dst cls
  let bw (p : Nat) : Nat := rateOf (s.get (F.STN.LINK_STS.RATE p)) * s.get (F.STN.LINK_STS.ACTIVE_WIDTH p)
  let rate := decide (dst ≥ 48) || decide (src ≥ 48) || decide (bw src ≥ bw dst)
  let off := bitOf (s.get (F.EGR.YARD_CTL.CT_DIS (planePort dst))) (if dst < 48 then dst % 4 else 0)
  voqEmpty && idle && grant && rate && !off

/-! ### The allocator (07_buffer_multicast.md R196 to R198) -/

/-- Does the allocator take carriages from a logical bank: it is mapped, and is neither being copied nor leaving (R211, R212)? -/
def State.bankOpen (s : State) (b : Nat) : Bool := !s.core.unmapped.contains b && !(s.core.draining.any fun e => e.1 == b) && s.core.copying != some b

/-- The lowest row that is not in a list, of the first n from k. -/
def lowestRow (used : List Nat) : Nat → Nat → Option Nat
  | 0, _ => none
  | n + 1, k => if k ≥ 8192 then none else if used.contains k then lowestRow used n (k + 1) else some k

/-- A free row of a bank: the lowest (DESIGN CHOICE, notes/assumptions/106.md). `mine` are carriages just taken. -/
def State.freeRow (s : State) (mine : List Nat) (b : Nat) : Option Nat :=
  let used := ((s.trainList.flatMap Train.heldCars) ++ s.core.carsHeld ++ mine).filterMap fun c => if c / 8192 = b then some (c % 8192) else none
  lowestRow used (used.length + 1) 0

/-- The next carriage of an ingress plane port (R197): the rotation through the logical banks goes on from where it stands, past banks that are
not open or have no free row, and past the banks of the port's previous seven carriages. A port's rotation starts at bank 9 x (DESIGN CHOICE,
notes/assumptions/106.md). -/
def State.takeCar (s : State) (x : Nat) (mine : List Nat) : Option Nat × State :=
  let (next, last) := Tab.getD s.core.alloc x (9 * x % 128, [])
  let order := (List.range 128).map fun k => (next + k) % 128
  let take (b : Nat) : Option (Nat × Nat) := if s.bankOpen b && !last.contains b then (s.freeRow mine b).map fun r => (b, r) else none
  match order.findSome? take with
  | none => (none, s)
  | some (b, r) =>
    (some (8192 * b + r), { s with core := { s.core with alloc := Tab.put s.core.alloc x ((b + 1) % 128, (b :: last).take 7) } })

/-- Take n carriages, in the order of the train. -/
def State.takeCars (s : State) (x : Nat) : Nat → List Nat → List Nat × State
  | 0, mine => (mine, s)
  | n + 1, mine =>
    match s.takeCar x mine with
    | (some c, s) => s.takeCars x n (mine ++ [c])
    | (none, s) => s.takeCars x n mine

/-- Holders that will still read a train (R198): the copies not yet sent, or sent on a rope pair and not covered, and the siding while a station lacks
a coupling. -/
def State.refsOf (s : State) (t : Train) : Nat :=
  (if t.mcast then (t.members.filter fun p => s.retainedOn (t.unacked.filter (· == p)) || t.copies.any (fun c => c.port == p) ||
      t.legs.any fun l => l.ports.contains p && l.cpls.any fun c => c.st != 4).length else 1) +
    b2n (t.legs.any fun l => l.cpls.any fun c => c.st == 5)

/-- What the state word of a carriage holds (R198): the next carriage of its train, its account, its census epoch bit, and for a header carriage the
train's carriage count, credit charge and reference count. -/
structure StateWord where
  next : Option Nat := none
  acct : Acct := .none
  epoch : Bool := false
  count : Option Nat := none
  charge : Option (Nat × Nat × Nat × Nat × Nat) := none
  refs : Nat := 0
deriving DecidableEq, Repr

/-- The state word of a carriage: of a free one, with no account. Its reference count is the number of holders, but where the census has read another
there (R209). -/
def State.stateWord (s : State) (c : Nat) : StateWord :=
  match s.trainList.find? fun t => t.heldCars.contains c with
  | none => {}
  | some t =>
    let head : Bool := t.cars.head? == some c
    { next := ((t.heldCars.dropWhile (· != c)).drop 1).head?, acct := t.acct, epoch := t.epoch, count := if head then some t.ncar else none,
      charge := if head then t.charge else none, refs := if head then t.refSeen.getD (min 63 (s.refsOf t)) else 0 }

/-! ### Admission -/

/-- Attachments a train is routed under: the vDSP it came through, and those at its egress port (R288). -/
def State.attOf (s : State) (vh fn dst : Nat) : List (Nat × Nat) :=
  let i := if 1 ≤ fn ∧ fn < 32 then [(vh, fn)] else []
  let e := if dst < 48 then (match s.vdspOfPort dst with
    | some x => [x]
    | none => []) ++ (if vh < 24 then ((List.range 32).filter fun d => s.get (F.VH.VDSP.KIND vh d) == 3 && s.get (F.VH.VDSP.STATE vh d) != 0 &&
        s.get (F.VH.VDSP.PORT vh d) == dst).map fun d => (vh, d) else [])
    else []
  (i ++ e).eraseDups

/-- May a train's head be on the egress link before its tail has come: a cut-through train, of more couplings than the two it starts on (R182, R183)? -/
def State.headGoes (s : State) (src dst cls hsz dsz : Nat) : Bool :=
  let n := carriages hsz dsz
  let cpls := s.planesFor (Tab.getD s.core.rot (planePort src) 0) n
  decide (dst < 48) && decide (cpls.length > 2) && s.ctMark src (planePort src) dst cls ((cpls.headD { plane := 0 }).plane)

/-- Build the train of a draft. -/
def State.buildTrain (s : State) (d : Draft) (id : Nat) : Train :=
  let x := planePort d.it.src
  -- a train built or converted here is stored in the form of its egress port, any other as it came (R165)
  let made : Bool := d.it.hal.isSome || d.it.vh.isSome || decide (d.it.src ≥ 48) || d.tvh.isSome || d.ort.isSome || d.resp.isSome
  let hsz := if d.hal.isSome then 32 else tlpHdrBytes (if made then s.flitPort d.dst else d.it.flit) d.t
  let dsz := d.t.data.length
  let n := (carriages hsz dsz)
  let start := Tab.getD s.core.rot x 0
  let tc := match d.hal with
    | some h => h.tc
    | none => d.t.tc.toNat
  let cpls := s.planesFor start n
  let legs :=
    if d.dst = 63 then ((d.ports.map planePort).eraseDups.map fun y => ({ y := y, ports := d.ports.filter fun p => planePort p == y, cpls := cpls } : Leg))
    else [{ y := planePort d.dst, ports := [d.dst], cpls := cpls }]
  { id := id, src := d.it.src, x := x, vh := d.vh, rx := d.it.t, rxHal := d.it.hal, t := d.t, hal := d.hal, cls := d.cls, tc := tc, dst := d.dst,
    hsz := hsz, dsz := dsz, hold := d.dst != 63 && s.holdOf d.it.id d.it.src d.dst tc d.cls d.t d.hal,
    ct := d.dst != 63 && s.ctMark d.it.src x d.dst d.cls ((cpls.headD { plane := 0 }).plane), gen := d.gen, stamp := d.stamp, dl := d.dl,
    att := d.att, queue := d.queue, bad := d.bad, acct := match d.rsv with
      | some e => .rsv e
      | none => .pool d.it.src d.it.pool,
    charge := if d.last && d.rsv.isNone then d.it.charge else none, legs := legs, wtag := d.tag, mcGroup := d.group, ort := d.ort,
    resp := d.resp.map fun e => (e, d.t.data.length, d.t.status != .sc), tvh := d.tvh,
    inVc := if d.it.hal.isSome && d.it.vh.isNone then some d.it.vc else none,
    ord := d.it.id, adm := s.core.nextAdm, shareIn := s.get (F.BUF.PORT_LIMIT.SHARE_IN d.it.src),
    outp := if d.dst = 63 then s.smallestOut d.ports else d.dst,
    shareOut := s.get (F.BUF.PORT_LIMIT.SHARE_OUT (if d.dst = 63 then s.smallestOut d.ports else d.dst)),
    retainMax := ((if d.dst = 63 then d.ports else [d.dst]).flatMap fun p => p :: ((s.ropeNamed p).map fun m => s.ropeOther m p).toList).map fun p =>
      (p, s.get (F.BUF.PORT_LIMIT.RETAIN_MAX p)),
    epoch := s.core.epoch,
    outs := match d.hal with
      | some h => if d.dst = 63 then d.ports.filterMap (fun p => if s.role p = 3 then (match s.departs h (d.it.hal.map fun _ => d.cls - 3) p with
          | .ok x => some (p, x)
          | .error _ => none) else none) else []
      | none => [] }

/-- Move what the pool of a train may move (R205): at admission. -/
def State.shareOne (s : State) (p q : Nat) : State := s.sharePool (s.poolTrains p q)

/-- Admit a train. A response charged to an ORT reservation takes from it, and its credits return at once (R267). -/
def State.enterCore (s : State) (d : Draft) (id : Nat) : State :=
  let t := s.buildTrain d id
  let (cars, s) := s.takeCars t.x t.ncar []
  let t := { t with cars := cars }
  let s : State := if s.core.marks = [] then s else { s with core := { s.core with marks := s.core.marks.filter fun c => !cars.contains c } }
  let s : State := { s with core := { s.core with rot := Tab.put s.core.rot t.x (Tab.getD s.core.rot t.x 0 + 1), nextAdm := s.core.nextAdm + 1 } }
  let s := match d.rsv with
    | some e =>
      let have' := match s.ort? e with
        | some o => o.rsv
        | none => 0
      let s := match s.ort? e with
        | some o => s.putOrt e { o with rsv := o.rsv - t.ncar }
        | none => s
      let s := ((s.addF F.BUF.SHARED_STS.SHARED_USED (t.ncar - have')).addF F.GW.GW_STS.RSV_USED (t.ncar - have')).peakShared
      if d.last then s.returnCredits d.it.charge else s
    | none => s
  let s := (s.charge t t.acct).putTrain t
  let s := if d.it.src < 48 then
      ((if d.last then s.count (Ctr.port d.it.src 13) 1 else s).count (Ctr.port d.it.src 14) t.bytes)
    else s
  let ep := match d.it.hal with
    | some h => h.ep
    | none => d.it.t.ep
  let s := if ep && d.last && d.it.vh.isNone && d.it.src < 48 then s.count (Ctr.port d.it.src 24) 1 else s
  let s := if t.mcast && t.mcGroup.isSome then s.count (Ctr.vh t.vh 27) 1 else s
  let s := s.tagTrain t d.it.time
  let s := match t.acct with
    | .pool p q => (s.noteFull p q).shareOne p q
    | _ => s
  (s.refreshQueues t).drainGen

/-- The next train number. -/
def State.newId (s : State) : Nat × State := (s.core.nextId, { s with core := { s.core with nextId := s.core.nextId + 1 } })

/-- Admit pieces of one received train: the first under its own number, the others under fresh ones. -/
def State.admitAll (s : State) (d : Draft) : List Tlp → Bool → State
  | [], _ => s
  | t :: rest, first =>
    let (id, s) := if first then (d.it.id, s) else s.newId
    (s.enterCore { d with t := t, last := rest.isEmpty } id).admitAll d rest false

end Sys2Proof.Machine
end

