-- ==== Sys2Proof/Machine/VConfig.lean ====
section
/-! DEFINITION. Binding and composing virtual hierarchies, DPC of virtual downstream ports, and the configuration space the device answers itself
or forwards to a virtual function (10_sharing.md R281 to R297; 12_errors_containment.md R350; 16_management_access.md R441 to R444). Register and bit
places of configuration space are the PCIe specification's (notes/assumptions/12.md). -/
namespace Sys2Proof.Machine

/-! ### Binding (R281, R282) -/

/-- The first cause for which a write of VH_BIND is refused, 0 when it is accepted. -/
def State.bindRefusal (s : State) (v val : Nat) : Nat :=
  let en := bitOf val 63
  let priv := bitOf val 62
  let p := bitsOf val 37 32
  let cur := s.vhBound v
  let rise := en && !cur
  if rise && s.role p != 1 then 1
  else if rise && (List.range 24).any (fun w => w != v && s.vhBound w && s.get (F.VH.VH_BIND.HOST_PORT w) == p) then 2
  else if s.managerVh = v && (!priv || (cur && !en)) then 3
  else if cur && p != s.get (F.VH.VH_BIND.HOST_PORT v) then 4
  else 0

/-- vDSPs of a VH that are not EMPTY. -/
def State.attachedIn (s : State) (v : Nat) : List Nat := (List.range 32).filter fun d => s.get (F.VH.VDSP.STATE v d) != 0

/-- A VH whose EN was cleared is unbound once its last detach has ended. -/
def State.unbindDone (s : State) (v : Nat) : State :=
  if s.share.unbinding.contains v && (s.attachedIn v).isEmpty then
    ({ s with share := { s.share with unbinding := s.share.unbinding.filter (· ≠ v) } } : State).bindState v
  else s

/-- A write of VH.VH_BIND. -/
def State.wrVhBind (s : State) (v val : Nat) : State :=
  let code := s.bindRefusal v val
  if code ≠ 0 then s.sets [(F.VH.VH_BIND.REFUSED v, 1), (F.VH.VH_BIND.REFUSE_CODE v, code)]
  else
    let p := bitsOf val 37 32
    s.owning [s.get (F.VH.VH_BIND.HOST_PORT v), p] fun s =>
      let m := s.managerVh
      let s := if bitOf val 62 && m ≠ v then s.sets [(F.VH.VH_BIND.PRIV m, 0), (F.VH.VH_BIND.PRIV v, 1)] else s
      let s := s.set (F.VH.VH_BIND.REFUSED v) 0
      if s.vhBound v && !bitOf val 63 then
        let s := s.vhReset v false
        let s := (s.set (F.VH.VH_BIND.EN v) 0)
        let s : State := { s with share := { s.share with unbinding := s.share.unbinding ++ [v] } }
        ((s.attachedIn v).foldl (fun s d => s.forceDetach v d) s).unbindDone v
      else ((s.sets [(F.VH.VH_BIND.EN v, bitsOf val 63 63), (F.VH.VH_BIND.HOST_PORT v, p)])).bindState v

/-! ### Attach and detach (R284 to R288) -/

/-- Is the port of a VF attached as KIND 2 with the VF's routing ID inside the bus range the manager's host gave that vDSP (FAULT 8)? -/
def State.vfReachable (s : State) (i : Nat) : Bool :=
  match s.attachedPort (s.get (F.VH.VF_MAP0.PORT i)) with
  | some (v, d) =>
    let (lo, hi) := s.busRange v d
    let b := s.get (F.VH.VF_MAP0.PHYS_RID i) / 256
    s.get (F.VH.VDSP.KIND v d) == 2 && decide (lo ≤ b ∧ b ≤ hi)
  | none => false

/-- The fault GO finds, in the order of R285; 0 for none. -/
def State.vdspFault (s : State) : Nat :=
  let op := s.get F.VH.VDSP_CMD.OP
  let v := s.get F.VH.VDSP_CMD.VH
  let d := s.get F.VH.VDSP_CMD.DEV
  let k := s.get F.VH.VDSP_CMD.KIND
  let p := s.get F.VH.VDSP_CMD.PORT
  let i := s.get F.VH.VDSP_CMD.VFI
  let st := s.get (F.VH.VDSP.STATE v d)
  let mgr := s.managerVh == v
  if s.get F.VH.VDSP_CMD.RESULT = 2 ∧ !(op == 3 && s.share.cmd == some (v, d) && st == 2) then 7
  else if s.phase ≤ 1 then 0xA
  else if op = 0 ∨ op > 3 then 0xB
  else if d = 0 ∨ v > 23 then 0xC
  else if (op = 1 ∧ st ≠ 0) ∨ (op = 2 ∧ (st = 0 ∨ st = 2 ∨ st = 3)) ∨ (op = 3 ∧ (st = 0 ∨ st = 3)) then 1
  else if op = 1 ∧ (k = 1 ∨ k = 2) ∧ s.role p ≠ 2 then 2
  else if op = 1 ∧ (k = 1 ∨ k = 2) ∧ (s.vdspOfPort p).isSome then 3
  else if op = 1 ∧ k = 3 ∧ (!s.flag (F.VH.VF_MAP0.VALID i) || s.get (F.VH.VF_MAP0.STATE i) != 0) then 4
  else if op = 1 ∧ !s.vhBound v then 5
  else if op = 1 ∧ (k = 0 ∨ (k = 2 ∧ !mgr) ∨ (k = 3 ∧ mgr)) then 6
  else if op = 1 ∧ k = 3 ∧ !s.vfReachable i then 8
  else if op = 2 ∧ s.get (F.VH.VDSP.KIND v d) = 2 ∧ !(s.vfsOf (s.get (F.VH.VDSP.PORT v d))).isEmpty then 9
  else 0

/-- The virtual configuration space of a virtual endpoint as attached: the identity the device copies from the PF is the VF's own
(notes/assumptions/9.md). -/
def State.freshEndpoint (s : State) (v d : Nat) : State :=
  let s := s.resetCfg v (fun fn => fn == 64 + d)
  let (x, s) := s.free
  let (y, s) := s.free
  (s.setCfg v (64 + d) 0 x).setCfg v (64 + d) 2 y

/-- Is a card present at a port: always without a hot-plug slot or without a presence input, else as reported (R92)? -/
def State.slotFull (s : State) (p : Nat) : Bool :=
  !s.flag (F.STN.PORT_ROLE.HP_SLOT p) || !bitOf (s.get (F.HOTPLUG.SLOT_MAP.PRSNT p)) 4 || (s.port p).reported.1

/-- ATTACH at one TABLE cycle (R286). -/
def State.attach (s : State) (v d k p i : Nat) : State :=
  let port := if k = 3 then s.get (F.VH.VF_MAP0.PORT i) else p
  s.owning [port] fun s =>
    let s := s.sets [(F.VH.VDSP.STATE v d, 1), (F.VH.VDSP.KIND v d, k), (F.VH.VDSP.PORT v d, port), (F.VH.VDSP.VFI v d, if k = 3 then i else 0),
      (F.VH.VDSP.SEC_BUS v d, (s.busRange v d).1)]
    let s := if k = 3 then
        (s.sets [(F.VH.VF_MAP0.STATE i, 1), (F.VH.VF_MAP0.VH i, v), (F.VH.VF_MAP0.DEV i, d)]).freshEndpoint v d
      else s
    s.setPresence v d true

/-- A write of VH.VDSP_CMD. -/
def State.wrVdspCmd (s : State) (val : Nat) : State :=
  let s := s.sets [(F.VH.VDSP_CMD.OP, bitsOf val 62 60), (F.VH.VDSP_CMD.KIND, bitsOf val 59 58), (F.VH.VDSP_CMD.VH, bitsOf val 57 53),
    (F.VH.VDSP_CMD.DEV, bitsOf val 52 48), (F.VH.VDSP_CMD.PORT, bitsOf val 47 42), (F.VH.VDSP_CMD.VFI, bitsOf val 41 32)]
  if !bitOf val 63 then s
  else
    let f := s.vdspFault
    let v := s.get F.VH.VDSP_CMD.VH
    let d := s.get F.VH.VDSP_CMD.DEV
    let op := s.get F.VH.VDSP_CMD.OP
    if f = 7 then s.set F.VH.VDSP_CMD.FAULT 7
    else if f ≠ 0 then s.sets [(F.VH.VDSP_CMD.FAULT, f), (F.VH.VDSP_CMD.RESULT, 3)]
    else if op = 1 then
      (s.attach v d (s.get F.VH.VDSP_CMD.KIND) (s.get F.VH.VDSP_CMD.PORT) (s.get F.VH.VDSP_CMD.VFI)).set F.VH.VDSP_CMD.RESULT 1
    else
      let s : State := { s with share := { s.share with cmd := some (v, d) } }
      let s := s.set F.VH.VDSP_CMD.RESULT 2
      if op = 3 then s.forceDetach v d else (s.set (F.VH.VDSP.STATE v d) 2).attention v d

/-- The host has powered a detaching vDSP off, or DETACH_WAIT has passed (R287). -/
def State.detachGo (s : State) (v d : Nat) : State := if s.get (F.VH.VDSP.STATE v d) = 2 then s.startEmpty v d else s

/-- Does a train routed under an attachment remain in the device? -/
def State.routedUnder (s : State) (v d : Nat) : Bool :=
  s.trainList.any (fun t => t.inBuffer && t.att.contains (v, d)) ||
    s.core.miss.any (fun e => e.2.any fun p => p.vh == v && p.fn == d) || s.core.gwWait.any (fun e => e.2.any fun g => g.tr.att.contains (v, d))

/-- The drain is complete: the vDSP is EMPTY and its VF FREE (R288 step 4). -/
def State.drainDone (s : State) (v d : Nat) : State :=
  if !s.share.drains.contains (v, d) || s.routedUnder v d then s
  else
    let k := s.get (F.VH.VDSP.KIND v d)
    let i := s.get (F.VH.VDSP.VFI v d)
    s.owning [s.get (F.VH.VDSP.PORT v d)] fun s =>
      let s : State := { s with share := { s.share with drains := s.share.drains.filter (· ≠ (v, d)), dpc := s.share.dpc.filter (· ≠ 32 * v + d) } }
      let s := if k = 3 then
          let s := s.sets [(F.VH.VF_MAP0.STATE i, 0), (F.VH.VF_MAP0.VH i, 0), (F.VH.VF_MAP0.DEV i, 0)]
          let s : State := { s with err := { s.err with vfHeld := s.err.vfHeld.filter (· ≠ i) } }
          s.resetCfg v (fun fn => fn == 64 + d)
        else s
      let s := s.sets [(F.VH.VDSP.STATE v d, 0), (F.VH.VDSP.KIND v d, 0), (F.VH.VDSP.PORT v d, 0), (F.VH.VDSP.VFI v d, 0)]
      let s := if s.share.cmd = some (v, d) then
          ({ s with share := { s.share with cmd := none } } : State).set F.VH.VDSP_CMD.RESULT 1
        else s
      s.unbindDone v

/-- A write of word w of VH.VF_MAP[i]: dropped unless the entry is FREE (R289). WR_DROP is cleared by writing 1 to it. -/
def State.wrVfMap (s : State) (i w val : Nat) : State :=
  let s := if w = 0 && bitOf val 43 then s.set (F.VH.VF_MAP0.WR_DROP i) 0 else s
  if s.get (F.VH.VF_MAP0.STATE i) ≠ 0 then s.set (F.VH.VF_MAP0.WR_DROP i) 1
  else if w = 0 then
    s.sets [(F.VH.VF_MAP0.VALID i, bitsOf val 63 63), (F.VH.VF_MAP0.PORT i, bitsOf val 59 54), (F.VH.VF_MAP0.PHYS_RID i, bitsOf val 31 16)]
  else
    let b := w - 1
    s.sets [(F.VH.VF_BAR.PHYS_BASE i b, bitsOf val 63 12), (F.VH.VF_BAR.SIZE_LOG2 i b, bitsOf val 11 6), (F.VH.VF_BAR.PREF i b, bitsOf val 5 5)]

/-! ### DPC (R350, R297) -/

/-- End of a mediated FLR: the virtual space returns to its defaults and the entry to BOUND; a contained vDSP returns to ATTACHED (R294, R297,
R351). -/
def State.flrDone (s : State) (i : Nat) : State :=
  if s.get (F.VH.VF_MAP0.STATE i) ≠ 2 then s
  else
    let (v, d) := s.vdspOfVf i
    let id := s.cfg v (64 + d) 0
    let cls := s.cfg v (64 + d) 2
    let s := ((s.resetCfg v (fun fn => fn == 64 + d)).setCfg v (64 + d) 0 id).setCfg v (64 + d) 2 cls
    let s := s.set (F.VH.VF_MAP0.STATE i) 1
    let back := s.share.flrBack.contains i
    let s : State := { s with share := { s.share with flr := s.share.flr.filter (· ≠ i), flrBack := s.share.flrBack.filter (· ≠ i) } }
    let s := if back && s.get (F.VH.VDSP.STATE v d) = 4 && !s.err.vfHeld.contains i && !s.err.vhHeld.contains v &&
          !s.share.dpc.contains (32 * v + d) then
        s.set (F.VH.VDSP.STATE v d) 1
      else s
    s.cmdDone 2 2 i

/-- Host software clears DPC Trigger Status (R350, R297). -/
def State.dpcFree (s : State) (v d : Nat) : State :=
  if !bitOf (s.cfg v d 0x56) 0 then s
  else
    let s := s.setCfg v d 0x56 (withBit (s.cfg v d 0x56) 0 false)
    let s : State := { s with share := { s.share with dpc := s.share.dpc.filter (· ≠ 32 * v + d) } }
    if s.get (F.VH.VDSP.KIND v d) = 3 then
      (if s.get (F.VH.VDSP.STATE v d) = 4 ∨ s.get (F.VH.VDSP.STATE v d) = 2 then s.startFlr (s.get (F.VH.VDSP.VFI v d)) true else s)
    else
      let p := s.get (F.VH.VDSP.PORT v d)
      if s.flag (byFld 3 p) then (s.openPort p 3).startTrain p else s

/-! ### Configuration space: what it reads (R283, R294, R225, R441) -/

/-- The port behind a bridge function or virtual endpoint. -/
def State.portOfFn (s : State) (v fn : Nat) : Option Nat :=
  if fn = 0 then some (s.get (F.VH.VH_BIND.HOST_PORT v))
  else
    let d := if fn ≥ 64 then fn - 64 else fn
    if fn ≠ 32 && s.get (F.VH.VDSP.STATE v d) != 0 then some (s.get (F.VH.VDSP.PORT v d)) else none

/-- Link Status of a port: speed, width, data link layer active. -/
def State.linkSts (s : State) (p : Nat) : Nat :=
  if !s.linkUp p then 0
  else s.get (F.STN.LINK_STS.RATE p) + 1 + 16 * s.get (F.STN.LINK_STS.ACTIVE_WIDTH p) + 2 ^ 13

/-- Widest link of a port: MAX_WIDTH, or the bifurcation width for 0 (R72). -/
def State.capWidth (s : State) (p : Nat) : Nat :=
  let m := s.get (F.STN.PORT_ROLE.MAX_WIDTH p)
  if m = 0 then s.widthOf p else m

/-- The highest rate of a port: MAX_RATE, and no more than 32 GT/s under SRIS (R5, R31). -/
def State.topRate (s : State) (p : Nat) : Nat :=
  let r := s.get (F.STN.PORT_ROLE.MAX_RATE p)
  if s.flag (F.STN.PORT_ROLE.CLK_MODE p) then min r 4 else r

/-- Link Capabilities of a port: its highest speed and width, and L1 where L1_EN lets a DEV port enter it, never L0s (R5, R72). -/
def State.linkCap (s : State) (p : Nat) : Nat :=
  s.topRate p + 1 + 16 * s.capWidth p + (if s.role p = 2 ∧ s.flag (F.STN.PORT_ROLE.L1_EN p) then 2 ^ 11 else 0)

/-- Link Capabilities 2: the speeds up to the highest, and that the presence of one and of two retimers is detected (R5, R87). -/
def State.linkCap2 (s : State) (p : Nat) : Nat := 2 ^ (s.topRate p + 2) - 2 + 2 ^ 23 + 2 ^ 24

/-- Link Status 2: retimers present, and flit mode (R5, R87). -/
def State.linkSts2 (s : State) (p : Nat) : Nat :=
  if !s.linkUp p then 0
  else (if 1 ≤ s.get (F.STN.LINK_STS.RETIMERS p) then 2 ^ 6 else 0) + (if 2 ≤ s.get (F.STN.LINK_STS.RETIMERS p) then 2 ^ 7 else 0) +
    s.get (F.STN.LINK_STS.FLIT p) * 2 ^ 10

/-- Dwords of the Lane Margining capability at a bridge function (R5, R62): ready on a link in L0 at 16 GT/s or more, and one dword for each lane. -/
def State.marginCap (s : State) (v fn dw : Nat) : Nat :=
  match s.portOfFn v fn with
  | none => if dw = 0x84 then cfgRst fn dw else 0
  | some p =>
    if dw = 0x85 then (if s.get (F.STN.LINK_STS.STATE p) = 6 ∧ 3 ≤ s.get (F.STN.LINK_STS.RATE p) then 2 ^ 16 else 0)
    else if dw < 0x86 + s.widthOf p then s.cfg v fn dw else 0

/-- The VC capability of a PCIe port, from TCVC (R225). -/
def State.vcCap (s : State) (p dw : Nat) : Nat :=
  if dw = 0x69 then s.pcieVcs p - 1
  else if dw < 0x6C then 0
  else
    let n := (dw - 0x6C) / 3
    if (dw - 0x6C) % 3 ≠ 1 || n ≥ s.pcieVcs p then 0
    else 2 ^ 31 + n * 2 ^ 24 + (List.range 8).foldl (fun m t => if bitsOf (s.get (F.EGR.TCVC.MAP p)) (2 * t + 1) (2 * t) = n then m + 2 ^ t else m) 0

/-- The Device 3, PTM, L1 PM substates and Lane Margining capabilities of a bridge function, linked in that order: PTM only while its port's PTM_EN is
1 (R88), L1 PM substates only at a vDSP whose port has L1SS_EN (R72). -/
def State.lateCaps (s : State) (v fn dw : Nat) : Nat :=
  let x := s.cfg v fn dw
  let has (f : Nat → Fld) : Bool := match s.portOfFn v fn with
    | some p => s.flag (f p)
    | none => true
  let ptm := has F.STN.PORT_ROLE.PTM_EN
  let l1 := fn ≠ 0 && has F.STN.PORT_ROLE.L1SS_EN
  let next (a b : Bool) : Nat := if a then 0x1F000000 else if b then 0x20000000 else 0x21000000
  if dw = 0x78 then x + next ptm l1
  else if 0x7C ≤ dw ∧ dw < 0x80 then (if !ptm then 0 else if dw = 0x7C then x + next false l1 else x)
  else if 0x84 ≤ dw then s.marginCap v fn dw
  else if 0x80 ≤ dw then (if !l1 then 0 else if dw = 0x80 then x + next false false else x)
  else x

/-- What a configuration read of a dword returns. A virtual endpoint shows only what R294 lists. -/
def State.cfgRead (s : State) (v fn dw : Nat) : Nat :=
  let x := s.cfg v fn dw
  let sts := match s.portOfFn v fn with
    | some p => s.linkSts p
    | none => 0
  let port (f : Nat → Nat) (z : Nat) : Nat := match s.portOfFn v fn with
    | some p => f p
    | none => z
  if fn = 32 then x
  else if fn < 32 then
    if dw = 7 then Nat.lor x 0x0101
    else if dw = 9 then Nat.lor x 0x00010001
    else if dw = 0x1F then port s.linkCap (7 + 16 * 16) + (if fn = 0 then 0 else 2 ^ 20) + fn * 2 ^ 24
    else if dw = 0x27 then port s.linkCap2 0x018000FE
    else if dw = 0x28 then x % 65536 + port s.linkSts2 0 * 65536
    else if dw = 0x20 then x % 65536 + x / 2 ^ 30 * 2 ^ 30 + sts * 65536
    else if 0x78 ≤ dw ∧ dw ≤ 0x95 then s.lateCaps v fn dw
    else if 0x69 ≤ dw ∧ dw < 0x78 then (match s.portOfFn v fn with
      | some p => s.vcCap p dw
      | none => 0)
    else x
  else if dw = 1 then withBit x 10 true
  else if dw = 4 ∨ dw = 6 ∨ dw = 8 then
    (let i := s.get (F.VH.VDSP.VFI v (fn - 64))
     let b := (dw - 4) / 2
     if s.get (F.VH.VF_BAR.SIZE_LOG2 i b) = 0 then 0 else x / 16 * 16 + 4 + 8 * s.get (F.VH.VF_BAR.PREF i b))
  else if dw = 0x1D then x + port (fun p => s.get (F.GW.PORT_CFG.MPS p)) 0
  else if dw = 0x1E then x / 256 * 256 + port (fun p => s.get (F.GW.PORT_CFG.MPS p)) 0 * 32 + x % 32
  else if dw = 0x1F then port s.linkCap 0
  else if dw = 0x20 then x % 65536 + sts * 65536
  else if dw = 0x27 then port s.linkCap2 0
  else if dw = 0x28 then x % 65536 + port s.linkSts2 0 * 65536
  else if [0, 2, 3, 5, 7, 9, 0xD, 0x1C, 0x26].contains dw ∨ (0x40 ≤ dw ∧ dw ≤ 0x4A) then x
  else 0

/-- Writable bits of a dword, and its write-1-to-clear bits. -/
def State.cfgMask (s : State) (v fn dw : Nat) : Nat × Nat :=
  if fn = 32 then
    if dw = 1 then (0x0546, 0xF9000000) else if dw = 3 then (0xFF, 0) else if dw = 0xF then (0xFF, 0)
    else if dw = 4 then (0xFE000000, 0) else if dw = 6 then (0xFC000000, 0) else if dw = 8 then (0xFFF00000, 0)
    else if dw = 5 ∨ dw = 7 ∨ dw = 9 then (0xFFFFFFFF, 0)
    else if dw = 0x11 then (3, 0) else if dw = 0x14 then (0xC0000000, 0)
    else if dw = 0x1E then (0x7FFF, 0xF0000) else if dw = 0x26 then (0x77FF, 0)
    else if dw = 0x41 ∨ dw = 0x44 then (0, 0xFFFFFFFF) else if dw = 0x42 ∨ dw = 0x43 ∨ dw = 0x45 then (0xFFFFFFFF, 0)
    else if dw = 0x46 then (0x100, 0) else if dw = 0x7A then (4, 0) else (0, 0)
  else if fn < 32 then
    if dw = 1 then (0x0547, 0xF9000000) else if dw = 3 then (0xFF, 0) else if dw = 6 then (0xFFFFFF, 0)
    else if dw = 7 then (0xF0F0, 0xF9000000) else if dw = 8 ∨ dw = 9 then (0xFFF0FFF0, 0)
    else if dw = 0xA ∨ dw = 0xB ∨ dw = 0xC then (0xFFFFFFFF, 0) else if dw = 0xF then (0x005F00FF, 0)
    else if dw = 0x11 then (0x103, 0x8000) else if dw = 0x1E then (0x7FFF, 0xF0000) else if dw = 0x20 then (0xFDB, 0xC0000000)
    else if dw = 0x22 ∧ fn ≠ 0 then (0x1FFF, 0x011F0000) else if dw = 0x26 then (0x77FF, 0) else if dw = 0x28 then (0xFFFF, 0)
    else if dw = 0x41 ∨ dw = 0x44 then (0, 0xFFFFFFFF) else if dw = 0x42 ∨ dw = 0x43 ∨ dw = 0x45 then (0xFFFFFFFF, 0)
    else if dw = 0x46 then (0x100, 0) else if dw = 0x51 ∧ fn ≠ 0 then (0x5F0000, 0) else if dw = 0x55 ∧ fn ≠ 0 then (0x9F0000, 0)
    else if dw = 0x56 ∧ fn ≠ 0 then (0, 8)
    else if dw = 0x5D then (0x803F0000, 0) else if dw = 0x5E then (0xFFFFF03F, 0)
    else if 0x5F ≤ dw ∧ dw ≤ 0x67 then (0xFFFFFFFF, 0) else if dw = 0x7A then (0x7C, 0) else if dw = 0x7E then (0xFF03, 0)
    else if (dw = 0x82 ∨ dw = 0x83) ∧ fn ≠ 0 then (if dw = 0x82 then 0xE3FFFF0F else 0xFB, 0)
    else if 0x86 ≤ dw ∧ dw ≤ 0x95 then (0xFFFF, 0) else (0, 0)
  else
    let i := s.get (F.VH.VDSP.VFI v (fn - 64))
    let lg (b : Nat) : Nat := s.get (F.VH.VF_BAR.SIZE_LOG2 i b)
    let size (b : Nat) : Nat := if lg b = 0 then 0 else 2 ^ 64 - 2 ^ lg b
    if dw = 1 then (0x0146, 0xF9000000)
    else if 4 ≤ dw ∧ dw ≤ 9 then (size ((dw - 4) / 2) / (if dw % 2 = 0 then 1 else 2 ^ 32) % 2 ^ 32, 0)
    else if dw = 0x1E then (0x7FFF, 0xF0000) else if dw = 0x20 then (0x3CB, 0) else if dw = 0x26 then (0x77FF, 0) else if dw = 0x28 then (0xFFFF, 0)
    else if dw = 0x41 ∨ dw = 0x44 then (0, 0xFFFFFFFF) else if dw = 0x42 ∨ dw = 0x43 ∨ dw = 0x45 then (0xFFFFFFFF, 0)
    else if dw = 0x46 then (0x100, 0) else (0, 0)

/-- Bits of the enabled bytes. -/
def beMask (be : Nat) : Nat := (List.range 4).foldl (fun m i => if bitOf be i then m + 255 * 2 ^ (8 * i) else m) 0

/-- Write a dword under its masks. -/
def State.cfgPut (s : State) (v fn dw be data : Nat) : State :=
  let (rw, wc) := s.cfgMask v fn dw
  let m := beMask be
  let old := s.cfg v fn dw
  let rw := Nat.land rw m
  let x := Nat.lor (Nat.land old (2 ^ 32 - 1 - rw)) (Nat.land data rw)
  s.setCfg v fn dw (Nat.land x (2 ^ 32 - 1 - Nat.land (Nat.land data wc) m))

/-! ### What a configuration write does (R92, R145, R261, R287, R293, R294, R350) -/

/-- A surprise removal ends: presence is back and the host has enabled power (R355). -/
def State.removalOver (s : State) (v d p : Nat) : State :=
  if (s.prst p).removal && s.slotFull p then (s.setPrst p { s.prst p with removal := false }).setPresence v d true else s

/-- The output pins of a hot-plug slot with their levels (R92): power enable active high, indicators active low and blinking at 1 Hz, as Slot Control of
the port's vDSP says; unattached, as after reset. -/
def State.slotPins (s : State) (p : Nat) : List (Nat × Bool) :=
  let c := match s.vdspOfPort p with
    | some (v, d) => s.cfg v d 0x22
    | none => cfgRst 1 0x22
  let lit (x : Nat) : Bool := x == 1 || (x == 2 && s.time.now / 50000000 % 2 == 0)
  let pin (f : Nat) (b : Bool) : List (Nat × Bool) := if bitOf f 4 then [(f % 16, b)] else []
  pin (s.get (F.HOTPLUG.SLOT_MAP.PWR_EN p)) (!bitOf c 10) ++ pin (s.get (F.HOTPLUG.SLOT_MAP.PWR_LED p)) (!lit (bitsOf c 9 8)) ++
    pin (s.get (F.HOTPLUG.SLOT_MAP.ATTN_LED p)) (!lit (bitsOf c 7 6))

/-- Hot-plug slots, and the expanders in use. -/
def State.slotPorts (s : State) : List Nat := (List.range 48).filter fun p => s.role p == 2 && s.flag (F.STN.PORT_ROLE.HP_SLOT p)
def State.expAddrs (s : State) : List Nat := (s.slotPorts.map fun p => s.get (F.HOTPLUG.SLOT_MAP.EXP_ADDR p)).eraseDups

/-- Write an expander's direction registers (0x06, 0x07) and output registers (0x02, 0x03) when they change. A direction bit of 0 makes an output
(PRESUMED, notes/assumptions/104.md). -/
def State.expWrite (s : State) (a : Nat) : State :=
  let l := (s.slotPorts.filter fun p => s.get (F.HOTPLUG.SLOT_MAP.EXP_ADDR p) == a).flatMap fun p => s.slotPins p
  let out := l.foldl (fun v e => withBit v e.1 e.2) 0
  let dir := l.foldl (fun v e => withBit v e.1 false) 65535
  if Tab.get? s.pins.expOut a = some (out, dir) then s
  else
    (({ s with pins := { s.pins with expOut := Tab.put s.pins.expOut a (out, dir) } } : State).emit (.i2c a [6, dir % 256, dir / 256])).emit
      (.i2c a [2, out % 256, out / 256])
def State.expSync (s : State) : State := s.expAddrs.foldl (fun s a => s.expWrite a) s

/-- A command of the Lane Margining capability from a lane's control field: type in bits 5:3, payload in bits 15:8 (PCIe, notes/assumptions/12.md);
none for No Command and undefined codes. -/
def marginCmdOf (ctl : Nat) : Option MarginCmd :=
  let y := bitsOf ctl 5 3
  let x := bitsOf ctl 15 8
  if y = 1 then some .report
  else if y = 2 then
    (if x = 0x0F then some .normal else if x = 0x55 then some .clear else if x / 64 = 3 then some (.errLimit (BitVec.ofNat 6 x)) else none)
  else if y = 3 then some (.stepTiming (!bitOf x 6) (BitVec.ofNat 6 x))
  else if y = 4 then some (.stepVoltage (!bitOf x 7) (BitVec.ofNat 7 x))
  else none

/-- Host software has written a lane's margining control (R61, R87): the port's own receiver is served by the eye scanner, any other receiver gets the
command over the link; the lane's status names the command, its payload is a free value. -/
def State.marginCtl (s : State) (v fn i : Nat) : State :=
  match s.portOfFn v fn with
  | none => s
  | some p =>
    let ctl := s.cfg v fn (0x86 + i) % 65536
    let n := (s.lanesOf p).getD i 0
    let own := if s.role p = 1 then 6 else 1
    match marginCmdOf ctl with
    | none => s
    | some c =>
      if s.get (F.STN.LINK_STS.STATE p) ≠ 6 ∨ s.get (F.STN.LINK_STS.RATE p) < 3 ∨ s.widthOf p ≤ i ∨ bitsOf ctl 2 0 = 7 then s
      else
        let s := if bitsOf ctl 2 0 = own ∨ bitsOf ctl 2 0 = 0 then s.margin n c else s.emit (.train n "MARGIN_PASS" (bitsOf ctl 2 0 :: marginArgs c))
        let (x, s) := s.free
        s.setCfg v fn (0x86 + i) (ctl + (ctl % 256 + x % 256 * 256) * 65536)

/-- Host software moves Power Controller Control (a slot's off bit): a detaching vDSP is emptied; a hot-plug slot's power enable follows. -/
def State.slotPower (s : State) (v d : Nat) (on : Bool) : State :=
  let p := s.get (F.VH.VDSP.PORT v d)
  let own := s.get (F.VH.VDSP.STATE v d) != 0 && s.get (F.VH.VDSP.KIND v d) != 3
  let s := if own && s.flag (F.STN.PORT_ROLE.HP_SLOT p) && bitOf (s.get (F.HOTPLUG.SLOT_MAP.PWR_EN p)) 4 then s.emit (.expander p on) else s
  if !on then s.detachGo v d else if own then s.removalOver v d p else s

/-- A refused VF-destroying write or fenced access (R293). -/
def State.vfBusy (s : State) (v i : Nat) (t : Tlp) : State :=
  s.raiseTrain Ev.VF_BUSY (s.get (F.VH.VH_BIND.HOST_PORT v)) v t i t.addr.toNat i

/-- Would a write to the manager's vDSP destroy bound VFs: Secondary Bus Reset or Link Disable set at a shared port with VFs in use? -/
def State.destroys (s : State) (v fn dw be data : Nat) : Bool :=
  1 ≤ fn && fn < 32 && s.get (F.VH.VDSP.KIND v fn) == 2 && s.get (F.VH.VDSP.STATE v fn) != 0 &&
    !(s.vfsOf (s.get (F.VH.VDSP.PORT v fn))).isEmpty &&
    ((dw == 0xF && bitOf (Nat.land data (beMask be)) 22) || (dw == 0x20 && bitOf (Nat.land data (beMask be)) 4))

/-- Force-detach every vDSP that holds a VF of a port. -/
def State.detachVfs (s : State) (p : Nat) : State := (s.vfsOf p).foldl (fun s i => s.forceDetach (s.vdspOfVf i).1 (s.vdspOfVf i).2) s

/-- Effects of a write to a virtual downstream port, after its value is held; `data` is what was written, for Retrain Link, which reads 0. -/
def State.vdspWrote (s : State) (v d dw old new data : Nat) : State :=
  let k := s.get (F.VH.VDSP.KIND v d)
  let p := s.get (F.VH.VDSP.PORT v d)
  let live := s.vdspLive v d
  let rise (b : Nat) : Bool := bitOf new b && !bitOf old b
  let fall (b : Nat) : Bool := bitOf old b && !bitOf new b
  if dw = 6 then s.set (F.VH.VDSP.SEC_BUS v d) (bitsOf new 15 8)
  else if dw = 0xF && rise 22 && live then
    if k = 3 then s.startFlr (s.get (F.VH.VDSP.VFI v d)) false
    else
      let s := if k = 2 then s.detachVfs p else s
      let up := s.linkUp p
      let s := s.hotReset p
      if up then s.devLinkLost p else s
  else if dw = 0x20 && k ≠ 3 && live && rise 4 then
    let s := if k = 2 then s.detachVfs p else s
    let up := s.linkUp p
    let s := s.takeDown p 0xA 0
    if up then s.devLinkLost p else s
  else if dw = 0x20 && k ≠ 3 && live && fall 4 then s.startTrain p
  else if dw = 0x20 && k ≠ 3 && live && bitOf data 5 then s.goRetrain p
  else if dw = 0x22 && rise 10 then (s.slotPower v d false).expSync
  else if dw = 0x22 && fall 10 then (s.slotPower v d true).expSync
  else if dw = 0x22 && k ≠ 3 then s.expSync
  else s

/-- FLR of the management endpoint in a VH (R473 Function domain): its configuration space, MSI-X table and pending bits there. -/
def State.meFlr (s : State) (v : Nat) : State :=
  ({ s with mgmt := { s.mgmt with msix := s.mgmt.msix.filter (fun e => e.1 / 24 ≠ v),
                                  msixPend := s.mgmt.msixPend.filter (fun e => e.1 / 6 ≠ v) } } : State).resetCfg v fun fn => fn == 32

/-- A write to a function of the virtual switch or the management endpoint. -/
def State.cfgWrite (s : State) (v fn dw be data : Nat) (rid : Nat) : State :=
  let old := s.cfg v fn dw
  let s := if fn = 32 && !s.flag (F.GW.GW_RID.VALID v) then s.sets [(F.GW.GW_RID.VALID v, 1), (F.GW.GW_RID.RID v, rid)] else s
  let s := s.cfgPut v fn dw be data
  let new := s.cfg v fn dw
  let data := Nat.land data (beMask be)
  if fn < 32 then
    let s :=
      if dw = 8 then s.checkOvl v fn dw [s.npWindow v fn]
      else if 9 ≤ dw ∧ dw ≤ 0xB then s.checkOvl v fn dw [s.pfWindow v fn]
      else if 0x5D ≤ dw ∧ dw ≤ 0x5F then s.checkOvl v fn dw ((s.mcBar v fn).map fun b => (b.1, b.1 + b.2.2 * 2 ^ b.2.1 - 1)).toList
      else s
    if 0x86 ≤ dw ∧ dw ≤ 0x95 then s.marginCtl v fn (dw - 0x86)
    else if fn = 0 then s
    else if dw = 0x55 && bitOf data 22 && s.dpcReady v fn 3 then s.dpcTrig v fn 7
    else if dw = 0x56 && bitOf data 0 then s.dpcFree v fn
    else s.vdspWrote v fn dw old new data
  else if fn = 32 && dw == 0x1E && bitOf data 15 then s.meFlr v
  else if 4 ≤ dw ∧ dw ≤ 9 then
    let b := (dw - 4) / 2 * 2
    s.checkOvl v fn dw [(s.bar64 v 32 (4 + b), s.bar64 v 32 (4 + b) + meBarSize b - 1)]
  else if fn = 32 then s.msixFlush v
  else s

/-! ### Answers (R283, R294) -/

/-- A completion of the management endpoint, a bridge or a virtual endpoint, toward the host. -/
def State.cfgReply (s : State) (v : Nat) (r : CfgReq) (st : CplSt) (data : Nat) (ep : Bool := false) : State :=
  let t : Tlp := { kind := if r.write || st != .sc then .cpl else .cplD, reqId := r.reqId, tag := r.tag, cplId := r.bdf, status := st, byteCount := 4, ep := ep,
                   len := if r.write || st != .sc then 0 else 4, data := if r.write || st != .sc then [] else leBytes 4 data }
  s.inject { id := 0, src := 49, vh := some v, t := t, eg := some (s.get (F.VH.VH_BIND.HOST_PORT v)) }

/-- The request as a TLP, for records. -/
def cfgTlp (r : CfgReq) : Tlp :=
  { kind := if r.write then .cfgWr1 else .cfgRd1, reqId := r.reqId, tag := r.tag, addr := BitVec.ofNat 64 (r.bdf.toNat * 65536 + 4 * r.dword.toNat),
    len := 4, fbe := r.be, data := if r.write then leBytes 4 r.data.toNat else [] }

/-- The function of the virtual switch a configuration request names: the upstream port, the management endpoint or a vDSP on the internal bus,
or the virtual endpoint below a vDSP (64 + d). -/
def State.cfgTarget (s : State) (v : Nat) (r : CfgReq) : Option Nat :=
  if !r.type1 then (if r.bdf.toNat % 256 = 0 then some 0 else none)
  else
    let bus := r.bdf.toNat / 256
    let dev := r.bdf.toNat / 8 % 32
    let fn := r.bdf.toNat % 8
    let (lo, hi) := s.busRange v 0
    if lo = 0 || bus < lo || hi < bus || fn ≠ 0 then none
    else if bus = lo then (if dev = 0 then some 32 else some dev)
    else
      match (List.range 32).find? fun d => d != 0 && s.get (F.VH.VDSP.KIND v d) == 3 && (s.vdspLive v d) && (s.busRange v d).1 == bus with
      | some d => if dev = 0 then some (64 + d) else none
      | none => none

/-- A configuration access to the upstream port, a vDSP or the management endpoint (R283). -/
def State.cfgAccess (s : State) (v fn : Nat) (r : CfgReq) : State :=
  let s := s.count (Ctr.vh v 35) 1
  let dw := r.dword.toNat
  if !r.write then s.cfgReply v r .sc (s.cfgRead v fn dw)
  else if s.flag F.VH.SHARE_CTL.PF_GUARD && s.destroys v fn dw r.be.toNat r.data.toNat then
    (s.vfBusy v ((s.vfsOf (s.get (F.VH.VDSP.PORT v fn))).headD 0) (cfgTlp r)).cfgReply v r .ur 0
  else (s.cfgWrite v fn dw r.be.toNat r.data.toNat r.bdf.toNat).cfgReply v r .sc 0

/-! ### Forwarded accesses (R294, R295, R418) -/

/-- Dwords of a virtual endpoint that are forwarded to the VF: MSI-X, ATS and PASID capabilities (notes/assumptions/12.md). -/
def forwards (dw : Nat) (write : Bool) : Bool :=
  if write then dw == 0x14 || dw == 0x51 || dw == 0x55 else (0x14 ≤ dw && dw ≤ 0x16) || dw == 0x50 || dw == 0x51 || dw == 0x54 || dw == 0x55

/-- Send a forwarded access with a tag; to the MSI-X capability only MSI-X Enable and Function Mask are written (R294). -/
def State.fwdSend (s : State) (k : Nat) (f : FwdCfg) : State :=
  let s : State := { s with share := { s.share with tags := Tab.put s.share.tags k f, tagVh := Tab.put s.share.tagVh k f.vh } }
  s.emit (.cfgReq (s.get (F.VH.VF_MAP0.PORT f.vfi)) (0x3F00 + k) (s.get (F.VH.VF_MAP0.PHYS_RID f.vfi)) f.dword f.req.write f.req.be.toNat
    (if f.dword = 0x14 then Nat.land f.req.data.toNat 0xC0000000 else f.req.data.toNat))

/-- The lowest free tag. -/
def State.fwdFree (s : State) : Option Nat := (List.range 256).find? fun k => (Tab.get? s.share.tags k).isNone

/-- The oldest waiting access takes a tag that has become free. -/
def State.fwdNext (s : State) : State :=
  match s.share.queue, s.fwdFree with
  | f :: rest, some k => ({ s with share := { s.share with queue := rest } } : State).fwdSend k f
  | _, _ => s

/-- An access that ends without an answer of the VF: Completion Abort and VF_CFG_TIMEOUT (R294, R295). -/
def State.fwdAbort (s : State) (f : FwdCfg) (tag : Nat) : State :=
  let t := { cfgTlp f.req with tag := BitVec.ofNat 14 tag }
  (s.raise Ev.VF_CFG_TIMEOUT { inst := 49, key := f.vh, detail := 1, w := tlpW 49 f.vh t 63 t.addr.toNat 0, aerAt := some (f.vh, 0),
                                 ingress := if f.vh = s.managerVh then none else some (1, f.vh), hdr := s.aerHeader (s.get (F.VH.VH_BIND.HOST_PORT f.vh)) (cfgTlp f.req) }).cfgReply
    f.vh f.req .ca 0

/-- Forward an access, or let it wait, or abort it when the queue is full. -/
def State.fwd (s : State) (f : FwdCfg) : State :=
  match s.fwdFree with
  | some k => s.fwdSend k f
  | none => if s.share.queue.length ≥ 64 then s.fwdAbort f 0 else { s with share := { s.share with queue := s.share.queue ++ [f] } }

/-- A forwarded capability header as the virtual endpoint shows it: linked among the capabilities of R294 alone. -/
def relinked (dw data : Nat) : Nat :=
  if dw = 0x14 then data / 65536 * 65536 + data % 256
  else if dw = 0x50 then data % 2 ^ 20 + 0x150 * 2 ^ 20
  else if dw = 0x54 then data % 2 ^ 20
  else data

/-- A completion for one of the management endpoint's tags: returned to the tenant, with its EP (R346), or late, which counts for the VH whose access
the tag last carried (R356, R418). -/
def State.fwdCpl (s : State) (k : Nat) (st : CplSt) (cplId data : Nat) (ep : Bool := false) : State :=
  let ingress := ((List.range 1024).find? fun i => s.flag (F.VH.VF_MAP0.VALID i) && s.get (F.VH.VF_MAP0.STATE i) == 1 &&
    s.get (F.VH.VF_MAP0.PHYS_RID i) == cplId).map fun i => (2, i)
  match Tab.get? s.share.tags k with
  | some f =>
    if f.held then
      let t : Tlp := { kind := .cplD, reqId := BitVec.ofNat 16 cplId, tag := BitVec.ofNat 14 (0x3F00 + k) }
      (s.count (Ctr.vh f.vh 34) 1).raise Ev.LATE_CPL { inst := 49, key := f.vh, detail := 1, w := tlpW 49 f.vh t 63 0 0, ingress := ingress }
    else
      let s : State := { s with share := { s.share with tags := Tab.del s.share.tags k } }
      (s.cfgReply f.vh f.req st (relinked f.dword data) ep).fwdNext
  | none =>
    let t : Tlp := { kind := .cplD, reqId := BitVec.ofNat 16 cplId, tag := BitVec.ofNat 14 (0x3F00 + k) }
    match Tab.get? s.share.tagVh k with
    | some v => (s.count (Ctr.vh v 34) 1).raise Ev.LATE_CPL { inst := 49, key := v, detail := 1, w := tlpW 49 v t 63 0 0, ingress := ingress }
    | none => s.raise Ev.LATE_CPL { inst := 49, detail := 1, w := tlpW 49 0 t 63 0 0, ingress := ingress }

/-- The 50 ms limit of a forwarded access, by tag; its tag is held (R295). A limit that passes at a tag already held is that of the oldest access
which still has no tag: those with tags arrived before it and have ended. -/
def State.fwdExpire (s : State) (k : Nat) : State :=
  match Tab.get? s.share.tags k with
  | none => s
  | some f =>
    if !f.held then ({ s with share := { s.share with tags := Tab.put s.share.tags k { f with held := true } } } : State).fwdAbort f (0x3F00 + k)
    else
      match s.share.queue with
      | g :: rest => ({ s with share := { s.share with queue := rest } } : State).fwdAbort g 0
      | [] => s

/-- A held tag becomes free (R418). -/
def State.fwdRelease (s : State) (k : Nat) : State :=
  match Tab.get? s.share.tags k with
  | some f => if f.held then ({ s with share := { s.share with tags := Tab.del s.share.tags k } } : State).fwdNext else s
  | none => s

/-- A tenant's access to the virtual endpoint below vDSP d (R294). -/
def State.vfAccess (s : State) (v d : Nat) (r : CfgReq) : State :=
  let i := s.get (F.VH.VDSP.VFI v d)
  let fn := 64 + d
  let dw := r.dword.toNat
  if s.get (F.VH.VF_MAP0.STATE i) = 2 then s.cfgReply v r .rrs 0
  else if forwards dw r.write then s.fwd { vh := v, d := d, vfi := i, req := r, dword := dw }
  else
    let s := s.count (Ctr.vh v 35) 1
    if !r.write then s.cfgReply v r .sc (s.cfgRead v fn dw)
    else
      let s := s.cfgPut v fn dw r.be.toNat r.data.toNat
      let s := if 4 ≤ dw ∧ dw ≤ 9 then
          let b := (dw - 4) / 2
          let lg := s.get (F.VH.VF_BAR.SIZE_LOG2 i b)
          if lg = 0 then s else s.checkOvl v fn dw [(s.bar64 v fn (4 + 2 * b), s.bar64 v fn (4 + 2 * b) + 2 ^ lg - 1)]
        else s
      let s := s.cfgReply v r .sc 0
      if dw = 0x1E && bitOf (Nat.land r.data.toNat (beMask r.be.toNat)) 15 then s.startFlr i false else s

/-- A configuration access delivered to the management endpoint's side of a VH. -/
def State.cfgDeliver (s : State) (v : Nat) (r : CfgReq) : State :=
  match s.cfgTarget v r with
  | some fn => if fn ≥ 64 then s.vfAccess v (fn - 64) r else s.cfgAccess v fn r
  | none => s.cfgReply v r .ur 0

/-- A configuration TLP as a request. -/
def cfgReqOf (t : Tlp) : CfgReq :=
  { type1 := t.kind == .cfgRd1 || t.kind == .cfgWr1, bdf := BitVec.ofNat 16 (t.addr.toNat / 65536), dword := BitVec.ofNat 10 (t.addr.toNat % 4096 / 4),
    write := t.kind == .cfgWr0 || t.kind == .cfgWr1, be := t.fbe, data := BitVec.ofNat 32 (leNat t.data), tag := t.tag, reqId := t.reqId }

end Sys2Proof.Machine
end

