-- ==== Sys2Proof/Machine/Lookup.lean ====
section
/-! DEFINITION. Lookup of a header: its owner, the step of R143 that decides its route, misses, contexts, the gateway, Halud packets, and what
becomes of a header that is not admitted (05_lookup_windows.md R143 to R157; 07_buffer_multicast.md R213; 09_fabric_mode.md R260 to R275;
10_sharing.md R288 to R300; 06_switch_core.md R184, R185). -/
namespace Sys2Proof.Machine

/-! ### Headers that go no further -/

/-- The owner of a header: that of its port, or the virtual hierarchy the device built it in. -/
def State.ownerHead (s : State) (it : InTrain) : Option Owner :=
  match it.vh with
  | some v => some { vh := v, fn := 32 }
  | none => s.ownerOfTrain it.src it.t

/-- Answer or discard a request that is not supported or aborted, with the AER report of its ingress function (R343). -/
def State.plainRefuse (s : State) (it : InTrain) (o : Owner) (stamp : Option (Nat × Nat)) (st : CplSt) (toHut : Bool := false) : State :=
  let s := if it.vh.isNone && it.src < 48 && o.fn < 32 then s.aer o.vh o.fn (if st = .ca then .ca else .ur) 0 (s.aerHeader it.src it.t) else s
  ((s.answer it.src o.vh it.t st).fenceLose stamp toHut it.t.addr.toNat 3).dropHead it

/-- Refuse a header with an event (R152, R299, R144): its record, its AER, its answer. XLAT_UE names its WRT index in the low bits of the record's
last word, and writes a record once per index (R157; the place is a DESIGN CHOICE, notes/assumptions/108.md). -/
def State.refuse (s : State) (it : InTrain) (o : Owner) (stamp : Option (Nat × Nat)) (code : Nat) (st : CplSt) (logged tag : Nat) (quiet : Bool := false)
    (idx : Option Nat := none) (toHut : Bool := false) : State :=
  let w := tlpW it.src o.vh it.t 63 logged tag
  let s := s.raiseTrain code it.src o.vh it.t 63 logged tag true it.src none (idx.map fun i => w.take 2 ++ [w.getD 2 0, i]) quiet
  let s := if code ≤ Ev.XLAT_UE && code ≥ Ev.XLAT_NO_WIN then s.count (Ctr.vh o.vh 5) 1 else if code / 256 = 0x44 then s.count (Ctr.vh o.vh 6) 1 else s
  ((s.answer it.src o.vh it.t st).fenceLose stamp toHut it.t.addr.toNat 3).dropHead it

/-- A train of an attachment that is not routed (R288 step 1). -/
def State.detachDrop (s : State) (it : InTrain) : State :=
  let v := match s.vdspOfPort it.src with
    | some (v, _) => v
    | none => s.managerVh
  let s := if s.role it.src = 2 then s.raise Ev.DETACH_DROP { inst := it.src, key := v } else s
  (s.answer it.src v it.t .ur).dropHead it

/-! ### How a tail arrived (R184, R185) -/

/-- The event of a bad tail; none for a good one. An uncorrectable header carriage or tag makes any train bad, an error in the payload only poisons it
(R185), unless it is a Selective IDE TLP, which is never altered (R163). ECRC counts only where the ingress function checks it. -/
def State.tailEvent (s : State) (it : InTrain) (vh fn : Nat) : Option Nat :=
  let payload := !it.t.data.isEmpty
  match it.tail with
  | .good => none
  | .nullified => some Ev.NULL_PARTNER
  | .badEcrc => if it.vh.isNone && bitOf (s.cfg vh (if fn < 32 then fn else 0) 0x46) 8 then some Ev.NULL_ECRC else none
  | .uncorrectable => if payload && !it.t.ide then none else some Ev.NULL_UE
  | .badHeader => some Ev.NULL_UE
  | .badLcrc => none
  | .cut => some Ev.NULL_LINK_LOST

/-- A payload that reads uncorrectable before its head has left goes on poisoned (R185): the TLP it becomes. -/
def State.poisonTlp (s : State) (it : InTrain) (vh : Nat) (t : Tlp) : Tlp × State :=
  if it.tail = .uncorrectable && !it.t.data.isEmpty then
    ({ t with ep := true }, s.raiseTrain Ev.BUF_POISON it.src vh it.t 63 it.t.addr.toNat 0 false it.src none (it.hal.map fun h => halW it.src 63 h))
  else (t, s)

/-- The same for a train that takes its route. -/
def State.poison (s : State) (d : Draft) : Draft × State :=
  if d.it.tail = .uncorrectable && !d.it.t.data.isEmpty then
    ({ d with t := { d.t with ep := true }, hal := d.hal.map fun h => { h with ep := true } },
      s.raiseTrain Ev.BUF_POISON d.it.src d.vh d.it.t d.dst d.it.t.addr.toNat d.tag false d.it.src none (d.it.hal.map fun h => halW d.it.src d.dst h))
  else (d, s)

/-! ### Routes of a classified header -/

/-- Key, held value and written value of a physical function's register (R293). -/
def pfKey (p rid dw : Nat) : Nat := (p * 65536 + rid) * 1024 + dw
def State.pfHeld (s : State) (p rid dw : Nat) : Nat := Tab.getD s.share.pfRegs (pfKey p rid dw) (Config.pfReset p rid dw)
def pfMerge (old be data : Nat) : Nat := Nat.lor (Nat.land old (2 ^ 32 - 1 - beMask be)) (Nat.land data (beMask be))

/-- Would a configuration write to a physical function destroy bound VFs (R293): Initiate FLR, VF Enable or VF MSE cleared, NumVFs changed? -/
def State.pfDestroys (s : State) (p rid dw be data : Nat) : Bool :=
  let old := s.pfHeld p rid dw
  let new := pfMerge old be data
  match Config.pfReg p rid dw with
  | 1 => bitOf (Nat.land data (beMask be)) 15
  | 2 => (bitOf old 0 && !bitOf new 0) || (bitOf old 3 && !bitOf new 3)
  | 3 => old % 65536 != new % 65536
  | _ => false

/-- Such a write is performed: what the function then holds; an FLR returns its registers to their resets. -/
def State.pfWrote (s : State) (p rid dw be data : Nat) : State :=
  match Config.pfReg p rid dw with
  | 1 => if bitOf (Nat.land data (beMask be)) 15 then
      { s with share := { s.share with pfRegs := s.share.pfRegs.filter fun e => e.1 / 1024 ≠ p * 65536 + rid } }
    else s
  | 2 | 3 => { s with share := { s.share with pfRegs := Tab.put s.share.pfRegs (pfKey p rid dw) (pfMerge (s.pfHeld p rid dw) be data) } }
  | _ => s

/-- Configuration requests (R143 step 2, R283, R293). -/
def State.routeCfg (s : State) (o : Owner) (t : Tlp) : Route :=
  let r := cfgReqOf t
  if o.fn ≠ 0 then .ur
  else if (s.cfgTarget o.vh r).isSome then .go 49 t
  else if !r.type1 then .ur
  else
    let bus := r.bdf.toNat / 256
    match (s.liveVdsps o.vh).find? fun d => let b := s.busRange o.vh d; s.get (F.VH.VDSP.KIND o.vh d) != 3 && decide (0 < b.1 ∧ b.1 ≤ bus ∧ bus ≤ b.2) with
    | none => .ur
    | some d =>
      let p := s.get (F.VH.VDSP.PORT o.vh d)
      let t' := if bus = (s.busRange o.vh d).1 then { t with kind := if r.write then .cfgWr0 else .cfgRd0 } else t
      let guard := s.flag F.VH.SHARE_CTL.PF_GUARD
      if s.get (F.VH.VDSP.KIND o.vh d) = 2 then
        match s.vfOf p r.bdf.toNat with
        | some i => if s.flag F.VH.SHARE_CTL.MGR_VF_CFG then .go p t' else .busy i
        | none =>
          match s.vfsOf p with
          | [] => .go p t'
          | i :: _ => if r.write && guard && s.pfDestroys p r.bdf.toNat r.dword.toNat r.be.toNat r.data.toNat then .busy i else .go p t'
      else .go p t'

/-- An aperture by the shape kept with a header. -/
def aptOfShape (v : Nat) (l : List Nat) : Apt :=
  { vh := v, a := l.getD 0 0, en := true, base := l.getD 1 0, ap := l.getD 2 0, win := l.getD 3 0, idx := l.getD 4 0, remote := l.getD 5 0 != 0,
    ports := l.getD 6 0 }
def Apt.shape (x : Apt) : List Nat := [x.a, x.base, x.ap, x.win, x.idx, b2n x.remote, x.ports]

def Pend.owner (p : Pend) : Owner := { vh := p.vh, fn := p.fn, vf := p.vf }

/-- The route of a header whose window entry, if it needs one, has been read. -/
def State.routeOf (s : State) (p : Pend) : Route :=
  let o := p.owner
  let t := p.t
  if p.shape ≠ [] then
    let x := aptOfShape p.vh p.shape
    s.translate x (x.index t.addr.toNat) p.entry o t
  else if isCfgKind t.kind then s.routeCfg o t
  else if isCplKind t.kind then s.routeCpl o t
  else if t.kind == .msg || t.kind == .msgD then s.routeMsg o t
  else if t.kind == .ioRd || t.kind == .ioWr then s.routeIo o t
  else s.routeMem o t

/-- Egress port of a route, if it has one. -/
def Route.port : Route → Option Nat
  | .go d _ => some d
  | .cross d _ _ _ => some d
  | _ => none

/-! ### Waiting behind a miss (R155) -/

/-- May the ordering rules of the core not let a later train pass an earlier one? -/
def mustFollow (first later : Tlp) : Bool :=
  first.tc == later.tc &&
    ((isPostedKind first.kind && (isPostedKind later.kind ||
        (if isCplKind later.kind then !later.ro && (!later.ido || later.cplId == first.reqId) else !later.ido || later.reqId == first.reqId))) ||
      (isNpKind first.kind && isNpKind later.kind) || (isCplKind first.kind && isCplKind later.kind))

/-- Where a header's train goes: egress instances, 64 for the fabric. -/
def State.egressesOf (s : State) (u : Pend) : List Nat :=
  match s.routeOf u with
  | .go d _ => [d]
  | .cross d _ _ _ => [d]
  | .fabric .. => [64]
  | .mcast g => s.pgroupPorts u.vh g ++ (if s.flag (F.GW.MC_BIND.EN u.vh g) then [64] else [])
  | .bcast => ((s.liveVdsps u.vh).filter fun d => s.get (F.VH.VDSP.KIND u.vh d) != 3).map fun d => s.get (F.VH.VDSP.PORT u.vh d)
  | .gateCpl => (match s.ort? u.t.tag.toNat with
    | some o => if o.kind = 1 then [64] else [o.src]
    | none => [])
  | _ => []

/-- Does a header wait behind one of those in a lane: it missed itself, or its egress is one the other's aperture can reach (or, the other's entry
known, its egress), and it may not pass the other? -/
def State.behindIn (s : State) (lane : List Pend) (u : Pend) : Bool :=
  let e := s.egressesOf u
  lane.any fun w => mustFollow w.t u.t &&
    (u.missed ||
      (if w.idx.isSome then
        let x := aptOfShape w.vh w.shape
        e.any fun d => if d = 64 then x.remote else bitOf x.ports d
       else (s.egressesOf w).any fun d => e.contains d))

/-- Does a header wait behind one in its ingress's miss lane? -/
def State.behind (s : State) (u : Pend) : Bool := s.behindIn (Tab.getD s.core.miss u.it.src []) u

/-! ### The gateway (R260 to R271) -/

/-- Put a request into its ingress's gateway wait lane. -/
def State.gwPush (s : State) (d : Draft) (kind target : Nat) : State :=
  let lane := Tab.getD s.core.gwWait d.it.src [] ++ [{ tr := d, kind := kind, target := target }]
  (({ s with core := { s.core with gwWait := Tab.put s.core.gwWait d.it.src lane } } : State).ortSts).drainGen

/-- Take an entry and let the request in (R262, R266); one for this node goes to its own local delivery (R252). -/
def State.gwIssue (s : State) (d : Draft) (kind target : Nat) : State :=
  let n := respBytes d.t
  let rsv := respRsv n
  if kind = 0 then
    match d.hal with
    | none => s
    | some h =>
      let (e, s) := s.ortTake 0 d.dst { kind := 0, vh := d.vh, src := d.it.src, req := d.it.t, node := h.dst, port := d.dst, tvh := h.dvh, left := n, rsv := rsv }
      let h := { h with ftag := e, epoch := s.epochOf e }
      if h.dst = s.node then (s.sendHal d.it.src h d.t.data).dropHead d.it else s.enterCore { d with hal := some h, ort := some e } d.it.id
  else
    let node := match d.it.hal with
      | some h => h.src
      | none => 0
    let (e, s) := s.ortTake kind d.dst { kind := kind, vh := d.vh, src := d.it.src, req := if kind = 1 then d.t else d.it.t,
                                         hal := if kind = 1 then d.it.hal else none, node := node, port := d.dst, tvh := target, left := n, rsv := rsv }
    s.enterCore { d with t := { d.t with tag := BitVec.ofNat 14 e }, ort := some e } d.it.id

/-- Issue a request that needs an entry, or let it wait: behind an earlier one of its class, or for the conditions of R266. -/
def State.gwTry (s : State) (d : Draft) (kind target : Nat) : State :=
  let lane := Tab.getD s.core.gwWait d.it.src []
  if lane.any (fun g => g.tr.cls == d.cls) || !s.ortCan kind d.dst d.vh (respRsv (respBytes d.t)) then s.gwPush d kind target
  else s.gwIssue d kind target

/-- Does a PASID go to a port (R263)? -/
def State.gwPasid (s : State) (t : Tlp) (p : Nat) : Tlp := if s.flag (F.GW.PORT_CFG.PASID_FWD p) then t else { t with pasid := none, pmr := false, exe := false }

/-- A train to one egress: refused at a closed port, queued behind the gateway wait lane, or admitted in pieces. -/
def State.goOne (s : State) (d : Draft) (pieces : List Tlp) : State :=
  if s.closed d.dst && !(d.it.src == 49 && isCplKind d.t.kind && s.vhShut d.dst) && !(d.it.vh.isSome && s.safeHost d.dst) then s.toClosed d
  else if isNpKind d.t.kind && d.hal.isNone && (Tab.getD s.core.gwWait d.it.src []).any (fun g => g.tr.cls == d.cls) then s.gwPush d 3 0
  else s.admitAll d pieces true

/-- A cross-VH request (R150, R260, R261). -/
def State.goCross (s : State) (d : Draft) (tvh : Nat) : State :=
  if s.closed d.dst then s.toClosed { d with tvh := some tvh }
  else if !s.flag (F.GW.GW_RID.VALID tvh) then
    let h := s.toHal d.vh d.t s.node d.dst tvh d.tag
    let s := s.fabDropNote d.it.src h 7
    let s := if isNpKind d.t.kind then s.answer d.it.src d.vh d.it.t .ur else s.pfnTlp d.vh d.dst tvh { d.t with reqId := d.it.t.reqId } 7 d.tag d.it.src
    (s.fenceLose d.stamp false d.it.t.addr.toNat 4).dropHead d.it
  else
    let t := s.gwPasid { d.t with reqId := BitVec.ofNat 16 (s.get (F.GW.GW_RID.RID tvh)) } d.dst
    if isNpKind t.kind then s.gwTry { d with t := t } 2 tvh else s.admitAll { d with t := t, tvh := some tvh } (s.splitWrite d.dst t) true

/-- A request that the gateway drops at its own node (R271). -/
def State.fabRefuse (s : State) (d : Draft) (h : Hdr) (c : Nat) : State :=
  let s :=
    if h.op = 1 then s.fabDrop d.it.src h c
    else (s.fabDropNote d.it.src h c).answer d.it.src d.vh d.it.t (if c = 5 ∨ c = 7 ∨ c = 0xB then .ur else .ca)
  (s.fenceLose d.stamp false d.it.t.addr.toNat 4).dropHead d.it

/-- A request whose window names this node (R252): a write is delivered here (R265), any other takes its SRC entry first. -/
def State.goOwn (s : State) (d : Draft) (h : Hdr) : State :=
  if h.op ≠ 1 then s.gwTry { d with hal := some h, cls := 3, dst := h.dport } 0 h.dvh
  else
    match s.localFault h with
    | some c => s.fabRefuse d h c
    | none =>
      let t := s.fromHal h d.t.data h.dport h.dvh
      s.admitAll { d with t := t, hal := none, cls := tlpClass t, dst := h.dport, tvh := some h.dvh, att := s.attOf h.dvh 0 h.dport } (s.splitWrite h.dport t) true

/-- A request into the fabric (R260, R254). -/
def State.goFabric (s : State) (d : Draft) (h : Hdr) : State :=
  if h.dst = s.node then (s.count (Ctr.vh d.vh 8) 1).goOwn d h
  else
  match s.routeHal h none with
  | .error c => s.fabRefuse d h c
  | .ok (p, cls, h') =>
    let s := (s.noteFlow h p).count (Ctr.vh d.vh 8) 1
    let d := { d with hal := some h', cls := cls, dst := p }
    if h.op = 1 then s.enterCore d d.it.id else s.gwTry d 0 h.dvh

/-! ### Responses (R268, R269) -/

/-- A completion built for the requester of a SRC or LCL entry: its own ID and tag, and a completer ID that the rules leave open. -/
def State.cplBack (s : State) (o : Ort) (t : Tlp) : Tlp × State :=
  let (x, s) := s.free
  ({ t with reqId := o.req.reqId, tag := o.req.tag, cplId := BitVec.ofNat 16 x }, s)

/-- Send a response on to a requester at a port of this node; its entry is used up as it is sent (R268). -/
def State.sendBack (s : State) (it : InTrain) (e : Nat) (o : Ort) (t : Tlp) : State :=
  let (t, s) := s.cplBack o t
  let d : Draft := { it := it, vh := o.vh, t := t, cls := 2, dst := o.src, gen := s.get (F.HDR.COMMIT_GEN.GEN 0x40), rsv := some e, resp := some e,
                     att := s.attOf o.vh 0 o.src }
  if s.closed o.src then s.toClosed d else s.admitAll d (s.splitCpl o.src t) true

/-- A response that matches no entry (R269). -/
def State.unmatched (s : State) (it : InTrain) (vh : Nat) (late : Bool) (w : List Nat) (pcie : Bool) : State :=
  let s := s.addSat (if late then F.GW.GW_STS.LATE_CPL else F.GW.GW_STS.UNEXP) 1
  let s := if late then s.count (Ctr.vh vh 12) 1 else s
  (s.raise (if late then Ev.LATE_CPL else Ev.GW_UNEXP) { inst := it.src, key := vh, detail := 1, w := w,
                                                         aerAt := if pcie && !late then s.aerOf it.src vh it.t.cplId.toNat else none,
                                                         hdr := s.aerHeader it.src it.t, ingress := s.ingressOf it.src it.t.cplId.toNat }).dropHead it

def cplStOf (n : Nat) : CplSt := if n = 0 then .sc else if n = 1 then .ur else if n = 2 then .rrs else .ca

/-- An RSP addressed to this node (R269). -/
def State.rspHere (s : State) (it : InTrain) (h : Hdr) : State :=
  let w := trainW h.reqId h.ftag it.src 63 h.dvh 5 h.len 0 0 h.src h.dst 0
  match s.ort? h.ftag with
  | none => s.unmatched it h.dvh (decide (s.epochOf h.ftag ≠ h.epoch)) w false
  | some o =>
    if o.quar || s.epochOf h.ftag != h.epoch then s.unmatched it o.vh true w false
    else if o.kind ≠ 0 then s.unmatched it h.dvh false w false
    else if o.node ≠ h.src then s.unmatched it o.vh false w false
    else
      let t : Tlp := { kind := if h.op = 9 then .cplD else .cpl, tc := BitVec.ofNat 3 h.tc, ro := h.ro, ido := h.ido, ns := h.ns, ep := h.ep,
                       status := cplStOf h.status, byteCount := h.byteCount, lowAddr := BitVec.ofNat 7 h.lowerAddr, len := h.len, data := it.t.data }
      let (t, s) := s.poisonTlp it o.vh t
      s.sendBack it h.ftag o t

/-- A completion addressed to a gateway requester ID (R143 step 3, R269, R418). -/
def State.gateCpl (s : State) (it : InTrain) (v : Nat) : State :=
  let t := it.t
  let k := t.tag.toNat
  let w := tlpW it.src v t 63 0 0
  if k ≥ 0x3F00 then (s.fwdCpl (k - 0x3F00) t.status t.cplId.toNat (leNat t.data) t.ep).dropHead it
  else
    match s.ort? k with
    | none => s.unmatched it v false w true
    | some o =>
      if o.kind = 0 || o.tvh != v || o.port != it.src then s.unmatched it v false w true
      else if o.quar then
        -- the record of a late completion names the requester and the node of the entry (R269)
        let rid := (o.hal.map Hdr.reqId).getD o.req.reqId.toNat
        s.unmatched it v true (trainW rid k it.src o.src v 2 t.data.length 0 0 (if o.kind = 1 then o.node else s.node) s.node 0) true
      else if o.kind = 2 then (let (t, s) := s.poisonTlp it v t; s.sendBack it k o t)
      else
        match o.hal with
        | none => s.unmatched it v false w true
        | some q =>
          let (t, s) := s.poisonTlp it v t
          let h := { rspFor s.node q (cplCode t.status) with
            op := if t.data.isEmpty then 8 else 9, len := t.data.length, ep := t.ep, byteCount := t.byteCount, lowerAddr := t.lowAddr.toNat }
          if h.dst = s.node then (s.ortUse k t.data.length (t.status != .sc)).rspHere { it with t := t } h
          else
          match s.routeHal h none with
          | .error c => (s.fabDrop it.src h c).dropHead it
          | .ok (p, cls, h') =>
            (s.noteFlow h p).enterCore { it := it, vh := v, t := t, hal := some h', cls := cls, dst := p, gen := s.get (F.HDR.COMMIT_GEN.GEN 0x40),
                                         rsv := some k, resp := some k, att := s.attOf v 0 it.src } it.id

/-! ### Multicast (R213, R275) -/

/-- Drop at once the copies for members that are closed (R219). -/
def State.closedCopies (s : State) (id : Nat) (ports : List Nat) : State :=
  ports.foldl (fun s p =>
    match s.train? id with
    | some t => if s.closed p then s.dropCopy t p 2 else s
    | none => s) s

/-- A multicast train to a set of ports; an empty set is discarded as MC_EMPTY. -/
def State.goMulti (s : State) (d : Draft) (id g : Nat) (ports : List Nat) : State :=
  if ports.isEmpty then
    let s := s.raise Ev.MC_EMPTY { inst := g, key := d.vh }
    if d.last then s.dropHead d.it else s
  else (s.enterCore { d with dst := 63, ports := ports, group := some g } id).closedCopies id ports

/-- Ports of a Halud group at this node, but for the ingress. -/
def State.hgroupPorts (s : State) (g src : Nat) : List Nat :=
  if !s.flag (F.MCAST.HGROUP.VALID g) then [] else (List.range 48).filter fun p => bitOf (s.get (F.MCAST.HGROUP.PORTS g)) p && p != src

/-- A posted write to a PCIe group: its VH's members, and the ports of the Halud group bound to it that are not among them. A group blocked at the ingress
function goes nowhere and is an MC Blocked TLP there, as PCIe has it (notes/assumptions/12.md). -/
def State.goGroup (s : State) (d : Draft) (o : Owner) (g : Nat) : State :=
  if s.mcBlocked o d.t g then (s.aer o.vh o.fn .mcb 0 (s.aerHeader d.it.src d.it.t)).goMulti { d with cls := 0 } d.it.id g []
  else
    let members := s.pgroupPorts o.vh g
    let ports := members.filter (· ≠ d.it.src)
    let hg := s.get (F.GW.MC_BIND.HGROUP o.vh g)
    let hports := if s.flag (F.GW.MC_BIND.EN o.vh g) then (s.hgroupPorts hg d.it.src).filter (!members.contains ·) else []
    let h := { s.toHal o.vh d.t 0 0 0 d.tag with mc := true, group := hg }
    if hports.isEmpty then s.goMulti { d with cls := 0 } d.it.id g ports
    else if ports.isEmpty then s.goMulti { d with hal := some h, cls := 3 } d.it.id hg hports
    else
      let (id, s) := (s.goMulti { d with cls := 0 } d.it.id g ports).newId
      s.goMulti { d with hal := some h, cls := 3, last := false } id hg hports

/-! ### Messages that the device itself heeds (R297, R350, R455) -/

/-- An error message from a function (its severity 0 COR, 1 NONFATAL, 2 FATAL). -/
def msgSeverity (t : Tlp) : Option Nat :=
  if t.kind ≠ .msg ∧ t.kind ≠ .msgD then none
  else if t.code = 0x30 then some 0 else if t.code = 0x31 then some 1 else if t.code = 0x33 then some 2 else none

/-- The virtual AER of a virtual endpoint records an error message of its VF (R296): Device Status by its severity, Signaled System Error
in Status where SERR# Enable is set, and in the status register of that
severity the error it stands for, which the message does not name, so a free value. -/
def State.vfAer (s : State) (v d sev : Nat) : State :=
  let (x, s) := s.free
  let s := s.orCfg v (64 + d) 0x1E (16 + sev)
  let s := if sev ≥ 1 && bitOf (s.cfg v (64 + d) 1) 8 then s.orCfg v (64 + d) 1 30 else s
  let dw := if sev = 0 then 0x44 else 0x41
  s.setCfg v (64 + d) dw (Nat.lor (s.cfg v (64 + d) dw) (x % 2 ^ 32))

/-- Does a routing ID at a shared port name a VF that a VF_MAP entry describes and nothing holds? -/
def State.unboundVf (s : State) (p rid : Nat) : Bool :=
  (List.range 1024).any fun i => s.flag (F.VH.VF_MAP0.VALID i) && s.get (F.VH.VF_MAP0.STATE i) == 0 && s.get (F.VH.VF_MAP0.PORT i) == p &&
    s.get (F.VH.VF_MAP0.PHYS_RID i) == rid

/-- Error messages reach the virtual AER of a virtual endpoint and may trigger DPC, whose Error Source ID then names the sender and which keeps the
message, as PCIe has it (notes/assumptions/12.md); a physical function's ERR_FATAL contains the tenants of its port. Answers whether the message goes
on. -/
def State.heed (s : State) (it : InTrain) (o : Owner) (t : Tlp) : Bool × State :=
  if it.vh.isSome || o.fn = 0 || o.fn ≥ 32 then (true, s)
  else
    match msgSeverity t with
    | none => (true, s)
    | some sev =>
      let s := if o.vf.isSome then s.vfAer o.vh o.fn sev else s
      let s := if o.vf.isNone && sev == 2 && s.get (F.VH.VDSP.KIND o.vh o.fn) == 2 && !s.unboundVf (s.get (F.VH.VDSP.PORT o.vh o.fn)) t.reqId.toNat then
          s.containTenants (s.get (F.VH.VDSP.PORT o.vh o.fn))
        else s
      if s.dpcReady o.vh o.fn sev then
        let s := s.dpcTrig o.vh o.fn sev
        (false, s.setCfg o.vh o.fn 0x56 (s.cfg o.vh o.fn 0x56 % 65536 + t.reqId.toNat * 65536))
      else (true, s)

/-! ### The end of a lookup -/

/-- Is this the write that starts a fence: to CTL_FENCE of the control page, of a size that page accepts (R326, R331)? -/
def isFence (d : Draft) : Bool :=
  d.dst == 48 && d.t.kind == .mwr && d.t.addr.toNat == 0x2000000 && !d.t.ep && (accLen d.t == 4 || accLen d.t == 8)

/-- The train a settled header leaves as: rewritten for a member, or as `t` for a destination port, with its window's tag. -/
def State.draftOf (s : State) (p : Pend) (mark : Option (Nat × Nat)) (dst : Nat) (t : Tlp) (tag : Nat) : Draft :=
  let o := p.owner
  let w := match p.ctx with
    | some (_, w) => w
    | none => zeroCtx
  { it := p.it, vh := o.vh, t := if p.ctx.isSome then { t with tc := ctxTc w t.tc } else t, cls := tlpClass t, dst := dst, gen := p.gen, tag := tag,
    queue := if p.ctx.isSome then ctxQueue w else none, stamp := p.stamp, dl := mark, att := s.attOf o.vh o.fn dst,
    bad := s.tailEvent p.it o.vh o.fn }

/-- A broadcast message goes to every vDSP of its VH that has a port of its own. -/
def State.goBroadcast (s : State) (p : Pend) (mark : Option (Nat × Nat)) : State :=
  let o := p.owner
  let s := if p.t.code = 0 then s.hostUnlock o.vh else s
  let ports := ((s.liveVdsps o.vh).filter fun d => s.get (F.VH.VDSP.KIND o.vh d) != 3).map fun d => s.get (F.VH.VDSP.PORT o.vh d)
  let (t, s) := s.poisonTlp p.it o.vh p.t
  let s := ports.foldl (fun s q =>
    let (id, s) := s.newId
    let d := { s.draftOf p mark q t 0 with last := false }
    if s.closed q then s.closedDrop q p.it.src o.vh p.it.t none p.t none 0 else s.enterCore d id) s
  s.dropHead p.it

/-- A configuration write leaves for a port: one that destroys the VFs bound there force-detaches them, where PF_GUARD has let it pass (R293). -/
def State.pfWrite (s : State) (p : Nat) (t : Tlp) : State :=
  let rid := t.addr.toNat / 65536
  let dw := t.addr.toNat % 4096 / 4
  if (s.vfOf p rid).isSome then s
  else
    let hit := s.pfDestroys p rid dw t.fbe.toNat (leNat t.data)
    (if hit then s.detachVfs p else s).pfWrote p rid dw t.fbe.toNat (leNat t.data)

/-- A train for one port of its VH, the Hut or the management endpoint: what snooping it does (R151), then the way out; a fence
that was refused at its lookup goes no further (R329). -/
def State.goNative (s : State) (p : Pend) (mark : Option (Nat × Nat)) (dst : Nat) (t : Tlp) (xtag : Nat) : State :=
  let o := p.owner
  let it := p.it
  let (fwd, s1) := s.heed it o t
  if !fwd then s1.dropHead it
  else
    let (d, s) := s1.poison (s.draftOf p mark dst t xtag)
    let s := if p.shape ≠ [] then s.count (Ctr.vh o.vh 7) 1 else s
    if p.fence = some true then s.dropHead it
    else
      let s := if dst < 48 && (t.kind == .cfgWr0 || t.kind == .cfgWr1) then s.pfWrite dst t else s
      s.goOne d [d.t]

/-- Is a Selective IDE TLP not to be forwarded by a route: one that alters it, in its IDs, address, type, traffic class, by a conversion or an overlay
at a member port, or one of steps 2 to 5 of R143, which R163 does not list? It completes as UR there (R5; DEDUCED, notes/assumptions/108.md). What ends in the Hut or the management endpoint goes no
further. -/
def State.ideAlters (s : State) (p : Pend) (r : Route) : Bool :=
  let tcMoved : Bool := match p.ctx with
    | some (_, w) => ctxTc w p.it.t.tc != p.it.t.tc
    | none => false
  p.it.t.ide && p.it.vh.isNone && (match r with
    | .go dst t => decide (dst < 48) && (t != p.it.t || tcMoved || !isMem t.kind)
    | .cross .. => true
    | .fabric .. => true
    | .gateCpl => true
    | .bcast => true
    | .mcast g => p.t != p.it.t || tcMoved || s.flag (F.GW.MC_BIND.EN p.vh g) ||
        (s.pgroupPorts p.vh g).any fun q => decide (s.cfg p.vh (if s.role q = 1 then 0 else ((s.vdspOfPort q).map Prod.snd).getD 0) 0x66 % 64 ≥ 6)
    | _ => false)

/-- A settled header takes its route. -/
def State.goRoute (s : State) (p : Pend) (mark : Option (Nat × Nat)) (r : Route) : State :=
  let o := p.owner
  let it := p.it
  -- in SAFE a request that is neither served nor a configuration request completes with Completion Abort (R358)
  let no : CplSt := if s.phase = 4 && !isCfgKind it.t.kind then .ca else .ur
  if s.ideAlters p r then s.plainRefuse it o p.stamp no
  else
  match r with
  | .refuse code st logged tag => s.refuse it o p.stamp code (if st = .ur then no else st) logged tag
  | .ur => s.plainRefuse it o p.stamp no
  | .ca => s.plainRefuse it o p.stamp .ca
  | .busy i => s.refuse it o p.stamp Ev.VF_BUSY no it.t.addr.toNat i
  | .drop => s.dropHead it
  | .gateCpl => s.gateCpl it o.vh
  | .bcast => s.goBroadcast p mark
  | .go dst t => s.goNative p mark dst t (if p.shape ≠ [] then entTag p.entry else 0)
  | .cross dst tvh t tag =>
    let (d, s) := s.poison (s.draftOf p mark dst t tag)
    (s.count (Ctr.vh o.vh 7) 1).goCross d tvh
  | .fabric node port tvh t tag =>
    let (d, s) := s.poison (s.draftOf p mark 63 t tag)
    s.goFabric d (s.toHal o.vh d.t node port tvh tag)
  | .mcast g =>
    let (d, s) := s.poison (s.draftOf p mark 63 p.t 0)
    s.goGroup d o g

/-- The destinations of a route, each told by whether it is the VH's HOST port (R299); a multicast write has all the members it goes to. None for
a header that goes nowhere. -/
def State.destUps (s : State) (p : Pend) (r : Route) : Option (List Bool) :=
  let up (q : Nat) : Bool := q == s.get (F.VH.VH_BIND.HOST_PORT p.vh) && p.fn != 0
  match r with
  | .go q _ => some [up q]
  | .cross .. => some [false]
  | .fabric .. => some [false]
  | .mcast g =>
    let m := s.pgroupPorts p.vh g
    let h := if s.flag (F.GW.MC_BIND.EN p.vh g) then
        (s.hgroupPorts (s.get (F.GW.MC_BIND.HGROUP p.vh g)) p.it.src).filter fun q => !m.contains q
      else []
    some (if s.mcBlocked p.owner p.t g then [] else (m.filter (· ≠ p.it.src)).map up ++ h.map fun _ => false)
  | _ => none

/-- Does the context of a header refuse it: it does not permit its kind, or one of its ways (R299)? A request that breaks a permission is refused
whole. -/
def State.ctxRefuses (s : State) (p : Pend) (r : Route) : Bool :=
  match p.ctx, s.destUps p r with
  | some (_, w), some ups => !ctxPermits w p.t ups
  | _, _ => false

/-- The granules a write marks (R301): one for each HOST port it leaves by, at the address and in the form it is sent there;
a window to this node itself leads to such a port too (R265). -/
def State.dlMarks (s : State) (w : List Nat) (p : Pend) (r : Route) : List (Nat × Nat × Nat) :=
  let leaves (q : Nat) (t : Tlp) : List (Nat × Nat × Nat) := if q < 48 && s.role q == 1 then (s.dlMarkOf w t).toList else []
  (match r with
  | .go q t => leaves q t
  | .cross q tvh t _ => if s.flag (F.GW.GW_RID.VALID tvh) then leaves q t else []
  | .mcast g =>
    if s.mcBlocked p.owner p.t g then []
    else ((s.pgroupPorts p.vh g).filter (· ≠ p.it.src)).flatMap (fun q => leaves q (s.overlay p.vh p.t q)) ++
      (if s.flag (F.GW.MC_BIND.EN p.vh g) then
        ((s.hgroupPorts (s.get (F.GW.MC_BIND.HGROUP p.vh g)) p.it.src).filter fun q => !(s.pgroupPorts p.vh g).contains q).flatMap fun q => leaves q p.t
       else [])
  | .fabric node q tvh t tag =>
    let h := s.toHal p.vh t node q tvh tag
    if node = s.node && (s.localFault h).isNone then leaves q (s.fromHal h t.data q tvh) else []
  | _ => []).eraseDups

/-- Does a train whose tail will be bad go ahead of it: a write or completion to one port, cut-through, whose header carriage is good (R182, R184)? -/
def State.headAhead (s : State) (p : Pend) (r : Route) : Bool :=
  match r with
  | .go dst t => (t.kind == .mwr || isCplKind t.kind) && p.it.tail != .badHeader &&
      s.headGoes p.it.src dst (tlpClass t) (tlpHdrBytes p.it.flit t) t.data.length
  | _ => false

/-- The remaining effects of a header whose window, context and place in order are settled. None: a logged write whose line finds the
coalescing cache full waits (R302). -/
def State.finish (s : State) (p : Pend) : Option State :=
  let o := p.owner
  let it := p.it
  let r := s.routeOf p
  let tail := s.tailEvent it o.vh o.fn
  let (out, outHal) : Option (Tlp × Nat) × Option Hdr := match r with
    | .go _ t => (some (t, o.vh), none)
    | .cross _ tvh t _ => (some (t, tvh), none)
    | .fabric node port tvh t tag => (none, some (s.toHal o.vh t node port tvh tag))
    | _ => (none, none)
  let null (s : State) (code : Nat) : State := (s.nullReport it.src o.vh it.t none (r.port.getD 63) code 0 p.stamp out outHal).dropHead it
  let go (s : State) (mark : Option (Nat × Nat)) : State :=
    match tail with
    | none => s.goRoute p mark r
    | some code => if s.headAhead p r then s.goRoute p mark r else null s code
  if s.ctxRefuses p r then
    match tail, p.ctx with
    | some code, _ => some (null s code)
    | none, some (i, w) => some ((s.ctxCount i [(13, 1)]).refuse it o p.stamp Ev.CTX_PERM .ur it.t.addr.toNat (ctxTag w) (toHut := p.toHut))
    | none, none => some s
  else
    match p.ctx with
    | none => some (go s none)
    | some (i, w) =>
      let marks := s.dlMarks w p r
      if s.dlFull marks then none
      else some (go (marks.foldl (fun s m => s.dlMark o.vh i m) (s.ctxCountReq i p.t)) (marks.head?.map fun m => (m.1, m.2.2)))

/-! ### Windows and contexts at the lookup instant (R147, R153, R154, R298) -/

/-- The aperture comparison and the read of the entry: overlay, cache, or DRAM. -/
def State.windowStep (s : State) (p : Pend) : Pend × State :=
  if !isMem p.t.kind || p.t.at2 == 1 then (p, s)
  else
    match s.aptAt p.vh p.t.addr.toNat with
    | none => (p, s)
    | some x =>
      let i := x.index p.t.addr.toNat
      let p := { p with shape := x.shape }
      let hit (w : List Nat) (s : State) : Pend × State := ({ p with entry := w }, s.count (Ctr.vh p.vh 0) 1)
      match Tab.get? s.xlat.overlay i with
      | some w => hit w s
      | none =>
        match (if s.flag F.XLAT.TC_CTL.EN then s.cacheHit i else none) with
        | some (w, s) => hit w s
        | none =>
          ({ p with idx := some i, entry := s.wrtDram i, winRead := s.core.nextRead },
            ((s.issueRead.count (Ctr.vh p.vh 1) 1).count (Ctr.dev 0) 1).dramUse 3 1)

/-- The context lookup. A key that is not among the cached contexts is read from DRAM, whether or not it exists. -/
def State.contextStep (s : State) (p : Pend) : Pend × State :=
  if !isMem p.t.kind || p.it.vh.isSome || p.it.src ≥ 48 || !bitOf (s.get F.CTX.CTX_CTL.LOOKUP_EN) p.it.src then (p, s)
  else
    match s.ctxFor p.vh p.t with
    | some i =>
      if s.ctxs.cache.contains i then ({ p with ctx := some (i, s.ctxAt i) }, s.count (Ctr.vh p.vh 3) 1)
      else ({ p with ctxWait := true, ctxRead := s.core.nextRead }, ((s.issueRead.count (Ctr.vh p.vh 4) 1).count (Ctr.dev 1) 2).dramUse 3 2)
    | none => ({ p with ctxWait := true, ctxRead := s.core.nextRead }, ((s.issueRead.count (Ctr.vh p.vh 4) 1).count (Ctr.dev 1) 1).dramUse 3 1)

def State.missLane (s : State) (p : Nat) : List Pend := Tab.getD s.core.miss p []
def State.setMiss (s : State) (p : Nat) (l : List Pend) : State :=
  (({ s with core := { s.core with miss := Tab.setD s.core.miss p l [] } } : State).missSts).drainGen

/-- The first train of a miss lane that awaits nothing more and waits behind none before it (R155). -/
def State.missReady (s : State) : List Pend → List Pend → Option Pend
  | _, [] => none
  | seen, u :: rest => if !u.idx.isSome && !u.ctxWait && !s.behindIn seen u then some u else s.missReady (seen ++ [u]) rest

/-- Replace one waiting train in a lane. -/
def setPend (l : List Pend) (id : Nat) (q : Pend) : List Pend := l.map fun u => if u.it.id = id then q else u

/-- Finish the trains of a miss lane that await nothing more, in arrival order, each as soon as nothing that it may not pass is before it; none while
the gateway wait lane holds its 32 trains (R266). -/
def State.drainMiss (s : State) (p : Nat) : Nat → State
  | 0 => s
  | n + 1 =>
    if (Tab.getD s.core.gwWait p []).length ≥ 32 then s
    else
    match s.missReady [] (s.missLane p) with
    | none => s
    | some u =>
      match (s.setMiss p ((s.missLane p).filter fun w => w.it.id != u.it.id)).finish u with
      | some s' => s'.drainMiss p n
      | none => if u.lineWait then s else (s.setMiss p (setPend (s.missLane p) u.it.id { u with lineWait := true })).addSat F.DIRTY.DL_STS.ADMIT_WAIT 1

/-- Does a header looked up start a fence: it is one, good as far as is known, that its context lets through (R326)? A context that is still to be read
counts as it stands in DRAM (DESIGN CHOICE, notes/assumptions/83.md). -/
def State.startsFence (s : State) (p : Pend) : Bool :=
  let p := if p.ctxWait then { p with ctx := (s.ctxFor p.vh p.t).map fun i => (i, s.ctxAt i) } else p
  p.toHut && p.it.vh.isNone && decide (p.it.src < 48) && decide (s.phase > 1) && s.phase != 4 && (s.tailEvent p.it p.vh p.fn).isNone && !s.ctxRefuses p (s.routeOf p) &&
    (match s.routeOf p with
     | .go dst t => isFence (s.poison (s.draftOf p none dst t 0)).1
     | _ => false)

/-- The fence takes effect at the lookup instant of its write, which it does not itself cover; a refused one goes no further (R326, R329). -/
def State.fenceLookup (s : State) (p : Pend) : Pend × State :=
  let s := s.fenceStart p.vh (leNat p.t.data)
  ({ p with stamp := none, fence := some (s.vctl p.vh).refused }, s)

/-- Lookup of a TLP (R143). -/
def State.lookupTlp (s s0 : State) (it : InTrain) : State :=
  match s.ownerHead it with
  | none => s.detachDrop it
  | some o =>
    let t := s.tenantTlp o it.t
    let stamp := if it.vh.isNone && it.src < 48 && isPostedKind t.kind then some (o.vh, (s.vctl o.vh).stamp) else none
    let p : Pend := { it := it, vh := o.vh, fn := o.fn, vf := o.vf, t := t, gen := s.get (F.HDR.COMMIT_GEN.GEN 0x40), stamp := stamp }
    let hut (p : Pend) : Bool := p.shape == [] && (s.routeOf p).port == some 48
    if it.vh.isNone && s.sourceBad o t then s.refuse it o stamp Ev.ACS_VIOL .ca t.addr.toNat 0 (toHut := hut (s.windowStep p).1)
    else if it.vh.isNone && s.vfMute o t then s.refuse it o stamp Ev.VF_BME .ur t.addr.toNat 0 (toHut := hut (s.windowStep p).1)
    else
      let (p, s) := s.contextStep p
      let (p, s) := s.windowStep p
      let p := { p with missed := p.idx.isSome || p.ctxWait, toHut := p.shape == [] && (s.routeOf p).port == some 48 }
      let (p, s) := if s.startsFence p then s.fenceLookup p else (p, s)
      -- no more than 1,024 WRT reads are in flight in the device: the header waits (R146)
      if p.idx.isSome && decide (s0.wrtReads ≥ 1024) then s0
      else if p.missed || s.behind p then s.setMiss it.src (s.missLane it.src ++ [p])
      else
        match s.finish p with
        | some s' => s'
        | none => (s.setMiss it.src (s.missLane it.src ++ [{ p with lineWait := true }])).addSat F.DIRTY.DL_STS.ADMIT_WAIT 1

/-- A train the device built with its egress fixed. -/
def State.lookupBuilt (s : State) (it : InTrain) (v e : Nat) : State :=
  s.goOne { it := it, vh := v, t := it.t, cls := tlpClass it.t, dst := e, gen := s.get (F.HDR.COMMIT_GEN.GEN 0x40), att := s.attOf 24 0 e } [it.t]

/-! ### Halud packets (R251 to R259, R265, R271, R275) -/

/-- A record received in a NOTICE (R416): an ALARM is admitted as ERROR. -/
def LogRec.ofBytes (l : List Byte) : LogRec :=
  let w (k : Nat) : Nat := leNat ((l.drop (8 * k)).take 8)
  { code := bitsOf (w 0) 63 48, lclass := min 2 (bitsOf (w 0) 47 46), eclass := bitsOf (w 0) 45 43, coal := bitOf (w 0) 42,
    detail := bitsOf (w 0) 41 40, epoch := bitsOf (w 0) 39 24, key := bitsOf (w 0) 23 8, time := w 1, seq := bitsOf (w 2) 63 32,
    count := bitsOf (w 2) 31 0, lastDelta := bitsOf (w 3) 63 28, node := bitsOf (w 3) 27 16, inst := bitsOf (w 3) 15 0, w := [w 4, w 5, w 6, w 7] }

/-- A NOTICE addressed to this node. -/
def State.noticeRx (s : State) (data : List Byte) : State :=
  let s := s.count (Ctr.dev 38) 1
  if data.length ≠ 64 || !s.flag F.LOG.LOG_CTL.EN then s
  else
    let (ok, s) := s.admitRec (LogRec.ofBytes data)
    if ok then s else s.countEvent Ev.LOG_DROP 0x59

/-- Delivery of a request at this node (R265). -/
def State.haludHere (s : State) (it : InTrain) (h : Hdr) : State :=
  match s.localFault h with
  | some c => (s.fabDrop it.src h c).dropHead it
  | none =>
    let t := s.fromHal h it.t.data h.dport h.dvh
    let d : Draft := { it := it, vh := h.dvh, t := t, cls := tlpClass t, dst := h.dport, gen := s.get (F.HDR.COMMIT_GEN.GEN 0x40), tag := h.wtag,
                       att := s.attOf h.dvh 0 h.dport }
    let (d, s) := s.poison d
    if h.op = 1 then s.admitAll d (s.splitWrite h.dport d.t) true else s.gwTry d 1 h.dvh

/-- Lookup of a Halud packet: `vc` none for one this node issues. -/
def State.lookupHal (s : State) (it : InTrain) (h : Hdr) : State :=
  let vc := if it.vh.isSome then none else some it.vc
  let dir : Bool := match vc with
    | some v => s.dirBad h v it.src
    | none => false
  let bad : Option Nat := match it.tail with
    | .good => none
    | .cut => some Ev.NULL_LINK_LOST
    | .uncorrectable => if it.t.data.isEmpty then some Ev.NULL_UE else none
    | .badHeader => some Ev.NULL_UE
    | _ => some Ev.NULL_PARTNER
  let ahead : Bool := !dir && !h.mc && h.dst != s.node && it.tail != .badHeader && (match s.routeHal h vc with
    | .ok (p, cls, _) => s.headGoes it.src p cls 32 it.t.data.length
    | .error _ => false)
  match (if ahead then none else bad) with
  | some code => (s.nullReport it.src h.dvh it.t (some h) 63 code h.wtag none).dropHead it
  | none =>
    if dir then
      (if h.mc then (s.fabDropNote it.src h 3).mcLost h.group true h.svh it.src 0 (halW it.src 63 h) else s.fabDrop it.src h 3).dropHead it
    else if h.mc then
      let (d, s) := s.poison { it := it, vh := h.svh, t := it.t, hal := some h, cls := 3 + (vc.getD 0), dst := 63,
                               gen := s.get (F.HDR.COMMIT_GEN.GEN 0x40), tag := h.wtag }
      s.goMulti d it.id h.group (s.hgroupPorts h.group it.src)
    else if h.dst = s.node then
      if h.op = 8 ∨ h.op = 9 then s.rspHere it h
      else if h.op = 0x10 then s.pfnRx h
      else if h.op = 0x11 then s.noticeRx it.t.data
      else s.haludHere it h
    else
      match s.routeHal h vc with
      | .error c => (s.fabDrop it.src h c).dropHead it
      | .ok (p, cls, h') =>
        let d : Draft := { it := it, vh := h.dvh, t := it.t, hal := some h', cls := cls, dst := p, gen := s.get (F.HDR.COMMIT_GEN.GEN 0x40), tag := h.wtag,
                           bad := bad }
        let (d, s) := s.poison d
        (s.noteFlow h p).enterCore d it.id

/-! ### One lookup -/

/-- The header an ingress instance gives to lookup next: its oldest, but for Halud headers of a VC that is held (R256). -/
def State.nextHead (s : State) (p : Nat) : Option InTrain :=
  (Tab.getD s.core.inq p []).find? fun it => !(it.hal.isSome && it.vh.isNone && s.heldVc p it.vc)

/-- Requests of the host of a contained VH that are still answered: configuration requests to its virtual switch, and reads of its BAR0 and BAR4
(R351). In SAFE every request of a HOST port is answered (R358). -/
def State.stillServed (s : State) (p : Nat) (t : Tlp) : Bool :=
  s.safeHost p || s.vhShut p && (match s.vhOfHost p with
    | some v =>
      if isCfgKind t.kind then (s.cfgTarget v (cfgReqOf t)).isSome
      else isRead t.kind && (match s.meBar v t.addr.toNat with
        | some (b, _) => b != 2
        | none => false)
    | none => false)

/-- TRAIN_LOOKUP at an ingress instance: nothing while its miss lane or gateway wait lane is full (R154, R266). No TLP is admitted from a closed port;
one whose tail had not arrived is a bad train, and a Halud packet that has come whole was admitted as it came (R120, R348). -/
def State.lookup (s : State) (p : Nat) : State :=
  let s := s.drainMiss p 33
  if (s.missLane p).length ≥ 32 || (Tab.getD s.core.gwWait p []).length ≥ 32 then s
  else
    match s.nextHead p with
    | none => s
    | some it =>
      let s0 := s
      let s : State := { s with core := { s.core with inq := Tab.setD s.core.inq p ((Tab.getD s.core.inq p []).filter fun x => x.id != it.id) [] } }
      if it.vh.isNone && it.hal.isNone && s.closed p && it.tail != .cut && !s.stillServed p it.t then s.dropHead it
      else
        match it.hal, it.vh, it.eg with
        | some h, _, _ => s.lookupHal it h
        | none, some v, some e => s.lookupBuilt it v e
        | none, _, _ => s.lookupTlp s0 it

/-! ### Misses returning (R154, R157, R298) -/

/-- Is the oldest WRT read of an ingress, or its oldest context read, the one that tier 1 serves next (R24)? -/
def State.winReadDue (s : State) (p : Nat) : Bool :=
  match (s.missLane p).find? fun u => u.idx.isSome with
  | some u => s.oldestRead u.winRead
  | none => false
def State.ctxReadDue (s : State) (p : Nat) : Bool :=
  match (s.missLane p).find? fun u => u.ctxWait with
  | some u => s.oldestRead u.ctxRead && (s.ctxFor u.vh u.t).isSome
  | none => false

/-- How such a read ends: a location known to be uncorrectable stays so until it is rewritten (R157). -/
def State.winRes (s : State) (p : Nat) (r : DramRes) : DramRes :=
  match (s.missLane p).find? fun u => u.idx.isSome with
  | some u => if s.xlat.wrtUe.contains (u.idx.getD 0) then .uncorrectable else r
  | none => r
def State.ctxRes (s : State) (p : Nat) (r : DramRes) : DramRes :=
  match (s.missLane p).find? fun u => u.ctxWait with
  | some u => if (s.ctxFor u.vh u.t).any fun i => s.ctxs.ue.contains i then .uncorrectable else r
  | none => r

/-- The oldest WRT read of an ingress returns; it is the oldest of tier 1 (R24). -/
def State.missFill (s : State) (p : Nat) (bad : Bool) : State :=
  match (s.missLane p).find? fun u => u.idx.isSome with
  | none => s
  | some u =>
    if !s.oldestRead u.winRead then s
    else
    let i := u.idx.getD 0
    let bad := bad || s.xlat.wrtUe.contains i
    if bad then
      let s := (s.cacheForget i).setMiss p ((s.missLane p).filter fun q => q.it.id != u.it.id)
      let quiet := s.xlat.ueSeen.contains i
      let s : State := { s with xlat := { s.xlat with wrtUe := if s.xlat.wrtUe.contains i then s.xlat.wrtUe else s.xlat.wrtUe ++ [i],
                                                      ueSeen := if quiet then s.xlat.ueSeen else s.xlat.ueSeen ++ [i] } }
      (s.refuse u.it u.owner u.stamp Ev.XLAT_UE .ca u.it.t.addr.toNat 0 quiet (some i)).drainMiss p 33
    else
      let s := if entValid u.entry && !u.stale && s.flag F.XLAT.TC_CTL.EN then s.cachePut i u.entry else s
      (s.setMiss p (setPend (s.missLane p) u.it.id { u with idx := none })).drainMiss p 33

/-- The oldest context read of an ingress returns; it is the oldest of tier 1 (R24). -/
def State.ctxFill (s : State) (p : Nat) (bad : Bool) : State :=
  match (s.missLane p).find? fun u => u.ctxWait with
  | none => s
  | some u =>
    if !s.oldestRead u.ctxRead then s
    else
    match s.ctxFor u.vh u.t with
    | some i =>
      if bad || s.ctxs.ue.contains i then
        let s := s.setMiss p ((s.missLane p).filter fun q => q.it.id != u.it.id)
        let s : State := { s with ctxs := { s.ctxs with ue := if s.ctxs.ue.contains i then s.ctxs.ue else s.ctxs.ue ++ [i] } }
        (s.refuse u.it u.owner u.stamp Ev.CTX_UE .ca u.it.t.addr.toNat 0 (toHut := u.toHut)).drainMiss p 33
      else
        let s := s.ctxCache i
        (s.setMiss p (setPend (s.missLane p) u.it.id { u with ctxWait := false, ctx := some (i, s.ctxAt i) })).drainMiss p 33
    | none => (s.setMiss p (setPend (s.missLane p) u.it.id { u with ctxWait := false })).drainMiss p 33

/-! ### The gateway wait lane moves (R266) -/

/-- Requests that wait for no entry themselves, up to the next of their class that does. -/
def freeFollowers (cls : Nat) : List GwWait → List GwWait
  | [] => []
  | g :: rest => if g.tr.cls ≠ cls then freeFollowers cls rest else if g.kind = 3 then g :: freeFollowers cls rest else []

/-- The first request that may go on: none of its class waits before it, and it needs no entry or may take one. -/
def State.gwReady (s : State) : List GwWait → List Nat → Option GwWait
  | [], _ => none
  | g :: rest, seen =>
    if seen.contains g.tr.cls then s.gwReady rest seen
    else if g.kind = 3 then some g
    else if s.ortCan g.kind g.tr.dst g.tr.vh (respRsv (respBytes g.tr.t)) then some g
    else s.gwReady rest (seen ++ [g.tr.cls])

/-- ORT_ALLOCATE at an ingress instance. -/
def State.ortAllocate (s : State) (p : Nat) : State :=
  let lane := Tab.getD s.core.gwWait p []
  match s.gwReady lane [] with
  | none => s
  | some g =>
    let rest := lane.filter fun x => x.tr.it.id != g.tr.it.id
    let free := freeFollowers g.tr.cls rest
    let rest := rest.filter fun x => !free.any fun y => y.tr.it.id == x.tr.it.id
    let s : State := { s with core := { s.core with gwWait := Tab.setD s.core.gwWait p rest [] } }
    let s := if s.closed g.tr.dst then s.toClosed g.tr else if g.kind = 3 then s.enterCore g.tr g.tr.it.id else s.gwIssue g.tr g.kind g.target
    ((free.foldl (fun s x => if s.closed x.tr.dst then s.toClosed x.tr else s.enterCore x.tr x.tr.it.id) s).ortSts).drainGen

end Sys2Proof.Machine
end

