-- ==== Sys2Proof/Machine/Gates.lean ====
section
/-! DEFINITION. Time gates of an egress port: the list in force and the one to come, eligibility, the fit of a train, commits and swaps
(08_egress_scheduling.md R233 to R239, R244 to R246). -/
namespace Sys2Proof.Machine

/-! ### The schedule in force and to come (R233, R237) -/

/-- A stretch of the gate schedule: 0 no list in force, 1 an entry of the active list, 2 one of the pending list; the entry, and the tick it ends
at (none: it never ends). -/
structure GateSpan where
  kind : Nat
  e : Nat := 0
  till : Option Nat := none
deriving DecidableEq, Repr

/-- Is a committed list waiting for its swap? -/
def State.gatePend (s : State) (p : Nat) : Bool := s.flag (F.EGR.GATE_STS.PENDING p) && !s.core.gateCopy.contains p

/-- The stretch now. -/
def State.gateNow (s : State) (p : Nat) : GateSpan :=
  if s.get (F.EGR.GATE_STS.ACTIVE_LEN p) = 0 then
    { kind := 0, till := if s.gatePend p then some (s.get (F.EGR.GATE_BASE_TIME.BASE p)) else none }
  else
    let e := s.get (F.EGR.GATE_STS.ENTRY p)
    { kind := 1, e := e, till := some (Tab.getD s.core.gateTill p 0) }

/-- Entry e of the list to come, from a tick; a pending list of no entries leaves every gate open. -/
def State.gateNew (s : State) (p e at' : Nat) : GateSpan :=
  if s.get (F.EGR.GATE_ADMIN.LEN p) = 0 then { kind := 0 }
  else { kind := 2, e := e, till := some (at' + s.get (F.EGR.GATE_ENTRY.INTERVAL p e)) }

/-- The stretch after one: the pending list comes in at the first boundary at or after its stated time. -/
def State.gateAfter (s : State) (p : Nat) (c : GateSpan) : GateSpan :=
  match c.till with
  | none => c
  | some u =>
    if c.kind = 2 then s.gateNew p ((c.e + 1) % max 1 (s.get (F.EGR.GATE_ADMIN.LEN p))) u
    else if s.gatePend p && decide (s.get (F.EGR.GATE_BASE_TIME.BASE p) ≤ u) then s.gateNew p 0 u
    else
      let e := (c.e + 1) % max 1 (s.get (F.EGR.GATE_STS.ACTIVE_LEN p))
      { kind := 1, e := e, till := some (u + s.get (F.EGR.GATE_ACTIVE.INTERVAL p e)) }

/-- Open mask of a stretch. -/
def State.gateMask (s : State) (p : Nat) (c : GateSpan) : Nat :=
  if c.kind = 1 then s.get (F.EGR.GATE_ACTIVE.MASK p c.e) else if c.kind = 2 then s.get (F.EGR.GATE_ENTRY.MASK p c.e) else 255

/-! ### Eligibility (R234) -/

/-- Does a TC open at some instant up to a limit? -/
def State.gateSees (s : State) (p tc limit : Nat) : Nat → GateSpan → Bool
  | 0, _ => false
  | n + 1, c =>
    bitOf (s.gateMask p c) tc || (match c.till with
      | none => false
      | some u => decide (u ≤ limit) && s.gateSees p tc limit n (s.gateAfter p c))

/-- Bit t of TC_ELIG. -/
def State.elig (s : State) (p tc : Nat) : Bool :=
  s.gateSees p tc (s.time.now + s.get (F.EGR.GATE_ADMIN.LOOKAHEAD p)) 300 (s.gateNow p)

/-! ### The fit of a train (R233) -/

/-- Bytes on the wire of a train of n bytes, by the port's link mode. -/
def State.wireBytes (s : State) (p n : Nat) : Nat :=
  if s.role p = 3 || s.flag (F.STN.LINK_STS.FLIT p) then (n * 256 + 235) / 236
  else if s.get (F.STN.LINK_STS.RATE p) ≤ 1 then ((n + 8) * 10 + 7) / 8
  else ((n + 8) * 130 + 127) / 128

/-- Bits the port sends in one 10 ns tick. -/
def State.bitsPerTick (s : State) (p : Nat) : Nat := rateOf (s.get (F.STN.LINK_STS.RATE p)) * s.get (F.STN.LINK_STS.ACTIVE_WIDTH p)

/-- Does a TC stay open from a tick for as long as a number of bits takes? -/
def State.gateRoom (s : State) (p tc bits from' : Nat) : Nat → GateSpan → Bool
  | 0, _ => false
  | n + 1, c =>
    bitOf (s.gateMask p c) tc && (match c.till with
      | none => true
      | some u => decide (bits ≤ (u - from') * s.bitsPerTick p) || s.gateRoom p tc bits from' n (s.gateAfter p c))

/-- Longest run of consecutive entries of the active list that open a TC, in ticks; none when all do. -/
def State.longestRun (s : State) (p tc : Nat) : Option Nat :=
  let n := s.get (F.EGR.GATE_STS.ACTIVE_LEN p)
  let ent := (List.range n).map fun e => (bitOf (s.get (F.EGR.GATE_ACTIVE.MASK p e)) tc, s.get (F.EGR.GATE_ACTIVE.INTERVAL p e))
  if ent.all Prod.fst then none
  else some ((ent ++ ent).foldl (fun (a : Nat × Nat) x => let r := if x.1 then a.1 + x.2 else 0; (r, max a.2 r)) (0, 0)).2

/-- Is this the first moment of an open run of a TC? -/
def State.runStarts (s : State) (p tc : Nat) : Bool :=
  let n := s.get (F.EGR.GATE_STS.ACTIVE_LEN p)
  let e := s.get (F.EGR.GATE_STS.ENTRY p)
  let iv := s.get (F.EGR.GATE_ACTIVE.INTERVAL p e)
  let till := Tab.getD s.core.gateTill p 0
  s.time.now + iv == till && (till == s.get (F.EGR.GATE_LAST_SWAP.TIME p) + iv || !bitOf (s.get (F.EGR.GATE_ACTIVE.MASK p ((e + n - 1) % max 1 n))) tc)

/-- May a train of n bytes and a TC start now: 0 no, 1 yes, 2 yes under the oversize rule? -/
def State.gateFits (s : State) (p tc n : Nat) : Nat :=
  let c := s.gateNow p
  let bits := 8 * s.wireBytes p n
  let never : Bool := c.kind == 1 && (match s.longestRun p tc with
    | none => false
    | some r => decide (bits > r * s.bitsPerTick p))
  if !bitOf (s.gateMask p c) tc then 0
  else if never then (if s.runStarts p tc then 2 else 0)
  else b2n (s.gateRoom p tc bits s.time.now (bits / max 1 (s.bitsPerTick p) + 3) c)

/-! ### Commits (R235, R236, R238) -/

/-- Is the administrative list held? -/
def State.gateHeld (s : State) (p : Nat) : Bool := (Tab.get? s.core.gateChk p).isSome || s.flag (F.EGR.GATE_STS.PENDING p)

/-- A write of GATE_ENTRY or GATE_BASE_TIME. -/
def State.wrGateList (s : State) (p page off priv v : Nat) : State :=
  if s.gateHeld p then s.set (F.EGR.GATE_STS.WR_DROP p) 1 else s.writePlain page off priv v

/-- A write of GATE_ADMIN. -/
def State.wrGateAdmin (s : State) (p v : Nat) : State :=
  let held := s.gateHeld p
  let len := bitsOf v 40 32
  let allow := bitsOf v 31 24
  let s :=
    if !held then s.sets [(F.EGR.GATE_ADMIN.LEN p, len), (F.EGR.GATE_ADMIN.ALLOW_CLOSED p, allow)]
    else if len != s.get (F.EGR.GATE_ADMIN.LEN p) || allow != s.get (F.EGR.GATE_ADMIN.ALLOW_CLOSED p) then s.set (F.EGR.GATE_STS.WR_DROP p) 1
    else s
  let s := s.set (F.EGR.GATE_ADMIN.LOOKAHEAD p) (bitsOf v 23 16)
  if bitOf v 2 then
    if (Tab.get? s.core.gateChk p).isSome then
      ({ s with core := { s.core with gateChk := Tab.del s.core.gateChk p } } : State).set (F.EGR.GATE_STS.RESULT p) 3
    else if s.gatePend p then s.sets [(F.EGR.GATE_STS.PENDING p, 0), (F.EGR.GATE_STS.RESULT p, 3)]
    else s
  else if bitOf v 1 then
    if held then s.set (F.EGR.GATE_STS.BUSY_GO p) 1
    else { s with core := { s.core with gateChk := Tab.put s.core.gateChk p s.time.now } }
  else s

/-- The first failure of a commit whose GO came at a tick, 0 for none (R236). -/
def State.gateFault (s : State) (p go : Nat) : Nat :=
  let n := s.get (F.EGR.GATE_ADMIN.LEN p)
  let es := List.range (min n 256)
  let opens (t : Nat) : Bool := es.any fun e => bitOf (s.get (F.EGR.GATE_ENTRY.MASK p e)) t
  if s.get (F.EGR.GATE_BASE_TIME.BASE p) ≤ go then 1
  else if n > 256 then 2
  else if es.any fun e => s.get (F.EGR.GATE_ENTRY.INTERVAL p e) == 0 then 3
  else if n > 0 && (List.range 8).any (fun t => !opens t && !bitOf (s.get (F.EGR.GATE_ADMIN.ALLOW_CLOSED p)) t) then 4
  else 0

/-- The checks end. -/
def State.gateChecked (s : State) (p : Nat) : State :=
  match Tab.get? s.core.gateChk p with
  | none => s
  | some go =>
    let f := s.gateFault p go
    let s : State := { s with core := { s.core with gateChk := Tab.del s.core.gateChk p } }
    if f ≠ 0 then s.sets [(F.EGR.GATE_STS.RESULT p, 2), (F.EGR.GATE_STS.FAULT p, f)]
    else s.sets [(F.EGR.GATE_STS.RESULT p, 1), (F.EGR.GATE_STS.FAULT p, 0), (F.EGR.GATE_STS.PENDING p, 1)]

/-! ### Swaps and boundaries (R237, R239) -/

/-- The pending list comes into force at a tick. -/
def State.gateSwapAt (s : State) (p at' : Nat) : State :=
  let n := s.get (F.EGR.GATE_ADMIN.LEN p)
  let s := (List.range n).foldl (fun s e => s.sets
    [(F.EGR.GATE_ACTIVE.INTERVAL p e, s.get (F.EGR.GATE_ENTRY.INTERVAL p e)), (F.EGR.GATE_ACTIVE.MASK p e, s.get (F.EGR.GATE_ENTRY.MASK p e))]) s
  let s := (List.range (256 - n)).foldl (fun s k => s.sets [(F.EGR.GATE_ACTIVE.INTERVAL p (n + k), 0), (F.EGR.GATE_ACTIVE.MASK p (n + k), 0)]) s
  let s : State := { s with core := { s.core with gateTill := Tab.put s.core.gateTill p (at' + s.get (F.EGR.GATE_ENTRY.INTERVAL p 0)), gateCopy := s.core.gateCopy ++ [p] } }
  (s.sets [(F.EGR.GATE_LAST_SWAP.TIME p, at'), (F.EGR.GATE_STS.ACTIVE_LEN p, n), (F.EGR.GATE_STS.ENTRY p, 0),
    (F.EGR.GATE_STS.OPEN p, if n = 0 then 255 else s.get (F.EGR.GATE_ENTRY.MASK p 0))]).count (Ctr.dev 22) 1

/-- The swap of a pending list: at its stated time, or when the checks finish if that is later, while no list is in force; at the boundary of
the running entry otherwise. -/
def State.gateSwap (s : State) (p : Nat) : State :=
  if !s.gatePend p then s
  else
    let base := s.get (F.EGR.GATE_BASE_TIME.BASE p)
    match (s.gateNow p).till with
    | none => s
    | some u =>
      if s.time.now < u then s
      else if s.get (F.EGR.GATE_STS.ACTIVE_LEN p) = 0 then s.gateSwapAt p s.time.now
      else if base ≤ u then s.gateSwapAt p u
      else s

/-- The new list has been copied into the administrative entries, LEN and ALLOW_CLOSED, which were held as committed: PENDING clears. -/
def State.gateCopied (s : State) (p : Nat) : State :=
  if s.core.gateCopy.contains p then
    ({ s with core := { s.core with gateCopy := s.core.gateCopy.filter (· ≠ p) } } : State).set (F.EGR.GATE_STS.PENDING p) 0
  else s

/-- The running entry ends: the swap falls here if it is due, else the next entry begins. -/
def State.gateBoundary (s : State) (p : Nat) : State :=
  match (s.gateNow p).kind, (s.gateNow p).till with
  | 1, some u =>
    if s.time.now < u then s
    else if s.gatePend p && decide (s.get (F.EGR.GATE_BASE_TIME.BASE p) ≤ u) then s.gateSwapAt p u
    else
      let e := (s.get (F.EGR.GATE_STS.ENTRY p) + 1) % s.get (F.EGR.GATE_STS.ACTIVE_LEN p)
      let s : State := { s with core := { s.core with gateTill := Tab.put s.core.gateTill p (u + s.get (F.EGR.GATE_ACTIVE.INTERVAL p e)) } }
      s.sets [(F.EGR.GATE_STS.ENTRY p, e), (F.EGR.GATE_STS.OPEN p, s.get (F.EGR.GATE_ACTIVE.MASK p e))]
  | _, _ => s

/-- Where a list of intervals stands after a time: entry, and ticks into it. -/
def gatePhase : List Nat → Nat → Nat → Nat × Nat
  | [], e, t => (e, t)
  | i :: rest, e, t => if t < i then (e, t) else gatePhase rest (e + 1) (t - i)

/-- The time base was stepped: the active list is re-phased from its last swap (R239). -/
def State.gateResync (s : State) (p : Nat) : State :=
  let n := s.get (F.EGR.GATE_STS.ACTIVE_LEN p)
  if n = 0 then s
  else
    let iv := (List.range n).map fun e => s.get (F.EGR.GATE_ACTIVE.INTERVAL p e)
    let cyc := iv.sum
    let ph := (((s.time.now : Int) - (s.get (F.EGR.GATE_LAST_SWAP.TIME p) : Int)) % (max 1 cyc : Nat)).toNat
    let (e, t) := gatePhase iv 0 ph
    let e := e % n
    let s : State := { s with core := { s.core with gateTill := Tab.put s.core.gateTill p (s.time.now + iv.getD e 0 - t) } }
    (s.sets [(F.EGR.GATE_STS.ENTRY p, e), (F.EGR.GATE_STS.OPEN p, s.get (F.EGR.GATE_ACTIVE.MASK p e))]).addSat (F.EGR.GATE_STS.RESYNCS p) 1

/-! ### Rate shapers (R231, R232) -/

/-- A 24-bit two's complement value. -/
def int24 (v : Nat) : Int := if v % 2 ^ 24 ≥ 2 ^ 23 then (v % 2 ^ 24 : Nat) - (2 ^ 24 : Int) else (v % 2 ^ 24 : Nat)

/-- A queue's token count. -/
def State.tokens (s : State) (p q : Nat) : Int := int24 (s.get (F.EGR.QUEUE_STS.TOKENS p q))

/-- Park a queue whose count is below 0 in the slot of its next eligible time, 20 ns a slot, at most 4,096 slots ahead. The second part of the
entry tells that the time is to be computed again there. -/
def State.park (s : State) (p q : Nat) (tok : Int) : State :=
  let rate := s.get (F.EGR.SHAPER.RATE p q)
  let wait := ((-tok).toNat * 100 + rate - 1) / max 1 rate
  let slot := (s.time.run + wait + 1) / 2
  let far : Bool := decide (slot > s.time.run / 2 + 4096)
  ({ s with core := { s.core with wheel := Tab.put s.core.wheel (64 * p + q) (if far then 2 * (s.time.run / 2 + 4096) + 1 else 2 * slot) } } : State).set
    (F.EGR.QUEUE_STS.ON_WHEEL p q) 1

/-- A computation instant: the count is brought up to date by the running clock, which a step of the time base does not touch, a train's charge taken, and
the queue parked if the count is below 0; one already parked keeps its slot (R232). -/
def State.shape (s : State) (p q charge : Nat) : State :=
  let rate := s.get (F.EGR.SHAPER.RATE p q)
  if rate = 0 then s
  else
    let last := Tab.getD s.core.qlast (64 * p + q) 0
    let cap : Int := 64 * s.get (F.EGR.SHAPER.BURST p q)
    let tok := min cap (s.tokens p q + rate * (s.time.run - last) / 100) - charge
    let s : State := { s with core := { s.core with qlast := Tab.put s.core.qlast (64 * p + q) s.time.run } }
    let s := s.set (F.EGR.QUEUE_STS.TOKENS p q) (tok % 2 ^ 24).toNat
    if tok < 0 && !s.flag (F.EGR.QUEUE_STS.ON_WHEEL p q) then s.park p q tok else s

/-- Is a queue eligible? A parked one is not, before its slot, whatever has been written to RATE (R232). -/
def State.shaperOk (s : State) (p q : Nat) : Bool := !s.flag (F.EGR.QUEUE_STS.ON_WHEEL p q)

/-- SHAPER_WHEEL_SLOT: a parked queue's slot is reached. -/
def State.wheelSlot (s : State) (p q : Nat) : State :=
  match Tab.get? s.core.wheel (64 * p + q) with
  | none => s
  | some w =>
    if s.time.run / 2 < w / 2 then s
    else
      let s := ({ s with core := { s.core with wheel := Tab.del s.core.wheel (64 * p + q) } } : State).set (F.EGR.QUEUE_STS.ON_WHEEL p q) 0
      if w % 2 = 1 then s.shape p q 0 else s

end Sys2Proof.Machine
end

