-- ==== Sys2Proof/Machine/Switch.lean ====
section
/-! DEFINITION. The switch core: offers, plane arbitration, the shunting yards, missing couplings, plane faults, multicast couplings and the siding
(06_switch_core.md R168 to R190; 07_buffer_multicast.md R214 to R220). -/
namespace Sys2Proof.Machine

/-! ### Couplings -/

/-- Number of the CSN sequence of a train toward an egress plane port (R179, R214). -/
def Train.seqKey (t : Train) (y : Nat) : Nat := if t.mcast then 2 ^ 20 + t.x * 16 + y else (t.x * 64 + t.dst) * 16 + t.cls

/-- Change coupling i of the leg toward an egress plane port. -/
def Train.setCpl (t : Train) (y i : Nat) (f : Cpl → Cpl) : Train :=
  { t with legs := t.legs.map fun l => if l.y = y then { l with cpls := l.cpls.modify i f } else l }

/-- Change every coupling of the leg toward an egress plane port. -/
def Train.mapCpl (t : Train) (y : Nat) (f : Cpl → Cpl) : Train :=
  { t with legs := t.legs.map fun l => if l.y = y then { l with cpls := l.cpls.map f } else l }

/-- Number a train's couplings in every sequence it takes part in (R179). -/
def State.numberTrain (s : State) (t : Train) : State :=
  let (s, legs) := t.legs.foldl (fun (a : State × List Leg) l =>
    if l.numbered then (a.1, a.2 ++ [l])
    else
      let k := t.seqKey l.y
      let n := Tab.getD a.1.core.csn k 0
      let cpls := ((List.range l.cpls.length).zip l.cpls).map fun c => { c.2 with csn := (n + c.1) % 1024 }
      let s' := a.1
      ({ s' with core := { s'.core with csn := Tab.setD s'.core.csn k ((n + l.cpls.length) % 1024) 0 } },
       a.2 ++ [{ l with cpls := cpls, numbered := true }])) (s, [])
  s.putTrain { t with legs := legs }

/-! ### Offers (R169, R173, R186, R218) -/

/-- Is a train released at a port's yard, or its copy for that port dropped? -/
def Train.releasedFor (t : Train) (p : Nat) : Bool :=
  t.legs.all fun l => !l.ports.contains p || l.cpls.all fun c => c.st == 4

/-- Does something earlier of its path hold a unicast train at the ingress (R186, R218)? -/
def State.ingressHeld (s : State) (t : Train) : Bool :=
  s.trainList.any fun u => u.before t && u.posted && u.src == t.src && u.tc == t.tc && u.members.contains t.dst && !u.releasedFor t.dst &&
    (t.hold || (t.posted && u.mcast))

/-- Has a train begun to be offered, and not ended? -/
def Train.begun (t : Train) : Bool := t.legs.any fun l => l.numbered
def Train.offering (t : Train) : Bool := t.begun && t.legs.any fun l => l.cpls.any fun c => c.st == 0

/-- May a unicast train that has not begun leave its VOQ now? Trains of its VOQ and TC keep their order; a train of its sequence, or a
cut-through train for its port, is offered whole before another begins (notes/assumptions/24.md). -/
def State.mayBegin (s : State) (t : Train) : Bool :=
  (decide (t.dst ≥ 48) || s.elig t.dst t.tc) && !s.ingressHeld t &&
    !(s.trainList.any fun u => u.x == t.x && u.dst == t.dst && !u.mcast && u.inBuffer &&
      ((u.cls == t.cls && ((u.tc == t.tc && decide (u.adm < t.adm) && !u.begun) || u.offering)) || (u.ct && u.offering)))

/-- The coupling of a train that can be requested next: its plane and output have no other request of its input. -/
def State.nextCpl (s : State) (t : Train) : Option Nat :=
  match t.legs with
  | [l] =>
    let open' := ((List.range l.cpls.length).zip l.cpls).filter fun c => c.2.st == 0
    -- the last coupling is written with the tail
    (if t.bad.isSome ∧ open'.length > 1 then open'.dropLast else open').findSome? fun c => if !s.requested t.x c.2.plane l.y then some c.1 else none
  | _ => none

/-- Unicast trains of an ingress plane port that can offer a coupling now: trains on the link first, then those begun, else those that may
begin. -/
def State.offerers (s : State) (x : Nat) : List Train :=
  let l := s.trainList.filter fun t => t.x == x && !t.mcast && t.inBuffer && s.hasToken x t.dst t.cls && (s.nextCpl t).isSome &&
    (t.begun || s.mayBegin t)
  let onLink := l.filter fun t => t.copies.any fun c => c.sent > 0
  let begun := l.filter Train.begun
  if onLink ≠ [] then onLink else if begun ≠ [] then begun else l

/-- COUPLING_OFFER: the next coupling of one of them is requested. The tail of a train that has gone ahead of it is written with the last coupling: a
bad one ends the train (R184; DEDUCED, notes/assumptions/83.md). -/
def State.offerCpl (s : State) (x : Nat) : State :=
  match s.pick (s.offerers x) with
  | (none, s) => s
  | (some t, s) =>
    match s.nextCpl t with
    | none => s
    | some i =>
      let tail : Bool := !t.ct || decide (i + 1 = (t.legs.map fun l => l.cpls.length).sum)
      match (if tail then t.bad else none) with
      | some code => s.nullify t code
      | none =>
      let s := if t.begun then s else s.numberTrain t
      match s.train? t.id with
      | some t => s.putTrain (t.setCpl (planePort t.dst) i fun c => { c with st := 1 })
      | none => s

/-! ### The yard: arrival (R179, R216) -/

/-- Multicast coupling slots of a yard in use, and those that hold trains for a port. -/
def State.mcSlots (s : State) (y : Nat) (p : Option Nat) : Nat :=
  (s.trainList.map fun t =>
    if !t.mcast || !t.inBuffer then 0
    else (t.legs.map fun l =>
      let has := l.cpls.any (fun c => c.st == 3) || (t.copies.any fun c => l.ports.contains c.port)
      if l.y = y && has && (match p with
        | some q => l.ports.contains q
        | none => true) then l.cpls.length else 0).sum).sum

/-- Can the multicast store take a train's leg? -/
def State.mcFits (s : State) (l : Leg) : Bool :=
  decide (s.mcSlots l.y none + l.cpls.length ≤ 64) && l.ports.all fun p => decide (s.mcSlots l.y (some p) + l.cpls.length ≤ 32)

/-- A multicast train whose couplings have all crossed or become residue: with residue left it moves to the siding account and its credits
return; with none its siding reservation is freed (R220). -/
def State.mcCrossed (s : State) (id : Nat) : State :=
  match s.train? id with
  | none => s
  | some t =>
    if !t.mcast || t.legs.any (fun l => l.cpls.any fun c => decide (c.st < 3)) then s
    else
      let residue := t.legs.any fun l => l.cpls.any fun c => c.st == 5
      let kept := t.unacked.find? fun p => s.role p == 3 && (s.ropeNamed p).isSome
      if residue then (match t.acct with
        | .siding => s
        | _ => s.moveAcct t .siding)
      else
        let s := if t.mcRsv = 2 then s.subF F.MCAST.SIDING_STS.ENTRIES 1 else s
        match t.acct, kept with
        | .none, _ => s
        | _, some p => s.retainAt p { t with mcRsv := min t.mcRsv 1 }
        | .siding, none => s.putTrain { t with mcRsv := min t.mcRsv 1 }
        | _, none => (if t.mcRsv > 0 then s.subF F.MCAST.SIDING_STS.USED t.ncar else s).putTrain { t with mcRsv := 0 }

/-- A coupling arrives whose CSN the yard already holds or has released: it is discarded and counted (R179). -/
def State.arriveDup (s : State) (n y : Nat) : State :=
  match s.core.dups.find? fun d => d.plane == n && d.y == y with
  | none => s
  | some d =>
    (((({ s with core := { s.core with dups := s.core.dups.erase d } } : State).addSat (F.EGR.YARD_STS.DUP_DROPS y) 1).count (Ctr.yard y 4) 1).raise
      Ev.YARD_DUP { inst := d.dst, page := some (yardPage y) })

/-- Couplings of a multicast train's leg become residue, which the siding takes in the order of their coming (R215, R217). -/
def State.toResidue (s : State) (t : Train) (y : Nat) (l : List Nat) : State :=
  let s := s.putTrain (l.foldl (fun t i => t.setCpl y i fun c => { c with st := 5 }) t)
  { s with core := { s.core with residue := s.core.residue ++ l.map fun i => (t.id, y, i) } }

/-- COUPLING_YARD_ARRIVAL: the coupling on a plane toward an output takes its slot; a multicast coupling whose train does not fit becomes residue
with the whole of that leg. With none on the way, a second copy of one that the yard has or had arrives (notes/assumptions/106.md). `errs` are the bits
of its carriages that have flipped; one that makes its train bad leaves nothing to arrive. -/
def State.arrive (s : State) (n y : Nat) (errs : List BitErr) : State :=
  match s.cplsAt y fun _ c => c.plane == n && c.st == 2 with
  | [] => s.arriveDup n y
  | (t, l, i, _) :: _ =>
    let s := errs.foldl (fun s e => s.bitErr n y t.id i e) (s.readCpl t.id i)
    match s.train? t.id with
    | none => s
    | some t =>
      let s :=
        if t.mcast && !(l.cpls.any fun c => c.st == 3) && !s.mcFits l then
          (s.toResidue t y (List.range l.cpls.length)).count (Ctr.yard y 6) 1
        else s.putTrain (t.setCpl y i fun c => { c with st := 3 })
      (s.mcCrossed t.id).yardOcc y

/-! ### The plane arbiter (R170 to R174, R215) -/

/-- Is a station held in port reset: it has ports in use, and the link of each is in RESET (DESIGN CHOICE, notes/assumptions/106.md)? -/
def State.portReset (s : State) (i : Nat) : Bool :=
  let l := ((List.range 4).map fun k => 4 * i + k).filter fun p => s.role p != 0
  !l.isEmpty && l.all fun p => (s.port p).under == 7

/-- Has an input a train in one of its VOQs: one that has a coupling not yet granted? -/
def State.voqUsed (s : State) (i : Nat) : Bool :=
  s.trainList.any fun t => t.x == i && t.inBuffer && t.legs.any fun l => l.cpls.any fun c => decide (c.st ≤ 1)

/-- Sideband enable of an input (R176). -/
def State.inputEn (s : State) (i : Nat) : Bool :=
  if i ≥ 12 then s.pins.bistDone
  else s.live && !s.portReset i && ((List.range 4).any (fun k => s.role (4 * i + k) != 0) || s.voqUsed i)

/-- Can an input start a coupling on a plane: it sends none there? -/
def State.inputFree (s : State) (n i : Nat) : Bool :=
  !(s.trainList.any fun t => t.x == i && t.legs.any fun l => l.cpls.any fun c => c.plane == n && c.st == 2)

def State.outBusy (s : State) (n y : Nat) : Bool := !(s.cplsAt y fun _ c => c.plane == n && c.st == 2).isEmpty

/-- Are the accesses of a train's bank held: its map entry is moving to a spare (R211 steps 4 and 5)? -/
def State.bankHeld (s : State) (t : Train) : Bool :=
  s.get F.BUF.BANK_STS.STATE == 2 && (match s.core.copying with
    | some b => t.heldCars.any fun c => c / 8192 == b
    | none => false)

/-- Requests at an output whose input is enabled and free, or that share the grant an input has been given in this cycle: `g` are the couplings granted
in it, by train and index (R174, R215). -/
def State.cands (s : State) (n y : Nat) (g : List (Nat × Nat) := []) : List (Train × Leg × Nat × Cpl) :=
  (s.cplsAt y fun t c => c.plane == n && c.st == 1 && s.inputEn t.x && !s.bankHeld t).filter fun r =>
    g.contains (r.1.id, r.2.2.1) || s.inputFree n r.1.x

def State.rankAt (s : State) (n y : Nat) : List Nat := Tab.getD s.core.rank (16 * n + y) (List.range 14)

/-- Is a request of the urgent class (R174, R215)? -/
def urgentReq (t : Train) : Bool := urgentClass t.cls && !t.mcast

/-- Are urgent requests masked at an output (R174): it has given 12 urgent grants in its window, and a normal request is eligible? -/
def State.urgMasked (s : State) (n y : Nat) : Bool :=
  decide (s.get (F.PLANE.OUT_STS.URG_GRANTS n y) ≥ 12) && (s.cands n y).any fun r => !urgentReq r.1

/-- The pool an output decides in. -/
def State.grantPool (s : State) (n y : Nat) (g : List (Nat × Nat)) : List (Train × Leg × Nat × Cpl) :=
  let c := s.cands n y g
  let urg := c.filter fun r => urgentReq r.1
  let nrm := c.filter fun r => !urgentReq r.1
  if urg ≠ [] && (s.get (F.PLANE.OUT_STS.URG_GRANTS n y) < 12 || nrm.isEmpty) then urg else nrm

/-- The winner of a decision at an output. -/
def State.winner (s : State) (n y : Nat) (g : List (Nat × Nat)) : Option (Train × Leg × Nat × Cpl) :=
  (s.rankAt n y).findSome? fun i => (s.grantPool n y g).find? fun r => r.1.x == i

/-- Book a grant at an output: rank, window, parked losers, and counts (R174). `idle` is whether the output was idle. -/
def State.bookGrant (s : State) (n y : Nat) (g : List (Nat × Nat)) (w : Train) (i : Nat) (idle : Bool) : State :=
  let losers := ((s.cands n y g).map fun r => r.1.x).filter (· ≠ w.x)
  let biv := s.get (F.PLANE.OUT_STS.BIV n y)
  let fresh := losers.countP fun x => !bitOf biv x
  let biv' := losers.foldl (fun b x => withBit b x true) (withBit biv w.x false)
  let win := s.get (F.PLANE.OUT_STS.WIN_GRANTS n y) + 1
  let urg := s.get (F.PLANE.OUT_STS.URG_GRANTS n y) + b2n (urgentReq w)
  let s : State := { s with core := { s.core with rank := Tab.setD s.core.rank (16 * n + y) ((s.rankAt n y).filter (· ≠ w.x) ++ [w.x]) (List.range 14) } }
  let s := s.sets [(F.PLANE.OUT_STS.BIV n y, biv'), (F.PLANE.OUT_STS.LAST_WINNER n y, w.x),
    (F.PLANE.OUT_STS.WIN_GRANTS n y, if win = 16 then 0 else win), (F.PLANE.OUT_STS.URG_GRANTS n y, if win = 16 then 0 else urg)]
  let s := (s.count (Ctr.plane n 0) 1).count (Ctr.plane n 1) (b2n (urgentReq w))
  let s := ((s.count (Ctr.plane n 2) (w.beats i)).count (Ctr.plane n 3) (b2n idle)).count (Ctr.plane n 4) fresh
  let s := (s.count (Ctr.plane n (if w.ct then 13 else 14)) 1).count (Ctr.plane n 7) (b2n w.mcast)
  s.count (Ctr.plane n 15) (w.beats i)

/-- One output of a plane decides, among the inputs not yet granted in this cycle: its winner's coupling goes onto the plane, and joins those granted. -/
def State.decideAt (s : State) (n y : Nat) (idle : Bool) (g : List (Nat × Nat)) : State × List (Nat × Nat) :=
  match s.winner n y g with
  | none => (s, g)
  | some (t, _, i, _) => ((s.bookGrant n y g t i idle).putTrain (t.setCpl y i fun c => { c with st := 2 }), (g ++ [(t.id, i)]).eraseDups)

/-- The outputs of a plane that decide in a cycle, in order; `busy` are those that send the last beat of a coupling. -/
def State.decideAll (s : State) (n : Nat) (busy : List Nat) (g : List (Nat × Nat)) : List Nat → State × List (Nat × Nat)
  | [] => (s, g)
  | y :: rest =>
    let (s, g) := s.decideAt n y (!busy.contains y) g
    s.decideAll n busy g rest

/-- A coupling has been granted in a cycle: its cairn, and of a multicast train the residue of the targets that did not take it (R215). -/
def State.granted (s : State) (n : Nat) (e : Nat × Nat) : State :=
  let s := if e.2 = 0 then s.cairnStage e.1 2 else s
  match s.train? e.1 with
  | none => s
  | some t =>
    if !t.mcast then s
    else (t.legs.filter fun l => (l.cpls.getD e.2 { plane := n }).st == 1).foldl (fun s l =>
      match s.train? e.1 with
      | none => s
      | some t => ((s.toResidue t l.y [e.2]).count (Ctr.plane n 8) 1).set (F.PLANE.OUT_STS.BIV n l.y) (withBit (s.get (F.PLANE.OUT_STS.BIV n l.y)) t.x false)) s

/-- Outputs that decide in a cycle beside those named: the idle ones that a multicast coupling asks for together with a named one (R215). -/
def State.targets (s : State) (n : Nat) (l : List Nat) : List Nat :=
  (List.range 14).filter fun y => !s.outBusy n y && (s.cands n y).any fun r =>
    r.1.mcast && r.1.legs.any fun k => l.contains k.y && (k.cpls.getD r.2.2.1 { plane := n }).st == 1

/-- PLANE_ARBITRATION: the outputs named decide in one cycle, each at the last beat of the coupling it sends if it sends one (R172), in rotating order
from one past the output that went first in the cycle before (R174). -/
def State.arbitrate (s : State) (n : Nat) (named : List Nat) : State :=
  let busy := named.filter fun y => s.outBusy n y
  let s := busy.foldl (fun s y => s.arrive n y []) s
  let all := named ++ s.targets n named
  let from' := Tab.getD s.core.first n 13 + 1
  let order := ((List.range 14).map fun k => (from' + k) % 14).filter all.contains
  let s : State := { s with core := { s.core with first := Tab.put s.core.first n (order.headD 0) } }
  let (s, g) := s.decideAll n busy [] order
  g.foldl (fun s e => s.granted n e) s

/-! ### Planes out of service (R188 to R191) -/

/-- Where a coupling of a retired plane goes on, its new plane given: a request moves to that plane's output, unless its input has one there
already (R171); one on the plane is sent again; one in its yard stays there. -/
def State.movedSt (s : State) (x y plane st : Nat) : Nat :=
  if st = 1 then (if s.requested x plane y then 0 else 1) else if st = 3 then 3 else 0

/-- A train's couplings on a retired plane that have no release notice move to the planes of a new rotation: requests move, couplings on their way
are sent again, and so are those already in their yard, which arrive there as duplicates (R190, R179). -/
def State.respray (s : State) (n : Nat) (t : Train) : State :=
  let hit := t.legs.any fun l => l.cpls.any fun c => c.plane == n && decide (c.st < 4)
  if !hit then s
  else
    let act := s.activePlanes
    let start := Tab.getD s.core.rot t.x 0
    let plane (i : Nat) : Nat := act.getD ((start + i) % max 1 act.length) 0
    let idx (l : Leg) : List (Nat × Cpl) := (List.range l.cpls.length).zip l.cpls
    let dups := t.legs.flatMap fun l => ((idx l).filter fun c => c.2.plane == n && c.2.st == 3).map fun c =>
      ({ plane := plane c.1, y := l.y, dst := t.dst } : Dup)
    let sent := (t.legs.map fun l => l.cpls.countP fun c => c.plane == n && (c.st == 2 || c.st == 3)).sum
    let legs := t.legs.map fun l => { l with cpls := (idx l).map fun c =>
                                             if c.2.plane = n && c.2.st < 4 then
                                             { c.2 with plane := plane c.1, st := s.movedSt t.x l.y (plane c.1) c.2.st }
                                             else c.2 }
    let s : State := { s with core := { s.core with rot := Tab.put s.core.rot t.x (start + 1), dups := s.core.dups ++ dups } }
    (s.putTrain { t with legs := legs }).count (Ctr.plane n 12) sent

/-- Retire a plane (R190, R191): 1 uncorrectable error, 2 second suspect mark. The retirement enters the repair map; without an active plane the
device enters SAFE. -/
def State.retirePlane (s : State) (n cause : Nat) : State :=
  if s.get (F.PLANE.STS.STATE n) = 2 then s
  else
    let s := s.sets [(F.PLANE.STS.STATE n, 2), (F.PLANE.STS.RETIRE_CAUSE n, cause)]
    let left := s.activePlanes.length
    let s := (List.range 5).foldl (fun s k => s.set (F.PLANE.STS.ACTIVE_PLANES k) left) s
    let s := (List.range 14).foldl (fun s y => s.set (F.PLANE.OUT_STS.BIV n y) 0) s
    let s := s.repairEnter 1 2 n 0
    let s := s.raise Ev.PLANE_RETIRE { inst := n, detail := 2 }
    if left = 0 then s.raise Ev.PLANE_LAST { inst := n, detail := 2 }
    else s.trainList.foldl (fun s t => s.respray n t) s

/-- A suspect mark from a yard (R189). -/
def State.markPlane (s : State) (n y : Nat) : State :=
  let st := s.get (F.PLANE.STS.STATE n)
  let s := ((s.addSat (F.PLANE.STS.SUSPECT_MARKS n) 1).set (F.PLANE.STS.LAST_MARK_BY n) y).count (Ctr.plane n 10) 1
  if st = 2 then s
  else
    let s := s.raise Ev.PLANE_SUSPECT { inst := n }
    if st = 1 then s.retirePlane n 2 else s.set (F.PLANE.STS.STATE n) 1

/-- PLANE_UE (R188). -/
def State.planeUe (s : State) (n : Nat) : State :=
  if s.get (F.PLANE.STS.STATE n) = 2 then s else (s.count (Ctr.plane n 11) 1).retirePlane n 1

/-! ### Missing couplings (R181) -/

/-- Distance of a coupling from the expected CSN of its sequence. -/
def State.csnDist (s : State) (t : Train) (y : Nat) (c : Cpl) : Nat := (c.csn + 1024 - Tab.getD s.core.expect (t.seqKey y) 0) % 1024

/-- Numbered couplings of a train's sequence at a yard that the yard lacks and that were not reported as residue, earliest first. -/
def State.lacking (s : State) (key y : Nat) : List (Train × Leg × Nat × Cpl) :=
  (s.cplsAt y fun t c => t.seqKey y == key && t.legs.any (fun l => l.y == y && l.numbered) && decide (c.st < 3)).mergeSort fun a b =>
    decide (s.csnDist a.1 y a.2.2.2 ≤ s.csnDist b.1 y b.2.2.2)

/-- A coupling is declared missing: its plane is marked suspect and its train nullified. -/
def State.missing (s : State) (y : Nat) (r : Train × Leg × Nat × Cpl) : State :=
  let (t, _, _, c) := r
  let s := ((s.addSat (F.EGR.YARD_STS.TIMEOUTS y) 1).count (Ctr.yard y 3) 1).sets [(F.EGR.YARD_LAST.CLASS y, t.cls), (F.EGR.YARD_LAST.SRC y, t.x),
    (F.EGR.YARD_LAST.DST y, t.dst), (F.EGR.YARD_LAST.CSN y, c.csn), (F.EGR.YARD_LAST.PLANE y, c.plane), (F.EGR.YARD_LAST.TIME y, s.time.now)]
  let s := s.nullify t Ev.CORE_TIMEOUT
  s.markPlane c.plane y

/-- YARD_MISSING_TIMEOUT: the earliest missing coupling of a sequence whose later coupling the yard holds. -/
def State.yardMissing (s : State) (y : Nat) : State :=
  let held := s.cplsAt y fun _ c => c.st == 3
  let gaps := (held.map fun r => r.1.seqKey y).eraseDups.filterMap fun k =>
    match s.lacking k y with
    | [] => none
    | m :: _ => if held.any fun r => r.1.seqKey y == k && decide (s.csnDist r.1 y r.2.2.2 > s.csnDist m.1 y m.2.2.2) then some m else none
  match s.pick gaps with
  | (none, s) => s
  | (some m, s) => s.missing y m

/-- INGRESS_NOTICE_TIMEOUT: of the couplings an ingress has sent and had no notice of; for one the yard holds, the yard names the earliest of
its sequence that it lacks. -/
def State.noticeMissing (s : State) (x : Nat) : State :=
  let sent := (List.range 14).flatMap fun y => (s.cplsAt y fun t c => t.x == x && (c.st == 2 || c.st == 3)).map fun r => (y, r)
  let named := sent.filterMap fun e =>
    if e.2.2.2.2.st = 2 then some e
    else ((s.lacking (e.2.1.seqKey e.1) e.1).head?.map fun m => (e.1, m)).bind fun m =>
      if s.csnDist m.2.1 e.1 m.2.2.2.2 < s.csnDist e.2.1 e.1 e.2.2.2.2 then some m else none
  match s.pick named with
  | (none, s) => s
  | (some (y, m), s) => s.missing y m

/-! ### Release (R179, R216, R226) -/

/-- The queue of a train at a PCIe port: its context's queue when that queue's TC is the train's, else the queue of its TC (R226). Answers
whether the context's queue was passed over. -/
def State.pcieQueue (s : State) (p : Nat) (q : Option Nat) (tc : Nat) : Nat × Bool :=
  match q with
  | some k => if s.get (F.EGR.DRR_QUANTUM.TC p k) = tc then (k, false) else (tc, true)
  | none => (tc, false)

/-- The Halud header of a multicast copy for a FAB port and its class, as its lookup fixed them, or the cause that stops it (R275, R258, R253). A copy
that a failover moves to a port of no such entry is judged there. -/
def State.copyHal (s : State) (t : Train) (p : Nat) : Except Nat (Nat × Hdr) :=
  match t.hal with
  | none => .error 0
  | some h =>
    match t.outs.lookup p with
    | some x => .ok x
    | none => s.departs h (t.rxHal.map fun _ => t.cls - 3) p

/-- Put a train's copy into its queue at a port. -/
def State.enqueue (s : State) (t : Train) (p : Nat) : State :=
  let fab := s.role p == 3
  let cls := if !fab then 0 else if t.mcast then (match s.copyHal t p with
    | .ok (c, _) => c
    | .error _ => t.cls) else t.cls
  let (q, mis) := if fab then (8 * (cls - 3) + t.tc, false) else s.pcieQueue p t.queue t.tc
  let s := if mis then (s.addSat (F.EGR.SCHED_STS.Q_MISMATCH p) 1).raise Ev.Q_MISMATCH { inst := p } else s
  let rel := s.core.nextRel
  let s : State := { s with core := { s.core with nextRel := rel + 1 } }
  let empty := s.get (F.EGR.QUEUE_STS.DEPTH p q) == 0
  let res : Bool := t.mcast && t.legs.any fun l => l.res && l.ports.contains p
  let s := s.putTrain { t with copies := t.copies ++ [{ port := p, queue := q, rel := rel, res := res }] }
  let s := s.queueSts p q
  -- the arrival of a train at an empty queue is a computation instant of its shaper (R231)
  if empty then s.shape p q 0 else s

/-- The member of a rope pair a released train joins: the one its ingress chose, unless that is down and the other up (R133). -/
def State.ropeTarget (s : State) (t : Train) : Nat :=
  match (if t.dst < 48 then s.ropeOf t.dst else none) with
  | none => t.dst
  | some m => if !s.memberUp t.dst && s.memberUp (s.ropeOther m t.dst) then s.ropeOther m t.dst else t.dst

/-- Coupling of a sequence to be released next at a yard: the earliest numbered one that has not been, once the yard holds it. Ranges of trains
that have been nullified are no longer there and are passed over (R181). -/
def State.nextRelease (s : State) (key y : Nat) : Option (Train × Leg × Nat × Cpl) :=
  let l := s.cplsAt y fun t c => t.seqKey y == key && t.legs.any (fun l => l.y == y && l.numbered) && c.st != 4
  match l.mergeSort fun a b => decide (s.csnDist a.1 y a.2.2.2 ≤ s.csnDist b.1 y b.2.2.2) with
  | r :: _ => if r.2.2.2.st = 3 then some r else none
  | [] => none

/-- Is everything of a train's leg in the yard? -/
def Leg.whole (l : Leg) : Bool := l.cpls.all fun c => c.st == 3

/-- Sequences of a yard that can release now: a multicast train only whole; a train for the Hut only when the Hut can take it. `room` says
whether the Hut or the management endpoint takes a train. -/
def State.releasable (s : State) (y : Nat) (room : State → Train → Bool) : List (Train × Leg × Nat × Cpl) :=
  ((s.cplsAt y fun _ c => c.st == 3).map fun r => r.1.seqKey y).eraseDups.filterMap fun k =>
    match s.nextRelease k y with
    | some r => if (!r.1.mcast || r.2.1.whole) && (decide (r.1.dst < 48) || r.1.mcast || room s r.1) then some r else none
    | none => none

/-- The copies of a multicast train for the member ports of a station; one that may not leave by its port is dropped (R275), as is one that the gateway
sends into a VH without a gateway requester ID (R261). -/
def State.releaseCopies (s : State) (id : Nat) (ports : List Nat) : State :=
  ports.foldl (fun s p =>
    match s.train? id with
    | none => s
    | some t =>
      if s.role p = 3 && t.hal.isSome then
        match s.copyHal t p with
        | .ok _ => s.enqueue t p
        | .error c => (match t.hal with
          | some h => s.fabDropNote t.src h c
          | none => s).dropCopy t p 0
      else
        let v := s.ownerOf p
        if (t.hal.isSome || s.sharedPort p) && !s.flag (F.GW.GW_RID.VALID v) then
          (s.fabDropNote t.src (t.hal.getD (s.toHal t.vh t.t s.node p v t.wtag)) 7).dropCopy t p 0
        else s.enqueue t p) s

/-- YARD_RELEASE: one sequence of a yard releases its next coupling. `deliver` is what the Hut and the management endpoint do with a train they
take. -/
def State.yardRelease (s : State) (y : Nat) (room : State → Train → Bool) (deliver : State → Train → State) : State :=
  match s.pick (s.releasable y room) with
  | (none, s) => s
  | (some (t, l, i, c), s) =>
    let last := (c.csn + (if t.mcast then l.cpls.length else 1)) % 1024
    let s : State := { s with core := { s.core with expect := Tab.setD s.core.expect (t.seqKey y) last 0 } }
    let s := s.count (Ctr.yard y 0) (if t.mcast then l.cpls.length else 1)
    let s := if i = 0 then s.cairnStage t.id 3 else s
    if t.mcast then
      let t' := t.mapCpl y fun c => { c with st := 4 }
      ((s.putTrain t').releaseCopies t.id l.ports).yardOcc y
    else
      let t' := t.setCpl y i fun c => { c with st := 4 }
      if t.dst ≥ 48 then
        if t'.released then ((deliver s t').yardOcc y) else (s.putTrain t').yardOcc y
      else if i = 0 then (s.enqueue t' (s.ropeTarget t')).yardOcc y
      else (s.putTrain t').yardOcc y

/-! ### Multicast: offer and siding (R214, R217 to R219) -/

/-- Is a multicast train held at the ingress: by an earlier unicast posted train of its TC to a member (R218), or one of its VOQ? -/
def State.mcHeld (s : State) (t : Train) : Bool :=
  s.trainList.any fun u => u.tc == t.tc &&
    ((u.before t && u.src == t.src && u.posted && !u.mcast && t.members.contains u.dst && !u.releasedFor u.dst) ||
      (decide (u.adm < t.adm) && u.x == t.x && u.mcast && u.cls == t.cls && !u.begun))

/-- Index of the next coupling a multicast train can request at every station at once. -/
def State.mcNext (s : State) (t : Train) : Option Nat :=
  match t.legs with
  | [] => none
  | l0 :: _ => (List.range l0.cpls.length).find? fun i =>
      t.legs.any (fun l => (l.cpls.getD i { plane := 0 }).st == 0) &&
        t.legs.all fun l => let c := l.cpls.getD i { plane := 0 }; c.st != 0 || !s.requested t.x c.plane l.y

/-- Has the siding room for a train's carriages and a residue entry? -/
def State.sidingRoom (s : State) (t : Train) : Bool :=
  decide (s.get F.MCAST.SIDING_STS.USED + t.ncar ≤ s.get F.MCAST.SIDING_RSV.RSV) && decide (s.get F.MCAST.SIDING_STS.ENTRIES < 1024)

/-- MC_OFFER: a multicast train of an ingress plane port, its siding room reserved, requests its next coupling at every target station. -/
def State.mcOffer (s : State) (x : Nat) : State :=
  let l := s.trainList.filter fun t => t.x == x && t.mcast && t.inBuffer && (s.mcNext t).isSome && (t.begun || (!s.mcHeld t && s.sidingRoom t))
  let begun := l.filter Train.begun
  match s.pick (if begun ≠ [] then begun else l) with
  | (none, s) => s
  | (some t, s) =>
    match s.mcNext t with
    | none => s
    | some i =>
      let s :=
        if t.begun then s
        else (((s.putTrain { t with mcRsv := 2 }).addF F.MCAST.SIDING_STS.USED t.ncar).addF F.MCAST.SIDING_STS.ENTRIES 1).numberTrain { t with mcRsv := 2 }
      match s.train? t.id with
      | none => s
      | some t => s.putTrain { t with legs := t.legs.map fun l =>
                                      { l with cpls := l.cpls.modify i fun c => if c.st = 0 then { c with st := 1 } else c } }

/-- What the siding holds, in the order in which it became residue. -/
def State.residueNow (s : State) : List (Train × Leg × Nat × Cpl) :=
  s.core.residue.filterMap fun e => (s.cplsAt e.2.1 fun t c => t.id == e.1 && t.mcast && c.st == 5).find? fun r => r.2.2.1 == e.2.2

/-- What the siding may deliver now: of each multicast sequence its earliest coupling, where the yard's store has room and the bank may be read. -/
def State.sidingNext (s : State) : List (Train × Leg × Nat × Cpl) :=
  let l := s.residueNow
  l.filter fun r =>
    (l.all fun q => q.2.1.y != r.2.1.y || q.1.seqKey q.2.1.y != r.1.seqKey r.2.1.y ||
      decide (s.csnDist r.1 r.2.1.y r.2.2.2 ≤ s.csnDist q.1 q.2.1.y q.2.2.2)) &&
    (r.2.1.cpls.any (fun c => c.st == 3) || s.mcFits r.2.1) && !s.bankHeld r.1

/-- SIDING_DELIVER: the siding copies the missing coupling that came first into the yard that lacks it, keeping the order of each multicast sequence; a
station whose store has no room is tried again after another has been served. When no station lacks anything more the train's residue entry is free. -/
def State.sidingDeliver (s : State) : State :=
  match s.sidingNext with
  | [] => s
  | (t0, l, i, _) :: _ =>
    let s : State := { s with core := { s.core with residue := s.core.residue.erase (t0.id, l.y, i) } }
    let s := s.readCpl t0.id i
    match s.train? t0.id with
    | none => s
    | some t =>
    let t' := t.setCpl l.y i fun c => { c with st := 3 }
    let t' := { t' with legs := t'.legs.map fun k => if k.y = l.y then { k with res := true } else k }
    let more := t'.legs.any fun l => l.cpls.any fun c => c.st == 5 || decide (c.st < 3)
    let s := s.putTrain t'
    let s := if more || t'.mcRsv ≠ 2 then s else (s.putTrain { t' with mcRsv := 1 }).subF F.MCAST.SIDING_STS.ENTRIES 1
    s.yardOcc l.y

/-- SIDING_TIMEOUT: a station lacks part of a train offered long ago; its copies are dropped (R219). -/
def State.sidingTimeout (s : State) (y : Nat) : State :=
  let l := (s.trainList.filter fun t => t.mcast && t.inBuffer).flatMap fun t =>
    (t.legs.filter fun l => l.y == y && l.numbered && l.cpls.any fun c => decide (c.st < 3) || c.st == 5).map fun l => (t, l)
  match l with
  | [] => s
  | (t, l) :: _ =>
    let s := l.ports.foldl (fun s p =>
      match s.train? t.id with
      | some t => s.dropCopy t p 1
      | none => s) s
    (s.mcCrossed t.id).yardOcc y

end Sys2Proof.Machine
end

