-- ==== Sys2Proof/Machine/Egress.lean ====
section
/-! DEFINITION. What a port sends: scheduling queues, deficit round robin, slot accounting, the transmit slot of PCIe and Halud ports, the PCIe
data link layer, the stall watchdog (08_egress_scheduling.md R224 to R230, R240, R243, R247; 04_link_layer.md R101 to R106, R114 to R122, R131 to
R135, R142; 06_switch_core.md R177, R183, R186; 09_fabric_mode.md R278; 14_telemetry.md R401, R402). -/
namespace Sys2Proof.Machine

/-! ### Copies in the queues of a port (R224 to R227) -/

/-- Trains waiting in a queue, in the order of yard release. -/
def State.queued (s : State) (p q : Nat) : List (Train × Copy) :=
  (s.trainList.flatMap fun t => (t.copies.filter fun c => c.port == p && c.queue == q && c.sent == 0 && !c.again).map fun c => (t, c)).mergeSort
    fun a b => decide (a.2.rel ≤ b.2.rel)

/-- The copy a port is sending or has to send again. -/
def State.openCopies (s : State) (p : Nat) : List (Train × Copy) :=
  s.trainList.flatMap fun t => (t.copies.filter fun c => c.port == p && (c.sent != 0 || c.again)).map fun c => (t, c)


/-- The TLP a train leaves a PCIe port as (R213, R275); a copy for a shared port carries the manager's gateway requester ID (R291). -/
def State.copyTlp (s : State) (t : Train) (p : Nat) : Tlp :=
  if t.mcast then
    match t.hal with
    | some h => s.fromHal h t.t.data p (s.ownerOf p)
    | none =>
      let u := s.overlay t.vh t.t p
      if s.sharedPort p then { u with reqId := BitVec.ofNat 16 (s.get (F.GW.GW_RID.RID s.managerVh)) } else u
  else t.t

/-- The TLPs it leaves as: the gateway splits a multicast write at the port's MPS (R263). -/
def State.copyTlps (s : State) (t : Train) (p : Nat) : List Tlp :=
  let u := s.copyTlp t p
  if t.mcast && t.hal.isSome then s.splitWrite p u else [u]

/-- Bytes of the first of them. -/
def State.firstBytes (s : State) (t : Train) (p : Nat) : Nat :=
  if s.role p = 3 then 32 + t.t.data.length else s.tlpBytes p ((s.copyTlps t p).headD (s.copyTlp t p))

/-- Data units of the first of them. -/
def State.firstUnits (s : State) (t : Train) (p : Nat) : Nat := (((s.copyTlps t p).headD {}).data.length + 15) / 16

/-- The Halud header a train leaves a FAB port with. -/
def State.sendHdr (s : State) (t : Train) (p : Nat) : Hdr :=
  if t.mcast then
    match s.copyHal t p with
    | .ok (_, h) => h
    | .error _ => t.hal.getD {}
  else t.hal.getD {}

/-- The bytes a train has on a Halud link: header, and data filled up to granules of 4 B. -/
def State.halBytes (s : State) (t : Train) (p : Nat) : List Byte :=
  let d := t.t.data
  (s.sendHdr t p).bytes ++ d ++ List.replicate ((4 - d.length % 4) % 4) 0

/-- Header and data bytes of a train at a port (R165). -/
def State.sendSize (s : State) (t : Train) (p : Nat) : Nat :=
  if s.role p = 3 then 32 + t.t.data.length else s.tlpBytes p (s.copyTlp t p)

/-- Granules of 4 B of a train at a port, and those of its couplings that have been released to it. -/
def State.granules (s : State) (t : Train) (p : Nat) : Nat := (s.sendSize t p + 3) / 4
def State.ready (s : State) (t : Train) (p : Nat) : Nat :=
  if t.mcast || t.released then s.granules t p
  else min (s.granules t p) (64 * ((t.legs.flatMap fun l => l.cpls.takeWhile fun c => c.st == 4).length))

/-- May a train start (R183): a cut-through train with its first two couplings in the yard, one to be sent again whole, and any other whole; a train of
more couplings than its ingress has tokens never stands whole in the yard, starts with two and waits for each that is absent (R178;
notes/assumptions/23.md). -/
def State.startable (s : State) (t : Train) (c : Copy) : Bool :=
  let big := s.bigTrain t
  t.mcast || t.released || ((big || (!c.again && t.ct)) && decide (s.ready t c.port ≥ 128))

/-- The egress posted hold (R186). -/
def State.egressHeld (s : State) (t : Train) (c : Copy) : Bool :=
  t.hold && s.trainList.any fun u => (u.posted || u.mcast) && u.tc == t.tc && u.copies.any fun d => d.port == c.port && decide (d.rel < c.rel)

/-! ### What blocks a train (R228, R240) -/

/-- Does a cumulative limit, given as a field of a scale, leave room for a count: the rest is at most half of the counters' range (R142). -/
def fcRoom (scale range limit count : Nat) : Bool :=
  let u := scaleUnit scale
  decide ((limit * u + range * u - count % (range * u)) % (range * u) ≤ range * u / 2)

/-- Credits of a PCIe link for a VC and class: cumulative limits, at the scales the partner gives them in, compared as that specification does; a first
update of 0 stands for infinite credits (PRESUMED, notes/assumptions/12.md). -/
def State.pcieCredit (s : State) (p key units : Nat) : Bool :=
  let d := s.dll p
  match Tab.get? d.limit key with
  | none => false
  | some (lh, ld) =>
    let (uh, ud) := Tab.getD d.used key (0, 0)
    let (kh, kd) := Tab.getD d.scales key (0, 0)
    (d.infinite.contains (2 * key) || fcRoom kh 256 lh (uh + 1)) && (d.infinite.contains (2 * key + 1) || fcRoom kd 4096 ld (ud + units))


/-- Does the link have the credits for a train? -/
def State.credit (s : State) (p q : Nat) (t : Train) : Bool :=
  if s.role p = 3 then
    if q / 8 = 3 then !s.flag (F.STN.HLL_STS.MGT_OFF_RX p)
    else decide (s.availH p (q / 8) ≥ 1 ∧ s.availD p (q / 8) ≥ (t.t.data.length + 15) / 16)
  else s.pcieCredit p (3 * s.vcOfQueue p q + pcieClass t) (s.firstUnits t p)

/-- Is the belay share of a port full, or has the replay memory of a PCIe port no room for n bytes more: whole 256 B flits in flit mode, TLPs otherwise
(R117, R142)? -/
def State.belayFull (s : State) (p n : Nat) : Bool :=
  let held := ((s.dll p).unacked.map fun u => s.tlpBytes p u.2.1).sum
  if s.role p = 3 then decide ((s.hll p).belay.length ≥ s.belayShare p)
  else if s.flag (F.STN.LINK_STS.FLIT p) then decide ((s.wireBytes p (held + n) + 255) / 256 > s.belayShare p)
  else decide (held + n > 256 * s.belayShare p)

/-- Is the retention account of a rope-pair member at the limit that a train was admitted under (R203, R206)? -/
def State.retainFull (s : State) (p : Nat) (t : Train) : Bool :=
  s.role p == 3 && (s.ropeOf p).isSome &&
    decide (s.get (F.BUF.PORT_STS.RETAINED p) ≥ (t.retainMax.lookup p).getD (s.get (F.BUF.PORT_LIMIT.RETAIN_MAX p)))

/-- Causes that block a train, as 0 BELAY, 1 CREDIT, 2 RETAIN, 3 GATE, 4 SHAPER. -/
def State.blocks (s : State) (p q : Nat) (t : Train) : List Nat :=
  let mgt : Bool := s.role p == 3 && q / 8 == 3
  (if s.belayFull p (s.firstBytes t p) then [0] else []) ++ (if s.credit p q t then [] else [1]) ++ (if s.retainFull p t then [2] else []) ++
    (if !mgt && s.gateFits p t.tc (s.sendSize t p) = 0 then [3] else []) ++ (if mgt || s.shaperOk p q then [] else [4])

/-- Do new packets of a VC wait for their return to a rejoined member (R135)? -/
def State.rejoinWait (s : State) (p q : Nat) : Bool :=
  s.role p == 3 && (match s.ropeOf p with
    | some m => let r := s.rope m; s.get (F.ROUTE.ROPE_PAIR.STATE m) == 4 && r.back == some p && !r.switched.contains (q / 8)
    | none => false)

/-- Heads of a queue: the head of each class lane on PCIe, the one head on a FAB port (R227). -/
def State.heads (s : State) (p q : Nat) : List (Train × Copy) :=
  let l := s.queued p q
  let h := if s.role p = 3 then l.take 1
    else ([0, 1, 2].filterMap fun k => l.find? fun x => pcieClass x.1 == k).mergeSort fun a b => decide (a.2.rel ≤ b.2.rel)
  h.filter fun x => !s.egressHeld x.1 x.2

/-- The train a queue offers: the oldest sendable head (R228). What the siding has delivered is for the siding to offer. -/
def State.head (s : State) (p q : Nat) : Option (Train × Copy) :=
  if s.rejoinWait p q then none
  else (s.heads p q).find? fun x => !x.2.res && s.startable x.1 x.2 && (s.blocks p q x.1).isEmpty

/-- The train the siding asks a port to take, from some of its queues: of those it has delivered that stand at the head of a queue or class lane and may
be sent, the one released first (R177, R217; notes/assumptions/94.md). -/
def State.sidingOf (s : State) (p : Nat) (qs : List Nat) : Option (Train × Copy) :=
  ((qs.flatMap fun q => if s.rejoinWait p q then [] else (s.heads p q).filter fun x => x.2.res && s.startable x.1 x.2 && (s.blocks p q x.1).isEmpty).mergeSort
    fun a b => decide (a.2.rel ≤ b.2.rel)).head?

def State.sidingHead (s : State) (p : Nat) : Option (Train × Copy) := s.sidingOf p (List.range 64)

/-- Causes that block a backlogged queue; none while it has a sendable head. -/
def State.queueBlocks (s : State) (p q : Nat) : List Nat :=
  if (s.head p q).isSome then [] else (s.heads p q).flatMap fun x => s.blocks p q x.1

/-- Queues of a port that hold a train. -/
def State.backlog (s : State) (p : Nat) : List Nat := (List.range 64).filter fun q => s.flag (F.EGR.QUEUE_STS.BACKLOGGED p q)

/-- Does a full belay share or replay memory hold back what a port would send (R117, R142)? -/
def State.belayStall (s : State) (p : Nat) : Bool :=
  ((s.backlog p).any fun q => (s.queueBlocks p q).contains 0) || (s.role p != 3 && ((s.port p).msgs.head?.map fun m => s.belayFull p (s.tlpBytes p m)) == some true)

/-- Bytes of slots in which nothing could start: front-starved, back-starved by the first cause, or lost to a train that is not ready. -/
def State.starve (s : State) (p n : Nat) : State :=
  let qs := s.backlog p
  if qs = [] then s.book p 6 n
  else
    let c := qs.flatMap fun q => s.queueBlocks p q
    match (List.range 5).find? fun k => c.contains k with
    | some k => s.book p (7 + k) n
    | none => s.book p 5 n

/-! ### Deficit round robin (R229) -/

def State.laneQueues (s : State) (p lane : Nat) : List Nat :=
  if s.role p = 3 then (List.range 8).map fun t => 8 * lane + t else (List.range 64).filter fun q => s.vcOfQueue p q == lane

/-- Move a lane's pointer on: the queue it comes onto is visited afresh. -/
def State.ptrNext (s : State) (p lane q : Nat) (qs : List Nat) : State :=
  let nq := ((qs.find? fun x => decide (x > q)).or qs.head?).getD q
  { s with core := { s.core with ptr := Tab.put s.core.ptr (4 * p + lane) nq, visited := Tab.del s.core.visited (64 * p + nq) } }

/-- The queue a lane's pointer stands on. -/
def State.ptrAt (s : State) (p lane : Nat) (qs : List Nat) : Nat :=
  match Tab.get? s.core.ptr (4 * p + lane) with
  | some q => if qs.contains q then q else qs.headD 0
  | none => qs.headD 0

/-- A lane's next train, over at most n queues. -/
def State.drr (s : State) (p lane : Nat) (qs : List Nat) : Nat → Option (Train × Copy) × State
  | 0 => (none, s)
  | n + 1 =>
    let q := s.ptrAt p lane qs
    match s.head p q with
    | none => (s.ptrNext p lane q qs).drr p lane qs n
    | some (t, c) =>
      let s :=
        if (Tab.get? s.core.visited (64 * p + q)).isSome then s
        else ({ s with core := { s.core with visited := Tab.put s.core.visited (64 * p + q) 1 } } : State).addF (F.EGR.QUEUE_STS.DEFICIT p q)
          (64 * max 66 (s.get (F.EGR.DRR_QUANTUM.QUANTUM p q)))
      if t.bytes ≤ s.get (F.EGR.QUEUE_STS.DEFICIT p q) then
        let s := s.subF (F.EGR.QUEUE_STS.DEFICIT p q) t.bytes
        if (s.queued p q).length ≤ 1 then (some (t, c), (s.set (F.EGR.QUEUE_STS.DEFICIT p q) 0).ptrNext p lane q qs)
        else (some (t, c), s)
      else (s.ptrNext p lane q qs).drr p lane qs n

def State.nextOf (s : State) (p lane : Nat) : Option (Train × Copy) × State :=
  let qs := s.laneQueues p lane
  s.drr p lane qs qs.length

/-! ### A train being sent -/

/-- Change the copy of a train at a port. -/
def Train.setCopy (t : Train) (p : Nat) (f : Copy → Copy) : Train :=
  { t with copies := t.copies.map fun c => if c.port = p then f c else c }

/-- A cairn follows a multicast train to its lowest-numbered member port (R405). -/
def State.cairnAt (s : State) (t : Train) (p k : Nat) : State :=
  if !t.mcast || t.members.foldl min 63 = p then s.cairnStage t.id k else s

/-- A train begins on a port: an oversize start is counted (R233), but on the MGT lane, which no gate stops (R228). -/
def State.begin' (s : State) (t : Train) (c : Copy) (n : Nat) : State :=
  let late : Bool := !(s.role c.port == 3 && c.queue / 8 == 3) && s.gateFits c.port t.tc (s.sendSize t c.port) == 2
  let s := if late then (s.addSat (F.EGR.GATE_STS.OVERRUNS c.port) 1).raise Ev.GATE_OVERRUN { inst := c.port, page := some (yardPage (planePort c.port)) } else s
  ((s.putTrain (t.setCopy c.port fun c => { c with sent := n, again := false })).cairnAt t c.port 4).queueSts c.port c.queue

/-- A cut-through train whose next coupling is absent ends nullified and will be sent again whole (R183). -/
def State.underrun (s : State) (t : Train) (c : Copy) : State :=
  let y := planePort c.port
  let s := (s.addSat (F.EGR.YARD_STS.CT_UNDERRUNS y) 1).count (Ctr.yard y 5) 1
  let s := (s.count (Ctr.port c.port 31) 1).raise Ev.CT_UNDERRUN { inst := c.port, page := some (yardPage y) }
  (s.putTrain (t.setCopy c.port fun c => { c with sent := 0, again := true })).yardOcc y

/-- A copy's last byte is on the link: counts, the shaper's computation instant, the use of the ORT entry that a response answers (R268), and the end of its use of the buffer unless the port retains it. -/
def State.sentCopy (s : State) (t : Train) (p q : Nat) (retain : Bool) : State :=
  let n := s.sendSize t p
  let s := ((s.book p 1 n).count (Ctr.port p 12) 1).count (Ctr.port p 30) (b2n t.ct)
  let t := { t with copies := t.copies.filter fun c => c.port ≠ p, unacked := t.unacked ++ [p] }
  let s := if t.copies.isEmpty && t.released && !retain && !s.retainedOn t.unacked then s.releaseCarriages t else s.putTrain t
  let s := (s.ortSent t).shape p q t.bytes
  (s.queueSts p q).yardOcc (planePort p)

/-! ### PCIe ports (R142, R177) -/

/-- Order of the requesters at a port's arbiter: the VC lanes 0 to 3, the message generator 4 and the siding 5 (R177). -/
def State.arbOrder (s : State) (p : Nat) : List Nat := Tab.getD s.core.arb p [0, 1, 2, 3, 4, 5]

/-- Send what is there of a train; when its last byte goes, the TLP enters the replay memory. A train the gateway splits goes a piece a slot, each as
credits and the replay memory allow. -/
def State.pcieSend (s : State) (p : Nat) (t : Train) (c : Copy) : State :=
  let have' := s.ready t p
  let n := s.granules t p
  let big := s.bigTrain t
  let key := 3 * s.vcOfQueue p c.queue + pcieClass t
  if c.again && !big && have' < n then s.book p 5 64
  else if c.again && s.gateFits p t.tc (s.sendSize t p) = 0 then s.book p 10 64
  else if c.sent > 0 && c.sent = have' && have' < n then
    if t.ct && !big then
      (((s.uncharge t c).book p 3 (4 * c.sent)).underrun t c).emit (.link p "NULLIFY" t.id)
    else s.book p 5 64
  else
    let pieces := s.copyTlps t p
    let u := pieces.getD c.piece (s.copyTlp t p)
    let units := (u.data.length + 15) / 16
    if c.piece > 0 && s.belayFull p (s.tlpBytes p u) then (s.count (Ctr.port p 20) 1).book p 7 64
    else if c.piece > 0 && !s.pcieCredit p key units then s.book p 8 64
    else
      let s :=
        if c.sent ≠ 0 && c.piece = 0 then s.putTrain (t.setCopy p fun c => { c with sent := have' })
        else
          let d := s.dll p
          let (uh, ud) := Tab.getD d.used key (0, 0)
          let s := s.setDll p { d with used := Tab.put d.used key ((uh + 1) % 4096, (ud + units) % 65536) }
          if c.piece = 0 then s.begin' t c have' else s
      match s.train? t.id with
      | none => s
      | some t =>
        if have' < n then (s.copied t (4 * have')).yardOcc (planePort p)
        else
          let d := s.dll p
          let s := (s.setDll p { d with seq := (d.seq + 1) % 4096, unacked := d.unacked ++ [(d.seq, u, t.id)] }).emit (.tlp p u)
          let b := s.tlpBytes p u
          -- the header of a further piece is overhead: the train's own is booked as carried with its last byte
          let s := s.book p 4 (s.wireBytes p b - (if c.piece = 0 then b else u.data.length))
          if c.piece + 1 < pieces.length then s.putTrain (t.setCopy p fun c => { c with piece := c.piece + 1 }) else s.sentCopy t p c.queue false

/-- Does the local message generator of a port have a message it can send: with posted credits of VC0 and room in the replay memory (R177)? -/
def State.msgReady (s : State) (p : Nat) : Option (Tlp × List Tlp) :=
  match (s.port p).msgs with
  | m :: rest => if s.pcieCredit p 0 ((m.data.length + 15) / 16) && !s.belayFull p (s.tlpBytes p m) then some (m, rest) else none
  | [] => none

/-- What a requester of a port's arbiter has for the slot: a train of a VC lane or of the siding, or a message, which goes at once. -/
def State.arbAsk (s : State) (p v : Nat) : Option (Option (Train × Copy)) × State :=
  if v = 5 then ((s.sidingHead p).map some, s)
  else if v < 4 then
    let (x, s) := s.nextOf p v
    (x.map some, s)
  else
    match s.msgReady p with
    | none => (none, s)
    | some (m, rest) =>
      let d := s.dll p
      let (uh, ud) := Tab.getD d.used 0 (0, 0)
      let d := { d with used := Tab.put d.used 0 ((uh + 1) % 4096, (ud + (m.data.length + 15) / 16) % 65536),
                        seq := (d.seq + 1) % 4096, unacked := d.unacked ++ [(d.seq, m, 0)] }
      (some none, ((s.setPort p { s.port p with dll := d, msgs := rest }).emit (.tlp p m)).book p 4 (s.wireBytes p (s.tlpBytes p m)))

/-- A requester that has been granted drops to the lowest rank. -/
def State.arbServed (s : State) (p v : Nat) : State :=
  { s with core := { s.core with arb := Tab.setD s.core.arb p ((s.arbOrder p).filter (· ≠ v) ++ [v]) [0, 1, 2, 3, 4, 5] } }

/-- Does a requester that asked after the last slot find its credits taken or its gate closed at this one? It is granted and withdraws (R177). -/
def State.withdraws (s : State) (p v : Nat) : Bool :=
  match (Tab.getD s.core.asked p []).lookup v with
  | none => false
  | some 0 => !(s.port p).msgs.isEmpty && (s.msgReady p).isNone
  | some id => (List.range 64).any fun q => (s.heads p q).any fun x => x.1.id == id && (s.blocks p q x.1).any fun c => c == 1 || c == 3

/-- The requests that stand at a port's arbiter once its slot is over. -/
def State.noteAsks (s : State) (p : Nat) : State :=
  let l := if s.backlog p = [] ∧ (s.port p).msgs = [] then []
    else [0, 1, 2, 3, 4, 5].filterMap fun v => (s.arbAsk p v).1.map fun x => (v, (x.map fun y => y.1.id).getD 0)
  { s with core := { s.core with asked := Tab.setD s.core.asked p l [] } }

/-- The port's arbiter grants a slot (R177): its requesters in rotating order; the one that takes it, or withdraws and leaves it dead, drops to the
lowest rank. -/
def State.grantSlot (s : State) (p : Nat) : List Nat → Option (Option (Train × Copy)) × State
  | [] => (none, s)
  | v :: rest =>
    match s.arbAsk p v with
    | (some x, s) => (some x, s.arbServed p v)
    | (none, s) => if s.withdraws p v then (some none, (s.book p 5 64).arbServed p v) else s.grantSlot p rest

/-- What a HOST or DEV port sends in a slot. -/
def State.pcieTake (s : State) (p : Nat) : State :=
  let d := s.dll p
  match d.replaying with
  | (_, u, _) :: rest =>
    let s := ((s.setDll p { d with replaying := rest }).emit (.tlp p u)).count (Ctr.port p 19) 1
    s.book p 2 (s.wireBytes p (s.tlpBytes p u))
  | [] =>
    match s.openCopies p with
    | (t, c) :: _ => s.pcieSend p t c
    | [] =>
      match s.grantSlot p (s.arbOrder p) with
      | (some (some (t, c)), s) => s.pcieSend p t c
      | (some none, s) => s
      | (none, s) => (if s.belayStall p then s.count (Ctr.port p 20) 1 else s).starve p 64

/-- A transmit slot of a HOST or DEV port. -/
def State.pcieSlot (s : State) (p : Nat) : State := (s.pcieTake p).noteAsks p

/-- Covers of a PCIe acknowledgement: sequence numbers up to the one given. -/
def seqDone (a q : Nat) : Bool := decide ((a + 4096 - q) % 4096 < 2048)

/-- An acknowledgement frees the replay memory. -/
def State.dllAck (s : State) (p a : Nat) : State :=
  let d := s.dll p
  let cov := d.unacked.filter fun u => seqDone a u.1
  if cov = [] then s
  else
    let s := s.setDll p { d with unacked := d.unacked.filter (fun u => !seqDone a u.1), replaying := d.replaying.filter (fun u => !seqDone a u.1), replayNum := 0 }
    cov.foldl (fun s u =>
      match s.train? u.2.2 with
      | some t => if t.copies.any (fun c => c.port == p) || (s.dll p).unacked.any fun w => w.2.2 == u.2.2 then s else (s.cairnAt t p 5).coverTrain u.2.2 p
      | none => s) s

/-- Where AER about a PCIe port's link is reported. -/
def State.aerPort (s : State) (p : Nat) : Option (Nat × Nat) := s.aerOf p 24 65536

/-- Everything unacknowledged is sent again; the fourth replay in a row retrains the link (REPLAY_NUM rollover). -/
def State.dllReplay (s : State) (p : Nat) : State :=
  let d := s.dll p
  if d.unacked = [] then s
  else if d.replayNum ≥ 3 then
    let s := (s.setDll p { d with replayNum := 0, replaying := d.unacked }).raise Ev.PCIE_LINK_CE { inst := p, detail := 2, aerAt := s.aerPort p, ceBit := 8 }
    if (s.port p).under = 6 then s.retrain p else s
  else (s.setDll p { d with replayNum := d.replayNum + 1, replaying := d.unacked }).count (Ctr.port p 18) 1

/-- A data link layer packet (R142). -/
def State.dllpRx (s : State) (p : Nat) (x : Dllp) : State :=
  if !(s.role p == 1 || s.role p == 2) || !s.linkUp p then s
  else
    match x with
    | .ack q => s.dllAck p q.toNat
    | .nak q => (s.dllAck p q.toNat).dllReplay p
    | .updateFc vc cls h n kh kd =>
      let key := 3 * vc.val + cls.val
      let d := s.dll p
      let first := (Tab.get? d.limit key).isNone
      let inf := (if first && h = 0 then [2 * key] else []) ++ (if first && n = 0 then [2 * key + 1] else [])
      s.setDll p { d with limit := Tab.put d.limit key (h.toNat % 256, n.toNat % 4096), infinite := d.infinite ++ inf,
                          scales := if d.scaled then Tab.put d.scales key (kh.toNat, kd.toNat) else d.scales }
    | .protoError => s.raise Ev.DLL_PROTO { inst := p, detail := 2, aerAt := s.aerPort p }
    | .badCrc => s.raise Ev.PCIE_LINK_CE { inst := p, detail := 2, aerAt := s.aerPort p, ceBit := 7 }
    | .rxError => s.raise Ev.PCIE_LINK_CE { inst := p, detail := 2, aerAt := s.aerPort p, ceBit := 0 }

/-- The PCIe replay timer expires. -/
def State.dllTimeout (s : State) (p : Nat) : State :=
  if !(s.role p == 1 || s.role p == 2) || !s.linkUp p || (s.dll p).unacked = [] then s
  else (s.raise Ev.PCIE_LINK_CE { inst := p, detail := 2, aerAt := s.aerPort p, ceBit := 12 }).dllReplay p

/-! ### FAB ports (R101 to R106, R116 to R122, R131 to R135) -/

/-- A flit being filled: segments so far, bytes left, train bytes in it, and whether a train that is not ready turned the slot away. -/
structure Fill where
  s : State
  room : Nat := 236
  segs : List Seg := []
  bytes : Nat := 0
  waits : Bool := false

/-- Charge the start of a packet and record it until it is covered. -/
def State.startPacket (s : State) (p v : Nat) (t : Train) (psn : Nat) : State :=
  let h := s.hll p
  let hdr := s.sendHdr t p
  let nh := (h.txH.getD v 0 + 1) % 4096
  let k : SentPk := { vc := v, h := if v < 3 then nh else 0, psn := psn, fsn := 4096, hdr := hdr, train := t.id, stamp := t.stamp }
  if v < 3 then
    (s.setHll p { h with txH := h.txH.set v nh, txD := h.txD.set v ((h.txD.getD v 0 + (t.t.data.length + 15) / 16) % 65536), sent := h.sent ++ [k] }).showAvail p v
  else s.setHll p { h with sent := h.sent ++ [k] }

/-- Would a flow take a port, by its hash or by R254's fallback, were that port available? -/
def State.nativeTo (s : State) (h : Hdr) (q : Nat) : Bool :=
  !h.mc && s.pickPort h (fun p => p == q || (s.fabUp p && !(h.desc && s.leadsUp p))) == some q

/-- Does the survivor of a pair still hold packets of the flows of a VC that return to the other member, or do such packets that were routed to it still
cross the device? -/
def State.ropeUnsent (s : State) (m back v : Nat) : Bool :=
  let q := s.ropeOther m back
  s.trainList.any fun t => ((t.copies.any fun c => c.port == q && c.queue / 8 == v) || (t.dst == q && t.cls == v + 3 && !t.released)) &&
    (match t.hal with
     | some h => s.nativeTo h back
     | none => false)

/-- A VC's flows return to a rejoined member once everything of theirs has been sent on the survivor and is covered (R135). -/
def State.ropeSwitch (s : State) (m v : Nat) : State :=
  let r := s.rope m
  let left : Bool := match r.back with
    | some p => s.ropeUnsent m p v
    | none => false
  let clear (p : Nat) : Bool := !((s.hll p).sent.any fun k => k.vc == v) && !((s.hll p).txOpen.any fun e => e.1 == v && e.2.1 != 0)
  let a := s.get (F.ROUTE.ROPE_PAIR.PORT_A m)
  let b := s.get (F.ROUTE.ROPE_PAIR.PORT_B m)
  if s.get (F.ROUTE.ROPE_PAIR.STATE m) = 4 && !left && clear a && clear b && !(r.resend.any fun k => k.vc == v) && !r.switched.contains v then
    let s := s.setRope m { r with switched := r.switched ++ [v] }
    if r.switched.length + 1 ≥ 4 then (s.setRope m { s.rope m with back := none }).set (F.ROUTE.ROPE_PAIR.STATE m) 0 else s
  else s

/-- A rope-pair member takes a new packet: its PSN, its retention, and with the first packet of a flow the failover moved, the end of the interruption
(R129, R131, R136). -/
def State.ropePacket (s : State) (m p v : Nat) (t : Train) : Nat × State :=
  let r := s.rope m
  let psn := r.psn.getD v 0
  let moved := s.nativeTo (s.sendHdr t p) (s.ropeOther m p)
  let s := s.setRope m { r with psn := r.psn.set v ((psn + 1) % 65536), failTime := if moved then none else r.failTime }
  let s := match r.failTime with
    | some f => if moved then s.set (F.ROUTE.ROPE_PAIR.LAST_INTERRUPT m) (min 65535 (s.time.now - f)) else s
    | none => s
  (psn, s.retainAt p t)

/-- The segment of granules `a` to `a + g` of a train. -/
def State.segOf' (s : State) (p v : Nat) (t : Train) (a g : Nat) (resend : Bool) (psn : Nat) : Seg :=
  { vc := v, start := a == 0, fin := decide (a + g ≥ s.granules t p), abort := false, resend := resend, psn := if a = 0 then psn else 0,
    bytes := ((s.halBytes t p).drop (4 * a)).take (4 * g) }

/-- The last segment of a packet has been placed: the flit's FSN is recorded, and the copy, if this was its first sending, is done with. -/
def State.endPacket (s : State) (p v : Nat) (t : Train) : State :=
  let h := s.hll p
  let f := s.get (F.STN.HLL_STS.TX_NEXT_FSN p)
  let s := s.setHll p { h with txOpen := Tab.del h.txOpen v, sent := h.sent.map fun k => if k.vc = v ∧ k.fsn = 4096 then { k with fsn := f } else k }
  match t.copies.find? fun c => c.port == p with
  | some c => s.sentCopy t p c.queue (s.ropeOf p).isSome
  | none => (s.book p 2 (s.sendSize t p)).putTrain { t with unacked := t.unacked.filter (· ≠ p) ++ [p] }

/-- Go on with the open packet of a VC. -/
def Fill.go (f : Fill) (p v : Nat) (t : Train) (a : Nat) (resend : Bool) (psn : Nat) : Fill :=
  let s := f.s
  let g := min (min (s.ready t p - a) 58) ((f.room - 4) / 4)
  let n := min (4 * g) (s.sendSize t p - 4 * a)
  let x := s.segOf' p v t a g resend psn
  let f := { f with room := f.room - 4 - 4 * g, segs := f.segs ++ [x], bytes := f.bytes + n }
  if x.fin then { f with s := s.endPacket p v t }
  else
    let h := s.hll p
    let t := t.setCopy p fun c => { c with sent := a + g }
    let s := (s.setHll p { h with txOpen := Tab.put h.txOpen v (t.id, a + g) }).putTrain t
    { f with s := (if (s.ropeOf p).isSome then s else s.copied t (4 * (a + g))).yardOcc (planePort p) }

/-- End the open packet of a VC by TAIL_ABORT: one granule of zeros (R106). -/
def Fill.abort (f : Fill) (p v sent : Nat) : Fill :=
  let h := f.s.hll p
  let s := (f.s.setHll p { h with txOpen := Tab.del h.txOpen v }).book p 3 (4 * sent)
  { f with s := s, room := f.room - 8,
           segs := f.segs ++ [{ vc := v, start := false, fin := true, abort := true, resend := false, psn := 0, bytes := List.replicate 4 0 }] }

/-- Start a packet on a VC. -/
def Fill.start (f : Fill) (p v : Nat) (t : Train) (c : Copy) : Fill :=
  let s := f.s.begin' t c 1
  let t := (s.train? t.id).getD t
  let (psn, s) := match s.ropeOf p with
    | some m => s.ropePacket m p v t
    | none => (0, s)
  let t := (s.train? t.id).getD t
  ({ f with s := s.startPacket p v t psn } : Fill).go p v t 0 false psn

/-- The next retained packet of a VC to send again, on the member that survived the last failure, if the link has credits for it and its train is whole (R133). -/
def State.resendNext (s : State) (p v : Nat) : Option (Nat × SentPk × Train) :=
  match s.ropeOf p with
  | none => none
  | some m =>
    match (if (s.rope m).via = some p then (s.rope m).resend.find? fun k => k.vc == v else none) with
    | none => none
    | some k => match s.train? k.train with
      | some t => some (m, k, t)
      | none => none

/-- The next train of a VC on a Halud port: its lane and the siding ask for the place in rotating order (R177, R217). -/
def State.fabNext (s : State) (p v : Nat) : Option (Train × Copy) × State :=
  let siding := s.sidingOf p (s.laneQueues p v)
  let order := s.arbOrder p
  let sidingFirst : Bool := decide (order.findIdx (· == 5) < order.findIdx (· == v))
  match siding with
  | none =>
    let (x, s) := s.nextOf p v
    (x, if x.isSome then s.arbServed p v else s)
  | some x =>
    if sidingFirst then (some x, s.arbServed p 5)
    else
      match s.nextOf p v with
      | (some y, s) => (some y, s.arbServed p v)
      | (none, s) => (some x, s.arbServed p 5)

/-- The segments one VC adds to a flit (R103, R105): an owed TAIL_ABORT, its open packet, packets to send again, then new ones. Nothing else is
sent on a port whose train is to be sent again after an underrun (R183). -/
def Fill.vc (f : Fill) (p v : Nat) : Nat → Fill
  | 0 => f
  | n + 1 =>
    if f.room < 8 then f
    else
      let s := f.s
      let again := (s.openCopies p).find? fun x => x.2.again
      match Tab.get? (s.hll p).txOpen v with
      | some (0, k) => (f.abort p v k).vc p v n
      | some (id, a) =>
        if again.isSome then f
        else
        match s.train? id with
        | none => (f.abort p v a).vc p v n
        | some t =>
          if a < s.ready t p then (f.go p v t a false 0).vc p v n
          else
            match t.copies.find? fun c => c.port == p with
            | some c =>
              if t.ct && !s.bigTrain t then
                let h := s.hll p
                let s := (s.underrun t c).setHll p { h with sent := h.sent.filter fun k => !(k.vc == v && k.fsn == 4096) }
                ({ f with s := s } : Fill).abort p v a
              else { f with waits := true }
            | none => { f with waits := true }
      | none =>
        let elsewhere : Bool := match again with
          | some (_, c) => c.queue / 8 != v
          | none => false
        if elsewhere then f
        else
          match s.resendNext p v with
          | some (m, k, t) =>
            if t.released && s.credit p (8 * v) t && !s.bankHeld t then
              let r := s.rope m
              let s := s.setRope m { r with resend := r.resend.erase k }
              if t.cars.any fun c => s.core.marks.contains c then
                ({ f with s := (List.range ((t.ncar + 3) / 4)).foldl (fun s i => s.readCpl t.id i) s } : Fill).vc p v n
              else
              let s := s.startPacket p v t k.psn
              let t := { t with unacked := t.unacked.filter (· ≠ s.ropeOther m p) }
              let s := (s.putTrain t).retainAt p t
              let t := (s.train? t.id).getD t
              (({ f with s := s } : Fill).go p v t 0 true k.psn).vc p v n
            else f
          | none =>
            match again with
            | some (t, c) =>
              let open' : Bool := v == 3 || s.gateFits p t.tc (s.sendSize t p) != 0
              if s.startable t c && s.credit p c.queue t && open' then (f.start p v t c).vc p v n else { f with waits := true }
            | none =>
              match s.fabNext p v with
              | (some (t, c), s) => (({ f with s := s } : Fill).start p v t c).vc p v n
              | (none, s) => { f with s := s }

/-- Fill a flit class by class: RSP, MGT at most once in eight flits, D-REQ, A-REQ (R104, R105). -/
def State.fillFlit (s : State) (p : Nat) : Fill :=
  let f : Fill := { s := s }
  let f := f.vc p 2 60
  let f := if (s.hll p).sinceMgt ≥ 7 then f.vc p 3 60 else f
  (f.vc p 1 60).vc p 0 60

/-- Count a flit toward the MGT limit. -/
def State.mgtCount (s : State) (p : Nat) (mgt : Bool) : State :=
  let h := s.hll p
  s.setHll p { h with sinceMgt := if mgt then 0 else min 7 (h.sinceMgt + 1) }

/-- Has a FAB port anything to send: trains in its queues, packets begun or to be sent again, or packets its pair retains (R117, R133)? -/
def State.fabWork (s : State) (p : Nat) : Bool :=
  s.backlog p != [] || !(s.openCopies p).isEmpty || !(s.hll p).txOpen.isEmpty ||
    (match s.ropeOf p with
     | some m => (s.rope m).via == some p && !(s.rope m).resend.isEmpty
     | none => false)

/-- What a FAB port sends in a slot: a replay first, else a SEQ flit if anything can be sent, else a NULL flit (R110, R114, R117). -/
def State.fabTake (s : State) (p : Nat) : State :=
  let mgtIn (b : List Byte) : Bool := (parseSegs b 59 2).any fun l => l.any fun x => x.vc == 3
  match s.putReplay p with
  | some s' =>
    let b := ((s.hll p).belay.find? fun b => some b.fsn == (s.hll p).replay).map BFlit.bytes
    (s'.book p 2 256).mgtCount p (mgtIn (b.getD []))
  | none =>
    if s.get (F.STN.HLL_STS.STATE p) ≠ 2 then ((s.putNull p).starve p 256).mgtCount p false
    else if s.belayFull p 0 then
      let s := if s.fabWork p then s.count (Ctr.port p 20) 1 else s
      let s := s.putNull p
      (if s.backlog p = [] ∧ s.fabWork p then s.book p 7 256 else s.starve p 256).mgtCount p false
    else
      let f := s.fillFlit p
      let s := f.s
      if f.segs = [] then
        let gone := (s.arbOrder p).find? fun v => s.withdraws p v
        let s := match gone with
          | some v => s.arbServed p v
          | none => s
        ((if f.waits || gone.isSome then (s.book p 5 64).starve p 192 else s.starve p 256).putNull p).mgtCount p false
      else ((s.putSeq p f.segs).book p 4 (256 - f.bytes)).mgtCount p (f.segs.any fun x => x.vc == 3)

/-- A transmit slot of a FAB port. -/
def State.fabSlot (s : State) (p : Nat) : State := (s.fabTake p).noteAsks p

/-- TRANSMIT_SLOT: what a port sends next. -/
def State.transmit (s : State) (p : Nat) : State :=
  if s.role p = 3 then (if s.flitsRun p then s.fabSlot p else s)
  else if (s.role p = 1 ∨ s.role p = 2) ∧ s.get (F.STN.LINK_STS.STATE p) = 6 then s.pcieSlot p
  else s

/-! ### The stall watchdog (R278) -/

/-- STALL_TIME has passed with a train of a VC waiting for credits. -/
def State.stall (s : State) (p v : Nat) : State :=
  if s.role p ≠ 3 ∨ s.get (F.STN.HLL_STS.STATE p) ≠ 2 then s
  else
    let l := ((List.range 8).flatMap fun k => s.queued p (8 * v + k)).mergeSort fun a b => decide (a.2.rel ≤ b.2.rel)
    match l with
    | [] => s
    | (t, c) :: _ =>
      if !(l.any fun x => !s.credit p x.2.queue x.1) then s
      else if v ≥ 2 then (s.addSat F.GW.GW_STS.STALL_REPORTS 1).raise Ev.STALL_REPORT { inst := p, recC := 2, detail := 2 }
      else
        let s := s.addSat F.GW.GW_STS.STALL_DROPS 1
        let h := s.sendHdr t p
        if t.mcast then (s.fabDropNote t.src h 8).dropCopy t p 0
        else
          let s := (s.fabDrop t.src h 8).fenceLose t.stamp false t.sentAddr 4
          ((s.endTrain t true).refreshQueues t).queueSts p c.queue

/-! ### Registers (R243, R247) -/

/-- A write of EGR.TCVC. -/
def State.wrTcvc (s : State) (p v : Nat) : State :=
  let vcs := bitsOf v 17 16
  if s.role p ≠ 0 || (List.range 8).any fun t => decide (bitsOf v (2 * t + 1) (2 * t) > vcs) then s.set (F.EGR.TCVC.REFUSED p) 1
  else (s.sets [(F.EGR.TCVC.VCS p, vcs), (F.EGR.TCVC.MAP p, v % 65536), (F.EGR.TCVC.REFUSED p, 0)]).refreshBuf

/-- A write of EGR.DRR_QUANTUM: the TC changes only while the port is OFF. -/
def State.wrDrr (s : State) (p q v : Nat) : State :=
  let s := s.set (F.EGR.DRR_QUANTUM.QUANTUM p q) (v % 4096)
  if s.role p = 0 then s.set (F.EGR.DRR_QUANTUM.TC p q) (bitsOf v 18 16) else s

end Sys2Proof.Machine
end

