-- ==== Sys2Proof/Machine/Telemetry.lean ====
section
/-! DEFINITION. Telemetry: counter chains and what a tenant sees of counters, tagging and the cairn ring, coalescing windows, the log queue and
alarm FIFO, the freeze region, stream DMA, marks (14_telemetry.md R397 to R417). -/
namespace Sys2Proof.Machine

/-! ### Counters (R397, R398) -/

/-- Owner of counter i; none for an index that is not implemented. -/
def State.ctrOwner (s : State) (i : Nat) : Option Nat :=
  if i < 0x600 then some (s.ownerOf (i / 32))
  else if i < 0x900 then some (s.ownerOf (s.portOfLane ((i - 0x600) / 4)))
  else if i < 0xC60 then some ((i - 0x900) / 36)
  else if i < 0xD50 then some s.managerVh
  else if 0xE00 ≤ i ∧ i < 0xE7A then some s.managerVh
  else none

/-- A counter as a VH sees it: the manager the raw count, its owner the count since it took it; none if it may not. -/
def State.ctrSeen (s : State) (v i : Nat) : Option Nat :=
  let own := s.ctrOwner i
  if own.isNone then none
  else if v = s.managerVh then some (s.ctr i)
  else if own ≠ some v then none
  else
    let base (j : Nat) : Nat := Tab.getD s.tele.base j 0
    let pair (lo : Nat) : Nat :=
      ((s.ctr lo + 2 ^ 40 * s.ctr (lo + 1)) + 2 ^ 80 - (base lo + 2 ^ 40 * base (lo + 1)) % 2 ^ 80) % 2 ^ 80
    if s.chained i then some (pair (i - 1) / 2 ^ 40)
    else if i % 2 = 0 && s.chained (i + 1) then some (pair i % 2 ^ 40)
    else some ((s.ctr i + 2 ^ 40 - base i) % 2 ^ 40)

/-- A write of PMU.CHAIN[j]: each bit that changes sets its odd counter and base to 0. -/
def State.wrChain (s : State) (j v : Nat) : State :=
  let old := s.get (F.PMU.CHAIN.CHAIN j)
  let s := (List.range 64).foldl (fun s b =>
    if bitOf old b == bitOf v b then s
    else
      let i := 128 * j + 2 * b + 1
      let s := s.setCtr i 0
      { s with tele := { s.tele with base := Tab.del s.tele.base i } }) s
  s.set (F.PMU.CHAIN.CHAIN j) v

/-! ### Cairns (R404, R407, R408) -/

/-- A write of TRACE.TAG_CTL: EN rising seeds every LFSR; a ring that stopped full goes on once STOP is cleared. -/
def State.wrTagCtl (s : State) (v : Nat) : State :=
  let was := s.flag F.TRACE.TAG_CTL.EN
  let s := s.sets [(F.TRACE.TAG_CTL.EN, bitsOf v 63 63), (F.TRACE.TAG_CTL.STOP, bitsOf v 62 62), (F.TRACE.TAG_CTL.K, bitsOf v 52 48),
    (F.TRACE.TAG_CTL.CLASS_MASK, bitsOf v 47 41), (F.TRACE.TAG_CTL.SEED, v % 2 ^ 32)]
  let s := if bitOf v 62 then s else s.set F.TRACE.STS.FULL 0
  if bitOf v 63 && !was then
    let seed (x : Nat) : Nat := let n := (v % 2 ^ 32 + x + 1) % 2 ^ 32; if n = 0 then 1 else n
    { s with tele := { s.tele with lfsr := (List.range 14).map fun x => (x, seed x) } }
  else s

/-- Do two DRAM regions of MiB overlap? -/
def overlaps (b n b' n' : Nat) : Bool := decide (b < b' + n' ∧ b' < b + n)

/-- May a region of device DRAM lie here: within 15 GiB, clear of the first 1,024 MiB and the dirty-log region? -/
def State.regionOk (s : State) (b n : Nat) : Bool :=
  decide (b + n ≤ 15360) && decide (1024 + s.get F.DIRTY.DL_CTL.REGION_MIB ≤ b)

/-- A write of TRACE.RING; while EN = 1 it is refused like one out of range. -/
def State.wrRing (s : State) (v : Nat) : State :=
  let n := bitsOf v 45 32
  let b := bitsOf v 13 0
  if s.flag F.TRACE.TAG_CTL.EN || !(decide (16 ≤ n ∧ n ≤ 1024) && s.regionOk b n) ||
      overlaps b n (s.get F.LOG.LOG_BASE.BASE_MIB) (s.get F.LOG.LOG_SIZE.SIZE_MIB) then s.set F.TRACE.RING.REFUSED 1
  else s.sets [(F.TRACE.RING.SIZE_MIB, n), (F.TRACE.RING.BASE_MIB, b), (F.TRACE.RING.REFUSED, 0)]

/-- A finished cairn enters the queue, or is dropped. -/
def State.cairnFinish (s : State) (id : Nat) : State :=
  match Tab.get? s.tele.cairns id with
  | none => s
  | some c =>
    if !c.done then s
    else
      let s : State := { s with tele := { s.tele with cairns := Tab.del s.tele.cairns id } }
      let s := s.cairnSts
      if s.tele.cairnQ.length ≥ 512 then (s.count (Ctr.dev 42) 1).raise Ev.CAIRN_DROP {}
      else { s with tele := { s.tele with cairnQ := s.tele.cairnQ ++ [c] } }

def State.cairnCap (s : State) : Nat := s.get F.TRACE.RING.SIZE_MIB * 16384

/-- The oldest queued cairn is in the ring. -/
def State.cairnPut (s : State) : State :=
  match s.tele.cairnQ with
  | [] => s
  | c :: rest =>
    let q := s.tele.cairnSeq
    let cap := max 1 s.cairnCap
    if s.flag F.TRACE.TAG_CTL.STOP && q ≥ cap then s.set F.TRACE.STS.FULL 1
    else
      let s : State := { s with tele := { s.tele with cairnQ := rest, cairnSeq := q + 1, cairnRing := Tab.put s.tele.cairnRing (q % cap) c } }
      let s := ((s.blockWritten (s.traceBlock (q % cap))).set F.TRACE.STS.WR_SEQ (q + 1)).count (Ctr.dev 41) 1
      if s.flag F.TRACE.TAG_CTL.STOP && q + 1 ≥ cap then s.set F.TRACE.STS.FULL 1 else s

/-- CAIRN_WRITE: a queued cairn is written within the TRACE class (R407). -/
def State.cairnWrite (s : State) : State :=
  match s.tele.cairnQ with
  | [] => s
  | _ :: _ => if s.flag F.TRACE.TAG_CTL.STOP && s.tele.cairnSeq ≥ max 1 s.cairnCap then s.set F.TRACE.STS.FULL 1 else s.budgeted 4 0 1 .cairn State.cairnPut

/-- The eight words of a cairn with its number (R406). -/
def Cairn.words (c : Cairn) (seq : Nat) : List Nat :=
  let st (k : Nat) : Nat := c.stages.getD k 0 % 2 ^ 24
  [2 ^ 60 + c.inPort % 64 * 2 ^ 54 + c.outPort % 64 * 2 ^ 48 + c.cls % 16 * 2 ^ 44 + c.tc % 8 * 2 ^ 41 + c.vh % 32 * 2 ^ 36 + c.len % 8192 * 2 ^ 23 +
      b2n c.ct * 2 ^ 22 + b2n c.miss * 2 ^ 21 + b2n c.null * 2 ^ 20 + c.gen % 16 * 2 ^ 16 + seq % 65536,
    c.time % 2 ^ 64, st 0 * 2 ^ 40 + st 1 * 2 ^ 16, st 2 * 2 ^ 40 + st 3 * 2 ^ 16, st 4 * 2 ^ 40 + st 5 * 2 ^ 16,
    c.reqId % 65536 * 2 ^ 48 + c.tag % 16384 * 2 ^ 34 + c.dstNode % 4096 * 2 ^ 22, c.addr % 2 ^ 64, 0]

/-! ### The log queue and the alarm FIFO (R412 to R414) -/

/-- A coalescing window ends: repeats become one record. -/
def State.coalExpire (s : State) (code inst key : Nat) : State :=
  match s.tele.coal.find? fun e => e.code == code && e.inst == inst && e.key == key with
  | none => s
  | some e =>
    let s : State := { s with tele := { s.tele with coal := s.tele.coal.erase e } }
    match e.rep with
    | none => s
    | some r =>
      if !s.flag F.LOG.LOG_CTL.EN then s
      else
        let (ok, s1) := s.admitRec r
        s.freezeEnd (if ok then s1 else s1.countEvent Ev.LOG_DROP 0x59)

/-- Records of the queue that this pitch's budgets allow are written, oldest first within each class. -/
def State.drainQueue (s : State) : Nat → State
  | 0 => s
  | n + 1 =>
    match s.tele.queue.find? fun r => s.mayWrite r.lclass with
    | none => s
    | some r => ((((s.spend 3 0 1).addWrote r.lclass).writeMain r).setQueue (s.tele.queue.erase r)).drainQueue n

/-- A millisecond that saw refusals ends: one LOG_DROP record, in the slot kept for it. -/
def State.dropSummary (s : State) : State :=
  let (a, b, c) := s.tele.msDrops
  let s : State := { s with tele := { s.tele with msDrops := (0, 0, 0) } }
  if a = 0 ∧ b = 0 ∧ c = 0 ∨ !s.flag F.LOG.LOG_CTL.EN then s
  else
    let r := s.mkRec Ev.LOG_DROP 1 0 { detail := 2, w := [a, b, c, 0] }
    let s1 := ((s.count (Ctr.dev 26) 1).freezeCopy r).offer r
    s.freezeEnd (if s1.mayWrite 1 && !(s1.tele.queue.any fun x => x.lclass == 1) then ((s1.spend 3 0 1).addWrote 1).writeMain r
      else s1.setQueue (s1.tele.queue ++ [r]))

/-- Alarms a block kept enter the FIFO while it has room. -/
def State.fifoRefill (s : State) : List LogRec → State
  | [] => s
  | r :: rest =>
    if s.tele.fifo.length ≥ 256 && !(s.tele.fifo.any AlarmEnt.written) then s
    else (s.freezeEnd (({ s with tele := { s.tele with fifoWait := s.tele.fifoWait.drop 1 } } : State).enterAlarm r)).fifoRefill rest

/-- Entries that have been written and read (with the logbook off: read) leave the FIFO. -/
def State.fifoFree (s : State) : State :=
  let on := s.flag F.LOG.LOG_CTL.EN
  let s := s.setFifo (s.tele.fifo.filter fun e => !(e.read && (e.written || !on)))
  s.fifoRefill s.tele.fifoWait

/-- The oldest alarm of the FIFO not yet in the alarm ring, while the logbook is on; after DRAM_FAIL alarms stay in the FIFO. -/
def State.alarmNext (s : State) : Option AlarmEnt :=
  if !s.flag F.LOG.LOG_CTL.EN || s.get F.ERR.SAFE_STS.CODE == Ev.DRAM_FAIL then none else s.tele.fifo.find? fun e => !e.written

/-- That alarm is in the ring. -/
def State.alarmPut (s : State) : State :=
  match s.alarmNext with
  | none => s
  | some e =>
    let k := e.r.seq % max 1 s.alarmCap
    let l := s.tele.fifo.map fun x => if x = e then { x with written := true } else x
    let s : State := { s with tele := { s.tele with alarm := Tab.put s.tele.alarm k e.r } }
    ((s.blockWritten (s.logBlock 1 k)).setFifo l).fifoFree

/-- ALARM_FIFO_WRITE: the oldest unwritten alarm goes to the alarm ring within the LOG class, and beyond its budget while 128 or more entries stand. -/
def State.alarmWrite (s : State) : State :=
  match s.alarmNext with
  | none => s
  | some _ =>
    if 128 ≤ s.tele.fifo.length && !s.canPay 3 0 1 then ((s.spend 3 0 1).count (Ctr.dev 32) 1).alarmPut
    else s.budgeted 3 0 1 .alarm State.alarmPut

/-! ### Registers of the logbook (R415, R417) -/

/-- REARM: the freeze region is free for the next D or F event. -/
def State.rearm (s : State) : State :=
  if s.tele.freezing then s
  else ({ s with tele := { s.tele with freeze := [] } } : State).sets [(F.LOG.FREEZE_CTL.ARMED, 1), (F.LOG.FREEZE_CTL.FROZEN, 0)]

/-- A write of LOG.LOG_CTL: EN returning to 1 after a change of place empties the three regions. -/
def State.wrLogCtl (s : State) (v : Nat) : State :=
  let was := s.flag F.LOG.LOG_CTL.EN
  let s := s.sets [(F.LOG.LOG_CTL.EN, bitsOf v 63 63), (F.LOG.LOG_CTL.TRACE_C, bitsOf v 62 62), (F.LOG.LOG_CTL.COAL_US, bitsOf v 47 32),
    (F.LOG.LOG_CTL.IRQ_GAP_US, bitsOf v 31 16), (F.LOG.LOG_CTL.ALARM_IRQ, bitsOf v 2 2), (F.LOG.LOG_CTL.ERROR_IRQ, bitsOf v 1 1),
    (F.LOG.LOG_CTL.EVENT_IRQ, bitsOf v 0 0)]
  if bitOf v 63 && !was && s.tele.logMoved then
    { s with tele := { s.tele with logMoved := false, main := [], alarm := [], freeze := [] } }
  else s

/-- A write of LOG_BASE or LOG_SIZE, giving the logbook a place and size in MiB. -/
def State.wrLogPlace (s : State) (b n : Nat) : State :=
  if s.flag F.LOG.LOG_CTL.EN || !(decide (64 ≤ n ∧ n ≤ 4096) && s.regionOk b n) ||
      overlaps b n (s.get F.TRACE.RING.BASE_MIB) (s.get F.TRACE.RING.SIZE_MIB) then s.set F.LOG.LOG_BASE.REFUSED 1
  else
    let moved := b != s.get F.LOG.LOG_BASE.BASE_MIB || n != s.get F.LOG.LOG_SIZE.SIZE_MIB
    let s : State := { s with tele := { s.tele with logMoved := s.tele.logMoved || moved } }
    s.sets [(F.LOG.LOG_BASE.BASE_MIB, b), (F.LOG.LOG_SIZE.SIZE_MIB, n), (F.LOG.LOG_BASE.REFUSED, 0)]

/-- LOG.MARK.GO: a TRACE record of code 0 with the mark's key and data (R409, R410). -/
def State.mark (s : State) : State :=
  let w := (List.range 4).map fun k => s.get (F.LOG.MARK_DATA.DATA k)
  let r := s.mkRec 0 0 0 { key := s.get F.LOG.MARK.KEY, detail := 3, w := w }
  if !s.flag F.LOG.LOG_CTL.EN then s
  else
    let (ok, s1) := s.admitRec r
    s.freezeEnd (if ok then s1 else s1.countEvent Ev.LOG_DROP 0x59)

/-! ### Delivery (R416) -/

/-- IRQ_GAP_US has passed since the logbook vector was last raised. -/
def State.gapExpire (s : State) : State :=
  if !s.tele.irqGap then s
  else if s.tele.irqWant = [] then { s with tele := { s.tele with irqGap := false } }
  else
    let s := s.raiseMsix s.managerVh 1
    { s with tele := { s.tele with irqWant := [] } }

/-- Host ring size of stream DMA in bytes, and the records it holds. -/
def State.dmaRing (s : State) : Nat := let n := s.get F.LOG.DMA_CTL.SIZE_LOG2; 2 ^ (if 16 ≤ n ∧ n ≤ 30 then n else 16)

/-- A write of LOG.DMA_CTL: EN rises only while the receiving VH has a valid requester ID; delivery then starts at index 0
(notes/assumptions/25.md). -/
def State.wrDmaCtl (s : State) (v : Nat) : State :=
  let dest := bitsOf v 58 54
  let was := s.flag F.LOG.DMA_CTL.EN
  let en : Bool := bitOf v 63 && (was || (decide (dest < 24) && s.flag (F.GW.GW_RID.VALID dest)))
  let s := s.sets [(F.LOG.DMA_CTL.EN, b2n en), (F.LOG.DMA_CTL.IRQ, bitsOf v 62 62), (F.LOG.DMA_CTL.TC, bitsOf v 61 59), (F.LOG.DMA_CTL.DEST_VH, dest),
    (F.LOG.DMA_CTL.CLASS_MASK, bitsOf v 53 50), (F.LOG.DMA_CTL.SIZE_LOG2, bitsOf v 49 45)]
  if !en then ({ s with tele := { s.tele with dmaPend := [] } } : State).set F.LOG.DMA_CTL.STATE 0
  else if !was then ({ s with tele := { s.tele with dmaPend := [], dmaIdx := 0 } } : State).set F.LOG.DMA_CTL.STATE 1
  else s

/-- Can stream DMA reach its VH's host? -/
def State.dmaReach (s : State) : Bool :=
  let v := s.get F.LOG.DMA_CTL.DEST_VH
  let p := s.get (F.VH.VH_BIND.HOST_PORT v)
  decide (v < 24) && s.vhBound v && s.role p == 1 && s.linkUp p && !s.closed p && s.bme v 32

/-- A posted write of stream DMA. -/
def State.dmaWrite (s : State) (a : Nat) (data : List Byte) : State :=
  let v := s.get F.LOG.DMA_CTL.DEST_VH
  s.inject { id := 0, src := 49, vh := some v, eg := some (s.get (F.VH.VH_BIND.HOST_PORT v)),
             t := { kind := .mwr, reqId := BitVec.ofNat 16 (s.get (F.GW.GW_RID.RID v)), addr := BitVec.ofNat 64 a, len := data.length,
                    tc := BitVec.ofNat 3 (s.get F.LOG.DMA_CTL.TC), data := data } }

/-- Has the DRAM copy of a record been overwritten? -/
def State.overwritten (s : State) (r : LogRec) : Bool :=
  if r.lclass = 3 then decide ((s.get F.LOG.LOG_SEQ.ALARM + 2 ^ 32 - r.seq) % 2 ^ 32 > s.alarmCap)
  else decide ((s.get F.LOG.LOG_SEQ.MAIN + 2 ^ 32 - r.seq) % 2 ^ 32 > s.mainCap)

/-- An uncorrectable read of a DRAM block is counted (R375); what it held, a record or a cairn, is skipped (R346). -/
def State.blockLost (s : State) (blk : Nat) : State :=
  (((s.addSat F.MEMC.ECC_STS.UE 1).set F.MEMC.ECC_STS.LAST_ADDR blk).count (Ctr.dev 15) 1).raise Ev.DRAM_UE { detail := 2, w := [s.regVal 0x50 0x108] }

/-- Block of a record in its ring. -/
def State.recBlock (s : State) (r : LogRec) : Nat :=
  if r.lclass = 3 then s.logBlock 1 (r.seq % max 1 s.alarmCap) else s.logBlock 0 (r.seq % max 1 s.mainCap)

/-- Records of a batch, read in order: one whose block reads uncorrectable is skipped. -/
def State.dmaRead (s : State) : List LogRec → List LogRec × State
  | [] => ([], s)
  | r :: rest =>
    if s.err.dramUe.contains (s.recBlock r) then (s.blockLost (s.recBlock r)).dmaRead rest
    else
      let (l, s) := s.dmaRead rest
      (r :: l, s)

/-- A batch is read from the rings and sent: its records that could be read, then the index, then the interrupt. -/
def State.dmaSend (s : State) (asked : List LogRec) : State :=
  let (l, s) := ({ s with tele := { s.tele with dmaPend := s.tele.dmaPend.drop asked.length } } : State).dmaRead asked
  if l = [] then s
  else
    let base := s.get F.LOG.DMA_ADDR.ADDR * 4096
    let cap := s.dmaRing / 64
    let s := s.count (Ctr.dev 35) l.length
    let s := (l.zip (List.range l.length)).foldl (fun s e => s.dmaWrite (base + (s.tele.dmaIdx + e.2) % cap * 64) e.1.toBytes) s
    let idx := (s.tele.dmaIdx + l.length) % 2 ^ 32
    let s : State := { s with tele := { s.tele with dmaIdx := idx } }
    let s := (s.set F.LOG.DMA_CTL.STATE 1).dmaWrite (base + s.dmaRing) (leBytes 8 idx)
    if s.flag F.LOG.DMA_CTL.IRQ then s.raiseMsix (s.get F.LOG.DMA_CTL.DEST_VH) 1 else s

/-- Stream DMA's backlog keeps the records that the rings still hold or will; the others are lost, and counted (R416). -/
def State.dmaKeep (s : State) : State :=
  let lost := s.tele.dmaPend.filter fun r => !(s.tele.queue.contains r) && s.overwritten r
  ({ s with tele := { s.tele with dmaPend := s.tele.dmaPend.filter fun r => s.tele.queue.contains r || !s.overwritten r } } : State).count
    (Ctr.dev 36) lost.length

/-- LOG_DMA_BATCH: up to 64 records written so far, in admission order, as the host ring's room and the LOG budget allow; then the index, then
the interrupt. `paid` reads have been paid for already. -/
def State.dmaBatch (s : State) (paid : Nat) : State :=
  if !s.flag F.LOG.DMA_CTL.EN then s
  else if !s.dmaReach then s.set F.LOG.DMA_CTL.STATE 3
  else
    let s := s.dmaKeep
    let pend := s.tele.dmaPend
    let cap := s.dmaRing / 64
    let used := (s.tele.dmaIdx + 2 ^ 32 - s.get F.LOG.DMA_HEAD.HEAD) % 2 ^ 32
    if pend = [] then s.set F.LOG.DMA_CTL.STATE 1
    else if used ≥ cap then s.set F.LOG.DMA_CTL.STATE 2
    else if paid = 0 && !s.canPay 3 0 1 then s.defer ⟨3, 0, 1, classPage 3, true, .dmaBatch⟩
    else
      let n := min 64 (cap - used)
      let asked := ((pend.takeWhile fun r => !s.tele.queue.contains r).take n).take (paid + s.leftDram 3)
      (s.spend 3 0 (asked.length - paid)).dmaSend asked

/-! ### Windows (R408, R416) -/

/-- Block of record n of LOG.WIN, and of cairn n of TRACE.WIN. -/
def State.winBlock (s : State) (page n : Nat) : Nat :=
  if page = 0x59 then s.logBlock (s.get F.LOG.WIN_OFF.RING) (s.get F.LOG.WIN_OFF.INDEX / 512 * 512 + n)
  else s.traceBlock (s.get F.TRACE.WIN_OFF.INDEX / 512 * 512 + n)

/-- Record n of LOG.WIN, as words. -/
def State.logWin (s : State) (n : Nat) : List Nat :=
  let i := s.get F.LOG.WIN_OFF.INDEX / 512 * 512 + n
  let ring := s.get F.LOG.WIN_OFF.RING
  let r := if ring = 0 then Tab.get? s.tele.main i else if ring = 1 then Tab.get? s.tele.alarm i else if ring = 2 then Tab.get? s.tele.freeze i else none
  match r with
  | some r => r.words
  | none => List.replicate 8 0

/-- Cairn n of TRACE.WIN, as words: its number follows from where the ring stands. -/
def State.traceWin (s : State) (n : Nat) : List Nat :=
  let i := s.get F.TRACE.WIN_OFF.INDEX / 512 * 512 + n
  let cap := max 1 s.cairnCap
  let seq := let last := s.tele.cairnSeq - 1; if i ≤ last % cap then last / cap * cap + i else last / cap * cap + i - cap
  match Tab.get? s.tele.cairnRing i with
  | some c => c.words seq
  | none => List.replicate 8 0

end Sys2Proof.Machine
end

