-- ==== Sys2Proof/Machine/Errors.lean ====
section
/-! DEFINITION. Containment commands, the Guide pairs, and loss and return of the root clock (12_errors_containment.md R345, R351 to R358;
01_architecture.md R22, R23). -/
namespace Sys2Proof.Machine

/-! ### CONTAIN_CTL (R351, R353) -/

/-- Does device containment hold a target: 0 port, 1 VH, 2 VF? -/
def State.contained (s : State) (k i : Nat) : Bool :=
  if k = 0 then s.flag (byFld 2 i) else if k = 1 then s.err.vhHeld.contains i else s.err.vfHeld.contains i

/-- The fault GO finds, in the order of R353; 0 for none. -/
def State.containFault (s : State) (op k i : Nat) : Nat :=
  if s.get F.ERR.CONTAIN_CTL.RESULT = 2 then 5
  else if (op ≠ 1 ∧ op ≠ 2) ∨ k = 3 then 7
  else if (k = 0 ∧ i > 47) ∨ (k = 1 ∧ i > 23) then 1
  else if k = 0 ∧ (s.role i = 0 ∨ s.role i = 1) then 2
  else if k = 1 ∧ (i = s.managerVh ∨ !s.vhBound i) then 3
  else if k = 2 ∧ !(s.flag (F.VH.VF_MAP0.VALID i) && s.get (F.VH.VF_MAP0.STATE i) == 1) then 4
  else if op = 2 ∧ !s.contained k i then 6
  else 0

/-- Training of a port has begun: a RELEASE of it is done. -/
def State.trainBegan (s : State) (p : Nat) : State := if (s.port p).under = 1 then s.cmdDone 2 0 p else s

/-- RELEASE of a port: a DEV port is reset first, a FAB port trains at once. -/
def State.releasePort (s : State) (p : Nat) : State :=
  let s := s.openPort p 2
  if s.role p = 2 then s.assertPrst p else (s.startTrain p).trainBegan p

/-- RELEASE of a tenant VH: its VFs return with the FLR of the VH reset. -/
def State.releaseVh (s : State) (v : Nat) : State :=
  let vfs := (s.vfsIn v).filter fun i => !s.err.vfHeld.contains i && s.get (F.VH.VDSP.STATE (s.vdspOfVf i).1 (s.vdspOfVf i).2) == 4
  let s : State := { s with err := { s.err with vhHeld := s.err.vhHeld.filter (· ≠ v) },
                            share := { s.share with flrBack := (s.share.flrBack.filter fun i => !vfs.contains i) ++ vfs } }
  s.vhReset v false

/-- RELEASE of a VH ends with its VH reset: service resumes. -/
def State.vhReleased (s : State) (v : Nat) : State :=
  if s.err.cmd ≠ some (2, 1, v) then s
  else
    let s := if s.err.vhHeld.contains v then s else (List.range 48).foldl (fun s p =>
      let mine := s.vhOfHost p == some v || (match s.attachedPort p with
        | some (w, _) => w == v
        | none => false)
      if mine then s.openPort p 1 else s) s
    s.cmdDone 2 1 v

/-- RELEASE of a VF. -/
def State.releaseVf (s : State) (i : Nat) : State :=
  ({ s with err := { s.err with vfHeld := s.err.vfHeld.filter (· ≠ i) } } : State).startFlr i true

/-- A write of ERR.CONTAIN_CTL. -/
def State.wrContainCtl (s : State) (v : Nat) : State :=
  let op := bitsOf v 62 60
  let k := bitsOf v 59 58
  let i := bitsOf v 57 48
  let f := s.containFault op k i
  let s := s.sets [(F.ERR.CONTAIN_CTL.OP, op), (F.ERR.CONTAIN_CTL.TARGET, k), (F.ERR.CONTAIN_CTL.INDEX, i), (F.ERR.CONTAIN_CTL.CPL_CA, bitsOf v 40 40)]
  if !bitOf v 63 then s
  else if f = 5 then s.set F.ERR.CONTAIN_CTL.FAULT 5
  else if f ≠ 0 then s.sets [(F.ERR.CONTAIN_CTL.FAULT, f), (F.ERR.CONTAIN_CTL.RESULT, 3)]
  else
    let s : State := { s with err := { s.err with cmd := some (op, k, i) } }
    let s := s.sets [(F.ERR.CONTAIN_CTL.RESULT, 2), (F.ERR.CONTAIN_CTL.FAULT, 0)]
    if op = 1 then s.containTarget k i (bitOf v 40)
    else if k = 0 then s.releasePort i
    else if k = 1 then s.releaseVh i
    else s.releaseVf i

/-- CONTAIN_DONE: a CONTAIN in progress has finished. -/
def State.containDone (s : State) : State :=
  match s.err.cmd with
  | some (1, k, i) => s.cmdDone 1 k i
  | _ => s

/-- One second after the first counted occurrence, a count of R345 returns to 0. -/
def State.escExpire (s : State) (j inst : Nat) : State :=
  { s with tele := { s.tele with esc := Tab.del s.tele.esc (j * 65536 + inst) } }

/-! ### The Guide pairs (R357, R27) -/

def pairFld (i : Nat) : Fld := if i = 0 then F.ERR.GUIDE_STS.PAIR0 else F.ERR.GUIDE_STS.PAIR1

/-- A pair is ACTIVE: the functions of R27 run. -/
def State.guideOn (s : State) : Bool := s.get F.ERR.GUIDE_STS.PAIR0 == 0 || s.get F.ERR.GUIDE_STS.PAIR1 == 0

/-- The DAP is locked. -/
def State.relock (s : State) : State :=
  ({ s with mgmt := { s.mgmt with dapSession := none } } : State).set F.ATTEST.DBG_STS.UNLOCKED 0

/-- Every SPDM session ends (R357, R468). -/
def State.endSessions (s : State) : State :=
  ({ s with mgmt := { s.mgmt with sessions := [], nonce := none, spdmAt := [] } } : State).relock

/-- Sensors that SENSE reads (R376, R379): margins, oscillators, diodes and voltages, a register each, charged to GUIDE (R377). -/
def sensorRegs : Nat := 6 + 24 + 48 + 16

/-- SENSE has read its sensors. -/
def State.senseDone (s : State) : State := if s.get F.AGE.ACCL_STS.STATE = 1 then { s with age := { s.age with sensed := true } } else s

/-- SENSE begins, of a pass that starts or restarts. -/
def State.senseStart (s : State) : State :=
  let s : State := { s with age := { s.age with steps := 0, lowered := false, marginLow := false, bankDone := false, stations := [], repeated := [], scanning := [],
                                                toScan := [], reading := 0, sensed := false, passWaits := false } }
  (s.set F.AGE.ACCL_STS.STATE 1).budgeted 6 sensorRegs 0 .sense State.senseDone

/-- A pass that runs restarts from SENSE (R357, R392). -/
def State.passRestart (s : State) : State :=
  if s.get F.AGE.ACCL_STS.STATE = 0 then s else s.senseStart.set F.AGE.ACCL_STS.LAST_RESULT 2

/-- Ascent starts, or starts again, from its first record (R433, R357). -/
def State.ascentStart (s : State) (again : Bool) : State :=
  ({ s with boot := { s.boot with ascEntries := [], ascIdx := 0, ascPages := [], heldFab := [], ascWait := none, ascAgain := again } } : State).sets
    [(F.CHIP.ASCENT_STS.APPLIED, 0), (F.CHIP.ASCENT_STS.FAILED, 0), (F.CHIP.ASCENT_STS.FIRST_FAIL, 0), (F.CHIP.ASCENT_STS.FAIL_KIND, 0),
      (F.CHIP.ASCENT_STS.PHASE, 1)]

/-- ASCENT begins: each HOST or DEV port that BASECAMP's ceiling holds enters Recovery for a speed change (R76). -/
def State.raisePorts (s : State) : State :=
  (List.range 48).foldl (fun s p =>
    if (s.role p = 1 ∨ s.role p = 2) ∧ s.linkUp p ∧ s.flag (F.STN.LINK_STS.CAP_BASECAMP p) ∧ !s.linkHeld p then
      (((s.supersedeWidth p).setLink p 5).wakeLanes p (s.get (F.STN.LINK_STS.NEG_WIDTH p))).emit (.link p "SPEED_CHANGE" (s.get (F.STN.PORT_ROLE.MAX_RATE p)))
    else s) s

/-- Once the Guide runs again on a restored clock, the freeze region records the loss (R22, R415). -/
def State.clkFreeze (s : State) : State :=
  match s.tele.clkRec with
  | some r =>
    if s.pins.clkLost || !s.guideOn then s
    else ((({ s with tele := { s.tele with clkRec := none } } : State).freezeStart Ev.CLK_LOSS).freezeCopy r)
  | none => s

/-- A history write under way is abandoned, and may be repeated at once (R357); what it would have written is still unwritten (R369). -/
def State.histAbandon (s : State) : State :=
  if s.boot.histBusy then ({ s with boot := { s.boot with histBusy := false, ageDirty := true } } : State).set F.FLASH.HIST_STS.NEXT_MIN 0 else s

/-- A pair becomes ACTIVE and takes up the Guide's work. -/
def State.guideTakes (s : State) (i : Nat) : State :=
  let s := s.sets [(pairFld i, 0), (F.ERR.GUIDE_STS.ACTIVE_PAIR, i)]
  let s := (s.passRestart).endSessions.histAbandon.clkFreeze
  if s.phase = 2 then s.ascentStart true else s

/-- One hour in ticks. -/
def hourTicks : Nat := 360000000000

/-- A lockstep mismatch of a running pair. -/
def State.guideMismatch (s : State) (i : Nat) : State :=
  let st := s.get (pairFld i)
  if st ≥ 2 then s
  else
    let s : State := { s with mgmt := { s.mgmt with waits := if st = 0 then s.mgmt.waits.filter (fun w => w.src != .guide) else s.mgmt.waits } }
    let s := if st = 0 then s.releaseLock 0 else s
    let twice := match Tab.get? s.err.mism i with
      | some t => decide (s.time.run - t < hourTicks)
      | none => false
    let s : State := { s with err := { s.err with mism := Tab.put s.err.mism i s.time.run } }
    let s := (s.addSat F.ERR.GUIDE_STS.MISMATCHES 1).set (pairFld i) (if twice then 3 else 2)
    let s := s.raise Ev.GUIDE_MISMATCH { inst := i, detail := 2 }
    let s := if twice then s.repairEnter 6 6 i 0 else s
    let other := 1 - i
    let s := if st = 0 && s.get (pairFld other) == 1 then s.guideTakes other else s
    if s.get (pairFld 0) = 3 ∧ s.get (pairFld 1) = 3 then s.raise Ev.GUIDE_DOWN { detail := 2 } else s

/-- A pair that a mismatch stopped passes its self-test: STANDBY, or ACTIVE when no pair is. One that fails goes on loading
(notes/assumptions/26.md). Pair 1 loads after a reset until it has verified the booted image, which is no business of this (R357, R360, R431). -/
def State.guideReady (s : State) (i : Nat) (ok : Bool) : State :=
  if s.get (pairFld i) ≠ 2 ∨ !ok ∨ (Tab.get? s.err.mism i).isNone then s else if s.guideOn then s.set (pairFld i) 1 else s.guideTakes i

/-- Every 100 ms the active pair writes its checkpoint, in the GUIDE class. -/
def State.guideCheckpoint (s : State) : State := if s.guideOn then s.budgeted 6 0 16 .checkpoint id else s

/-! ### The root clock (R22, R358) -/

/-- ROOT_STS after a loss (R22, R23): REF_OK falls with the reference, ROOT_LOCK with the PLL's lock. What VCO_MHZ reads while the PLL is not
locked is a free value: the spec gives 0x4B00 when locked and its reset value, no other (DESIGN CHOICE, notes/assumptions/102.md). -/
def State.rootLost (s : State) (ref lock : Bool) : State :=
  let s := s.sets [(F.CLK.ROOT_STS.LOSS_SEEN, 1), (F.CLK.ROOT_STS.GUIDE_CLK_ON, 0)]
  let s := if ref then s.set F.CLK.ROOT_STS.REF_OK 0 else s
  if lock then
    let (x, s) := s.free
    s.sets [(F.CLK.ROOT_STS.ROOT_LOCK, 0), (F.CLK.ROOT_STS.VCO_MHZ, x)]
  else s

/-- Loss of the reference or of root PLL lock: recorded, SAFE, and nothing but the sideband responds. Its record waits for the freeze region until
the Guide runs again. HOST links are lost with the clock (notes/assumptions/27.md). -/
def State.clkLoss (s : State) (ref lock : Bool) : State :=
  if !ref && !lock then s
  else
    let s := s.rootLost ref lock
    let s : State := { s with tele := { s.tele with clkRec := some (s.mkRec Ev.CLK_LOSS 3 4 { detail := 2 }) } }
    let s := (s.raise Ev.CLK_LOSS { detail := 2 }).settle 2
    let s := (List.range 48).foldl (fun s p => if s.role p = 1 then s.takeDown p 1 Ev.CLK_LOSS else s) s
    { s with pins := { s.pins with clkLost := true } }

/-- The reference and root PLL lock have returned. -/
def State.clkReturn (s : State) : State :=
  if !s.pins.clkLost then s
  else (({ s with pins := { s.pins with clkLost := false } } : State).sets
    [(F.CLK.ROOT_STS.REF_OK, 1), (F.CLK.ROOT_STS.ROOT_LOCK, 1), (F.CLK.ROOT_STS.VCO_MHZ, 0x4B00),
      (F.CLK.ROOT_STS.GUIDE_CLK_ON, 1)]).clkFreeze

end Sys2Proof.Machine
end

