-- ==== Sys2Proof/Machine/Ageing.lean ====
section
/-! DEFINITION. Row repairs and scrubbing, the acclimatisation pass, the voltage command over AVSBus, equivalent hours, and the pitch
(13_dependability.md R366 to R390; 18_pins_power_package.md R495, R496). -/
namespace Sys2Proof.Machine

/-! ### Voltage commands (R495) -/

/-- Code c of R380 in millivolts. -/
def codeMv (c : Nat) : Nat := 650 + 5 * c / 2

/-- May the device command a change of code? -/
def State.avsFree (s : State) : Bool := !s.flag F.PWR.AVS_CTL.FIXED && !s.flag F.PWR.AVS_STS.BUS_ERR

/-- The code commanded last: that of a transaction in flight or settling, else the applied one. -/
def State.avsCode (s : State) : Nat :=
  match s.avs.busy with
  | some c => if s.avs.isStatus then s.get F.AGE.AVS_STS.CODE else c
  | none => if s.avs.settling then s.get F.PWR.AVS_STS.SENT_CODE else s.get F.AGE.AVS_STS.CODE

/-- Send a voltage write with commit. -/
def State.avsSend (s : State) (c : Nat) : State :=
  ({ s with avs := { s.avs with busy := some c, isStatus := false, retries := 0, settling := false } } : State).emit (.avs 0 (codeMv c))

/-- The code of FIXED, or a fast step, that waited is sent once the bus is free. -/
def State.avsNext (s : State) : State :=
  if s.avs.busy.isSome || s.avs.settling || s.flag F.PWR.AVS_STS.BUS_ERR then s
  else if s.avs.fixedDue then ({ s with avs := { s.avs with fixedDue := false, fastDue := 0 } } : State).avsSend 60
  else if s.avs.fastDue = 0 then s
  else if s.avsFree && s.get F.AGE.AVS_STS.CODE < 60 then
    (({ s with avs := { s.avs with fastDue := s.avs.fastDue - 1 } } : State).avsSend (s.get F.AGE.AVS_STS.CODE + 1)).count (Ctr.dev 44) 1
  else { s with avs := { s.avs with fastDue := 0 } }

/-- An AVSBus transaction ends: a write is acknowledged, repeated up to three times, or given up; a Status read that succeeds ends a bus error;
with no write in flight it is a Voltage and a Current read. -/
def State.avsDone (s : State) (ok : Bool) (mv ca : Nat) : State :=
  match s.avs.busy with
  | none => if ok then s.sets [(F.PWR.AVS_STS.READ_MV, mv), (F.PWR.AVS_STS.READ_CA, ca)] else s.addSat F.PWR.AVS_STS.ERRS 1
  | some c =>
    if ok then
      if s.avs.isStatus then (({ s with avs := { s.avs with busy := none, isStatus := false, retries := 0 } } : State).set F.PWR.AVS_STS.BUS_ERR 0).avsNext
      else ({ s with avs := { s.avs with busy := none, retries := 0, settling := true } } : State).set F.PWR.AVS_STS.SENT_CODE c
    else
      let s := s.addSat F.PWR.AVS_STS.ERRS 1
      if s.avs.isStatus then s.emit (.avs 3 0)
      else if s.avs.retries < 3 then
        ({ s with avs := { s.avs with retries := s.avs.retries + 1 } } : State).emit (.avs 0 (codeMv c))
      else
        let s : State := { s with avs := { s.avs with isStatus := true, retries := 0 } }
        ((s.set F.PWR.AVS_STS.BUS_ERR 1).raise Ev.VOLT_WARN { inst := 0, detail := 2 }).emit (.avs 3 0)

/-- SETTLE_US after an acknowledged write the step counts as applied. -/
def State.avsSettled (s : State) : State :=
  if !s.avs.settling then s
  else (({ s with avs := { s.avs with settling := false } } : State).set F.AGE.AVS_STS.CODE (s.get F.PWR.AVS_STS.SENT_CODE)).avsNext

/-- A write of PWR.AVS_CTL: FIXED commands code 60 once. -/
def State.wrAvsCtl (s : State) (v : Nat) : State :=
  let was := s.flag F.PWR.AVS_CTL.FIXED
  let s := s.sets [(F.PWR.AVS_CTL.FIXED, bitsOf v 63 63), (F.PWR.AVS_CTL.SETTLE_US, bitsOf v 31 24)]
  if bitOf v 63 && !was then ({ s with avs := { s.avs with fixedDue := true } } : State).avsNext
  else if !bitOf v 63 then { s with avs := { s.avs with fixedDue := false } }
  else s

/-! ### Row repairs and scrubbing (R366 to R373) -/

/-- The detail words of a repair (R410): ECC_STS, the entry made, AVS_STS, LIFE_STS. -/
def State.repairW (s : State) : List Nat :=
  let n := s.get F.REPAIR.MAP_STS.ENTRIES
  [s.regVal 0x50 0x108, s.regVal 0x60 (0x1000 + 8 * (n - 1)), s.regVal 0x61 0x110, s.regVal 0x61 0x118]

/-- MARGIN_LOW; during a pass it is the pass's result. -/
def State.marginLow (s : State) (inst : Nat) : State :=
  ({ s with age := { s.age with marginLow := s.age.marginLow || s.get F.AGE.ACCL_STS.STATE != 0 } } : State).raise Ev.MARGIN_LOW { inst := inst, detail := 2 }

/-- CAUSE of a row repair: uncorrectable error, the pass while in RETIRE and a Guide pair runs it (R27), or the error rate. -/
def State.rowCause (s : State) (ue : Bool) : Nat := if ue then 2 else if s.get F.AGE.ACCL_STS.STATE = 4 ∧ s.guideOn then 4 else 3

/-- Key of an SRAM row. -/
def rowKey (m row : Nat) : Nat := m * 2 ^ 24 + row

/-- The entries of the cache arrays that a row holds leave them (R367): of the translation cache and of the context cache. The lines of the
coalescing cache leave it as tier 1 writes them back. -/
def State.rowInval (s : State) (m row : Nat) : State :=
  let s := s.cacheInval fun i => Config.sramHolds m row (4 * i + 1)
  { s with ctxs := { s.ctxs with cache := s.ctxs.cache.filter fun i => !Config.sramHolds m row (4 * i + 2) } }

/-- The row has been copied and the macro's row map switched (R366). -/
def State.sramMove (s : State) (m row cause : Nat) : State :=
  let used := Tab.getD s.age.rowsUsed m 0
  if used ≥ 4 then s
  else
    let s : State := { s with age := { s.age with rowsUsed := Tab.put s.age.rowsUsed m (used + 1), rowErr := Tab.del s.age.rowErr (rowKey m row) } }
    let s := (s.rowInval m row).repairEnter 3 cause m row
    s.raise (if cause = 4 then Ev.AGE_RETIRE else Ev.SRAM_REPAIR) { inst := m, detail := 2, w := s.repairW }

/-- An SRAM row is to go to a redundant one (R366, R367), in the SCRUB class; dirty lines it holds are written back first. A macro without a
redundant row raises MARGIN_LOW once. -/
def State.sramRepair (s : State) (m row cause : Nat) : State :=
  if !s.flag F.REPAIR.REPAIR_CFG.SRAM_EN then s
  else if Tab.getD s.age.rowsUsed m 0 ≥ 4 then
    if s.age.noRows.contains m then s
    else ({ s with age := { s.age with noRows := s.age.noRows ++ [m] } } : State).marginLow m
  else
    (s.wbAsk ((s.dirty.cache.map Prod.fst).filter fun k => Config.sramHolds m row (4 * k + 3))).budgeted 0 1 0 (.sramRow m row cause)
      fun s => s.sramMove m row cause

/-- INSTANCE of a DRAM bank: channel and bank (notes/assumptions/43.md). -/
def dramInst (ch bank : Nat) : Nat := 16 * ch + bank
/-- Key of a DRAM row. -/
def dramKey (ch bank row : Nat) : Nat := ch * 2 ^ 28 + bank * 2 ^ 24 + row

/-- The row is in a reserve row of its channel, uncorrectable blocks still marked, and the row map is switched (R373). -/
def State.dramMove (s : State) (ch bank row cause : Nat) : State :=
  if s.get (F.MEMC.RESERVE_STS.FREE ch) = 0 then s.raise Ev.DRAM_FAIL { inst := ch, detail := 2, w := s.repairW }
  else
    let s : State := { s with age := { s.age with dramErr := Tab.del s.age.dramErr (dramKey ch bank row) } }
    let s := (s.subF (F.MEMC.RESERVE_STS.FREE ch) 1).addSat F.MEMC.ECC_STS.REPAIRS 1
    let s := s.repairEnter 5 cause (dramInst ch bank) row
    s.raise (if cause = 4 then Ev.AGE_RETIRE else Ev.DRAM_PPR) { inst := ch, detail := 2, w := s.repairW }

/-- 64 B blocks of a DRAM row: 2 KiB (PRESUMED, LPDDR 5X; notes/assumptions/43.md). -/
def rowBlocks : Nat := 32

/-- A DRAM row is to go to a reserve row of its channel (R373), its copy paid for by the SCRUB class; without one the device fails over to SAFE. -/
def State.dramRepair (s : State) (ch bank row cause : Nat) : State :=
  if s.get (F.MEMC.RESERVE_STS.FREE ch) = 0 then s.raise Ev.DRAM_FAIL { inst := ch, detail := 2, w := s.repairW }
  else s.budgeted 0 0 rowBlocks (.dramRow ch bank row cause) fun s => s.dramMove ch bank row cause

/-- A corrected block is written back in the SCRUB class; it waits for the next pitch when the class has nothing left (R24, R371). -/
def State.writeBack (s : State) : State := s.budgeted 0 0 1 .writeBack id (page := 0x50)

/-- A DRAM read that was corrected or not (R371, R375): counted, and a corrected block written back. -/
def State.eccSeen (s : State) (addr : Nat) (r : DramRes) : State :=
  match r with
  | .ok => s
  | .corrected => (((s.addSat F.MEMC.ECC_STS.CE 1).count (Ctr.dev 14) 1).raise Ev.DRAM_CE { detail := 2, w := s.repairW }).writeBack
  | .uncorrectable => ((s.addSat F.MEMC.ECC_STS.UE 1).set F.MEMC.ECC_STS.LAST_ADDR addr).count (Ctr.dev 15) 1

/-- A client's read of a table entry. The DRAM address of the entry is a free value: the spec places only the logbook and the trace ring
(DESIGN CHOICE, notes/assumptions/43.md). -/
def State.eccClient (s : State) (r : DramRes) : State :=
  match r with
  | .ok => s
  | r =>
    let (x, s) := s.free
    s.eccSeen x r

/-- One day in ticks. -/
def dayTicks : Nat := 24 * hourTicks

/-- A row was corrected at a byte position: a second position within 24 h calls for its repair (R373). -/
def State.rowCorrected (s : State) (place pos : Nat) : State :=
  let (ch, bank, row) := (place % 4, place / 4 % 16, place / 64 % 2 ^ 24)
  let l := Tab.getD s.age.dramErr (dramKey ch bank row) []
  let two := l.any fun e => e.1 != pos && decide (s.time.run - e.2 < dayTicks)
  let s : State := { s with age := { s.age with dramErr := Tab.put s.age.dramErr (dramKey ch bank row) ((l.filter fun e => e.1 != pos) ++ [(pos, s.time.run)]) } }
  if two then s.dramRepair ch bank row (s.rowCause false) else s

/-- What a scrub read finds (R372): a corrected block is written back and its byte position noted; an uncorrectable one is marked, and its row
repaired. Where a block lies is Config's (the spec gives no address map). -/
def State.scrubSeen (s : State) (addr : Nat) (r : DramRes) (pos : Nat) : State :=
  let place := Config.dramPlace addr
  match r with
  | .ok => s
  | .corrected => (s.eccSeen addr r).rowCorrected place pos
  | .uncorrectable =>
    let s := s.eccSeen addr r
    let s : State := { s with err := { s.err with dramUe := s.err.dramUe.filter (· ≠ addr) ++ [addr] } }
    s.dramRepair (place % 4) (place / 4 % 16) (place / 64 % 2 ^ 24) 2

/-- A patrol scrub read (R372). -/
def State.scrubRead (s : State) (addr : Nat) (r : DramRes) (pos : Nat) : State :=
  if !s.flag F.MEMC.SCRUB_CFG.EN then s else s.budgeted 0 0 1 (.scrub addr r pos) (fun s => s.scrubSeen addr r pos) (page := 0x50)

/-- The words of the Hut that a scrub of a row found wrong: a corrected one counts as Corrected, an uncorrectable one stays so until it is replaced
(R308, R332). -/
def State.hutScrub (s : State) (r : DramRes) (words : List Nat) : State :=
  match r with
  | .ok => s
  | .uncorrectable => { s with hut := { s.hut with ue := (s.hut.ue ++ words).eraseDups } }
  | _ => words.foldl (fun s w => s.raise Ev.HUT_CE { inst := w / 8 % 32, detail := 2 }) s

/-- ROW_CE_LIMIT; 0 acts as 1 (R370). -/
def State.rowLimit (s : State) : Nat := max 1 (s.get F.REPAIR.REPAIR_CFG.ROW_CE_LIMIT)

/-- A row's count with one more corrected error, and when its second began: an error after that second begins another. -/
def State.rowCount (s : State) (k : Nat) : Nat × Nat :=
  match Tab.get? s.age.rowErr k with
  | some (n, t) => if s.time.run - t < 100000000 then (n + 1, t) else (1, s.time.run)
  | none => (1, s.time.run)

/-- What a scrub of an SRAM row finds (R366): its corrected errors are counted over one second, and more of them than ROW_CE_LIMIT, or an
uncorrectable one, call for its repair. -/
def State.rowSeen (s : State) (m row : Nat) (r : DramRes) (words : List Nat) : State :=
  let s := s.hutScrub r words
  match r with
  | .ok => s
  | .uncorrectable => s.sramRepair m row 2
  | .corrected =>
    let n := s.rowCount (rowKey m row)
    let s : State := { s with age := { s.age with rowErr := Tab.put s.age.rowErr (rowKey m row) n } }
    if n.1 > s.rowLimit then s.sramRepair m row (s.rowCause false) else s

/-- A scrub of an SRAM row (R366, R387), in the SCRUB class. -/
def State.sramScrub (s : State) (m row : Nat) (r : DramRes) (words : List Nat) : State :=
  s.budgeted 0 1 0 (.rowScrub m row r words) fun s => s.rowSeen m row r words

/-! ### The acclimatisation pass (R377 to R383) -/

/-- Start a pass: SENSE. -/
def State.passStart (s : State) : State :=
  ({ s with age := { s.age with passAt := s.time.run, passLast := s.age.passAt } } : State).senseStart.setDue (60 * max 1 (min 168 (s.get F.AGE.ACCL_CFG.PERIOD)))

/-- A scheduled pass falls due; where it cannot start it waits for SUMMIT and an ACTIVE Guide pair (R377, R392). -/
def State.passDue (s : State) : State :=
  if !s.flag F.AGE.ACCL_CFG.EN || s.get F.AGE.ACCL_STS.STATE != 0 then s
  else if s.phase = 3 && s.guideOn then s.passStart
  else { s with age := { s.age with passWaits := true } }

/-- A pass that waited starts. -/
def State.passWaited (s : State) : State :=
  if s.age.passWaits && s.phase = 3 && s.guideOn && s.get F.AGE.ACCL_STS.STATE = 0 then s.passStart else s

/-- A write of AGE.ACCL_CFG: RUN starts a pass in SUMMIT, or sets BUSY_RUN while one runs. -/
def State.wrAcclCfg (s : State) (v : Nat) : State :=
  let s := s.writePlain 0x61 0x100 0 v
  if !bitOf v 62 then s
  else if s.get F.AGE.ACCL_STS.STATE ≠ 0 then s.set F.AGE.ACCL_STS.BUSY_RUN 1
  else if s.phase = 3 && s.guideOn then s.passStart
  else s

/-- The lanes of a station to scan: every one in TRACK. One that runs another scan is scanned after it. -/
def State.scanStation (s : State) (st : Nat) : State :=
  let lanes := ((List.range 16).map fun i => 16 * st + i).filter fun n => s.get (F.LANE.RXSTS.STATE n) == 2
  { s with age := { s.age with scanning := lanes, toScan := lanes } }

/-- Start the local scan of a lane with DWELL 4, charged to ADAPT. -/
def State.scanLane (s : State) (n : Nat) : State :=
  (({ s with age := { s.age with toScan := s.age.toScan.filter (· ≠ n) } } : State).spend 5 1 0).wrEyescan n
    (withBit (s.get (F.LANE.EYESCAN.ERR_LIMIT n) * 2 ^ 16 + 4 * 2 ^ 12) 0 true)

/-- RETIRE (R383): SRAM rows with more than half of ROW_CE_LIMIT, and DRAM rows corrected at two byte positions since the last pass began, are
repaired. -/
def State.passRows (s : State) : State :=
  let s := (s.age.rowErr.filter fun e => decide (2 * e.2.1 > s.rowLimit)).foldl (fun s e => s.sramRepair (e.1 / 2 ^ 24) (e.1 % 2 ^ 24) 4) s
  (s.age.dramErr.filter fun e => decide (2 ≤ (e.2.filter fun x => decide (s.age.passLast ≤ x.2)).length)).foldl (fun s e =>
    s.dramRepair (e.1 / 2 ^ 28) (e.1 / 2 ^ 24 % 16) (e.1 % 2 ^ 24) 4) s

/-- Go on to the next station with lanes to scan, or to RETIRE. -/
def State.scanNext (s : State) : List Nat → State
  | [] => (({ s with age := { s.age with stations := [], scanning := [], toScan := [] } } : State).set F.AGE.ACCL_STS.STATE 4).passRows
  | st :: rest =>
    let s := ({ s with age := { s.age with stations := rest } } : State).scanStation st
    if s.age.scanning = [] then s.scanNext rest else s

/-- A lane of the station under scan is done with. -/
def State.scanLeave (s : State) (n : Nat) : State :=
  let l := s.age.scanning.filter (· ≠ n)
  let s : State := { s with age := { s.age with scanning := l, toScan := s.age.toScan.filter (· ≠ n) } }
  if l = [] then s.scanNext s.age.stations else s

/-- The largest eye opening of a contour, in ADC codes (R65). -/
def State.eyeHeight (s : State) (n : Nat) : Nat :=
  (List.range 64).foldl (fun m i => max m (s.get (F.LANE.EYE_RESULT.UPPER n i) + s.get (F.LANE.EYE_RESULT.LOWER n i))) 0

/-- The pass judges a lane it has scanned (R382). A lane that failed at a higher rate
and whose eye is no lower than LANE_MIN has its margin restored: the port tries the rate again (R77). -/
def State.judgeLane (s : State) (n : Nat) : State :=
  let s :=
    if s.eyeHeight n < s.get F.AGE.ACCL_CFG.LANE_MIN then
      ((s.setLane n { s.lane n with snrDelta := some (min 255 (s.convSnr n + 4)) }).spend 6 1 0).marginLow n
    else s
  let p := s.portOfLane n
  if s.flag (F.STN.LINK_STS.CAP_CONV p) && bitOf (s.get (F.STN.LINK_STS.CONV_FAIL p)) (n % 16) && decide (s.eyeHeight n ≥ s.get F.AGE.ACCL_CFG.LANE_MIN) then
    (s.spend 6 1 0).goRetrain p
  else s

/-- End of a scan (R60, R61): results are written. -/
def State.scanDone (s : State) (n : Nat) (pts : List EyePoint) (errs uv : Nat) : State :=
  if !s.flag (F.LANE.EYESCAN_STS.BUSY n) || (s.lane n).scanWaits then s
  else
    let s := (s.endScan n 1).set (F.LANE.EYESCAN_STS.UV_PER_CODE n) uv
    if s.get (F.LANE.EYESCAN.MODE n) = 1 then s.set (F.LANE.EYESCAN_STS.POINT_ERRS n) errs
    else
      (List.range 64).foldl (fun s i =>
        let e := pts.getD i ⟨0, 0⟩
        s.sets [(F.LANE.EYE_RESULT.VALID n i, 1), (F.LANE.EYE_RESULT.UPPER n i, e.upper.toNat), (F.LANE.EYE_RESULT.LOWER n i, e.lower.toNat)]) s

/-- The pass is in LANES and a Guide pair runs it (R27). -/
def State.scansOn (s : State) : Bool := s.get F.AGE.ACCL_STS.STATE == 3 && s.guideOn

/-- Lanes whose scan has ended with results the pass has yet to read. -/
def State.scanned (s : State) (n : Nat) : Bool :=
  s.age.scanning.contains n && !s.age.toScan.contains n && !s.flag (F.LANE.EYESCAN_STS.BUSY n) && s.get (F.LANE.EYESCAN_STS.RESULT n) == 1

/-- A register access of the internal activities that takes turns with the other sources (R26): a look into the history for a lane, a read of one of the
64 results of a lane's scan, the start of a lane's scan. -/
inductive IntAcc where
  | hist (n : Nat)
  | result (n : Nat)
  | scan (n : Nat)
deriving DecidableEq, Repr

/-- The next such access, whatever its allowance; a lane that runs another scan is scanned after it. -/
def State.intWant (s : State) : Option IntAcc :=
  match s.age.histReads with
  | n :: _ => some (.hist n)
  | [] =>
    if !s.scansOn then none
    else match s.age.scanning.find? s.scanned, s.age.toScan.find? fun n => !s.flag (F.LANE.EYESCAN_STS.BUSY n) with
      | some n, _ => some (.result n)
      | none, some n => some (.scan n)
      | none, none => none

/-- Is an access admitted: within the ADAPT class (R26, R41), and for what the pass writes for a lane it judges within GUIDE (R377)? -/
def State.intAdmits (s : State) (a : IntAcc) : Bool :=
  s.canSpend 5 1 0 && (match a with
    | .hist _ => true
    | .result _ => s.canSpend 6 1 0
    | .scan _ => true)

/-- That access, where it is admitted. -/
def State.intReady (s : State) : Option IntAcc := s.intWant.filter s.intAdmits

/-- Perform one access. The pass reads the 64 results of a lane one by one, and then judges the lane. -/
def State.intGo (s : State) (a : IntAcc) : State :=
  match a with
  | .hist n => s.histRead n
  | .scan n => s.scanLane n
  | .result n =>
    let k := s.age.reading + 1
    let s := s.spend 5 1 0
    if k < 64 then { s with age := { s.age with reading := k } }
    else (({ s with age := { s.age with reading := 0 } } : State).judgeLane n).scanLeave n

/-- What waits for an allowance is noted with its class. -/
def State.intNote (s : State) : State :=
  match s.intWant with
  | none => s
  | some a =>
    let s := if s.canSpend 5 1 0 then s else s.turnedAway 5
    if s.intAdmits a || !s.canSpend 5 1 0 then s else s.turnedAway 6

/-- Scans of the pass that ended without a result: one aborted by Lane Margining is to be started once more, any other lane is skipped. -/
def State.passScans (s : State) : State :=
  if !s.scansOn then s
  else
    s.age.scanning.foldl (fun s n =>
      if !s.age.scanning.contains n || s.age.toScan.contains n || s.flag (F.LANE.EYESCAN_STS.BUSY n) || s.get (F.LANE.EYESCAN_STS.RESULT n) = 1 then s
      else if s.get (F.LANE.EYESCAN_STS.RESULT n) = 2 && !s.age.repeated.contains n then
        { s with age := { s.age with repeated := s.age.repeated ++ [n], toScan := s.age.toScan ++ [n] } }
      else s.scanLeave n) s

/-- GUARD of R380. -/
def State.guard (s : State) : Nat := max 1 (min 3 (s.get F.AGE.ACCL_CFG.GUARD))

/-- The planning loop ends with a code; without the power to command one the plan stays. -/
def State.planDone (s : State) (plan : Option Nat) (low : Bool) : State :=
  let s := match plan with
    | some c =>
      let s : State := { s with boot := { s.boot with ageDirty := s.boot.ageDirty || s.get F.AGE.AVS_STS.PLAN != c } }
      s.sets [(F.AGE.AVS_STS.PLAN, c), (F.AGE.AVS_STS.AT_MAX, b2n (low && c == 60))]
    | none => s
  let s := if low then s.marginLow 0 else s
  (s.set F.AGE.ACCL_STS.STATE 3).scanNext (List.range 12)

/-- The planning loop goes on after a measurement (R380), with the least margin found: the plan goes up, down, or stands. A lowering step that leaves
too little margin is undone: by the loop's next step up, or, with no step left, as it ends. -/
def State.planStep (s : State) (m : Nat) : State :=
  let c := s.avsCode
  let left := s.age.steps < s.get F.AGE.ACCL_CFG.MAX_STEPS
  let step (s : State) (c : Nat) (low : Bool) : State :=
    let s : State := { s with age := { s.age with steps := s.age.steps + 1, lowered := low } }
    (s.avsSend c).count (Ctr.dev 44) 1
  if !s.avsFree then s.planDone none (m < s.guard)
  else if m < s.guard && c < 60 && left then step s (c + 1) false
  else if s.age.lowered && m < s.guard then
    (({ s with age := { s.age with lowered := false } } : State).avsSend (c + 1) |>.count (Ctr.dev 44) 1).planDone (some (c + 1)) false
  else if m ≥ s.guard + 2 && c > s.get F.AGE.AVS_STS.FUSE_FLOOR && left then step s (c - 1) true
  else s.planDone (some c) (m < s.guard)

/-- M of a domain as measured: with a detector that flagged, the last one to do so, and with the 4 % window flagged, how often, are free values. -/
def State.showMargin (s : State) (d m : Nat) : State :=
  let s := s.set (F.AGE.MARGIN.M d) m
  if m = 4 then s
  else
    let (x, s) := s.free
    let s := s.set (F.AGE.MARGIN.WORST d) (x / 65536)
    if m = 0 then s.addSat (F.AGE.MARGIN.FLAGS_4 d) (max 1 (x % 65536)) else s

/-- The results of a measurement have been read: M of every domain and the oscillators are shown, and the plan goes on. -/
def State.measureSeen (s : State) (ms osc : List Nat) : State :=
  if s.get F.AGE.ACCL_STS.STATE ≠ 2 ∨ !s.guideOn then s
  else
    let s := (List.range 6).foldl (fun s d => s.showMargin d (min 4 (ms.getD d 0))) s
    let s := (List.range 24).foldl (fun s i =>
      let (x, s) := s.free
      s.sets [(F.AGE.OSC.FREQ i, osc.getD i 0), (F.AGE.OSC.DRIFT i, x)]) s
    s.planStep (((List.range 6).map fun d => min 4 (ms.getD d 0)).foldl min 4)

/-- MARGIN begins once SENSE has read its sensors (R379). -/
def State.marginStart (s : State) : State := if s.get F.AGE.ACCL_STS.STATE = 1 ∧ s.age.sensed then s.set F.AGE.ACCL_STS.STATE 2 else s

/-- A margin measurement ends (R380); the pass is the Guide's, and stands still while no pair is ACTIVE (R27). A measurement that has ended shows that
MARGIN had begun. The margins and oscillators are read in the GUIDE class (R377). -/
def State.measured (s : State) (ms osc : List Nat) : State :=
  let s := s.marginStart
  if s.get F.AGE.ACCL_STS.STATE ≠ 2 ∨ !s.guideOn then s else s.budgeted 6 30 0 (.measured ms osc) fun s => s.measureSeen ms osc

/-- In RETIRE the pass retires at most one worn bank, with at least two spares left and no other retirement running (R383, R392). -/
def State.passBank (s : State) (b ce : Nat) : State :=
  if s.get F.AGE.ACCL_STS.STATE = 4 && s.guideOn && ce > s.get F.AGE.ACCL_CFG.BANK_CE && !s.age.bankDone && s.get F.BUF.CAP_STS.SPARES_LEFT ≥ 2 &&
      s.get F.BUF.BANK_STS.STATE = 0 then
    ({ s with age := { s.age with bankDone := true } } : State).retireBank b 4
  else s

/-- Rated life in equivalent hours (R384). -/
def ratedLife : Nat := 87600

/-- REMAIN_H has reached 0 (R384): once, EOL is set and MARGIN_LOW raised. -/
def State.lifeEnd (s : State) : State :=
  if s.get F.AGE.LIFE_STS.REMAIN_H = 0 && !s.flag F.AGE.LIFE_STS.EOL then (s.set F.AGE.LIFE_STS.EOL 1).marginLow 0 else s

/-- The life projection (R384): the hour a fitted trend reaches code 60 is a free value (notes/assumptions/28.md). -/
def State.project (s : State) : State :=
  let e := s.get F.AGE.LIFE_STS.EQ_HOURS
  let fit := e ≥ 1000 && s.flag F.AGE.ACCL_STS.START_SRC
  let (x, s) := s.free
  let r := if fit then min x ratedLife - e else ratedLife - e
  (s.sets [(F.AGE.LIFE_STS.REMAIN_H, r), (F.AGE.LIFE_STS.PROJ_VALID, b2n fit)]).lifeEnd

/-- PUBLISH, and the end of the pass. The code of its EVENT record is a free value (notes/assumptions/28.md). -/
def State.publish (s : State) : State :=
  if s.get F.AGE.ACCL_STS.STATE ≠ 4 || !s.guideOn then s
  else
    let s := (s.set F.AGE.ACCL_STS.STATE 5).project
    let (x, s) := s.free
    let s := s.log (s.mkRec (x % 65536) 1 0 { detail := 2, w := s.repairW })
    let points := s.age.trend ++ [(s.get F.AGE.LIFE_STS.EQ_HOURS, s.get F.AGE.AVS_STS.PLAN)]
    let s : State := { s with boot := { s.boot with ageDirty := true }, age := { s.age with trend := points.drop (points.length - 32) } }
    s.sets [(F.AGE.ACCL_STS.LAST_RESULT, if s.age.marginLow then 3 else 1), (F.AGE.ACCL_STS.PASSES, s.get F.AGE.ACCL_STS.PASSES + 1),
      (F.AGE.ACCL_STS.STATE, 0)]

/-- ACCL_PASS_END: the pass publishes its reports, in the GUIDE class: ACCL_STS, LIFE_STS and the history record (R377, R379). -/
def State.passEnd (s : State) : State :=
  if s.get F.AGE.ACCL_STS.STATE ≠ 4 || !s.guideOn then s else s.budgeted 6 3 0 .publish State.publish

/-- A fast step (R381, R392): at most one a millisecond, never beyond code 60. -/
def State.fastStep (s : State) : State :=
  let soon := match s.age.lastFast with
    | some t => decide (s.time.run - t < 100000)
    | none => false
  if soon || s.avsCode + s.avs.fastDue ≥ 60 || s.flag F.PWR.AVS_CTL.FIXED then s
  else
    let (x, s) := s.free
    let d := x % 6
    let measuring := s.get F.AGE.ACCL_STS.STATE = 1 ∨ s.get F.AGE.ACCL_STS.STATE = 2
    let s : State := { s with age := { s.age with lastFast := some s.time.run, steps := if measuring then s.age.steps + 1 else s.age.steps,
                                                  lowered := if measuring then false else s.age.lowered } }
    let s := (s.addSat (F.AGE.MARGIN.FLAGS_4 d) (4 + x / 8 % 256)).set (F.AGE.MARGIN.WORST d) (x / 65536)
    let s := (s.addSat F.AGE.AVS_STS.FAST_STEPS 1).marginLow d
    ({ s with avs := { s.avs with fastDue := s.avs.fastDue + 1 } } : State).avsNext

/-- 1,024 times 2^(k/40), rounded, for k below 40. -/
def pow2Frac (k : Nat) : Nat :=
  ([1024, 1042, 1060, 1079, 1097, 1117, 1136, 1156, 1176, 1197] ++ [1218, 1239, 1261, 1283, 1305, 1328, 1351, 1375, 1399, 1423] ++
   [1448, 1473, 1499, 1525, 1552, 1579, 1607, 1635, 1663, 1693] ++ [1722, 1752, 1783, 1814, 1846, 1878, 1911, 1944, 1978, 2013]).getD k 1024

/-- 2^((Tj - 85) / 10) in 1/1024, with Tj in the units of AGE.TEMP (R384). -/
def lifeWeight (tj : Nat) : Nat :=
  if tj ≥ 596 then pow2Frac ((tj - 596) % 40) * 2 ^ ((tj - 596) / 40)
  else
    let k := (596 - tj + 39) / 40
    pow2Frac (tj + 40 * k - 596) / 2 ^ k

/-- A minute passes: equivalent hours accrue (R384), and the minutes to the next pass and the next history write fall. -/
def State.minute (s : State) (tj : Nat) : State :=
  let m := s.age.minutes + lifeWeight tj
  let h := m / 61440
  let s : State := { s with age := { s.age with minutes := m % 61440 } }
  let s := s.addSat F.AGE.LIFE_STS.EQ_HOURS h
  let s := (if s.flag F.AGE.LIFE_STS.PROJ_VALID then s.subF F.AGE.LIFE_STS.REMAIN_H h
    else s.set F.AGE.LIFE_STS.REMAIN_H (ratedLife - s.get F.AGE.LIFE_STS.EQ_HOURS)).lifeEnd
  let s := s.setDue (s.age.due - 1)
  if s.phase = 3 then s.subF F.FLASH.HIST_STS.NEXT_MIN 1 else s

/-! ### The pitch (R386 to R390) -/

/-- Reload one class: its use is shown, exhaustion with work waiting is counted, and debt, the excess of a single access, comes off the new
allowance; what that does not cover is owed on (R388). -/
def State.reload (s : State) (c : Nat) : State :=
  let u := s.classUse c
  let out := u.usedReg ≥ u.limReg && u.limReg + u.debtReg > 0 || u.usedDram ≥ u.limDram && u.limDram + u.debtDram > 0
  let s := s.sets [(F.BUDGET.CLASS_STS.LAST_REG c, min u.usedReg 4095), (F.BUDGET.CLASS_STS.LAST_DRAM c, min u.usedDram 16383)]
  let s := if u.wanted && out then s.addSat (F.BUDGET.CLASS_STS.EXHAUSTED c) 1 else s
  let b := s.budgetOf c
  let r := u.usedReg - u.limReg + u.oweReg
  let d := u.usedDram - u.limDram + u.oweDram
  { s with budget := Tab.put s.budget c { limReg := b.1 - r, limDram := b.2 - d, debtReg := min r b.1, debtDram := min d b.2,
                                          oweReg := r - b.1, oweDram := d - b.2 } }

/-- The TEST class pays for periodic self-tests of spare banks, redundant rows and the standby Guide pair (R387). The spec gives them no schedule: how
much of its allowance the class uses in a pitch is a free value (DESIGN CHOICE, notes/assumptions/109.md). -/
def State.selfTests (s : State) : State :=
  let (x, s) := s.free
  let r := x % (s.leftReg 7 + 1)
  let d := x / 65536 % (s.leftDram 7 + 1)
  if r + d = 0 then s else s.spend 7 r d

/-- Do the budgets exceed what is guaranteed (R389)? -/
def State.oversub (s : State) : Bool :=
  decide (1500 < sumList ((List.range 8).map fun c => (s.budgetOf c).2)) ||
    decide (800 < sumList ((List.range 8).map fun c => if c = 6 then 0 else (s.budgetOf c).1))

/-- The first pitch begins as BIST ends (R386): its budgets are those CLASS_CFG holds then (R389). -/
def State.firstPitch (s : State) : State :=
  (List.range 8).foldl (fun s c => { s with budget := Tab.put s.budget c { limReg := (s.budgetOf c).1, limDram := (s.budgetOf c).2 } }) s

end Sys2Proof.Machine
end

