-- ==== Sys2Proof/Machine/Boot.lean ====
section
/-! DEFINITION. Resets, straps and the default layout, choosing and confirming an image, flash update, and flash history (15_bringup.md R420 to
R440; 13_dependability.md R368, R369, R374, R378; 17_register_conventions.md R473; 18_pins_power_package.md R493, R494). -/
namespace Sys2Proof.Machine

/-! ### Resets (R420 to R422, R473) -/

/-- Fields loaded from fuses (R473), kept over every reset. -/
def fusedFld (key : Nat) : Bool :=
  key == F.CHIP.DEV_ID_LO.ID.key || key == F.CHIP.DEV_ID_HI.ID.key || key == F.AGE.AVS_STS.FUSE_INIT.key ||
    key == F.AGE.AVS_STS.FUSE_FLOOR.key || key == F.FLASH.IMG_CTL.MIN_SVN.key ||
    (List.range 4).any (fun i => key == (F.MEMC.RESERVE_STS.HARD_LEFT i).key) || (List.range 24).any fun i => key == (F.AGE.OSC.BASE i).key

/-- Is a field kept over a warm reset: RWS, a locked slot's, fused, or one the logbook goes on with (R411, R473)? -/
def State.warmKept (s : State) (key : Nat) : Bool :=
  let page := key / 4194304
  let off := key / 64 % 65536
  fusedFld key || accOfKey key == some .rws || key == F.LOG.LOG_STS.EPOCH.key || key == F.LOG.LOG_SEQ.MAIN.key || key == F.LOG.LOG_SEQ.ALARM.key ||
    (page == 8 && 0x1000 ≤ off && off < 0x2000 && s.flag (F.RPU.SLOT.LOCK ((off - 0x1000) / 8)))

/-- Cold reset: PWR_OK is deasserted. -/
def State.coldReset (s : State) : State :=
  { pending := s.pending, out := s.out, freeCtr := s.freeCtr, flds := s.flds.filter fun e => fusedFld e.1,
    boot := { flash := s.boot.flash, hardDone := s.boot.hardDone } }

/-- Warm reset, by SYS_RST_N or by CHIP.RESET_CTL: everything but what R473 keeps returns to its reset value, and the logbook opens a new
epoch (R411). An update under way has failed (R440). -/
def State.warmReset (s : State) (soft : Bool) : State :=
  let upd := s.get F.FLASH.UPD_STS.STATE
  let t : State :=
    { pending := s.pending, out := s.out, freeCtr := s.freeCtr, flds := s.flds.filter fun e => s.warmKept e.1,
      pins := { pwrOk := s.pins.pwrOk, rstHeld := true, coldRst := false, clkLost := s.pins.clkLost, ir := s.pins.ir,
                boundary := s.pins.boundary, highz := s.pins.highz },
      boot := { flash := s.boot.flash, hardDone := s.boot.hardDone },
      tele := { main := s.tele.main, alarm := s.tele.alarm, freeze := s.tele.freeze, clkRec := s.tele.clkRec } }
  let t := t.sets [(F.CHIP.STATE.PREV_STATE, s.phase), (F.CHIP.RESET_CAUSE.SOFT, b2n soft), (F.CHIP.RESET_CAUSE.PIN, b2n !soft),
    (F.LOG.LOG_STS.EPOCH, s.get F.LOG.LOG_STS.EPOCH + 1)]
  let t := t.addSat F.CHIP.RESET_CAUSE.WARM_COUNT 1
  if 1 ≤ upd ∧ upd ≤ 6 then t.sets [(F.FLASH.UPD_STS.STATE, 8), (F.FLASH.UPD_STS.FAULT, 9)] else t

/-- SYS_RST_N asserted; while a reset is held already, or without power, it changes nothing more. -/
def State.sysRst (s : State) : State :=
  if !s.pins.pwrOk || s.pins.rstHeld || s.pins.thermTrip then s else s.warmReset false

/-- A write of CHIP.RESET_CTL: WARM with the key schedules a warm reset. -/
def State.wrResetCtl (s : State) (v : Nat) : State :=
  if bitOf v 63 && v % 65536 == 0x5AFE then { s with pins := { s.pins with softPending := true } } else s

/-- 10 µs after that write. -/
def State.softStart (s : State) : State := if s.pins.softPending && s.live then s.warmReset true else s

/-- Release of the internal reset (R493): STRAP and SB_ADDR are latched; after a warm reset code 60 is commanded (R495). -/
def State.releaseReset (s : State) (strap sbAddr : Nat) : State :=
  if !s.pins.pwrOk || s.pins.thermTrip || !s.pins.rstHeld then s
  else
    let cold := s.pins.coldRst
    let s : State := { s with pins := { s.pins with rstHeld := false, coldRst := false } }
    let s := s.sets [(F.CHIP.RESET_CAUSE.POR, b2n cold), (F.CHIP.BOOT_STS.STRAP, strap), (F.SIDEBAND.SB_STS.STATIC_ADDR, 0x28 + sbAddr)]
    let s :=
      if s.pins.clkLost then s
      else s.sets [(F.CLK.ROOT_STS.REF_OK, 1), (F.CLK.ROOT_STS.ROOT_LOCK, 1), (F.CLK.ROOT_STS.VCO_MHZ, 0x4B00), (F.CLK.ROOT_STS.GUIDE_CLK_ON, 1)]
    if cold then s else s.avsSend 60

/-! ### Straps (R423, R424) -/

/-- Bifurcation mode and role of a station in a strap layout. -/
def strapStation (strap st : Nat) : Nat × Nat :=
  if strap = 0 then (0, if st = 0 then 1 else 2)
  else if strap = 1 then (0, if st ≤ 1 then 1 else 2)
  else if strap = 2 then (if st ≤ 2 then (0, 1) else (1, 2))
  else if strap = 3 then (if st ≤ 2 then (0, 1) else if st ≤ 8 then (1, 2) else (2, 2))
  else if strap = 4 then (if st ≤ 3 then (0, 1) else (2, 2))
  else if strap = 5 then (1, if st ≤ 5 then 1 else 2)
  else if strap = 6 then (2, if st ≤ 5 then 1 else 2)
  else if strap = 7 then (if st ≤ 2 then (0, 1) else if st ≤ 8 then (1, 2) else if st ≤ 10 then (2, 2) else (1, 0))
  else (0, 0)

/-- The strap layout's role for a port: only controllers used in the layout have one. -/
def strapRole (strap p : Nat) : Nat := if bifWidth (strapStation strap (p / 4)).1 (p % 4) = 0 then 0 else (strapStation strap (p / 4)).2

/-- The VH, by its number, and the device number of the k-th DEV port when n DEV ports are divided among m VHs in contiguous blocks, larger
blocks first. -/
def devPlace (n m k : Nat) : Nat × Nat :=
  let q := n / m
  let r := n % m
  if k < r * (q + 1) then (k / (q + 1), k % (q + 1) + 1) else (r + (k - r * (q + 1)) / q, (k - r * (q + 1)) % q + 1)

/-- The boot ROM builds the strap layout. -/
def State.strapLayout (s : State) : State :=
  let strap := s.get F.CHIP.BOOT_STS.STRAP
  let s := (List.range 12).foldl (fun s st => s.set (F.STN.BIFURC.MODE st) (strapStation strap st).1) s
  let s := (List.range 48).foldl (fun s p =>
    if strapRole strap p = 0 then s
    else s.wrPortRole p (strapRole strap p + 4 * s.get (F.STN.PORT_ROLE.MAX_RATE p) + 64 * s.get (F.STN.PORT_ROLE.MAX_WIDTH p) +
      4096 * s.get (F.STN.PORT_ROLE.PTM_EN p))) s
  let s := (List.range 48).foldl (fun s p => if s.usedCtl p then s.bootLimits p else s) s
  let s := (s.set (F.HDR.COMMIT_GEN.GEN 0x28) (s.get (F.HDR.COMMIT_GEN.GEN 0x28) + 1)).refreshBuf
  let hosts := (List.range 48).filter fun p => s.role p == 1
  let devs := (List.range 48).filter fun p => s.role p == 2
  let s := (List.range hosts.length).foldl (fun s v => s.wrVhBind v (2 ^ 63 + (if v = 0 then 2 ^ 62 else 0) + hosts.getD v 0 * 2 ^ 32)) s
  let s := (List.range devs.length).foldl (fun s k =>
    let (v, d) := devPlace devs.length hosts.length k
    s.attach v d 1 (devs.getD k 0) 0) s
  devs.foldl (fun s p => s.releasePrst p) s

/-! ### The repair map at a start (R368, R369, R374, R223) -/

/-- Entry i of the repair map as its 64-bit register. -/
def State.repairEntry (s : State) (i : Nat) : Nat := s.regVal 0x60 (0x1000 + 8 * i)
def State.mapEntries (s : State) : List Nat := List.range (s.get F.REPAIR.MAP_STS.ENTRIES)
/-- Entries of a kind and instance, oldest first. -/
def State.mapOf (s : State) (kind inst : Nat) : List Nat :=
  s.mapEntries.filter fun i => s.get (F.REPAIR.ENTRY.KIND i) == kind && s.get (F.REPAIR.ENTRY.INSTANCE i) == inst

/-- A later start at which BIST passed a resource. -/
def State.retested (s : State) (i : Nat) : State := s.addSat (F.REPAIR.ENTRY.RETEST i) 1

/-- Load the repair map of the history in use: its entries take their places. -/
def State.loadMap (s : State) (l : List Byte) : Nat → Nat → State
  | 0, _ => s
  | n + 1, i =>
    let w := leNat (l.take 8)
    let s := if bitOf w 63 then
        s.sets [(F.REPAIR.ENTRY.VALID i, 1), (F.REPAIR.ENTRY.KIND i, bitsOf w 62 59), (F.REPAIR.ENTRY.CAUSE i, bitsOf w 58 55),
          (F.REPAIR.ENTRY.RETEST i, bitsOf w 54 51), (F.REPAIR.ENTRY.INSTANCE i, bitsOf w 50 35), (F.REPAIR.ENTRY.LOCATION i, bitsOf w 34 11),
          (F.REPAIR.MAP_STS.ENTRIES, i + 1), (F.REPAIR.MAP_STS.FULL, b2n (i + 1 ≥ 1024))]
      else s
    s.loadMap (l.drop 8) n (if bitOf w 63 then i + 1 else i)

/-- Records of a history generation whose header stands but which do not pass their checks (R428, R368). -/
def State.badHistory (s : State) (slot : Nat) : State :=
  [0, 1].foldl (fun s h =>
    match s.flashRec (histBase slot h) with
    | none => s
    | some g =>
      if g.ty = 0x0010 ∧ g.len = 16 ∧ g.crcOk then
        let rs := s.flashRecs (leNat (g.value.drop 4)) (histBase slot h + 16)
        (List.range rs.length).foldl (fun s i =>
          match rs[i]? with
          | some r => if r.crcOk && r.formatOk then s else s.raise Ev.FLASH_REC_BAD { inst := i + 1 }
          | none => s) s
      else s) s

/-- Hard repairs that a DRAM bank still offers (R374): those its die came with, less those made there. -/
def State.bankRowsLeft (s : State) (inst : Nat) : Nat :=
  Config.bankRepairs inst - s.boot.hardDone.countP fun k => k / 2 ^ 24 == inst

/-- One row of the map on a reserve row at a start: a hard repair frees the reserve row at a cold reset, up to four rows (R374). -/
def State.dramRow (s : State) (cold : Bool) (made : Nat) (i : Nat) : State × Nat :=
  let inst := s.get (F.REPAIR.ENTRY.INSTANCE i)
  let key := dramKey (inst / 16 % 4) (inst % 16) (s.get (F.REPAIR.ENTRY.LOCATION i))
  if s.boot.hardDone.contains key then (s, made)
  else if cold && made < 4 && s.bankRowsLeft inst > 0 then ({ s with boot := { s.boot with hardDone := s.boot.hardDone ++ [key] } }, made + 1)
  else (s.subF (F.MEMC.RESERVE_STS.FREE (inst / 16 % 4)) 1, made)

/-- HARD_LEFT of every channel: what its banks still offer. -/
def State.showHardLeft (s : State) : State :=
  s.sets ((List.range 4).map fun ch => (F.MEMC.RESERVE_STS.HARD_LEFT ch, sumList ((List.range 16).map fun b => s.bankRowsLeft (dramInst ch b))))

/-- A redundant row, or a redundant column, of a macro is in use. -/
def State.useSpare (s : State) (col : Bool) (m : Nat) : State :=
  if col then { s with age := { s.age with colsUsed := Tab.put s.age.colsUsed m (Tab.getD s.age.colsUsed m 0 + 1) } }
  else { s with age := { s.age with rowsUsed := Tab.put s.age.rowsUsed m (Tab.getD s.age.rowsUsed m 0 + 1) } }

/-- Rows and columns of SRAM macros that BIST finds failing, beyond those of the map, are repaired while the macro has a redundant one: 4 rows and 2
columns (R365, R368 step 4). -/
def State.startArrays (s : State) (rep : BistReport) : State :=
  let one (col : Bool) (s : State) (x : Nat × Nat) : State :=
    let kind := if col then 4 else 3
    let known := (s.mapOf kind x.1).any fun i => s.get (F.REPAIR.ENTRY.LOCATION i) == x.2
    let full := if col then 2 ≤ Tab.getD s.age.colsUsed x.1 0 else 4 ≤ Tab.getD s.age.rowsUsed x.1 0
    if known ∨ full then s else (s.useSpare col x.1).repairEnter kind 1 x.1 x.2
  rep.badCols.foldl (one true) (rep.badRows.foldl (one false) s)

/-- Apply the repair map: soft repairs of rows, and the count of starts at which BIST passed what the map names. -/
def State.applyMap (s : State) (rep : BistReport) : State :=
  let cold := s.flag F.CHIP.RESET_CAUSE.POR
  (s.mapEntries.foldl (fun (a : State × Nat) i =>
    let (s, made) := a
    let k := s.get (F.REPAIR.ENTRY.KIND i)
    let inst := s.get (F.REPAIR.ENTRY.INSTANCE i)
    let newest := (s.mapOf k inst).getLast? == some i
    if k = 1 then (if newest && !rep.badPlanes.contains inst then s.retested i else s, made)
    else if k = 6 then (if newest && (if inst = 0 then rep.pair0Ok else rep.pair1Ok) then s.retested i else s, made)
    else if k = 2 then (if rep.badBanks.contains inst then s else s.retested i, made)
    else if k = 3 ∨ k = 4 then
      let l := (inst, s.get (F.REPAIR.ENTRY.LOCATION i))
      let s := s.useSpare (k == 4) inst
      (if (if k = 3 then rep.badRows else rep.badCols).contains l then s else s.retested i, made)
    else if k = 5 then (s.retested i).dramRow cold made i
    else (s.retested i, made)) (s, 0)).1

/-- Planes held out at a start (R191, R369). -/
def State.startPlanes (s : State) (rep : BistReport) : State :=
  let many := (List.range 5).filter fun n => decide (3 ≤ (s.mapOf 1 n).length)
  let s := (List.range 5).foldl (fun s n =>
    if many.contains n then s.sets [(F.PLANE.STS.STATE n, 2), (F.PLANE.STS.RETIRE_CAUSE n, 4)]
    else if rep.badPlanes.contains n then (s.sets [(F.PLANE.STS.STATE n, 2), (F.PLANE.STS.RETIRE_CAUSE n, 3)]).repairEnter 1 1 n 0
    else s) s
  let left := s.activePlanes.length
  let s := (List.range 5).foldl (fun s k => s.set (F.PLANE.STS.ACTIVE_PLANES k) left) s
  if left = 0 then s.raise Ev.PLANE_LAST { detail := 2 } else s

/-- The bank map at a start: good banks in logical order, spares filling the gaps (R223); a gap that no spare fills shows physical bank 0xFF, which
does not exist (DESIGN CHOICE, notes/assumptions/106.md). -/
def State.startBanks (s : State) (rep : BistReport) : State :=
  let mapped := (s.mapEntries.filter fun i => s.get (F.REPAIR.ENTRY.KIND i) == 2).map fun i => s.get (F.REPAIR.ENTRY.INSTANCE i)
  let out := (List.range 136).filter fun b => rep.badBanks.contains b || mapped.contains b
  let s := out.foldl (fun s b => if mapped.contains b then s else s.repairEnter 2 1 b 0) s
  let spares := ((List.range 8).map fun i => 128 + i).filter fun b => !out.contains b
  let s : State := { s with core := { s.core with spares := spares, heldOut := out } }
  let s := (List.range 128).foldl (fun s b =>
    if !out.contains b then s.set (F.BUF.BANK_MAP.PHYS b) b
    else
      match s.core.spares with
      | [] => (({ s with core := { s.core with unmapped := s.core.unmapped ++ [b] } } : State).set (F.BUF.BANK_MAP.PHYS b) 0xFF).subF F.BUF.CAP_STS.CAPACITY 8192
      | sp :: rest => ({ s with core := { s.core with spares := rest } } : State).set (F.BUF.BANK_MAP.PHYS b) sp) s
  let s := s.set F.BUF.CAP_STS.SPARES_LEFT s.core.spares.length
  match (out.filter fun b => decide (b < 128)).getLast? with
  | some b => s.sets [(F.BUF.BANK_STS.LAST_BANK, b), (F.BUF.BANK_STS.LAST_CAUSE, 5)]
  | none => s

/-- The Guide pairs at a start (R357, R369). GUIDE_CLK_ON stays 1 also with both pairs held out: R20 gates the clock while both are held in reset,
and the spec does not say that a RETIRED pair is (DESIGN CHOICE, notes/assumptions/102.md). -/
def State.startPairs (s : State) (rep : BistReport) : State :=
  let held (s : State) (i : Nat) (ok : Bool) : Bool := !ok || decide (3 ≤ (s.mapOf 6 i).length)
  let h0 := held s 0 rep.pair0Ok
  let h1 := held s 1 rep.pair1Ok
  let s := if rep.pair0Ok then s else s.repairEnter 6 1 0 0
  let s := if rep.pair1Ok then s else s.repairEnter 6 1 1 0
  let s := s.sets [(F.ERR.GUIDE_STS.PAIR0, if h0 then 3 else 0), (F.ERR.GUIDE_STS.PAIR1, if h1 then 3 else if h0 then 0 else 2),
    (F.ERR.GUIDE_STS.ACTIVE_PAIR, b2n (h0 && !h1))]
  if h0 && h1 then s.raise Ev.GUIDE_DOWN { detail := 2 } else s

/-- The board's identity: the first copy whose CRC is valid (R426). -/
def State.readBoard (s : State) : State :=
  let good := [0, 1].findSome? fun i => (s.flashRec (slotBase i + 0xC00000)).bind fun r =>
    if r.crcOk && r.ty == 0x0001 && r.len == 24 then some r.value else none
  match good with
  | some l => ({ s with boot := { s.boot with boardId := l } } : State).set F.CHIP.BOOT_STS.BOARD_OK 1
  | none => s

/-- Trend points of an ageing record. -/
def trendOf (l : List Byte) : Nat → List (Nat × Nat)
  | 0 => []
  | n + 1 => if l.length < 8 then [] else (leNat (l.take 4), leNat ((l.drop 4).take 1)) :: trendOf (l.drop 8) n

/-- The ageing state and the first AVS point (R378). -/
def State.startAge (s : State) : State :=
  let fuse := s.get F.AGE.AVS_STS.FUSE_INIT
  let r := match s.histNow with
    | some (_, _, rs) => rs.find? fun (r : FlashRec) => r.ty == 0x0103 && s.identityOk r
    | none => none
  match r with
  | some r =>
    let plan := min 60 (max fuse (leNat ((r.value.drop 32).take 1)))
    let s : State := { s with age := { s.age with trend := trendOf (r.value.drop 40) 32 } }
    let s := s.sets [(F.AGE.ACCL_STS.START_SRC, 1), (F.AGE.AVS_STS.PLAN, plan), (F.AGE.LIFE_STS.EQ_HOURS, leNat ((r.value.drop 36).take 4))]
    (s.project).avsSend plan
  | none => s.avsSend (min 60 (fuse + 4))

/-! ### Choosing an image (R430 to R432, R436, R437) -/

/-- A slot as the boot ROM found it. -/
def State.showSlot (s : State) (i : Nat) (verified active : Bool) : State :=
  let h := s.slotHdr i
  s.sets [(F.FLASH.SLOT_STS.SEQ i, h.seq), (F.FLASH.SLOT_STS.SVN i, h.svn), (F.FLASH.SLOT_STS.HDR_OK i, b2n h.ok),
    (F.FLASH.SLOT_STS.VERIFIED i, b2n verified), (F.FLASH.SLOT_STS.CONFIRMED i, b2n (h.confirm == 0)),
    (F.FLASH.SLOT_STS.TRIES_LEFT i, triesLeft h.tries), (F.FLASH.SLOT_STS.ACTIVE i, b2n active)]

/-- Candidate slots, highest SEQ first. -/
def State.candidates (s : State) : List Nat :=
  let l := [0, 1].filter fun i => (s.slotHdr i).cand
  if l = [0, 1] ∧ (s.slotHdr 1).seq > (s.slotHdr 0).seq then [1, 0] else l

/-- A slot is set aside. Its cause word is a free value (notes/assumptions/28.md). -/
def State.setAside (s : State) (i : Nat) : State :=
  let (x, s) := s.free
  s.raise Ev.IMAGE_BAD { inst := i, detail := 2, w := [x % 2 ^ 64] }

/-- Go on to the next candidate whose verification may begin, spending one of its tries; none left: NO_IMAGE. -/
def State.bootNext (s : State) : List Nat → State
  | [] => ({ s with boot := { s.boot with cands := [] } } : State).set F.CHIP.BOOT_STS.NO_IMAGE 1
  | i :: rest =>
    let h := s.slotHdr i
    if h.confirm = 0 then { s with boot := { s.boot with cands := i :: rest } }
    else if h.tries = 0 then (s.setAside i).bootNext rest
    else ({ s with boot := { s.boot with cands := i :: rest } } : State).programBytes (slotBase i + 268) [BitVec.ofNat 8 (spendTry h.tries)]

/-- End of fuse load, repair map, DRAM training and BIST: BASECAMP (R420, R424, R439). -/
def State.bistEnd (s : State) (rep : BistReport) : State :=
  if !s.live || s.pins.bistDone || s.phase ≠ 0 then s
  else
    let s : State := { s with pins := { s.pins with bistDone := true, txIdle := false }, time := {} }
    let s := s.set F.CHIP.BOOT_STS.FLASH_MODE (sfdpMode rep.sfdp)
    if rep.dramFail then s.raise Ev.DRAM_FAIL { detail := 2 }
    else
      let s := s.readBoard
      let s := (s.showSlot 0 false false).showSlot 1 false false
      let guide := rep.pair0Ok || rep.pair1Ok
      let s := if guide then s.bootNext s.candidates else s
      let s := match s.histNow with
        | some (_, gen, rs) =>
          let s := s.sets [(F.FLASH.HIST_STS.GEN, gen), (F.FLASH.HIST_STS.USED, 1)]
          match rs.find? fun (r : FlashRec) => r.ty == 0x0102 with
          | some r =>
            if r.value.take 16 == s.devId then
              ((s.loadMap (r.value.drop 16) (min 1024 ((r.len - 24) / 8)) 0).set F.REPAIR.MAP_STS.MAP_USED 1).applyMap rep
            else s.raise Ev.FLASH_REC_BAD { inst := 0 }
          | none => s
        | none => s
      let s := match s.boot.cands with
        | i :: _ => s.badHistory i
        | [] => s
      let s := ((((s.startPairs rep).clkFreeze.startPlanes rep).startBanks rep).startArrays rep).showHardLeft.startAge.firstPitch
      let s := (s.set F.CHIP.STATE.STATE 1).strapLayout
      let strap := s.get F.CHIP.BOOT_STS.STRAP
      let s := if 8 ≤ strap ∧ strap ≤ 14 then s.log (s.mkRec 0 1 0 { key := strap, detail := 2, w := [s.regVal 0 0x118] }) else s
      if s.get F.BUF.CAP_STS.CAPACITY < s.get F.BUF.CAP_STS.RESERVED then s.raise Ev.BUF_CAPACITY { detail := 2 } else s

/-- Verification of the chosen slot ends (R430, R431). -/
def State.verified (s : State) (keyOk sigOk digestOk : Bool) (ms : Nat) : State :=
  match s.boot.cands with
  | [] => s
  | i :: rest =>
    if s.phase ≠ 1 || !s.guideOn || s.boot.booted.isSome then s
    else
      let h := s.slotHdr i
      if keyOk && decide (h.svn ≥ s.get F.FLASH.IMG_CTL.MIN_SVN) && sigOk && digestOk then
        let higher := (s.slotHdr (1 - i)).cand && decide ((s.slotHdr (1 - i)).seq > h.seq)
        let up := (List.range 48).filter fun p => (s.role p == 1 || s.role p == 2) && s.linkUp p
        let s : State := { s with boot := { s.boot with booted := some i, upAtAscent := up } }
        let s := s.sets [(F.FLASH.SLOT_STS.VERIFIED i, 1), (F.FLASH.SLOT_STS.ACTIVE i, 1), (F.CHIP.BOOT_STS.RUN_SEQ, h.seq),
          (F.CHIP.BOOT_STS.SLOT, i), (F.CHIP.BOOT_STS.TRIAL, b2n (h.confirm != 0)), (F.CHIP.BOOT_STS.ROLLBACK, b2n higher),
          (F.CHIP.BOOT_STS.VERIFY_MS, min ms 65535), (F.CHIP.STATE.STATE, 2)]
        (s.ascentStart false).raisePorts
      else (s.setAside i).bootNext rest

/-- Guide pair 1 ends its verification, or with NO_IMAGE its self-test. -/
def State.pair1Verified (s : State) (ok : Bool) : State :=
  if s.get F.ERR.GUIDE_STS.PAIR1 ≠ 2 || !(s.boot.booted.isSome || s.flag F.CHIP.BOOT_STS.NO_IMAGE) then s
  else if ok then (if s.guideOn then s.set F.ERR.GUIDE_STS.PAIR1 1 else s.guideTakes 1)
  else
    let s := s.set F.ERR.GUIDE_STS.PAIR1 3
    if s.get F.ERR.GUIDE_STS.PAIR0 = 3 then s.raise Ev.GUIDE_DOWN { detail := 2 } else s

/-- SUMMIT: the hourly and ten-minute timers start (R377, R429). -/
def State.toSummit (s : State) : State :=
  (({ s with boot := { s.boot with confirmTimer := true } } : State).sets [(F.CHIP.STATE.STATE, 3), (F.FLASH.HIST_STS.NEXT_MIN, 60)]).setDue 10

/-- A port that was up in BASECAMP has settled (R434). -/
def State.settledPort (s : State) (p : Nat) : Bool :=
  !s.linkUp p || s.flag (F.STN.LINK_STS.CAP_CONV p) || !s.flag (F.STN.LINK_STS.CAP_BASECAMP p)

/-- End of Ascent, once every port has settled. -/
def State.summit (s : State) : State :=
  if s.phase = 2 && s.get F.CHIP.ASCENT_STS.PHASE = 5 && s.boot.upAtAscent.all s.settledPort then s.toSummit else s

/-- Two seconds after ASCENT was entered. -/
def State.summitLate (s : State) : State := if s.phase = 2 then (s.set F.CHIP.ASCENT_STS.LATE 1).toSummit else s

/-- Confirm the booted slot: in SUMMIT, by the Guide. -/
def State.confirm (s : State) : State :=
  match s.boot.booted with
  | some i =>
    if s.phase = 3 && s.guideOn then
      (s.programBytes (slotBase i + 269) [0#8]).sets [(F.CHIP.BOOT_STS.TRIAL, 0), (F.FLASH.SLOT_STS.CONFIRMED i, 1)]
    else s
  | none => s

/-- Ten minutes in SUMMIT with AUTO_CONFIRM = 1. -/
def State.autoConfirm (s : State) : State :=
  if !s.boot.confirmTimer then s
  else
    let s : State := { s with boot := { s.boot with confirmTimer := false } }
    if s.flag F.FLASH.IMG_CTL.AUTO_CONFIRM then s.confirm else s

/-- RAISE_SVN: MIN_SVN rises to the confirmed booted slot's SVN. -/
def State.raiseSvn (s : State) : State :=
  match s.boot.booted with
  | some i =>
    let h := s.slotHdr i
    if h.confirm = 0 ∧ h.svn % 64 > s.get F.FLASH.IMG_CTL.MIN_SVN then s.set F.FLASH.IMG_CTL.MIN_SVN h.svn else s
  | none => s

/-- A write of FLASH.IMG_CTL. -/
def State.wrImgCtl (s : State) (v : Nat) : State :=
  let s := s.set F.FLASH.IMG_CTL.AUTO_CONFIRM (bitsOf v 62 62)
  let s := if bitOf v 63 then s.confirm else s
  if bitOf v 61 then s.raiseSvn else s

/-! ### Image update (R438) -/

def State.updRunning (s : State) : Bool := decide (1 ≤ s.get F.FLASH.UPD_STS.STATE ∧ s.get F.FLASH.UPD_STS.STATE ≤ 6)

/-- The update begins; its target is the slot that is not ACTIVE, either of them when none is (notes/assumptions/9.md). -/
def State.updStart (s : State) : State :=
  let (t, s) := match s.boot.booted with
    | some i => (some (1 - i), s)
    | none => s.pick [0, 1]
  ({ s with boot := { s.boot with updWaits := false, updSlot := t.getD 0 } } : State).sets
    [(F.FLASH.UPD_STS.STATE, 1), (F.FLASH.UPD_STS.FAULT, 0), (F.FLASH.UPD_STS.DONE_KIB, 0)]

def State.updFail (s : State) (fault : Nat) : State := s.sets [(F.FLASH.UPD_STS.STATE, 8), (F.FLASH.UPD_STS.FAULT, fault)]

/-- GO: refused unless IDLE or DONE; it waits for a history write (R440). -/
def State.updGo (s : State) : State :=
  if s.get F.FLASH.UPD_STS.STATE ≠ 0 ∧ s.get F.FLASH.UPD_STS.STATE ≠ 7 then s.set F.FLASH.UPD_STS.FAULT 10
  else if s.boot.histBusy then { s with boot := { s.boot with updWaits := true } }
  else s.updStart

/-- ABORT. -/
def State.updAbort (s : State) : State :=
  if s.updRunning then s.updFail 8
  else if s.boot.updWaits then ({ s with boot := { s.boot with updWaits := false } } : State).updFail 8
  else s

/-- A write of FLASH.UPD_CTL. -/
def State.wrUpdCtl (s : State) (v : Nat) : State :=
  let s := s.set F.FLASH.UPD_CTL.LEN (v % 2 ^ 25)
  let s := if bitOf v 63 then s.updGo else s
  if bitOf v 62 then s.updAbort else s

/-- A write of FLASH.UPD_STS: STATE is cleared by 0 while no update runs. -/
def State.wrUpdSts (s : State) (v : Nat) : State :=
  let s := s.sets [(F.FLASH.UPD_STS.FAULT, bitsOf v 59 56), (F.FLASH.UPD_STS.DONE_KIB, bitsOf v 55 32)]
  if bitsOf v 63 60 = 0 && !s.updRunning then s.set F.FLASH.UPD_STS.STATE 0 else s

/-- The fault VERIFY finds; 0 for none. -/
def State.updFault (s : State) (rep : PhaseReport) : Nat :=
  let h := s.stageHdr
  let len := s.get F.FLASH.UPD_CTL.LEN
  if len < 4096 + h.fwLen ∨ len > 2 ^ 24 ∨ h.fwLen = 0 ∨ h.fwLen > 8384512 then 1
  else if !h.cand || h.tries != 0x07 || h.confirm != 0xFF then 2
  else if !rep.keyOk then 3
  else if h.svn < s.get F.FLASH.IMG_CTL.MIN_SVN then 5
  else if !rep.sigOk then 4
  else 0

/-- Length in bytes of a history generation. -/
def histLen (rs : List FlashRec) : Nat := 16 + rs.foldl (fun n r => n + r.len) 0

/-- COPY_HIST: the ACTIVE slot's newer generation becomes generation 0 of the staged image. -/
def State.updCopy (s : State) : State :=
  match s.boot.booted with
  | none => s
  | some i =>
    match s.newestHist i with
    | none => s
    | some (h, _, rs) =>
      { s with boot := { s.boot with staging := Memory.writeBytes s.boot.staging 0 0xA00000 (s.flashBytes (histBase i h) (histLen rs)) } }

/-- Length of the generation now at generation 0 of the staged image, when COPY_HIST placed one. -/
def State.copiedLen (s : State) : Nat :=
  match s.boot.booted.bind s.newestHist with
  | some (_, _, rs) => histLen rs
  | none => 0

/-- PROGRAM: everything but the header, up to the history areas. -/
def State.updProgram (s : State) : State :=
  let base := slotBase s.boot.updSlot
  let len := min (s.get F.FLASH.UPD_CTL.LEN) 0xC00000
  let s := s.programBytes (base + 4096) (s.stageBytes 4096 (len - 4096))
  let s := s.programBytes (base + 0xA00000) (s.stageBytes 0xA00000 s.copiedLen)
  s.set F.FLASH.UPD_STS.DONE_KIB (s.get F.FLASH.UPD_CTL.LEN / 1024)

/-- HEADER: SEQ becomes the ACTIVE slot's SEQ + 1, with the header's CRC to match; SLOT_STS shows the new slot. -/
def State.updHeader (s : State) : State :=
  let base := slotBase s.boot.updSlot
  let seq := match s.boot.booted with
    | some i => (s.slotHdr i).seq + 1
    | none => s.stageHdr.seq
  let body := s.stageBytes 0 4 ++ leBytes 4 seq ++ s.stageBytes 8 256
  let s := s.programBytes base (body ++ leBytes 4 (crc32 body) ++ s.stageBytes 268 3828)
  (s.showSlot s.boot.updSlot true false).set F.FLASH.UPD_STS.STATE 7

/-- A phase of the update ends. -/
def State.updPhase (s : State) (rep : PhaseReport) : State :=
  let st := s.get F.FLASH.UPD_STS.STATE
  if !s.guideOn then s
  else if st = 1 then (if s.updFault rep = 0 then s.set F.FLASH.UPD_STS.STATE 2 else s.updFail (s.updFault rep))
  else if st = 2 then s.updCopy.set F.FLASH.UPD_STS.STATE 3
  else if st = 3 then
    if rep.opOk then (s.eraseFlash (slotBase s.boot.updSlot) 0xC00000).set F.FLASH.UPD_STS.STATE 4 else s.updFail 6
  else if st = 4 then (if rep.opOk then s.updProgram.set F.FLASH.UPD_STS.STATE 5 else s.updFail 6)
  else if st = 5 then (if rep.readbackOk then s.set F.FLASH.UPD_STS.STATE 6 else s.updFail 7)
  else if st = 6 then (if rep.opOk then s.updHeader else s.updFail 6)
  else s

/-- Staging offset of an address in FLASH.UPD_WIN. -/
def State.updWinAt (s : State) (off : Nat) : Nat := s.get F.FLASH.UPD_OFF.BLOCK * 32768 + (off - 0x8000)

/-! ### Flash history (R429) -/

/-- A framed record (R428). -/
def frame (ty : Nat) (value : List Byte) : List Byte :=
  let b := leBytes 2 ty ++ leBytes 2 (value.length + 8) ++ value
  b ++ leBytes 4 (crc32 b)

/-- The lane preset of a lane in TRACK at its rate. -/
def State.presetRec (s : State) (n : Nat) : List Byte :=
  frame 0x0101 (s.devId ++ s.boot.boardId ++ (([n, s.get (F.LANE.RXSTS.RATE n), s.get (F.LANE.RXSTS.CTLE n), 0, s.get (F.LANE.TXEQ.PRE2 n),
    s.get (F.LANE.TXEQ.PRE1 n), s.get (F.LANE.TXEQ.MAIN n), s.get (F.LANE.TXEQ.POST1 n)] ++ (s.lane n).req).map (BitVec.ofNat 8)) ++
    leBytes 8 s.time.now)

/-- The records of a new generation: presets of the lanes in TRACK and older presets of other lanes and rates, the repair map, the ageing
state. -/
def State.histRecs (s : State) : List (List Byte) :=
  let now := (List.range 192).filter fun n => s.get (F.LANE.RXSTS.STATE n) == 2
  let old := match s.histNow with
    | some (_, _, rs) => rs.filter fun (r : FlashRec) => r.ty == 0x0101 && s.identityOk r &&
        !(now.any fun n => leNat ((r.value.drop 32).take 1) == n && leNat ((r.value.drop 33).take 1) == s.get (F.LANE.RXSTS.RATE n))
    | none => []
  let map := frame 0x0102 (s.devId ++ s.mapEntries.flatMap fun i => leBytes 8 (s.repairEntry i))
  let age := frame 0x0103 (s.devId ++ s.boot.boardId ++ leBytes 4 (s.get F.AGE.AVS_STS.PLAN) ++ leBytes 4 (s.get F.AGE.LIFE_STS.EQ_HOURS) ++
    s.age.trend.flatMap fun p => leBytes 4 p.1 ++ leBytes 4 p.2)
  now.map s.presetRec ++ old.map (fun (r : FlashRec) => s.flashBytes r.off r.len) ++ [map, age]

/-- The Guide writes a new generation, at most once an hour: the older half is erased and every record programmed; the header follows last. -/
def State.histWrite (s : State) : State :=
  match s.boot.booted with
  | none => s
  | some i =>
    if s.phase ≠ 3 || !s.guideOn || s.boot.histBusy || s.updRunning || s.get F.FLASH.HIST_STS.NEXT_MIN ≠ 0 || !s.boot.ageDirty ||
        !s.flag F.CHIP.BOOT_STS.BOARD_OK then s
    else
      let (half, gen) := match s.newestHist i with
        | some (h, g, _) => (1 - h, g + 1)
        | none => (0, 1)
      let recs := s.histRecs
      let s := s.eraseFlash (histBase i half) 0x100000
      let s := s.programBytes (histBase i half + 16) recs.flatten
      let n := s.get F.REPAIR.MAP_STS.UNWRITTEN
      ({ s with boot := { s.boot with histBusy := true, histGen := gen, histHalf := half, ageDirty := false, histNew := n } } : State).set F.FLASH.HIST_STS.NEXT_MIN 60

/-- The history write ends: GEN_HDR is programmed last, and an update that waited starts. A write that failed, or whose end finds no Guide pair
ACTIVE (R27), leaves the previous generation. What changed since the records were taken awaits the next allowed write (R50). -/
def State.histDone (s : State) (ok : Bool) : State :=
  match s.boot.booted with
  | none => s
  | some i =>
    if !s.boot.histBusy then (if s.boot.updWaits then s.updStart else s)
    else
      let n := (s.flashRecs 4096 (histBase i s.boot.histHalf + 16)).length
      let s :=
        if ok && s.guideOn then
          let s := s.programBytes (histBase i s.boot.histHalf) (frame 0x0010 (leBytes 4 s.boot.histGen ++ leBytes 4 n))
          s.sets [(F.FLASH.HIST_STS.GEN, s.boot.histGen), (F.REPAIR.MAP_STS.UNWRITTEN, s.get F.REPAIR.MAP_STS.UNWRITTEN - s.boot.histNew),
            (F.REPAIR.MAP_STS.LAST_WRITE, s.time.now % 2 ^ 36)]
        else s.dirtyAge
      let s : State := { s with boot := { s.boot with histBusy := false } }
      if s.boot.updWaits then s.updStart else s

end Sys2Proof.Machine
end

