-- ==== Sys2Proof/Machine/Shadow.lean ====
section
/-! DEFINITION. Shadow commits of the ROUTE, BUF, MCAST and HUT pages, and forced events (17_register_conventions.md R479 to R487;
07_buffer_multicast.md R200; 11_hut_ordering.md R313). XLAT commits are in Machine/Windows.lean. -/
namespace Sys2Proof.Machine

/-- Staged entries of a page: its fields' keys, and the marks for reserved bits. -/
def State.stagedOf (s : State) (page : Nat) : List (Nat × Nat) :=
  s.mgmt.shadow.filter fun e => e.1 / 4194304 == page || e.1 / 4194304 == 512 + page

/-- DISCARD: the values in force are the shadow again. -/
def State.shadowDrop (s : State) (page : Nat) : State :=
  let l := s.stagedOf page
  let s : State := { s with mgmt := { s.mgmt with shadow := s.mgmt.shadow.filter fun e => !l.contains e, late := Tab.del s.mgmt.late page } }
  s.sets [(F.HDR.SHADOW_CTL.DIRTY page, 0), (F.HDR.PAGE_STS.DIRTY page, 0), (F.HDR.SHADOW_CTL.STAGERS page, 0)]

/-- GO: the shadow as it stands is what the commit applies. -/
def State.shadowStart (s : State) (page : Nat) : State :=
  let l := s.stagedOf page
  ({ s with mgmt := { s.mgmt with atGo := Tab.put s.mgmt.atGo page l, shadow := s.mgmt.shadow.filter (fun e => !l.contains e),
                                  late := Tab.del s.mgmt.late page } } : State).set (F.HDR.SHADOW_CTL.STATE page) 1

/-- The page's SH fields at the values of the commit. -/
def State.withCommit (s : State) (page : Nat) : State :=
  (Tab.getD s.mgmt.atGo page []).foldl (fun (s : State) e =>
    if e.1 / 4194304 ≠ page then s
    else
      match (regAt page (e.1 / 64 % 65536)).bind fun r => r.fields.find? fun d => d.lo == e.1 % 64 with
      | some d => s.set (d.toFld page (e.1 / 64 % 65536)) e.2
      | none => s) s

/-- Offset of the first register with a reserved bit staged (R471). -/
def State.reservedAt (s : State) (page : Nat) : Option Nat :=
  ((Tab.getD s.mgmt.atGo page []).find? fun e => e.1 / 4194304 == 512 + page && e.2 != 0).map fun e => e.1 / 64 % 65536

/-- The first fault of the Hut partitions in force, with its partition (R313); an empty partition overlaps none. -/
def State.partFault (s : State) : Option (Nat × Nat) :=
  let on (p : Nat) : Bool := s.flag (F.HUT.PART0.EN p)
  let full (p : Nat) : Bool := on p && s.get (F.HUT.PART0.SIZE p) != 0
  let overlap (p : Nat) : Bool := full p && (List.range 64).any fun q => q != p && full q && decide (s.partBase p < s.partEnd q ∧ s.partBase q < s.partEnd p)
  let range (p : Nat) : Bool := decide (s.get (F.HUT.PART0.BASE p) + s.get (F.HUT.PART0.SIZE p) > 2048)
  let zero (p : Nat) : Bool := on p && s.get (F.HUT.PART0.SIZE p) == 0
  match (List.range 64).find? overlap, (List.range 64).find? range, (List.range 64).find? zero with
  | some p, _, _ => some (1, p)
  | none, some p, _ => some (2, p)
  | none, none, some p => some (3, p)
  | none, none, none => none

/-- Reservations whose granule their VH may no longer read are cleared with CAUSE 7 (R313). -/
def State.partClear (s : State) : State :=
  s.clearRes (fun m => match s.partAt (256 * m.granule) with
    | some p => !bitOf (s.get (F.HUT.PART1.RD_VH p)) m.vh
    | none => true) 7

/-- A commit is refused: the shadow, DIRTY and STAGERS stay. -/
def State.shadowRefuse (s : State) (page fault off : Nat) : State :=
  let old := (Tab.getD s.mgmt.atGo page []).filter fun e => (Tab.get? s.mgmt.shadow e.1).isNone
  let s : State := { s with mgmt := { s.mgmt with shadow := old.foldl (fun t e => Tab.put t e.1 e.2) s.mgmt.shadow,
                                                  atGo := Tab.del s.mgmt.atGo page, late := Tab.del s.mgmt.late page } }
  s.sets [(F.HDR.SHADOW_CTL.STATE page, 0), (F.HDR.SHADOW_CTL.RESULT page, 2), (F.HDR.SHADOW_CTL.FAULT page, fault),
    (F.HDR.SHADOW_CTL.FAULT_OFF page, off)]

/-- A commit is applied, once the TABLE class has paid an access for each value staged (R387; notes/assumptions/109.md): every SH field takes its
value at once; what was staged since GO stays staged. -/
def State.shadowApply (s : State) (page : Nat) : State :=
  let s := s.withCommit page
  let late := Tab.getD s.mgmt.late page 0
  let s : State := { s with mgmt := { s.mgmt with atGo := Tab.del s.mgmt.atGo page, late := Tab.del s.mgmt.late page } }
  let dirty := !(s.stagedOf page).isEmpty
  let g := s.get (F.HDR.COMMIT_GEN.GEN page) + 1
  let s := s.sets [(F.HDR.SHADOW_CTL.STATE page, 0), (F.HDR.SHADOW_CTL.RESULT page, 1), (F.HDR.SHADOW_CTL.FAULT page, 0),
    (F.HDR.SHADOW_CTL.FAULT_OFF page, 0), (F.HDR.SHADOW_CTL.DIRTY page, b2n dirty), (F.HDR.PAGE_STS.DIRTY page, b2n dirty),
    (F.HDR.SHADOW_CTL.STAGERS page, late), (F.HDR.COMMIT_GEN.GEN page, g), (F.HDR.DRAIN_GEN.GEN page, g)]
  if page = 0x28 ∨ page = 0x29 then s.refreshBuf
  else if page = 0x48 then (s.sets [(F.HUT.PART_STS.RESULT, 1), (F.HUT.PART_STS.FAULT, 0), (F.HUT.PART_STS.FAULT_PART, 0)]).partClear
  else s

/-- The checks have passed: the commit goes to be applied, and shows STATE 2 until it is. -/
def State.shadowPass (s : State) (page : Nat) : State :=
  s.set (F.HDR.SHADOW_CTL.STATE page) 2 |>.budgeted 2 (Tab.getD s.mgmt.atGo page []).length 0 (.commit page) (fun s => s.shadowApply page) page

/-- The checks of a commit end (R481 steps 3 and 4). -/
def State.shadowCheck (s : State) (page : Nat) : State :=
  if !hasShadow page || page == 0x40 || s.get (F.HDR.SHADOW_CTL.STATE page) ≠ 1 then s
  else
    match s.reservedAt page with
    | some off =>
      let s := s.shadowRefuse page 1 off
      if page = 0x48 then s.sets [(F.HUT.PART_STS.RESULT, 2), (F.HUT.PART_STS.FAULT, 0), (F.HUT.PART_STS.FAULT_PART, 0)] else s
    | none =>
      if page = 0x48 && s.phase = 1 then
        (s.shadowRefuse page 2 0x200).sets [(F.HUT.PART_STS.RESULT, 2), (F.HUT.PART_STS.FAULT, 0), (F.HUT.PART_STS.FAULT_PART, 0)]
      else if page = 0x48 then
        match (s.withCommit page).partFault with
        | some (f, p) => (s.shadowRefuse page 2 (0x200 + 0x10 * p)).sets
            [(F.HUT.PART_STS.RESULT, 2), (F.HUT.PART_STS.FAULT, f), (F.HUT.PART_STS.FAULT_PART, p)]
        | none => s.shadowPass page
      else if page ≠ 0x41 ∧ !(s.withCommit page).limitsOk then (s.shadowRefuse page 2 0).set F.BUF.CAP_STS.LIMIT_REFUSED 1
      else s.shadowPass page

/-- A write of SHADOW_CTL: DISCARD, then GO; on XLAT these act as WIN_UPDATE OP 3 and WIN_COMMIT.GO (R481). -/
def State.wrShadowCtl (s : State) (page v : Nat) : State :=
  if !hasShadow page then s
  else
    let s := s.set (F.HDR.SHADOW_CTL.VIEW page) (bitsOf v 61 61)
    let s := if bitOf v 54 then s.set (F.HDR.SHADOW_CTL.BUSY_GO page) 0 else s
    if !bitOf v 62 && !bitOf v 63 then s
    else if page = 0x40 then
      let s := if bitOf v 62 then s.winDiscard else s
      if bitOf v 63 then s.winGo else s
    else if s.get (F.HDR.SHADOW_CTL.STATE page) ≠ 0 then s.set (F.HDR.SHADOW_CTL.BUSY_GO page) 1
    else
      let s := if bitOf v 62 then s.shadowDrop page else s
      if bitOf v 63 then s.shadowStart page else s

/-! ### Forced events (R479) -/

/-- Family of events a page shows (R341, R478). -/
def familyOf (page : Nat) : Nat :=
  if 0x100 ≤ page then 0x80 else if 0x10 ≤ page ∧ page ≤ 0x1B then 0x10 else if 0x20 ≤ page ∧ page ≤ 0x24 then 0x20
  else if 0x30 ≤ page ∧ page ≤ 0x3B then 0x30 else page

/-- Logbook class of a forced event: the one R409 gives; an ERROR record only for the class C events whose rules name one. -/
def forcedClass (r : EvRow) : Nat :=
  match r.cls with
  | .d => 3
  | .f => 3
  | .t => 2
  | .p => 2
  | .c =>
    if [Ev.HLL_PROTO, Ev.LINK_ERROR, Ev.PFN_OVERFLOW, Ev.ROPE_MISMATCH, Ev.STALL_REPORT, Ev.TRAIN_FAIL].contains r.code then 2 else 1

/-- Raise one forced event. -/
def State.forceEvent (s : State) (page code : Nat) : State :=
  match evRow code with
  | none => s
  | some r =>
    let inst := s.get (F.HDR.PAGE_ID.INSTANCE page)
    let s := (s.count (evCounter code) 1).showEvent page code true
    let s := s.log (s.mkRec code (forcedClass r) (eclassCode r.cls) { inst := inst })
    if forcedClass r ≠ 3 then s
    else
      { s with tele := { s.tele with fifo := s.tele.fifo.map fun e => if e.r.seq + 1 = s.get F.LOG.LOG_SEQ.ALARM then { e with forced := true } else e } }

/-- A write of EVT_FORCE: each bit with an event of the page's family. -/
def State.wrEvtForce (s : State) (page v : Nat) : State :=
  (List.range 64).foldl (fun s b => if bitOf v b then s.forceEvent page (familyOf page * 256 + b + 1) else s) s

end Sys2Proof.Machine
end

