-- ==== Sys2Proof/Machine/Power.lean ====
section
/-! DEFINITION. Thermal and rail monitors, the thermal trip, and the time base with its sources (18_pins_power_package.md R491, R496, R499, R500,
R504; 03_ports.md R88). -/
namespace Sys2Proof.Machine

/-! ### Temperature and rails (R491, R496, R504) -/

/-- The hottest diode's reading is shown; it raises TEMP_WARN when it rises above WARN, again only after falling 5 °C below. -/
def State.tempRead (s : State) (temp diode : Nat) : State :=
  let warn := s.get F.PWR.THERM_CFG.WARN
  let s := s.sets [(F.PWR.THERM_STS.HOTTEST, temp), (F.PWR.THERM_STS.DIODE, min diode 47), (F.PWR.THERM_STS.WARN_NOW, b2n (decide (temp > warn)))]
  if temp > warn ∧ !s.pins.tempHeld then
    ({ s with pins := { s.pins with tempHeld := true } } : State).raise Ev.TEMP_WARN { inst := min diode 47 }
  else if temp + 20 ≤ warn then { s with pins := { s.pins with tempHeld := false } }
  else s

/-- A rail leaves or returns to its tolerance. -/
def State.railMove (s : State) (r : Nat) (outside : Bool) : State :=
  s.set F.PWR.RAIL_STS.NOW (withBit (s.get F.PWR.RAIL_STS.NOW) r outside)

/-- A rail has been outside its tolerance for 10 µs. -/
def State.railLong (s : State) (r : Nat) : State :=
  if !bitOf (s.get F.PWR.RAIL_STS.NOW) r then s
  else (s.set F.PWR.RAIL_STS.SEEN (withBit (s.get F.PWR.RAIL_STS.SEEN) r true)).raise Ev.VOLT_WARN { inst := r, detail := 2 }

/-- Thermal trip: transmitters idle, clocks stopped, the logic held in reset until PWR_OK falls. -/
def State.trip (s : State) : State :=
  if s.pins.pwrOk then { s with pins := { s.pins with thermTrip := true, txIdle := true } } else s

/-! ### The time base (R499, R500) -/

/-- SYNCED clears: TIME_UNSYNC. -/
def State.unsync (s : State) : State :=
  let s : State := { s with time := { s.time with inWindow := 0 } }
  if s.flag F.TIME.STS.SYNCED then (s.set F.TIME.STS.SYNCED 0).raise Ev.TIME_UNSYNC else s

/-- The time base takes a value at the next tick: a step. -/
def State.timeStep (s : State) (v : Nat) : State :=
  (({ s with time := { s.time with stepTo := some (v % 2 ^ 64) } } : State).addSat F.TIME.STS.STEPS 1).unsync

/-- A number within 16 bits of two's complement, saturating. -/
def sat16 (x : Int) : Nat := ((max (-32768) (min 32767 x)) % 65536).toNat
/-- The value of a 16-bit two's complement field. -/
def signed16 (v : Nat) : Int := if v ≥ 32768 then (v : Int) - 65536 else v

/-- One measurement: the offset in ns, the source's value in ticks, and the interval in ms. -/
def State.timeMeasure (s : State) (offset : Int) (value interval : Nat) : State :=
  let s := s.set F.TIME.STS.OFFSET (sat16 offset)
  if offset > 1000 ∨ offset < -1000 then s.timeStep value
  else
    let adj := signed16 (s.get F.TIME.STS.RATE_ADJ) + Int.tdiv (offset * 100) (max 1 interval : Nat)
    let s := s.set F.TIME.STS.RATE_ADJ ((max (-10000) (min 10000 adj)) % 65536).toNat
    let n := if -20 ≤ offset ∧ offset ≤ 20 then min 3 (s.time.inWindow + 1) else 0
    let s : State := { s with time := { s.time with inWindow := n } }
    if n = 3 then s.set F.TIME.STS.SYNCED 1 else s

/-- A PTM exchange on the selected HOST port: the master time is in ns. The next request follows. -/
def State.ptmDone (s : State) (p master : Nat) : State :=
  if s.ptmOn p then
    ((s.count (Ctr.dev 45) 1).timeMeasure ((master : Int) - 10 * (s.time.now : Int)) (master / 10) (max 1 (s.get F.TIME.SRC_CTL.PTM_INTERVAL))).ptmAsk
  else s

/-- A rising edge on TIME_PPS_IN. -/
def State.ppsIn (s : State) : State :=
  let s := s.count (Ctr.dev 46) 1
  if s.get F.TIME.SRC_CTL.SRC ≠ 2 then s
  else
    let v := s.get F.TIME.PPS_NEXT.TICKS
    (s.timeMeasure (10 * ((v : Int) - (s.time.now : Int))) v 1000).set F.TIME.PPS_NEXT.TICKS (v + 100000000)

/-- No measurement has arrived in time. -/
def State.syncLost (s : State) : State := if s.get F.TIME.SRC_CTL.SRC = 0 then s else s.unsync

/-- A write of TIME.SET. -/
def State.wrTimeSet (s : State) (v : Nat) : State :=
  if s.get F.TIME.SRC_CTL.SRC = 0 then s.timeStep v else s.set F.TIME.STS.SET_REFUSED 1

/-- A write of TIME.SRC_CTL, refused whole under R500. -/
def State.wrTimeSrc (s : State) (v : Nat) : State :=
  let src := bitsOf v 9 8
  let p := bitsOf v 5 0
  if src = 3 ∨ (src = 1 ∧ (p > 47 ∨ s.role p ≠ 1)) then s.set F.TIME.SRC_CTL.REFUSED 1
  else
    let was := s.get F.TIME.SRC_CTL.SRC
    let s := s.sets [(F.TIME.SRC_CTL.REFUSED, 0), (F.TIME.SRC_CTL.PTM_INTERVAL, bitsOf v 31 24), (F.TIME.SRC_CTL.SRC, src),
      (F.TIME.SRC_CTL.PTM_PORT, p)]
    (if src = was then s else s.unsync).ptmAsk

/-- TIME_PPS_OUT rises at a tick whose value is a multiple of 100,000,000. -/
def State.ppsRise (s : State) : State :=
  if s.flag F.TIME.PPS_OUT.EN && s.time.now % 100000000 == 0 then ({ s with pins := { s.pins with ppsOut := true } } : State).emit .pps else s

/-- Ticks TIME_PPS_OUT stays high. -/
def State.ppsWidth (s : State) : Nat := 100 * min 500000 (max 1 (s.get F.TIME.PPS_OUT.WIDTH))

end Sys2Proof.Machine
end

