-- ==== Sys2Proof/Machine/Clock.lean ====
section
/-! DEFINITION. What happens with the clock and no command: one tick of the device time base (01_architecture.md R10, 08_egress_scheduling.md
R237, 18_pins_power_package.md R499, R500). -/
namespace Sys2Proof.Machine

/-- TIME_PPS_OUT falls when its width has passed. -/
def State.ppsFall (s : State) : State :=
  if s.pins.ppsOut && s.time.now % 100000000 ≥ s.ppsWidth then { s with pins := { s.pins with ppsOut := false } } else s

/-- Ticks the time base advances in 10 ns of its clock, and what stays over: one, and one more or none when the rate adjustment, in units of
0.01 ppm, has gathered a whole tick (R499). -/
def slewStep (slew adj : Int) : Nat × Int :=
  let x := slew + adj
  if x ≥ 100000000 then (2, x - 100000000) else if x ≤ -100000000 then (0, x + 100000000) else (1, x)

/-! ### What is counted with the clock (14_telemetry.md R395, R396, R401): a tick is 16 CORE and 8 TABLE cycles (R20) -/

/-- Count n, if any. -/
def State.countSome (s : State) (i n : Nat) : State := if n = 0 then s else s.count i n

/-- The transmit slots of 10 ns on a port in STATE 0x06 (R401): RATE × ACTIVE_WIDTH × 10 bits, in slots of 512, with the rest kept. -/
def State.slotTick (s : State) (p : Nat) : State :=
  if s.get (F.STN.LINK_STS.STATE p) ≠ 6 then s
  else
    let r := Tab.getD s.tele.rem (16 * p) 0 + rateOf (s.get (F.STN.LINK_STS.RATE p)) * s.get (F.STN.LINK_STS.ACTIVE_WIDTH p)
    (({ s with tele := { s.tele with rem := Tab.setD s.tele.rem (16 * p) (r % 512) 0 } } : State).countSome (Ctr.port p 0) (r / 512))

/-- Cycle counters of a port: POOL_FULL while a pool that it has is full, HDR_WAIT_CYC while a header waits for lookup. -/
def State.portCycles (s : State) (p : Nat) : State :=
  if s.role p = 0 then s
  else
    let full := (List.range 4).any fun q => s.get (F.BUF.POOL_STS.RESERVED p q) != 0 && s.poolFull p q
    ((s.slotTick p).countSome (Ctr.port p 23) (if full then 16 else 0)).countSome (Ctr.port p 25) (if (Tab.getD s.core.inq p []).isEmpty then 0 else 16)

/-- Cycle counters of a VH: XLAT_MISS_WAIT for each of its trains in a miss lane, ORT_WAIT_CYC for each that waits for an entry, FENCE_HELD_CYC while
its fence holds accesses. -/
def State.vhCycles (s : State) (v : Nat) : State :=
  let miss := (s.core.miss.map fun e => e.2.countP fun p => p.missed && p.vh == v).sum
  let wait := (s.core.gwWait.map fun e => e.2.countP fun g => g.kind != 3 && g.tr.vh == v).sum
  ((s.countSome (Ctr.vh v 2) (8 * miss)).countSome (Ctr.vh v 10) (8 * wait)).countSome (Ctr.vh v 23) (if (s.vctl v).holding then 8 else 0)

/-- Cycle counters of a yard: OCC_SUM, TOKEN_WAIT_CYC while a coupling for it waits for a token, HOLD_WAIT_CYC while a train in it waits for the
posted hold (R186). -/
def State.yardCycles (s : State) (y : Nat) : State :=
  let token := s.trainList.any fun t => t.inBuffer && !t.mcast && t.dst != 63 && !s.hasToken t.x t.dst t.cls &&
    t.legs.any fun l => l.y == y && l.cpls.any fun c => c.st == 0
  let held := s.trainList.any fun t => t.copies.any fun c => planePort c.port == y && s.egressHeld t c
  ((s.countSome (Ctr.yard y 1) (16 * s.get (F.EGR.YARD_STS.OCC y))).countSome (Ctr.yard y 2) (if token then 16 else 0)).countSome
    (Ctr.yard y 7) (if held then 16 else 0)

/-- Cycle counters of the device: DRAM command slots, 1.2 G a second (R24), and those that no access took; the shared account full; the siding in
use. -/
def State.devCycles (s : State) : State :=
  let used := min 12 s.tele.dramBusy
  let s : State := { s with tele := { s.tele with dramBusy := s.tele.dramBusy - used } }
  let size := s.get F.BUF.SHARED_STS.SHARED_SIZE
  let full := decide (0 < size ∧ s.get F.BUF.SHARED_STS.SHARED_USED ≥ size)
  ((((s.countSome (Ctr.dev 12) 12).countSome (Ctr.dev 13) (12 - used)).countSome (Ctr.dev 24) (if full then 16 else 0)).countSome
    (Ctr.dev 25) (if s.get F.MCAST.SIDING_STS.USED = 0 then 0 else 16))

/-- What the counters of cycles gain in 10 ns. -/
def State.countCycles (s : State) : State :=
  let s := (List.range 48).foldl State.portCycles s
  let s := (List.range 24).foldl State.vhCycles s
  let s := (List.range 5).foldl (fun (s : State) n => s.countSome (Ctr.plane n 5) (if (List.range 14).any fun y => s.urgMasked n y then 16 else 0)) s
  ((List.range 14).foldl State.yardCycles s).devCycles

/-- 10 ns of the clock: TIME.NOW counts once BIST has ended while the logic has a clock, at the rate that RATE_ADJ sets (R10, R499); a step the
source asked for is taken at the tick, and the gates resynchronise to it; the window checks under way end and the counters of cycles advance (notes/assumptions/2.md). -/
def State.tick (s : State) : State :=
  if s.up then
    let s := s.winChecked.countCycles
    match s.time.stepTo with
    | some v =>
      let s := ({ s with time := { s.time with now := v % 2 ^ 64, stepTo := none, run := s.time.run + 1 } } : State).set F.TIME.NOW.TICKS v
      ((List.range 48).foldl (fun s p => s.gateResync p) s).ppsFall
    | none =>
      let (n, slew) := slewStep s.time.slew (signed16 (s.get F.TIME.STS.RATE_ADJ))
      (({ s with time := { s.time with now := (s.time.now + n) % 2 ^ 64, slew := slew, run := s.time.run + 1 } } : State).set F.TIME.NOW.TICKS (s.time.now + n)).ppsFall
  else s

end Sys2Proof.Machine
end

