-- ==== Sys2Proof/Machine/Attest.lean ====
section
/-! DEFINITION. The test access port, the SPDM responder and debug unlock (00_scope.md R8, R9; 16_management_access.md R466 to R468). Message codes
and error codes are those of the SPDM specification (notes/assumptions/12.md); digests, certificates, signatures and nonces are free values. -/
namespace Sys2Proof.Machine

/-! ### The TAP (R466) -/

/-- The TAP works while the device has power. -/
def whenPower (s : State) (f : State → State) : Res := .next (if s.pins.pwrOk then f s else s)

/-- Select an instruction; leaving HIGHZ releases the outputs. -/
def State.setIr (s : State) (ir : Nat) : State := { s with pins := { s.pins with ir := ir, highz := ir == 0x06 } }

/-- Are the boundary test instructions accepted? -/
def State.testOk (s : State) : Bool := s.pins.rstHeld || s.flag F.ATTEST.DBG_STS.UNLOCKED

/-- Select a boundary test instruction, or BYPASS where it is not accepted. -/
def State.testIr (s : State) (ir : Nat) : State := if s.testOk then s.setIr ir else s.setIr 0xFF

def State.setBoundary (s : State) (v : Nat) : State := { s with pins := { s.pins with boundary := v } }

def State.tapReset (s : State) : State := s.setIr 0x01
def State.tapBypass (s : State) : State := (s.setIr 0xFF).emit (.tdo 0)
def State.tapIdcode (s : State) : State := (s.setIr 0x01).emit (.tdo 0x141925A7)
/-- One scan of the boundary register, as IEEE 1149.1 orders it (R9): what the pins show is captured and shifted out, and what is shifted in is
latched. -/
def State.tapScan (s : State) (ir pins v : Nat) : State := ((s.setIr ir).emit (.tdo pins)).setBoundary v
/-- SAMPLE/PRELOAD: the latched cells drive nothing. -/
def State.tapSample (s : State) (pins v : Nat) : State := s.tapScan 0x02 pins v
/-- EXTEST, where it is accepted: the pins take what was preloaded, and after the scan what was shifted in. -/
def State.tapExtest (s : State) (pins v : Nat) : State :=
  if s.testOk then ((s.emit (.boundary 0x03 s.pins.boundary)).tapScan 0x03 pins v).emit (.boundary 0x03 v) else s.tapBypass
/-- EXTEST_PULSE and EXTEST_TRAIN drive the lanes with what the boundary register holds; the scan captures what the lanes' test receivers show
(IEEE 1149.6, R9). -/
def State.tapLane (s : State) (ir pins v : Nat) : State :=
  if s.testOk then (s.emit (.boundary ir s.pins.boundary)).tapScan ir pins v else s.tapBypass
def State.tapHighz (s : State) : State := if s.testOk then s.setIr 0x06 else s.tapBypass

/-! ### SPDM (R8, R425, R468) -/

/-- Several free words, as payload. -/
def State.freeWords (s : State) : Nat → List Nat × State
  | 0 => ([], s)
  | n + 1 =>
    let (x, s) := s.free
    let (l, s) := s.freeWords n
    (x :: l, s)

/-- A response goes out on the transport of the request it answers. -/
def State.spdmOut (s : State) (req err : Nat) (payload : List Nat) : State := s.emit (.spdm s.mgmt.spdmVia req err payload)

/-- May a request arrive this way: over I3C always, over VDMs in a bound VH (R8)? -/
def State.viaOpen (s : State) : Via → Bool
  | .i3c => true
  | .vdm vh => s.vhBound vh.val

/-- Serve a request that came by a transport. -/
def State.spdmFrom (s : State) (via : Via) (f : State → State) : State :=
  if s.viaOpen via then f { s with mgmt := { s.mgmt with spdmVia := via } } else s

def State.spdmErr (s : State) (req err : Nat) : State := s.spdmOut req err []

/-- Serve a request: nothing answers while no Guide pair is ACTIVE, and in BASECAMP the answer is Busy. -/
def State.spdmDo (s : State) (req : Nat) (f : State → State) : State :=
  if !s.guideOn then s else if s.phase ≤ 1 then s.spdmErr req 0x03 else f s

/-- How far the exchange of the requester being served has come: 1 version, 2 capabilities, 3 algorithms. -/
def State.spdmStage (s : State) : Nat := ((s.mgmt.spdmAt.find? fun e => e.1 == s.mgmt.spdmVia).map Prod.snd).getD 0
def State.setStage (s : State) (n : Nat) : State :=
  { s with mgmt := { s.mgmt with spdmAt := (s.mgmt.spdmAt.filter fun e => e.1 != s.mgmt.spdmVia) ++ [(s.mgmt.spdmVia, n)] } }

/-- Version, capabilities and algorithms have been exchanged. -/
def State.spdmReady (s : State) : Bool := s.spdmStage == 3

/-- A request that needs the exchange first; else UnexpectedRequest. -/
def State.spdmAfter (s : State) (req : Nat) (f : State → State) : State :=
  s.spdmDo req fun s => if s.spdmReady then f s else s.spdmErr req 0x04

/-- A session leaves; with it go its nonce and the debug unlock made in it. -/
def State.dropSession (s : State) (id : Nat) : State :=
  let s : State := { s with mgmt := { s.mgmt with sessions := s.mgmt.sessions.filter (fun e => e.1 ≠ id), nonce := s.mgmt.nonce.filter fun n => n.2 ≠ id } }
  if s.mgmt.dapSession = some id then s.relock else s

/-- VERSION: the exchange of this requester begins anew, and its sessions end (SPDM 1.2, R8); those of other transports stand. -/
def State.spdmVersion (s : State) : State :=
  s.spdmDo 0x84 fun s =>
    let own := s.mgmt.sessions.filter fun e => e.2.2 == s.mgmt.spdmVia
    ((own.foldl (fun s e => s.dropSession e.1) s).setStage 1).spdmOut 0x84 0 [0x12]

/-- CAPABILITIES: CT exponent 17. -/
def State.spdmCapabilities (s : State) : State :=
  s.spdmDo 0xE1 fun s =>
    if s.spdmStage ≥ 1 then (s.setStage 2).spdmOut 0xE1 0 [17]
    else s.spdmErr 0xE1 0x04

/-- Only ECDSA P-384 with SHA-384 is agreed. -/
def State.spdmAlgorithms (s : State) (p384 sha384 : Bool) : State :=
  s.spdmDo 0xE3 fun s =>
    if s.spdmStage < 2 then s.spdmErr 0xE3 0x04
    else if p384 && sha384 then (s.setStage 3).spdmOut 0xE3 0 [384, 384]
    else s.spdmErr 0xE3 0x01

def State.spdmDigests (s : State) : State :=
  s.spdmAfter 0x81 fun s =>
    let (l, s) := s.freeWords 12
    s.spdmOut 0x81 0 l

/-- Slots 0 and 1 hold chains. -/
def State.spdmCertificate (s : State) (slot : Nat) : State :=
  s.spdmAfter 0x82 fun s =>
    if slot > 1 then s.spdmErr 0x82 0x01
    else
      let (l, s) := s.freeWords 8
      s.spdmOut 0x82 0 l

def State.spdmChallenge (s : State) (slot : Nat) : State :=
  s.spdmAfter 0x83 fun s =>
    if slot > 1 then s.spdmErr 0x83 0x01
    else
      let (l, s) := s.freeWords 8
      s.spdmOut 0x83 0 l

/-- The measurement of an index (R468): its state words where the rule names them, a digest (a free value) elsewhere. -/
def State.measure (s : State) (i : Nat) : List Nat × State :=
  if i = 4 then
    let (x, s) := s.free
    ([s.get F.FLASH.IMG_CTL.MIN_SVN, x, s.get F.CHIP.BOOT_STS.SLOT, s.get F.CHIP.BOOT_STS.TRIAL], s)
  else if i = 6 then ([s.get F.ATTEST.DBG_STS.UNLOCKED, s.get F.ATTEST.DBG_STS.UNLOCKS], s)
  else if i = 2 then
    match s.boot.booted with
    | some k => ([(s.slotHdr k).digest], s)
    | none => s.freeWords 6
  else s.freeWords 6

/-- GET_MEASUREMENTS: 0 asks how many there are, 0xFF for all of them. -/
def State.spdmMeasurements (s : State) (index : Nat) (signed : Bool) : State :=
  s.spdmAfter 0xE0 fun s =>
    let idx := if index = 0xFF then [1, 2, 3, 4, 5, 6] else [index]
    if index = 0 then s.spdmOut 0xE0 0 [6]
    else if idx.any fun i => decide (i > 6) then s.spdmErr 0xE0 0x01
    else
      let (l, s) := idx.foldl (fun (a : List Nat × State) i => let (w, s) := a.2.measure i; (a.1 ++ w, s)) ([], s)
      let (sig, s) := if signed then s.freeWords 12 else ([], s)
      s.spdmOut 0xE0 0 (l ++ sig)

/-- KEY_EXCHANGE: up to four sessions at once. -/
def State.spdmKeyExchange (s : State) (slot reqSession : Nat) : State :=
  s.spdmAfter 0xE4 fun s =>
    if slot > 1 then s.spdmErr 0xE4 0x01
    else if s.mgmt.sessions.length ≥ 4 then s.spdmErr 0xE4 0x0A
    else
      let id := s.mgmt.nextSession % 65536 * 65536 + reqSession
      let s : State := { s with mgmt := { s.mgmt with sessions := s.mgmt.sessions ++ [(id, false, s.mgmt.spdmVia)], nextSession := s.mgmt.nextSession + 1 } }
      s.spdmOut 0xE4 0 [id]

/-- FINISH: the session is established, or ends with DecryptError. -/
def State.spdmFinish (s : State) (id : Nat) (good : Bool) : State :=
  s.spdmAfter 0xE5 fun s =>
    if !s.mgmt.sessions.contains (id, false, s.mgmt.spdmVia) then s.spdmErr 0xE5 0x04
    else if good then
      ({ s with mgmt := { s.mgmt with sessions := s.mgmt.sessions.map fun e => if e.1 = id then (id, true, e.2.2) else e } } : State).spdmOut 0xE5 0 []
    else (s.dropSession id).spdmErr 0xE5 0x06

/-- Is a session of the requester being served established? -/
def State.established (s : State) (id : Nat) : Bool := s.mgmt.sessions.contains (id, true, s.mgmt.spdmVia)

def State.spdmEnd (s : State) (id : Nat) : State :=
  s.spdmAfter 0xEC fun s => if s.established id then (s.dropSession id).spdmOut 0xEC 0 [] else s.spdmErr 0xEC 0x0B

/-! ### Debug unlock (R467) -/

/-- DBG_NONCE inside an established session. -/
def State.dbgNonce (s : State) (id : Nat) : State :=
  s.spdmAfter 0xFE fun s =>
    if !s.established id then s.spdmErr 0xFE 0x0B
    else
      let (l, s) := s.freeWords 4
      ({ s with mgmt := { s.mgmt with nonce := some (l.headD 0, id) } } : State).spdmOut 0xFE 0 l

/-- DBG_UNLOCK: the key and the signature over the nonce are good, or the unlock fails; after three failures it is refused. -/
def State.dbgUnlock (s : State) (id : Nat) (good : Bool) : State :=
  s.spdmAfter 0xFE fun s =>
    if !s.established id then s.spdmErr 0xFE 0x0B
    else if s.get F.ATTEST.DBG_STS.FAILS ≥ 3 then s.spdmErr 0xFE 0x01
    else
      let fresh := match s.mgmt.nonce with
        | some (_, k) => k == id
        | none => false
      let s : State := { s with mgmt := { s.mgmt with nonce := if fresh then none else s.mgmt.nonce } }
      if fresh && good then
        ((({ s with mgmt := { s.mgmt with dapSession := some id } } : State).sets [(F.ATTEST.DBG_STS.UNLOCKED, 1),
          (F.ATTEST.DBG_STS.UNLOCK_TIME, s.time.now % 2 ^ 36)]).addSat F.ATTEST.DBG_STS.UNLOCKS 1).spdmOut 0xFE 0 []
      else ((s.addSat F.ATTEST.DBG_STS.FAILS 1).raise Ev.SPDM_FAIL).spdmErr 0xFE 0x01

/-! ### MCTP (R6, R8, R458) -/

/-- An SPDM request in the clear, byte by byte as the SPDM specification lays it out (notes/assumptions/12.md). FINISH, END_SESSION and the
vendor-defined requests come inside a session's secured messages, whose contents the model does not decipher: those are commands of their own. -/
def State.spdmMsg (s : State) (l : List Byte) : State :=
  let b (i : Nat) : Nat := (l.getD i 0).toNat
  let code := b 1
  if l.length < 4 then s
  else if code = 0x84 then s.spdmVersion
  else if code = 0xE1 then s.spdmCapabilities
  else if code = 0xE3 then s.spdmAlgorithms (bitOf (b 8) 7) (bitOf (b 12) 1)
  else if code = 0x81 then s.spdmDigests
  else if code = 0x82 then s.spdmCertificate (b 2 % 16)
  else if code = 0x83 then s.spdmChallenge (b 2 % 16)
  else if code = 0xE0 then s.spdmMeasurements (b 3) (bitOf (b 2) 0)
  else if code = 0xE4 then s.spdmKeyExchange (b 3 % 16) (b 4 + 256 * b 5)
  else if code = 0xE5 ∨ code = 0xEC ∨ code = 0xFE then s.spdmDo code fun s => s.spdmErr code 0x04
  else s.spdmDo code fun s => s.spdmErr code 0x07

/-- Packets gathered so far of a message on a transport. -/
def State.mctpGot (s : State) (via : Via) : Option (List Byte) := (s.mgmt.mctpParts.find? fun e => e.1 == via).map Prod.snd
def State.setMctp (s : State) (via : Via) (l : Option (List Byte)) : State :=
  { s with mgmt := { s.mgmt with mctpParts := (s.mgmt.mctpParts.filter fun e => e.1 != via) ++ l.toList.map fun x => (via, x) } }

/-- An MCTP packet: header version 0x01, destination, source, and the byte whose bits 7 and 6 mark a message's first and last packet. A whole
message of type 5 is an SPDM request (R8, R458; notes/assumptions/12.md). -/
def State.mctpPacket (s : State) (via : Via) (l : List Byte) : State :=
  let flags := (l.getD 3 0).toNat
  if l.length < 5 || l.headD 0 != 1 then s
  else
    match (if bitOf flags 7 then some [] else s.mctpGot via) with
    | none => s
    | some old =>
      let msg := old ++ l.drop 4
      if !bitOf flags 6 then s.setMctp via (some msg)
      else if msg.headD 0 == 5 then (s.setMctp via none).spdmFrom via fun s => s.spdmMsg (msg.drop 1)
      else s.setMctp via none

/-- A write of ATTEST.DBG_CTL. -/
def State.wrDbgCtl (s : State) (v : Nat) : State := if bitOf v 63 then s.relock else s

end Sys2Proof.Machine
end

