-- ==== Sys2Proof/Machine/RegRead.lean ====
section
/-! DEFINITION. Reading through the register network: the value of each register as a read finds it, the windows and the descriptor ROM, status
hold, and fields cleared by a read (16_management_access.md R443, R445 to R449; 17_register_conventions.md R470, R474 to R477, R481, R484). -/
namespace Sys2Proof.Machine

/-! ### The descriptor ROM (R447 to R449) -/

/-- ASCII characters padded with NULs to n bytes. -/
def ascii (t : String) (n : Nat) : List Byte := ((t.toList.map fun (c : Char) => BitVec.ofNat 8 c.toNat) ++ List.replicate n 0).take n

/-- The page table: first page, instances, flags, mnemonic. DRAM-backed are the pages whose windows lie in device DRAM (DEDUCED,
notes/assumptions/29.md). -/
def romPages : List (Nat × Nat × Nat × String) :=
  [(0x000, 1, 0, "CHIP"), (0x001, 1, 0, "CLK"), (0x002, 1, 0, "PWR"), (0x003, 1, 0, "TIME"), (0x004, 1, 0, "GUIDE"), (0x005, 1, 2, "FLASH"),
    (0x006, 1, 0, "SIDEBAND"), (0x007, 1, 0, "HOTPLUG"), (0x008, 1, 0, "RPU"), (0x009, 1, 0, "ATTEST"), (0x010, 12, 0, "STN"),
    (0x020, 5, 0, "PLANE"), (0x028, 1, 1, "BUF"), (0x029, 1, 1, "MCAST"), (0x030, 12, 0, "EGR"), (0x040, 1, 1, "XLAT")] ++
  [(0x041, 1, 1, "ROUTE"), (0x042, 1, 0, "GW"), (0x043, 1, 0, "VH"), (0x044, 1, 0, "CTX"), (0x045, 1, 2, "DIRTY"), (0x048, 1, 1, "HUT"),
    (0x050, 1, 0, "MEMC"), (0x058, 1, 0, "ERR"), (0x059, 1, 2, "LOG"), (0x05A, 1, 0, "PMU"), (0x05B, 1, 2, "TRACE"), (0x060, 1, 0, "REPAIR"),
    (0x061, 1, 0, "AGE"), (0x062, 1, 0, "BUDGET"), (0x100, 192, 0, "LANE"), (0x1F0, 1, 12, "MSIX")]

def romPage (e : Nat × Nat × Nat × String) : List Byte :=
  leBytes 2 e.1 ++ leBytes 2 e.2.1 ++ leBytes 2 0x0100 ++ leBytes 2 e.2.2.1 ++ ascii e.2.2.2 8

/-- The capability table: identifiers and words. -/
def romCaps : List (Nat × List Nat) :=
  [(1, [192, 12, 48, 24, 5, 136, 64]), (2, [524288, 262144, 16384, 8388608, 2048, 256, 1024]), (3, [6, 0x01F00000, 0x01F08000]),
    (4, [3530, 1]), (5, [0x00070000, 0x00010002, 0x00000001])]

def romCap (e : Nat × List Nat) : List Byte := leBytes 2 e.1 ++ leBytes 2 (4 + 4 * e.2.length) ++ e.2.flatMap (leBytes 4)

def romBody : List Byte := romPages.flatMap romPage ++ romCaps.flatMap romCap

/-- The header before its CRC. -/
def romHead : List Byte :=
  ascii "LNDR" 4 ++ leBytes 2 1 ++ leBytes 2 64 ++ ascii "LN4192" 8 ++ [0xB0, 0, 0, 0] ++ leBytes 2 32 ++ leBytes 2 0x40 ++ leBytes 2 5 ++ leBytes 2 0x240 ++
    leBytes 4 (64 + romBody.length) ++ List.replicate 28 0

def rom : List Byte := romHead ++ leBytes 4 (crc32 (romHead ++ [0, 0, 0, 0] ++ romBody)) ++ romBody

/-- The eight bytes of the ROM at an offset. -/
def romWord (off : Nat) : Nat := leNat ((rom.drop off).take 8)

/-! ### Registers whose value is found at the read -/

/-- Pages with budgeted activity of their own (R484). -/
def State.blockUseOf (s : State) (page : Nat) : Nat × Nat :=
  if page = 0x50 then ((Tab.getD s.blockUse page (0, 0)).1, sumList ((List.range 8).map fun c => (s.classUse c).usedDram))
  else if page = 0x62 then (0, 0) else Tab.getD s.blockUse page (0, 0)

/-- A header field (R477, R484). -/
def State.headerNow (s : State) (page off lo : Nat) (f : Fld) : Nat :=
  if off = 0x18 ∧ lo = 3 then s.get (F.RPU.SLOT.LOCK page)
  else if off = 0x18 ∧ lo = 2 then b2n (s.get (F.HDR.EVT_STS.EVT page) != 0)
  else if off = 0x58 ∧ lo = 48 then min 65535 (s.blockUseOf page).1
  else if off = 0x58 then min 16383 (s.blockUseOf page).2
  else s.get f

/-- PLANE.OUT_STS[o] (R192). -/
def State.outStsNow (s : State) (n o lo : Nat) (f : Fld) : Nat :=
  if lo = 34 then s.biv n o
  else if lo = 25 then b2n (s.urgMasked n o)
  else if lo = 24 then b2n (s.outBusy n o)
  else if lo = 0 then (List.range 14).foldl (fun b i => if s.inputEn i then b + 2 ^ i else b) 0
  else s.get f

/-- EGR.QUEUE_STS[k][q] and SCHED_STS[k] (R248), of port p. -/
def State.queueStsNow (s : State) (p q lo : Nat) (f : Fld) : Nat :=
  if lo = 2 then b2n ((s.queueBlocks p q).any fun c => decide (c < 3))
  else if lo = 1 then b2n ((s.queueBlocks p q).contains 3)
  else s.get f

def State.tcEligNow (s : State) (p : Nat) : Nat := (List.range 8).foldl (fun b t => if s.elig p t then b + 2 ^ t else b) 0

/-- MCAST.PGROUP[vh][g] (R215); VALID shows a set that is not empty (DEDUCED, notes/assumptions/29.md). -/
def State.pgroupNow (s : State) (v g lo : Nat) : Nat :=
  let l := s.pgroupPorts v g
  if lo = 63 then b2n (!l.isEmpty) else (l.eraseDups.filter fun p => decide (p < 48)).foldl (fun b p => b + 2 ^ p) 0

/-- The value of a field as a read finds it: write-only and start bits read 0, SH fields the value in force or the shadow (R470, R481), and the
fields that the device works out at the read. -/
def State.fieldNow (s : State) (page off : Nat) (d : FDesc) : Nat :=
  let f := d.toFld page off
  if d.acc == .wo then 0
  else if d.acc == .w1s then (if page = 8 ∧ 0x1000 ≤ off ∧ pageMapped ((off - 0x1000) / 8) then s.get f else 0)
  else if d.acc == .sh then (if s.flag (F.HDR.SHADOW_CTL.VIEW page) then s.shadowOf f else s.get f)
  else if off < 0x100 then s.headerNow page off d.lo f
  else if 0x20 ≤ page ∧ page ≤ 0x24 ∧ 0x200 ≤ off then s.outStsNow (page - 0x20) ((off - 0x200) / 8) d.lo f
  else if 0x30 ≤ page ∧ page ≤ 0x3B then
    if 0x2000 ≤ off ∧ off < 0x4000 then s.queueStsNow (4 * (page - 0x30) + (off - 0x2000) / 0x200) ((off - 0x2000) % 0x200 / 8) d.lo f
    else if 0x1A0 ≤ off ∧ off < 0x1C0 ∧ d.lo = 24 then s.tcEligNow (4 * (page - 0x30) + (off - 0x1A0) / 8)
    else s.get f
  else if page = 0x28 ∧ 0x1000 ≤ off ∧ off < 0x1640 ∧ d.lo = 49 then min 32767 (s.poolUsed ((off - 0x1000) / 32) ((off - 0x1000) % 32 / 8))
  else if page = 0x29 ∧ 0x4000 ≤ off then s.pgroupNow ((off - 0x4000) / 0x200) ((off - 0x4000) % 0x200 / 8) d.lo
  else if 0x10 ≤ page ∧ page ≤ 0x1B ∧ 0x150 ≤ off ∧ off < 0x170 ∧ d.lo = 28 then
    min 255 (Tab.getD s.core.inq (4 * (page - 0x10) + (off - 0x150) / 8) []).length
  else if page = 0x5A ∧ 0x8000 ≤ off then (if (s.ctrOwner ((off - 0x8000) / 8)).isSome then s.ctr ((off - 0x8000) / 8) else 0)
  else if page = 5 ∧ off = 0x130 ∧ d.lo = 30 then b2n s.boot.ageDirty
  else if page = 8 ∧ 0x1000 ≤ off ∧ !pageMapped ((off - 0x1000) / 8) then 0
  else s.get f

/-- A register of the register map as a read finds it. -/
def State.regNow (s : State) (page off : Nat) : Nat :=
  match regAt page off with
  | none => 0
  | some r => r.fields.foldl (fun acc d => acc + s.fieldNow page off d * 2 ^ d.lo) 0

/-- Is a register sampled at the read (R192, R248, R279), and so held by STS_HOLD (R476)? -/
def sampled (page off : Nat) : Bool :=
  (decide (0x20 ≤ page ∧ page ≤ 0x24) && decide (0x200 ≤ off)) ||
    (decide (0x30 ≤ page ∧ page ≤ 0x3B) && (decide (0x2000 ≤ off ∧ off < 0x4000) || decide (0x1A0 ≤ off ∧ off < 0x1C0))) ||
    (page == 0x42 && off == 0x128)

/-- Offsets of a page's registers sampled at the read. -/
def sampledOffs (page : Nat) : List Nat :=
  if 0x20 ≤ page ∧ page ≤ 0x24 then (List.range 14).map fun o => 0x200 + 8 * o
  else if 0x30 ≤ page ∧ page ≤ 0x3B then
    ((List.range 4).map fun k => 0x1A0 + 8 * k) ++ (List.range 256).map fun i => 0x2000 + i / 64 * 0x200 + i % 64 * 8
  else if page = 0x42 then [0x128] else []

/-- A write of PAGE_CTL: STS_HOLD rising captures the page's sampled registers, falling lets them go (R476). -/
def State.wrPageCtl (s : State) (page v : Nat) : State :=
  let was := s.flag (F.HDR.PAGE_CTL.STS_HOLD page)
  let s := s.set (F.HDR.PAGE_CTL.STS_HOLD page) (v % 2)
  if v % 2 = 1 && !was then
    let l := (sampledOffs page).map fun off => (page * 65536 + off, s.regNow page off)
    { s with mgmt := { s.mgmt with held := l.foldl (fun t e => Tab.put t e.1 e.2) s.mgmt.held } }
  else if v % 2 = 0 then { s with mgmt := { s.mgmt with held := s.mgmt.held.filter fun e => e.1 / 65536 != page } }
  else s

/-- The MSIX page of a VH (R443): table dwords, and the pending-bit array. -/
def State.msixWord (s : State) (v off : Nat) : Nat :=
  let dw (i : Nat) : Nat := Tab.getD s.mgmt.msix (24 * v + i) (b2n (i % 4 == 3))
  if off < 96 then dw (off / 4) + 2 ^ 32 * dw (off / 4 + 1)
  else if off = 0x8000 then (List.range 6).foldl (fun b k => if (Tab.get? s.mgmt.msixPend (6 * v + k)).isSome then b + 2 ^ k else b) 0
  else 0

/-- The closed bitmap of a harvest in BAR mode, through its window (R304). -/
def State.bitmapWord (s : State) (off : Nat) : Nat :=
  if s.get F.DIRTY.DL_HARVEST.MODE = 1 ∧ s.get F.DIRTY.DL_HARVEST.STATE ≠ 0 then
    leNat ((s.hvBytes.drop (s.get F.DIRTY.DL_WIN_OFF.BLOCK * 32768 + off)).take 8)
  else 0

/-- The windows of R304, R408, R416, R438 and R447, at page offset 0x8000 + off. -/
def State.windowNow (s : State) (page off : Nat) : Nat :=
  if page = 0x00 then romWord off
  else if page = 0x05 then leNat (s.stageBytes (s.updWinAt (0x8000 + off)) 8)
  else if page = 0x45 then s.bitmapWord off
  else if page = 0x59 then (s.logWin (off / 64)).getD (off % 64 / 8) 0
  else if page = 0x5B then (s.traceWin (off / 64)).getD (off % 64 / 8) 0
  else 0

def hasWindow (page : Nat) : Bool := page == 0x00 || page == 0x05 || page == 0x45 || page == 0x59 || page == 0x5B

/-- An AGE temperature or voltage monitor, a measurement at every read. -/
def isMonitor (page off : Nat) : Bool := page == 0x61 && decide (0x400 ≤ off) && (regAt page off).isSome

/-- The 64-bit register at an offset as a read finds it; `vh` is the VH of host software. -/
def State.readReg (s : State) (vh page off : Nat) : Nat × State :=
  if page = 0x1F0 then (s.msixWord vh off, s)
  else if 0x8000 ≤ off && hasWindow page then
    if (page == 0x59 || page == 0x5B) && s.err.dramUe.contains (s.winBlock page ((off - 0x8000) / 64)) then
      (0, s.blockLost (s.winBlock page ((off - 0x8000) / 64)))
    else (s.windowNow page (off - 0x8000), s)
  else if isMonitor page off then
    let (x, s) := s.free
    (x % 4096, s)
  else if 0x100 ≤ page ∧ page < 0x1C0 ∧ 0x138 ≤ off ∧ off ≤ 0x148 then
    let s := s.liveCounts (page - 0x100)
    (s.regNow page off, s)
  else
    match Tab.get? s.mgmt.held (page * 65536 + off) with
    | some x => (x, s)
    | none => (s.regNow page off, s)

/-- What an RC field holds once it has been read (R470): its reset value, but one that shows the highest value since the last read starts again from the
value it follows (R193, R221; DEDUCED, notes/assumptions/20.md). -/
def State.rcRest (s : State) (f : Fld) : Nat :=
  if f = F.BUF.SHARED_STS.SHARED_PEAK then s.get F.BUF.SHARED_STS.SHARED_USED
  else match (List.range 14).find? fun y => f = F.EGR.YARD_STS.OCC_MAX y with
    | some y => s.get (F.EGR.YARD_STS.OCC y)
    | none => f.rst

/-- Reset the RC fields that a read of bits lo to hi returns whole (R470). -/
def State.clearRc (s : State) (page off lo hi : Nat) : State :=
  match regAt page off with
  | none => s
  | some r => r.fields.foldl (fun (s : State) d =>
      if d.acc == .rc && decide (lo ≤ d.lo ∧ d.lo + d.width ≤ hi + 1) then s.set (d.toFld page off) (s.rcRest (d.toFld page off)) else s) s

/-- Read n registers of 8 B from an address. -/
def State.readRegs (s : State) (vh : Nat) : Nat → Nat → List Nat × State
  | _, 0 => ([], s)
  | a, n + 1 =>
    let (x, s) := s.readReg vh (a / 65536) (a % 65536)
    let (l, s) := (s.clearRc (a / 65536) (a % 65536) 0 63).readRegs vh (a + 8) n
    (x :: l, s)

/-- A performed read of `len` bytes (R445): one 32-bit word for 4 B, else 64-bit words. -/
def State.readAt (s : State) (vh addr len : Nat) : List Nat × State :=
  let page := addr / 65536
  let off := addr % 65536
  if len = 4 then
    let half := off % 8 / 4
    let (x, s) := s.readReg vh page (off / 8 * 8)
    ([x / 2 ^ (32 * half) % 2 ^ 32], s.clearRc page (off / 8 * 8) (32 * half) (32 * half + 31))
  else s.readRegs vh addr (len / 8)

end Sys2Proof.Machine
end

