-- ==== Sys2Proof/Machine/RegWrite.lean ====
section
/-! DEFINITION. Writing through the register network: what a write does to the register at each page and offset, segment locks, accesses that
wait, and what follows a command (16_management_access.md R443, R445, R450 to R457; 17_register_conventions.md R470 to R472, R476 to R482). -/
namespace Sys2Proof.Machine

/-! ### Writes by register -/

/-- EVT_FIRST: VALID is cleared by 0 and set by nothing; the rest as written (R480). -/
def State.wrEvtFirst (s : State) (page v : Nat) : State :=
  s.sets [(F.HDR.EVT_FIRST.VALID page, if bitOf v 63 then s.get (F.HDR.EVT_FIRST.VALID page) else 0), (F.HDR.EVT_FIRST.FORCED page, bitsOf v 62 62),
    (F.HDR.EVT_FIRST.CODE page, bitsOf v 47 32), (F.HDR.EVT_FIRST.TIME page, v % 2 ^ 32)]

/-- Header registers; none where the offset holds one that takes plain fields. -/
def State.wrHeader (s : State) (page off priv v : Nat) : State :=
  if off = 0x10 then s.wrPageCtl page v
  else if off = 0x30 then s.wrEvtForce page v
  else if off = 0x38 then s.wrEvtFirst page v
  else if off = 0x40 then s.wrShadowCtl page v
  else s.writePlain page off priv v

/-- Registers of the pages 0x000 to 0x009. -/
def State.wrLow (s : State) (page off priv v : Nat) : State :=
  if page = 0x000 ∧ off = 0x108 then (if bitsOf v 47 32 = 0 then s.set F.CHIP.RESET_CAUSE.WARM_COUNT 0 else s)
  else if page = 0x000 ∧ off = 0x110 then s.wrResetCtl v
  else if page = 0x001 ∧ off = 0x100 then (if bitOf v 3 then s.set F.CLK.ROOT_STS.LOSS_SEEN 0 else s)
  else if page = 0x002 ∧ off = 0x100 then s.wrAvsCtl v
  else if page = 0x003 ∧ off = 0x100 then s.wrTimeSrc v
  else if page = 0x003 ∧ off = 0x110 then s.wrTimeSet v
  else if page = 0x005 ∧ off = 0x110 then s.wrImgCtl v
  else if page = 0x005 ∧ off = 0x118 then s.wrUpdCtl v
  else if page = 0x005 ∧ off = 0x128 then s.wrUpdSts v
  else if page = 0x007 ∧ 0x100 ≤ off then (if s.role ((off - 0x100) / 8) = 0 then s.writePlain page off priv v else s)
  else if page = 0x008 ∧ 0x1000 ≤ off then
    let n := (off - 0x1000) / 8
    if !pageMapped n then s
    else
      let s := s.writePlain page off priv v
      if bitOf v 63 then s.set (F.RPU.SLOT.LOCK n) 1 else s
  else if page = 0x009 ∧ off = 0x108 then s.wrDbgCtl v
  else s.writePlain page off priv v

/-- Registers of a station page and of an egress page. -/
def State.wrStation (s : State) (page off priv v : Nat) : State :=
  let st := page - 0x10
  if off = 0x100 then s.wrBifurc st v
  else if 0x110 ≤ off ∧ off < 0x130 then s.wrPortRole (4 * st + (off - 0x110) / 8) v
  else if 0x130 ≤ off ∧ off < 0x150 then s.wrLinkCtl (4 * st + (off - 0x130) / 8) v
  else s.writePlain page off priv v

def State.wrEgress (s : State) (page off priv v : Nat) : State :=
  let st := page - 0x30
  if 0x100 ≤ off ∧ off < 0x120 then s.wrTcvc (4 * st + (off - 0x100) / 8) v
  else if 0x120 ≤ off ∧ off < 0x140 then s.wrGateAdmin (4 * st + (off - 0x120) / 8) v
  else if 0x140 ≤ off ∧ off < 0x160 then s.wrGateList (4 * st + (off - 0x140) / 8) page off priv v
  else if 0x1000 ≤ off ∧ off < 0x1800 then s.wrDrr (4 * st + (off - 0x1000) / 0x200) ((off - 0x1000) % 0x200 / 8) v
  else if 0x4000 ≤ off ∧ off < 0x6000 then s.wrGateList (4 * st + (off - 0x4000) / 0x800) page off priv v
  else s.writePlain page off priv v

/-- Registers of the pages 0x028 to 0x048 other than stations and egress. -/
def State.wrCore (s : State) (page off priv v : Nat) : State :=
  if page = 0x028 ∧ off = 0x110 then s.wrCensusCfg v
  else if page = 0x028 ∧ off = 0x120 then s.wrBankCfg v
  else if page = 0x040 ∧ off = 0x100 then s.wrWinUpdate v
  else if page = 0x040 ∧ off = 0x108 then s.wrWinCommit v
  else if page = 0x040 ∧ off = 0x118 then s.wrTcCtl v
  else if page = 0x041 ∧ off = 0x100 then s.wrNodeId v
  else if page = 0x041 ∧ 0x800 ≤ off ∧ off < 0x8C0 then s.wrRopePair ((off - 0x800) / 8) v
  else if page = 0x042 ∧ off = 0x140 then s.wrPfnPop v
  else if page = 0x043 ∧ off = 0x110 then s.wrVdspCmd v
  else if page = 0x043 ∧ 0x200 ≤ off ∧ off < 0x2C0 then s.wrVhBind ((off - 0x200) / 8) v
  else if page = 0x043 ∧ 0x8000 ≤ off then s.wrVfMap ((off - 0x8000) / 0x20) ((off - 0x8000) % 0x20 / 8) v
  else if page = 0x044 ∧ off = 0x108 then s.wrCtxAccess v
  else if page = 0x045 ∧ off = 0x100 then s.wrDlCtl v
  else if page = 0x045 ∧ off = 0x108 then s.wrDlHarvest v
  else if page = 0x045 ∧ 0x1000 ≤ off ∧ off < 0x2000 then s.wrDlSlot ((off - 0x1000) / 0x10) ((off - 0x1000) % 0x10 / 8) v
  else if page = 0x048 ∧ off = 0x120 then s.wrHutZero v
  else s.writePlain page off priv v

/-- Registers of the pages 0x058 to 0x062. -/
def State.wrHigh (s : State) (page off priv v : Nat) : State :=
  if page = 0x058 ∧ off = 0x100 then s.wrContainCtl v
  else if page = 0x058 ∧ off = 0x108 then
    (s.set F.ERR.SAFE_STS.TIME (v % 2 ^ 36)).set F.ERR.SAFE_STS.CODE (if bitsOf v 63 48 = 0 then 0 else s.get F.ERR.SAFE_STS.CODE)
  else if page = 0x059 ∧ off = 0x100 then s.wrLogCtl v
  else if page = 0x059 ∧ off = 0x108 then s.wrLogPlace (v % 2 ^ 14) (s.get F.LOG.LOG_SIZE.SIZE_MIB)
  else if page = 0x059 ∧ off = 0x110 then s.wrLogPlace (s.get F.LOG.LOG_BASE.BASE_MIB) (v % 2 ^ 13)
  else if page = 0x059 ∧ off = 0x138 then
    let s := s.writePlain page off priv v
    if bitOf v 63 then s.rearm else s
  else if page = 0x059 ∧ off = 0x148 then s.wrDmaCtl v
  else if page = 0x059 ∧ off = 0x168 then
    let s := s.set F.LOG.MARK.KEY (v % 2 ^ 16)
    if bitOf v 63 then s.mark else s
  else if page = 0x05A ∧ 0x200 ≤ off ∧ off < 0x300 then s.wrChain ((off - 0x200) / 8) v
  else if page = 0x05B ∧ off = 0x100 then s.wrTagCtl v
  else if page = 0x05B ∧ off = 0x110 then s.wrRing v
  else if page = 0x061 ∧ off = 0x100 then s.wrAcclCfg v
  else s.writePlain page off priv v

/-- Registers of a lane page. -/
def State.wrLane (s : State) (n page off priv v : Nat) : State :=
  if off = 0x100 then s.wrTxeq n v
  else if off = 0x108 then s.wrRxadapt n v
  else if off = 0x118 then s.wrPatgen n v
  else if off = 0x120 ∨ off = 0x128 then s.wrUserPat n off v
  else if off = 0x130 then s.wrPatchk n v
  else if off = 0x150 then s.wrErrinj n v
  else if off = 0x158 then s.wrLoopback n v
  else if off = 0x160 then s.wrEyescan n v
  else s.writePlain page off priv v

/-- A write of the 64-bit register at an offset of a page. -/
def State.writeReg (s : State) (page off priv v : Nat) : State :=
  if off < 0x100 then s.wrHeader page off priv v
  else if page ≤ 0x009 then s.wrLow page off priv v
  else if 0x010 ≤ page ∧ page ≤ 0x01B then s.wrStation page off priv v
  else if 0x030 ≤ page ∧ page ≤ 0x03B then s.wrEgress page off priv v
  else if 0x100 ≤ page then s.wrLane (page - 0x100) page off priv v
  else if 0x058 ≤ page then s.wrHigh page off priv v
  else s.wrCore page off priv v

/-! ### Windows that take writes -/

/-- The MSI-X table of a VH: the dwords written; then pending vectors that may go are sent (R443). -/
def State.wrMsix (s : State) (vh off len v : Nat) : State :=
  let put (s : State) (i x : Nat) : State :=
    { s with mgmt := { s.mgmt with msix := Tab.setD s.mgmt.msix (24 * vh + i) (if i % 4 = 3 then x % 2 else x % 2 ^ 32) (b2n (i % 4 == 3)) } }
  if off ≥ 96 then s
  else if len = 4 then (put s (off / 4) (v / 2 ^ (8 * (off % 8)))).msixFlush vh
  else (put (put s (off / 4) v) (off / 4 + 1) (v / 2 ^ 32)).msixFlush vh

/-- FLASH.UPD_WIN: the bytes written go to the staging area (R438). -/
def State.wrUpdWin (s : State) (off len v : Nat) : State :=
  { s with boot := { s.boot with staging := Memory.writeBytes s.boot.staging 0 (s.updWinAt off) (leBytes len (v / 2 ^ (8 * (off % 8)))) } }

/-- The 64-bit value a write of `len` bytes gives a register: of TIME.SET, a half write keeps the other half of the time
base (R445), of TXEQ the coefficients last written (R35); the one bit of ROOT_STS that takes writes acts on 1 alone (R23). -/
def State.whole (s : State) (addr len v : Nat) : Nat :=
  let page := addr / 65536
  let off := addr % 65536 / 8 * 8
  if page = 3 ∧ off = 0x110 ∧ len = 4 then
    (if addr % 8 = 0 then s.time.now / 2 ^ 32 * 2 ^ 32 + v % 2 ^ 32 else v / 2 ^ 32 * 2 ^ 32 + s.time.now % 2 ^ 32)
  else if page = 1 ∧ off = 0x100 then v
  else if 0x100 ≤ page ∧ page < 0x1C0 ∧ off = 0x100 ∧ len = 4 ∧ addr % 8 ≠ 0 then v / 2 ^ 32 * 2 ^ 32 + (s.lane (page - 0x100)).txMan
  else s.mergeHalf page off addr len v

/-- A performed write; `v` is placed in its 64-bit register, `vh` the VH of host software. -/
def State.writeAt (s : State) (vh priv addr len v : Nat) : State :=
  let page := addr / 65536
  let off := addr % 65536
  if page = 0x1F0 then s.wrMsix vh off len v
  else if page = 0x05 ∧ 0x8000 ≤ off then s.wrUpdWin off len v
  else s.writeReg page (off / 8 * 8) priv (s.whole addr len v)

/-! ### Accesses as performed (R450 to R457, R472) -/

def pathVh : Path → Nat
  | .host vh _ _ _ => vh.val
  | _ => 0

/-- Bytes of the words a read returns. -/
def wordBytes (len : Nat) (l : List Nat) : List Byte := if len = 4 then leBytes 4 (l.headD 0) else l.flatMap (leBytes 8)

/-- What a CAUSE of R454 answers a host read with, and the sideband as a code of R460. -/
def causeSt (c : Nat) : CplSt := if c = 1 ∨ c = 7 then .ca else .ur
def causeCode (c : Nat) : Nat := if c = 1 then 1 else if c = 4 then 8 else if c = 5 then 5 else if c = 6 then 4 else 2

/-- Answer a read to whoever made it: a completion for a train, else the result of the command. -/
def State.answerRead (s : State) (w : WaitAcc) (cause : Nat) (l : List Nat) : State :=
  let ok := cause == 0
  let st : CplSt := if ok then .sc else causeSt cause
  match w.req with
  | some (src, t) =>
    let v := pathVh w.src
    s.inject { id := 0, src := 49, vh := some v, eg := some src,
               t := cplFor t st (s.get (F.GW.GW_RID.RID v)) (if ok then wordBytes w.len l else []) }
  | none =>
    match w.src with
    | .host vh rid _ _ => s.emit (.regData vh.val rid.toNat st l)
    | .guide => s.emit (.guideData ok l)
    | .sideband => s.emit (.sb (if ok then 0 :: (wordBytes w.len l).map BitVec.toNat else [2, causeCode cause]))
    | .debug => s.emit (.dap (if ok then 0 else 2) (l.headD 0))

/-- The checks of a locked read (R455, R456): only MRdLk of 4 or 8 B on the HOST port, with R and W on the page. -/
def State.lockGate (s : State) (w : WaitAcc) : Gate :=
  let hostOk := match w.src with
    | .host _ _ hostPort _ => hostPort
    | .debug => false
    | _ => true
  let seg := segOf w.addr
  if !hostOk then .deny 9 w.addr
  else
    match s.gate w.src w.addr w.len false 0 with
    | .deny c a => if c = 5 then .deny 6 w.addr else .deny c a
    | .discard => .discard
    | .wait => .wait
    | .go =>
      if w.len > 8 then .deny 2 w.addr
      else
        match s.pageDenies w.src w.addr true 0 with
        | some c => .deny c w.addr
        | none => if s.mgmt.locks.any fun l => l.who == w.who && (l.page, l.seg) != seg then .deny 6 w.addr else .go

def State.gateAcc (s : State) (w : WaitAcc) : Gate :=
  if w.lock then s.lockGate w else s.gate w.src w.addr w.len w.write (placed w.addr w.len w.value)

/-- The lock a locked read is granted. -/
def State.takeLock (s : State) (w : WaitAcc) : State :=
  let (page, seg) := segOf w.addr
  if (s.lockAt page seg).isSome then s
  else ({ s with mgmt := { s.mgmt with locks := s.mgmt.locks ++ [{ page := page, seg := seg, who := w.who }] } } : State).showLocks [page]

/-- Perform an access that has passed its checks. -/
def State.performAcc (s : State) (w : WaitAcc) : State :=
  let s := s.charged w.src
  if w.write then s.writeAt (pathVh w.src) (s.priv w.src) w.addr w.len (placed w.addr w.len w.value)
  else
    let s := if w.lock then s.takeLock w else s
    let (l, s) := s.readAt (pathVh w.src) w.addr w.len
    s.answerRead w 0 l

/-- What the checks say of an access, carried out. A train that brought it is resolved with it. -/
def State.carryOut (s : State) (w : WaitAcc) : State :=
  if !s.barOpen w.src then (if w.write then s else s.answerRead w 3 []).hutResolve w.train
  else
    match s.gateAcc w with
    | .deny c a => (if w.write then s.denyWrite w.src a c else (s.deny w.src a false c).answerRead w c []).hutResolve w.train
    | .discard => (s.discardWrite w.who).hutResolve w.train
    | .wait => s.waitFor w
    | .go => (s.performAcc w).hutResolve w.train

/-- An access arrives: behind an earlier one of its requester that waits, or for the Guide's allowance, it waits too (R26, R456, R472). -/
def State.access (s : State) (w : WaitAcc) : State :=
  if s.gateAcc w == .go && s.barOpen w.src && (s.heldBack w.src || (w.src == .guide && !s.canSpend 6 1 0)) then
    (if w.src == .guide && !s.canSpend 6 1 0 then s.turnedAway 6 else s).waitFor w
  else s.carryOut w

/-- The waiting accesses in flight on the register network: at most 16 of each source, its oldest (R26). -/
def State.inFlightAcc (s : State) : List WaitAcc :=
  (List.range 4).flatMap fun k => (s.mgmt.waits.filter fun w => sourceOf w.src == k).take 16

/-- Turns from the source served last to a source (R26): the internal activities are the fifth. -/
def State.turnsToSrc (s : State) (k : Nat) : Nat := (k + 4 - s.mgmt.lastSource) % 5
def State.turnsTo (s : State) (w : WaitAcc) : Nat := s.turnsToSrc (sourceOf w.src)

/-- The waiting access that goes next: of the requesters' first ones that the locks and the Guide's allowance let go, a lock request before the
others and the lowest-numbered requester's first (R456); else that of the source whose turn comes next (R26). -/
def State.nextWait (s : State) : Option WaitAcc :=
  let firsts := s.inFlightAcc.filter fun w => (s.mgmt.waits.find? fun x => x.who == w.who) == some w
  let ready := firsts.filter fun w => !s.barOpen w.src || (s.gateAcc w != .wait && (w.src != .guide || s.canSpend 6 1 0))
  let locks := ready.filter WaitAcc.lock
  if locks = [] then (ready.mergeSort fun a b => decide (100 * s.turnsTo a + a.who ≤ 100 * s.turnsTo b + b.who)).head?
  else (locks.mergeSort fun a b => decide (a.who ≤ b.who)).head?

/-- A waiting access leaves the queue: its source has had its turn. -/
def State.takeWait (s : State) (w : WaitAcc) : State :=
  { s with mgmt := { s.mgmt with waits := s.mgmt.waits.erase w, lastSource := sourceOf w.src } }

/-- A waiting access goes, followed by what its events call for. -/
def State.serveWait (s : State) (w : WaitAcc) : State := ((s.takeWait w).carryOut w).settle 4096

/-- The internal activities have had their turn. -/
def State.internalTurn (s : State) : State := { s with mgmt := { s.mgmt with lastSource := 4 } }

/-- Let waiting accesses go, and the accesses of internal activities in their turn (R26). -/
def State.drainWaits (s : State) : Nat → State
  | 0 => s
  | n + 1 =>
    match s.nextWait, s.intReady with
    | none, none => s
    | some w, none => (s.serveWait w).drainWaits n
    | none, some x => (s.internalTurn.intGo x).drainWaits n
    | some w, some x => (if s.turnsToSrc 4 ≤ s.turnsTo w then s.internalTurn.intGo x else s.serveWait w).drainWaits n

/-- What follows a command: SAFE and escalations its events call for, accesses that need wait no longer, scans the pass waits for. -/
def State.after (s : State) : State :=
  let s := (s.settle 4096).passWaited.passScans.intNote
  s.drainWaits (s.mgmt.waits.length + 2048)

/-- Run an effect, and what follows it, while the block is in service; otherwise the command's event cannot arise and nothing changes
(notes/assumptions/3.md). -/
def whenUpS (s : State) (f : State → State) : Res := .next (if s.up then (f s).after else s)

/-- A write of 8 B to a register by a path, with the register's own effect. -/
def regWr (s : State) (src : Path) (page off v : Nat) : Res :=
  whenUpS s fun s => s.regCmd src (page * 65536 + off) 8 v fun s pr v => s.writeReg page off pr v

end Sys2Proof.Machine
end

