-- ==== Sys2Proof/Machine/Deliver.lean ====
section
/-! DEFINITION. Trains delivered to the Hut and to the management endpoint: BAR2 with its aliases and control pages, BAR0, BAR4 and
configuration requests (11_hut_ordering.md R307, R309, R327, R331, R333 to R335; 14_telemetry.md R399; 16_management_access.md R441, R442,
R445). -/
namespace Sys2Proof.Machine

/-! ### The Hut -/

/-- Enabled bytes of a payload, from its first and last dword enables. -/
def tlpEnables (t : Tlp) : List Bool :=
  (List.range t.data.length).map fun i =>
    if i < 4 then bitOf t.fbe.toNat i
    else if i + 4 ≥ t.data.length && t.lbe != 0 then bitOf t.lbe.toNat (i + 4 - t.data.length) else true

/-- A train's access at a Hut offset. -/
def hutReqOf (t : Train) : HutReq :=
  { vh := Fin.ofNat 24 t.vh, src := Fin.ofNat 50 t.src, rid := t.t.reqId, tag := t.t.tag, addr := BitVec.ofNat 23 t.t.addr.toNat,
    len := if isAtomic t.t.kind then (if t.t.kind == .cas then t.t.data.length / 2 else t.t.data.length) else if t.t.kind == .mwr then t.t.data.length
      else t.t.len,
    data := t.t.data, be := tlpEnables t.t, poisoned := t.t.ep, tc := t.t.tc, normal := decide (t.t.addr.toNat % 2 ^ 26 / 2 ^ 23 = 1) }

/-- The operation of an access in its alias (R307): 0 Device read, 1 Device write, 2 Normal read, 3 Normal write, 4 Reserve read, 5 Conditional
write, 6 AtomicOp; none where the alias refuses it. -/
def hutOp (al : Nat) (k : TlpKind) : Option Nat :=
  if al = 0 then (if k == .mrd then some 0 else if k == .mwr then some 1 else some 6)
  else if al = 1 then (if k == .mrd then some 2 else if k == .mwr then some 3 else some 6)
  else if al = 2 then (if k == .mrd then some 4 else none)
  else if al = 3 then (if k == .mwr then some 5 else none)
  else none

def atomOf (k : TlpKind) : Option AtomKind :=
  if k == .fetchAdd then some .fetchAdd else if k == .swap then some .swap else if k == .cas then some .cas else none

/-- HUT.CTL_FENCE_STS (R334). -/
def VhCtl.sts (c : VhCtl) : Nat :=
  c.seq * 2 ^ 48 + c.loss * 2 ^ 32 + c.outstanding * 2 ^ 16 + c.firstCause * 2 ^ 12 + c.refuseCode * 2 ^ 10 + b2n c.refused * 2 ^ 9 + b2n c.scope * 2 ^ 8 +
    c.st

/-- HUT.CTL_MON_STS of a requester (R335). -/
def State.monSts (s : State) (q : HutReq) : Nat :=
  match s.hut.mons.find? (·.of q) with
  | some m => 2 ^ 63 + b2n m.held * 2 ^ 62 + m.result * 2 ^ 60 + m.cause * 2 ^ 56 + m.seq * 2 ^ 48 + m.granule
  | none => 0

/-- Is a control-page register defined at an 8 B aligned offset (R333)? -/
def ctlDefined (off : Nat) : Bool :=
  decide (off ≤ 0x20) || (decide (0x100 ≤ off) && decide (off < 0x1C0)) || (decide (0x200 ≤ off) && decide (off < 0x2C0))

/-- A read of a control-page register (R330, R333); a read of the half that holds PEND clears it. -/
def State.ctlRead (s : State) (q : HutReq) (off : Nat) (low : Bool) : Nat × State :=
  let v := q.vh.val
  let c := s.vctl v
  if off = 0x08 then (c.sts, s)
  else if off = 0x10 then (c.lossAddr, s)
  else if off = 0x18 then (s.monSts q, s)
  else if off = 0x20 then (if low then s.dbPendTake v else (0, s))
  else if 0x200 ≤ off then (Tab.getD c.dbData ((off - 0x200) / 8) 0, s)
  else (0, s)

/-- A control-page access (R331, R333): 4 B, or aligned 8 B, to a defined register. The write of CTL_FENCE took effect at its lookup instant; here it
arrives (R327). -/
def State.hutControl (s : State) (t : Train) : State :=
  let q := hutReqOf t
  let k := t.t.kind
  let a := t.t.addr.toNat
  let off := a % 4096
  let n := accLen t.t
  if t.t.ep then s.hutRefuse q k t.id Ev.HUT_POISON a .ur
  else if !((n == 4 && off % 4 == 0) || (n == 8 && off % 8 == 0)) || !ctlDefined (off / 8 * 8) then s.hutRefuse q k t.id Ev.HUT_CTL a .ur
  else if k == .mwr then
    let s :=
      if off = 0 then s.fenceArrive q.vh.val
      else if 0x100 ≤ off ∧ off < 0x200 ∧ off % 8 = 0 then s.dbRing t.src q.vh.val (s.hutRid q t.id) ((off - 0x100) / 8) (leNat (t.t.data.take 4)) t.stamp t.sentAddr
      else s
    s.hutResolve t.id
  else
    let (x, s) := s.ctlRead q (off / 8 * 8) (off % 8 == 0)
    (s.hutReply q (if n = 4 then leBytes 4 (x / 2 ^ (8 * (off % 8))) else leBytes 8 x) fun _ _ => false).hutResolve t.id

/-- The path of a train to the management endpoint: MANAGER only on the VH's HOST port (R450). -/
def State.mePath (s : State) (t : Train) : Path :=
  .host (Fin.ofNat 24 t.vh) t.t.reqId (t.src == s.get (F.VH.VH_BIND.HOST_PORT t.vh)) t.t.ep

/-- A train arrives at the Hut (R307, R331, R338, R455). What comes through an alias, and every AtomicOp, a fence may hold, also where it is then refused
(R327). In SAFE the Hut serves nothing (R358). -/
def State.hutDeliver (s : State) (t : Train) : State :=
  let a := t.t.addr.toNat % 2 ^ 26
  let q := hutReqOf t
  let bad : HutAcc := { op := 0, r := q, train := t.id, refused := some (t.t.kind, a) }
  if s.phase = 4 then (if isNpKind t.t.kind then s.hutStatus q t.t.kind .ca else s).hutResolve t.id
  else if t.t.kind == .mrdLk then ((s.deny (s.mePath t) (a % 2 ^ 25) false 9).hutStatus q .mrdLk .ur).hutResolve t.id
  else if s.phase ≤ 1 then s.hutRefuse q t.t.kind t.id Ev.HUT_CROSS a .ur
  else if 0x2000000 ≤ a then
    if isAtomic t.t.kind then s.hutArrive bad else if a < 0x2001000 then s.hutControl t else s.hutDo bad
  else
    match hutOp (a / 2 ^ 23) t.t.kind with
    | some op => s.hutArrive { op := op, r := q, atom := atomOf t.t.kind, train := t.id }
    | none => s.hutArrive bad

/-- May the yard hand a train over: the Hut takes none of a VH whose hold queue is full (R327). -/
def State.deliverRoom (s : State) (t : Train) : Bool := t.dst != 48 || s.hutRoom t.vh

/-! ### The management endpoint -/

/-- DESC[i] as a VH sees it (R399). -/
def State.ctrDesc (s : State) (v i : Nat) : Nat :=
  let (code, fam, ev, inst) : Nat × Nat × Nat × Nat :=
    if i < 0x600 then (0, 0, i % 32, i / 32)
    else if i < 0x900 then (0, 1, (i - 0x600) % 4, (i - 0x600) / 4)
    else if i < 0xC60 then (0, 2, (i - 0x900) % 36, (i - 0x900) / 36)
    else if i < 0xCB0 then (0, 3, (i - 0xC60) % 16, (i - 0xC60) / 16)
    else if i < 0xD20 then (0, 4, (i - 0xCB0) % 8, (i - 0xCB0) / 8)
    else if i < 0xD50 then (0, 5, i - 0xD20, 0)
    else match (if 0xE00 ≤ i then eventRows[i - 0xE00]? else none) with
      | some r => (r.code, 6, 0, 0)
      | none => (0, 7, 0, 0)
  let pair : Bool := if i % 2 = 1 then s.chained i else s.chained (i + 1)
  code * 2 ^ 48 + fam * 2 ^ 45 + ev * 2 ^ 39 + inst * 2 ^ 31 + b2n (s.ctrSeen v i).isSome * 2 ^ 30 + b2n pair * 2 ^ 29

/-- The 64-bit word of BAR4 at an offset as VH v sees it (R399): all 0 while it is closed to the VH; a tenant reads 0 of a counter it does not own. -/
def State.bar4 (s : State) (v off : Nat) : Nat :=
  let on := bitOf (s.get F.VH.PMU_USER_EN.EN) v
  if off = 0x10000 then (if on then 3530 * 2 ^ 48 + 2 ^ 32 + 1 else 0)
  else if !on ∨ 0x10000 ≤ off then 0
  else
    let i := off % 0x8000 / 8
    match s.ctrSeen v i with
    | some x => if off < 0x8000 then x % 2 ^ 40 else s.ctrDesc v i
    | none => if off < 0x8000 || v != s.managerVh then 0 else s.ctrDesc v i

/-- The VH's completion for a request of a train that reached the management endpoint. -/
def State.meReply (s : State) (t : Train) (st : CplSt) (data : List Byte) : State :=
  if !isNpKind t.t.kind then s
  else s.inject { id := 0, src := 49, vh := some t.vh, eg := some t.src, t := cplFor t.t st (s.get (F.GW.GW_RID.RID t.vh)) data }

/-- A read or write of BAR4: reads of 4 or 8 B, aligned; writes are discarded (R399). -/
def State.meBar4 (s : State) (t : Train) (off : Nat) : State :=
  let n := t.t.len
  let s :=
    if t.t.kind == .mrd && ((n == 4 && off % 4 == 0) || (n == 8 && off % 8 == 0)) then
      let x := s.bar4 t.vh (off / 8 * 8)
      s.meReply t .sc (if n = 4 then leBytes 4 (x / 2 ^ (8 * (off % 8))) else leBytes 8 x)
    else if t.t.kind == .mrdLk then (s.deny (s.mePath t) off false 9).meReply t .ur []
    else s.meReply t .ur []
  s.hutResolve t.id

/-- An access to BAR0 from a train (R445, R450, R455); other non-posted kinds are answered UR. -/
def State.meBar0 (s : State) (t : Train) (off : Nat) : State :=
  let k := t.t.kind
  let src := s.mePath t
  let w : WaitAcc := { src := src, who := lockerOf src, addr := off, len := accLen t.t, write := k == .mwr, value := leNat t.t.data, lock := k == .mrdLk, req := some (t.src, t.t), train := t.id }
  if k == .mrd || k == .mrdLk || k == .mwr then s.access w
  else ((s.deny src off false 2).meReply t .ur []).hutResolve t.id

/-- A poisoned request to a configuration space or to BAR4 is not performed (R347); one to BAR0 meets the RPU. -/
def State.mePoison (s : State) (t : Train) : State :=
  let s := s.raiseTrain Ev.HUT_POISON t.src t.vh t.rx 49 t.sentAddr 0 (isNpKind t.t.kind)
  (if isCfgKind t.t.kind then s.cfgReply t.vh (cfgReqOf t.t) .ur 0 else s.meReply t .ur []).hutResolve t.id

/-- A train arrives at the management endpoint. Its address is its BAR number times 2^32 and the offset there. A vendor-defined message of the
MCTP binding carries a packet for the SPDM responder (R8; notes/assumptions/12.md). In SAFE only configuration requests and reads are served (R358). -/
def State.meDeliver (s : State) (t : Train) : State :=
  let a := t.t.addr.toNat
  if t.t.ep && (isCfgKind t.t.kind || (isMem t.t.kind && a / 2 ^ 32 == 4)) then s.mePoison t
  else if isCfgKind t.t.kind then (s.cfgDeliver t.vh (cfgReqOf t.t)).hutResolve t.id
  else if t.t.kind == .msgD && t.t.code == 0x7F && a % 65536 == 0x1AB4 then
    (s.mctpPacket (.vdm (Fin.ofNat 24 t.vh)) (leBytes 4 (a / 2 ^ 32) ++ t.t.data)).hutResolve t.id
  else if !isMem t.t.kind then s.hutResolve t.id
  else if s.phase = 4 && t.t.kind != .mrd then (s.meReply t .ca []).hutResolve t.id
  else if a / 2 ^ 32 = 4 then s.meBar4 t (a % 2 ^ 32)
  else s.meBar0 t (a % 2 ^ 32)

/-- The yard of plane port 12 or 13 hands over a whole train. -/
def State.deliver (s : State) (t : Train) : State := if t.dst = 48 then (s.putTrain t).hutDeliver t else (s.putTrain t).meDeliver t

end Sys2Proof.Machine
end

