-- ==== Sys2Proof/Machine/Ascent.lean ====
section
/-! DEFINITION. Ascent: the Guide applies the configuration records of the booted image, one record or commit group at a command (15_bringup.md
R428, R431, R433). -/
namespace Sys2Proof.Machine

/-- Records of the booted slot's configuration area, in stored order (R426, R428). -/
def State.cfgRecs (s : State) : List FlashRec :=
  match s.boot.booted with
  | none => []
  | some i =>
    let base := slotBase i + 0x800000
    let n := min (s.slotHdr i).cfgLen 0x200000
    (s.flashRecs (n / 12 + 1) base).takeWhile fun (r : FlashRec) => decide (r.off < base + n)

/-- What is wrong with a record of the configuration area, as FAIL_KIND: 1 CRC, 2 format; 0 for nothing. -/
def FlashRec.cfgFault (r : FlashRec) : Nat :=
  if r.len < 12 ∨ r.len % 4 ≠ 0 then 2 else if !r.crcOk then 1 else if !r.formatOk || !(r.ty == 0x0201 || r.ty == 0x0202) then 2 else 0

def FlashRec.isWin (r : FlashRec) : Bool := r.cfgFault == 0 && r.ty == 0x0202

/-- Page, offset, value and mask of a REG_WRITE. -/
def FlashRec.page (r : FlashRec) : Nat := leNat (r.value.take 2)
def FlashRec.offset (r : FlashRec) : Nat := leNat ((r.value.drop 4).take 4)
def FlashRec.val (r : FlashRec) : Nat := leNat ((r.value.drop 8).take 8)
def FlashRec.mask (r : FlashRec) : Nat := leNat ((r.value.drop 16).take 8)

/-- The next record of a phase from a cursor: its index and itself. -/
def nextRec (want : FlashRec → Bool) : List FlashRec → Nat → Option (Nat × FlashRec)
  | [], _ => none
  | r :: rest, i => if want r then some (i, r) else nextRec want rest (i + 1)

/-- A record or commit group fails and is skipped: ASCENT_STS, and FLASH_REC_BAD with the record's index. -/
def State.recFail (s : State) (idx kind : Nat) : State :=
  let first := s.get F.CHIP.ASCENT_STS.FAILED = 0
  let s := s.set F.CHIP.ASCENT_STS.FAILED (s.get F.CHIP.ASCENT_STS.FAILED + 1)
  let s := if first then s.sets [(F.CHIP.ASCENT_STS.FIRST_FAIL, idx), (F.CHIP.ASCENT_STS.FAIL_KIND, kind)] else s
  s.raise Ev.FLASH_REC_BAD { inst := idx }

def State.recDone (s : State) : State := s.set F.CHIP.ASCENT_STS.APPLIED (s.get F.CHIP.ASCENT_STS.APPLIED + 1)

/-! ### Whether a write was refused, and how its operation stands -/

/-- The field of a register that says its last write was refused, and whether it stays set over later writes. -/
def refusalFld (page off : Nat) : Option (Fld × Bool) :=
  let k := off % 32 / 8
  if page = 0x03 ∧ off = 0x100 then some (F.TIME.SRC_CTL.REFUSED, false)
  else if page = 0x03 ∧ off = 0x110 then some (F.TIME.STS.SET_REFUSED, true)
  else if 0x10 ≤ page ∧ page ≤ 0x1B ∧ off = 0x100 then some (F.STN.BIFURC.REFUSED (page - 0x10), false)
  else if 0x10 ≤ page ∧ page ≤ 0x1B ∧ 0x110 ≤ off ∧ off < 0x130 then some (F.STN.PORT_ROLE.REFUSED (4 * (page - 0x10) + (off - 0x110) / 8), false)
  else if 0x30 ≤ page ∧ page ≤ 0x3B ∧ 0x100 ≤ off ∧ off < 0x120 then some (F.EGR.TCVC.REFUSED (4 * (page - 0x30) + k), false)
  else if 0x30 ≤ page ∧ page ≤ 0x3B ∧ 0x120 ≤ off ∧ off < 0x160 then some (F.EGR.GATE_STS.WR_DROP (4 * (page - 0x30) + k), true)
  else if 0x30 ≤ page ∧ page ≤ 0x3B ∧ 0x4000 ≤ off ∧ off < 0x6000 then some (F.EGR.GATE_STS.WR_DROP (4 * (page - 0x30) + (off - 0x4000) / 0x800), true)
  else if page = 0x41 ∧ off = 0x100 then some (F.ROUTE.NODE_ID.REFUSED, false)
  else if page = 0x41 ∧ 0x800 ≤ off ∧ off < 0x8C0 then some (F.ROUTE.ROPE_PAIR.REFUSED ((off - 0x800) / 8), false)
  else if page = 0x43 ∧ 0x200 ≤ off ∧ off < 0x2C0 then some (F.VH.VH_BIND.REFUSED ((off - 0x200) / 8), false)
  else if page = 0x43 ∧ 0x8000 ≤ off then some (F.VH.VF_MAP0.WR_DROP ((off - 0x8000) / 0x20), true)
  else if page = 0x45 ∧ 0x1000 ≤ off ∧ off < 0x2000 then some (F.DIRTY.DL_SLOT0.REFUSED ((off - 0x1000) / 0x10), false)
  else if page = 0x59 ∧ (off = 0x108 ∨ off = 0x110) then some (F.LOG.LOG_BASE.REFUSED, false)
  else if page = 0x5B ∧ off = 0x110 then some (F.TRACE.RING.REFUSED, false)
  else if 0x100 ≤ page ∧ off = 0x118 then some (F.LANE.PATGEN.REFUSED (page - 0x100), false)
  else if 0x100 ≤ page ∧ off = 0x158 then some (F.LANE.LOOPBACK.REFUSED (page - 0x100), false)
  else none

/-- How the action of a LINK_CTL write stands, the first that R85 lets act: a hot reset and a retraining until the link has left their states, a width
change by its result. -/
def State.linkOp (s : State) (p v : Nat) : Nat :=
  let st := (s.port p).under
  let r := s.get (F.STN.LINK_CTL.WIDTH_RESULT p)
  if bitOf v 4 || bitOf v 8 then 1
  else if bitOf v 3 then (if st = 9 then 0 else 1)
  else if bitOf v 1 then (if 1 ≤ st ∧ st ≤ 5 then 0 else 1)
  else if r = 2 then 0 else if r = 4 ∨ r = 5 then 2 else 1

/-- Has the action of a LINK_CTL write anything to do (R85)? -/
def State.linkOpActs (s : State) (p v : Nat) : Bool :=
  let st := (s.port p).under
  if bitOf v 4 || bitOf v 8 then false
  else if bitOf v 3 then s.role p == 2 && s.linkUp p
  else if bitOf v 1 then !s.linkHeld p && (st == 6 || (s.role p == 3 && st == 0xD) || (s.role p != 3 && st == 8))
  else bitOf v 2

/-- Does a write start an operation that Ascent waits for? -/
def State.startsOp (s : State) (page off v : Nat) : Bool :=
  setsW1S page off v &&
    (!decide (0x10 ≤ page ∧ page ≤ 0x1B ∧ 0x130 ≤ off ∧ off < 0x150) || s.linkOpActs (4 * (page - 0x10) + (off - 0x130) / 8) v)

/-- How the operation a register started stands: 0 it runs, 1 it is done, 2 it ended refused. -/
def State.opState (s : State) (page off : Nat) : Nat :=
  let by3 (r busy bad : Nat) : Nat := if r = busy then 0 else if r = bad then 2 else 1
  if page = 0x40 ∧ (off = 0x40 ∨ off = 0x108) then
    (if s.get F.XLAT.WIN_STATUS.STATE = 1 ∨ s.get F.XLAT.WIN_STATUS.STATE = 2 then 0 else if s.get F.XLAT.WIN_STATUS.RESULT = 2 then 2 else 1)
  else if off = 0x40 then
    (if s.get (F.HDR.SHADOW_CTL.STATE page) ≠ 0 then 0 else if s.get (F.HDR.SHADOW_CTL.RESULT page) = 2 then 2 else 1)
  else if page = 0x40 ∧ off = 0x118 then (if s.flag F.XLAT.TC_CTL.INV_BUSY then 0 else 1)
  else if page = 0x05 ∧ off = 0x118 then
    (if s.updRunning || s.boot.updWaits then 0 else if s.get F.FLASH.UPD_STS.STATE = 8 ∨ s.get F.FLASH.UPD_STS.FAULT = 10 then 2 else 1)
  else if 0x10 ≤ page ∧ page ≤ 0x1B ∧ 0x130 ≤ off ∧ off < 0x150 then
    s.linkOp (4 * (page - 0x10) + (off - 0x130) / 8) s.boot.ascValue
  else if page = 0x28 ∧ off = 0x110 then (if s.flag F.BUF.CENSUS_STS.BUSY then 0 else 1)
  else if page = 0x28 ∧ off = 0x120 then (if s.get F.BUF.BANK_STS.STATE ≠ 0 then 0 else 1)
  else if 0x30 ≤ page ∧ page ≤ 0x3B ∧ 0x120 ≤ off ∧ off < 0x140 then
    let p := 4 * (page - 0x30) + (off - 0x120) / 8
    if (Tab.get? s.core.gateChk p).isSome then 0 else if s.get (F.EGR.GATE_STS.RESULT p) = 2 then 2 else 1
  else if page = 0x43 ∧ off = 0x110 then by3 (s.get F.VH.VDSP_CMD.RESULT) 2 3
  else if page = 0x44 ∧ off = 0x108 then (if s.get F.CTX.CTX_ACCESS.RESULT = 2 then 0 else if s.get F.CTX.CTX_ACCESS.RESULT > 2 then 2 else 1)
  else if page = 0x45 ∧ off = 0x108 then (if s.get F.DIRTY.DL_HARVEST.STATE ≠ 0 then 0 else if s.get F.DIRTY.DL_HARVEST.RESULT = 2 then 2 else 1)
  else if page = 0x48 ∧ off = 0x120 then (if s.flag F.HUT.ZERO.BUSY then 0 else 1)
  else if page = 0x58 ∧ off = 0x100 then by3 (s.get F.ERR.CONTAIN_CTL.RESULT) 2 3
  else 1

/-- A command was refused because its target already stands in the state it produces (R433): a vDSP detached already or attached to the same
device, a context inserted or deleted already, a containment released already. -/
def State.opMoot (s : State) (page off v : Nat) : Bool :=
  if page = 0x43 ∧ off = 0x110 then
    let vh := s.get F.VH.VDSP_CMD.VH
    let d := s.get F.VH.VDSP_CMD.DEV
    let k := s.get (F.VH.VDSP.KIND vh d)
    if bitsOf v 62 60 = 1 then
      k == s.get F.VH.VDSP_CMD.KIND && k != 0 &&
        (if k = 3 then s.get (F.VH.VDSP.VFI vh d) == s.get F.VH.VDSP_CMD.VFI else s.get (F.VH.VDSP.PORT vh d) == s.get F.VH.VDSP_CMD.PORT)
    else k == 0
  else if page = 0x44 ∧ off = 0x108 then
    (bitsOf v 62 60 == 3 && s.get F.CTX.CTX_ACCESS.RESULT == 5) || (bitsOf v 62 60 == 4 && s.get F.CTX.CTX_ACCESS.RESULT == 3)
  else if page = 0x58 ∧ off = 0x100 then bitsOf v 62 60 == 2 && s.get F.ERR.CONTAIN_CTL.FAULT == 6
  else false

/-! ### The phases -/

/-- What a REG_WRITE reads as the register's old value: what its fields hold, SH fields as staged. -/
def State.oldReg (s : State) (page off : Nat) : Nat :=
  match regAt page off with
  | none => 0
  | some r => r.fields.foldl (fun acc d =>
      let f := d.toFld page off
      acc + (match d.acc with
        | .sh => s.shadowOf f
        | .wo => 0
        | .w1s => if page = 0x08 then s.get f else 0
        | _ => s.fieldNow page off d) * 2 ^ d.lo) 0

/-- The value a REG_WRITE writes. -/
def maskIn (old v m : Nat) : Nat := (List.range 64).foldl (fun acc i => if bitOf m i then withBit acc i (bitOf v i) else acc) (old % 2 ^ 64)

/-- The Guide's next record waits for the pitch that admits it (R386). -/
def ascJob : Job := ⟨6, 0, 0, 0x200, true, .ascent⟩

/-- Make the write of a record: with GUIDE privilege, inside the Guide's allowance. Its operation, if it starts one, is waited for. -/
def State.recWrite (s : State) (idx page off v : Nat) : State :=
  let w := writeAcc .guide (page * 65536 + off) 8 v
  match s.gateAcc w with
  | .deny c a => (s.denyWrite .guide a c).recFail idx 3
  | .wait => s
  | .discard => s
  | .go =>
    if !s.canSpend 6 1 0 then s.defer ascJob
    else
      let op := s.startsOp page off v
      match refusalFld page off with
      | some (f, sticky) =>
        let was := s.get f
        let s := (s.set f 0).performAcc w
        let bad := s.flag f
        let s := if sticky && was ≠ 0 then s.set f 1 else s
        if bad then s.recFail idx 3
        else if op then { s with boot := { s.boot with ascWait := some (idx, page, off), ascValue := v } }
        else s.recDone
      | none =>
        let s := s.performAcc w
        if op then { s with boot := { s.boot with ascWait := some (idx, page, off), ascValue := v } } else s.recDone

/-- The operation Ascent waits for is looked at: in phase 3 a commit. -/
def State.recAwait (s : State) (idx page off : Nat) : State :=
  let st := s.opState page off
  let finish (s : State) : State := { s with boot := { s.boot with ascWait := none } }
  if s.get F.CHIP.ASCENT_STS.PHASE = 3 then (if st = 0 then s else if st = 2 then (finish s).recFail idx 5 else finish s)
  else if st = 0 then s
  else if st = 1 || (s.boot.ascAgain && s.opMoot page off s.boot.ascValue) then (finish s).recDone
  else (finish s).recFail idx 4

/-- Does a write give a port the role FAB? -/
def setsFab (page off v : Nat) : Bool := decide (0x10 ≤ page ∧ page ≤ 0x1B ∧ 0x110 ≤ off ∧ off < 0x130) && v % 4 == 3

/-- Phase 1, on a record at an index: it is applied, held or skipped, and the cursor passes it. -/
def State.ascReg (s : State) (idx : Nat) (r : FlashRec) : State :=
  let past (s : State) : State := { s with boot := { s.boot with ascIdx := idx + 1 } }
  if r.cfgFault ≠ 0 then (past s).recFail idx r.cfgFault
  else if r.page ≥ 512 ∨ r.offset ≥ 65536 then (past s).recFail idx 3
  else
    let v := maskIn (s.oldReg r.page r.offset) r.val r.mask
    if setsFab r.page r.offset v then
      past { s with boot := { s.boot with heldFab := s.boot.heldFab ++ [{ idx := idx, page := r.page, off := r.offset, value := r.val, mask := r.mask }] } }
    else
      match s.gateAcc (writeAcc .guide (r.page * 65536 + r.offset) 8 v) with
      | .wait => s
      | _ => if s.canSpend 6 1 0 then (past s).recWrite idx r.page r.offset v else s.defer ascJob

/-- Phase 2, on a WIN_ENTRY: written straight into the WRT, in the GUIDE class (R24). -/
def State.ascWin (s : State) (idx : Nat) (r : FlashRec) : State :=
  let i := leNat (r.value.take 4)
  let w := (List.range 8).map fun k => leNat ((r.value.drop (8 + 8 * k)).take 8)
  let s : State := { s with boot := { s.boot with ascIdx := idx + 1 } }
  if i ≥ 524288 then s.recFail idx 2
  else
    let s := s.spend 6 0 1
    ({ s with xlat := { s.xlat with wrt := Tab.setD s.xlat.wrt i w zeroEntry },
              boot := { s.boot with ascEntries := s.boot.ascEntries ++ [i] } } : State).recDone

/-- The pages phase 3 commits, ascending: those with staged writes, and XLAT for the entries of phase 2. -/
def State.ascCommits (s : State) : List Nat :=
  [0x28, 0x29, 0x40, 0x41, 0x48].filter fun pg => s.flag (F.HDR.SHADOW_CTL.DIRTY pg) || (pg == 0x40 && !s.boot.ascEntries.isEmpty)

/-- Index of the first record of a page's commit group. -/
def State.groupIdx (s : State) (pg : Nat) : Nat :=
  match nextRec (fun r => r.cfgFault == 0 && ((r.ty == 0x0201 && r.page == pg) || (pg == 0x40 && r.ty == 0x0202))) s.cfgRecs 0 with
  | some (i, _) => i
  | none => 0

/-- The checks of R159 over the apertures and then over the entries of phase 2. -/
def State.ascEntFault (s : State) : Option WinFault :=
  match aptFaults s.aptReserved s.aptShadows [] with
  | some f => some f
  | none => s.updFaults s.aptShadows (s.boot.ascEntries.map fun i => (i, s.wrtDram i ++ [1])) 0 []

/-- Phase 3, on a page: its commit starts. -/
def State.ascCommit (s : State) (pg : Nat) (rest : List Nat) : State :=
  let idx := s.groupIdx pg
  let s : State := { s with boot := { s.boot with ascPages := rest, ascWait := some (idx, pg, 0x40) } }
  if pg ≠ 0x40 then s.shadowStart pg
  else
    match s.ascEntFault with
    | some f => (s.winResult 2 f).sets [(F.HDR.SHADOW_CTL.RESULT 0x40, 2), (F.HDR.SHADOW_CTL.FAULT 0x40, 2), (F.HDR.SHADOW_CTL.FAULT_OFF 0x40, f.off)]
    | none => s.winGo

/-- Go to a phase. -/
def State.ascPhase (s : State) (n : Nat) : State := ({ s with boot := { s.boot with ascIdx := 0 } } : State).set F.CHIP.ASCENT_STS.PHASE n

/-- ASCENT_RECORD_APPLY: the next record or commit group of the current phase, or the next phase when it has none. -/
def State.ascStep (s : State) : State :=
  if s.phase ≠ 2 || !s.guideOn then s
  else
    match s.boot.ascWait with
    | some (i, p, o) => s.recAwait i p o
    | none =>
      let recs := s.cfgRecs.drop s.boot.ascIdx
      let ph := s.get F.CHIP.ASCENT_STS.PHASE
      if ph = 1 then
        match nextRec (fun r => !r.isWin) recs s.boot.ascIdx with
        | some (i, r) => s.ascReg i r
        | none => s.ascPhase 2
      else if ph = 2 then
        match nextRec FlashRec.isWin recs s.boot.ascIdx with
        | some (i, r) => if s.canSpend 6 0 1 then s.ascWin i r else s.defer ascJob
        | none => ({ s with boot := { s.boot with ascPages := s.ascCommits } } : State).ascPhase 3
      else if ph = 3 then
        match s.boot.ascPages with
        | pg :: rest => if s.get (F.HDR.SHADOW_CTL.STATE pg) = 0 then s.ascCommit pg rest else s
        | [] => s.ascPhase 4
      else if ph = 4 then
        match s.boot.heldFab with
        | h :: rest =>
          let v := maskIn (s.oldReg h.page h.off) h.value h.mask
          match s.gateAcc (writeAcc .guide (h.page * 65536 + h.off) 8 v) with
          | .wait => s
          | _ =>
            if s.canSpend 6 1 0 then ({ s with boot := { s.boot with heldFab := rest } } : State).recWrite h.idx h.page h.off v else s.defer ascJob
        | [] => s.ascPhase 5
      else s

/-- ASCENT_RECORD_TIMEOUT: the operation waited for has taken 1 s. -/
def State.ascTimeout (s : State) : State :=
  match s.boot.ascWait with
  | some (i, p, o) =>
    if s.phase = 2 && s.guideOn && s.opState p o = 0 then ({ s with boot := { s.boot with ascWait := none } } : State).recFail i 6 else s
  | none => s

end Sys2Proof.Machine
end

