-- ==== Sys2Proof/Machine/Pitch.lean ====
section
/-! DEFINITION. The pitch (13_dependability.md R386 to R390): waiting work is served as allowances are reloaded. -/
namespace Sys2Proof.Machine

/-- What waiting work does once its class has paid for it. -/
def State.perform (s : State) (a : Act) : State :=
  match a with
  | .sramRow m row cause => s.sramMove m row cause
  | .dramRow ch bank row cause => s.dramMove ch bank row cause
  | .writeBack => s
  | .scrub addr r pos => s.scrubSeen addr r pos
  | .rowScrub m row r words => s.rowSeen m row r words
  | .zero j => s.dlZeroEnd j
  | .clear => s.hvClearEnd
  | .merge => s.hvMergeEnd
  | .harvest => s.hvMore
  | .context => s.ctxPaid
  | .overlay => s.overlayDone
  | .hutZero => s.hutZeroEnd
  | .commit page => if s.get (F.HDR.SHADOW_CTL.STATE page) = 2 then s.shadowApply page else s
  | .checkpoint => s
  | .sense => s.senseDone
  | .measured ms osc => s.measureSeen ms osc
  | .publish => s.publish
  | .cairn => s.cairnPut
  | .alarm => s.alarmPut
  | .dmaBatch => s.dmaBatch 1
  | .ascent => s.ascStep

/-- May a job have a turn: an access of each kind it still needs is admitted (R388)? -/
def State.admits (s : State) (j : Job) : Bool := s.canSpend j.cls (min 1 j.reg) (min 1 j.dram)

/-- A job's turn: a single access is paid for whole; of other work one access of each kind, or all the allowance covers when no other job of the class
waits. -/
def State.jobShare (s : State) (j : Job) (alone : Bool) : Nat × Nat :=
  if j.whole then (j.reg, j.dram)
  else if alone then (min j.reg (s.leftReg j.cls), min j.dram (s.leftDram j.cls))
  else (min 1 j.reg, min 1 j.dram)

/-- One turn of a class: its first job that is admitted pays; done, it is performed, else it goes behind the others (R388, round robin). -/
def State.jobTurn (s : State) (j : Job) : State :=
  let rest := s.jobs.erase j
  let (r, d) := s.jobShare j (!(rest.any fun x => x.cls == j.cls))
  let s := ({ s with jobs := rest } : State).spend j.cls r d j.page
  if j.reg ≤ r ∧ j.dram ≤ d then s.perform j.act else { s with jobs := s.jobs ++ [{ j with reg := j.reg - r, dram := j.dram - d }] }

/-- Turns of a class while a job of it is admitted; what still waits has been turned away. -/
def State.serveClass (s : State) (c : Nat) : Nat → State
  | 0 => s
  | n + 1 =>
    match s.jobs.find? fun j => j.cls == c && s.admits j with
    | some j => (s.jobTurn j).serveClass c n
    | none => if s.jobs.any fun j => j.cls == c then s.turnedAway c else s

/-- PITCH_START: allowances are reloaded, and work that waited for one goes on: the census, the waiting jobs of each class, and log records. -/
def State.pitchStart (s : State) : State :=
  let s := (List.range 8).foldl (fun s c => s.reload c) s
  let s := (s.sets [(F.BUDGET.PITCH_STS.PITCH, s.get F.BUDGET.PITCH_STS.PITCH + 1), (F.BUDGET.PITCH_STS.OVERSUB, b2n s.oversub)]).count (Ctr.dev 43) 1
  let s : State := { s with tele := { s.tele with wrote := (0, 0, 0) }, blockUse := [] }
  let s := ((List.range 8).foldl (fun s c => s.serveClass c (s.leftReg c + s.leftDram c + s.jobs.length)) s.censusWalk).marginStart
  let s := s.drainQueue s.tele.queue.length
  (s.freezeEnd (s.freezeDrain s.tele.freezeQ.length)).selfTests

end Sys2Proof.Machine
end

