-- ==== Sys2Proof/Machine/AgeingCmd.lean ====
section
/-! DEFINITION. The commands of self-repair, acclimatisation, ageing and the activity budgets (13_dependability.md R366 to R390;
18_pins_power_package.md R495). -/
namespace Sys2Proof.Machine

/-- R366, R367: an SRAM row goes to a redundant one. -/
def execSramRowRepair (macroId : BitVec 16) (row : BitVec 24) (ue : Bool) (s : State) : Res :=
  whenUpS s fun s => s.sramRepair macroId.toNat row.toNat (s.rowCause ue)

/-- R373: a DRAM row goes to a reserve row of its channel. -/
def execDramRowRepair (ch : Fin 4) (bank : BitVec 4) (row : BitVec 24) (ue : Bool) (s : State) : Res :=
  whenUpS s fun s => s.dramRepair ch.val bank.toNat row.toNat (s.rowCause ue)

/-- R371 to R373: a patrol scrub read of the DRAM, with the byte position of a correction. -/
def execScrubRead (addr : BitVec 32) (res : DramRes) (pos : BitVec 6) (s : State) : Res := whenUpS s fun s => s.scrubRead addr.toNat res pos.toNat

/-- R308, R366, R387: a scrub of an SRAM row; in a Hut bank the words named are those with an error, by Hut offset in 8 B. -/
def execSramScrub (macroId : BitVec 16) (row : BitVec 24) (res : DramRes) (hutWords : List (BitVec 20)) (s : State) : Res :=
  whenUpS s fun s => s.sramScrub macroId.toNat row.toNat res (hutWords.map BitVec.toNat)

/-- R377: an acclimatisation pass falls due. -/
def execAcclPassStart (s : State) : Res := whenUpS s State.passDue

/-- R377: a write of AGE.ACCL_CFG with RUN set. -/
def execAcclRun (src : Path) (v : Word) (s : State) : Res := regWr s src 0x61 0x100 (withBit v.toNat 62 true)

/-- R380: a margin measurement of the pass ends, with M of every supply domain and every oscillator's frequency. -/
def execMarginMeasureDone (ms : List (BitVec 3)) (osc : List (BitVec 16)) (s : State) : Res :=
  whenUpS s fun s => s.measured (ms.map BitVec.toNat) (osc.map BitVec.toNat)

/-- R378, R384: the pass publishes and ends. -/
def execAcclPassEnd (s : State) : Res := whenUpS s State.passEnd

/-- R381: a margin monitor asks for a fast step. -/
def execFastGuardStep (s : State) : Res := whenUpS s State.fastStep

/-- R384: a minute at junction temperature `tj`. -/
def execEqHoursTick (tj : BitVec 12) (s : State) : Res := whenUpS s fun s => s.minute tj.toNat

/-- R386 to R390: a pitch of 100 µs begins. -/
def execPitchStart (s : State) : Res := whenUpS s State.pitchStart

/-- R495: the AVSBus transaction in flight ends. -/
def execAvsTransactionDone (ok : Bool) (mv ca : BitVec 16) (s : State) : Res := whenUpS s fun s => s.avsDone ok mv.toNat ca.toNat

/-- R495: SETTLE_US after a voltage was accepted. -/
def execAvsSettleDone (s : State) : Res := whenUpS s State.avsSettled

end Sys2Proof.Machine
end

