-- ==== Sys2Proof/Machine/AscentCmd.lean ====
section
/-! DEFINITION. The commands of Ascent (15_bringup.md R433). -/
namespace Sys2Proof.Machine

/-- R433: the Guide applies the next record or commit group. -/
def execAscentRecordApply (s : State) : Res := whenUpS s State.ascStep

/-- R433: a record's operation has not finished within 1 s. -/
def execAscentRecordTimeout (s : State) : Res := whenUpS s State.ascTimeout

end Sys2Proof.Machine
end

