-- ==== Sys2Proof/Machine/AttestCmd.lean ====
section
/-! DEFINITION. The commands of the test access port, the SPDM responder and debug unlock (16_management_access.md R466 to R468). -/
namespace Sys2Proof.Machine

/-! ### TAP instructions other than DAP_ACC (R466) -/

def execTapReset (s : State) : Res := whenPower s State.tapReset
def execBypass (s : State) : Res := whenPower s State.tapBypass
def execIdcode (s : State) : Res := whenPower s State.tapIdcode
def execSamplePreload (pins shiftIn : BitVec 512) (s : State) : Res := whenPower s fun s => s.tapSample pins.toNat shiftIn.toNat
def execExtest (pins shiftIn : BitVec 512) (s : State) : Res := whenPower s fun s => s.tapExtest pins.toNat shiftIn.toNat
def execExtestPulse (pins shiftIn : BitVec 512) (s : State) : Res := whenPower s fun s => s.tapLane 0x04 pins.toNat shiftIn.toNat
def execExtestTrain (pins shiftIn : BitVec 512) (s : State) : Res := whenPower s fun s => s.tapLane 0x05 pins.toNat shiftIn.toNat
def execHighz (s : State) : Res := whenPower s State.tapHighz

/-! ### SPDM requests (R468) -/

def execGetVersion (s : State) : Res := whenUpS s fun s => s.spdmFrom s.mgmt.spdmVia State.spdmVersion
def execGetCapabilities (s : State) : Res := whenUpS s fun s => s.spdmFrom s.mgmt.spdmVia State.spdmCapabilities
def execNegotiateAlgorithms (p384 sha384 : Bool) (s : State) : Res :=
  whenUpS s fun s => s.spdmFrom s.mgmt.spdmVia fun s => s.spdmAlgorithms p384 sha384
def execGetDigests (s : State) : Res := whenUpS s fun s => s.spdmFrom s.mgmt.spdmVia State.spdmDigests
/-- The part of the chain asked for is a free value, whatever its offset and length (notes/assumptions/9.md). -/
def execGetCertificate (slot : BitVec 4) (_off _len : BitVec 16) (s : State) : Res :=
  whenUpS s fun s => s.spdmFrom s.mgmt.spdmVia fun s => s.spdmCertificate slot.toNat
def execChallenge (slot : BitVec 4) (s : State) : Res :=
  whenUpS s fun s => s.spdmFrom s.mgmt.spdmVia fun s => s.spdmChallenge slot.toNat
def execGetMeasurements (index : BitVec 8) (signed : Bool) (s : State) : Res :=
  whenUpS s fun s => s.spdmFrom s.mgmt.spdmVia fun s => s.spdmMeasurements index.toNat signed
def execKeyExchange (slot : BitVec 4) (reqSession : BitVec 16) (s : State) : Res :=
  whenUpS s fun s => s.spdmFrom s.mgmt.spdmVia fun s => s.spdmKeyExchange slot.toNat reqSession.toNat
def execFinish (session : BitVec 32) (hmac : Verdict) (s : State) : Res :=
  whenUpS s fun s => s.spdmFrom s.mgmt.spdmVia fun s => s.spdmFinish session.toNat (hmac == .good)
def execEndSession (session : BitVec 32) (s : State) : Res :=
  whenUpS s fun s => s.spdmFrom s.mgmt.spdmVia fun s => s.spdmEnd session.toNat

/-! ### Debug unlock (R467) -/

def execDbgNonce (session : BitVec 32) (s : State) : Res :=
  whenUpS s fun s => s.spdmFrom s.mgmt.spdmVia fun s => s.dbgNonce session.toNat

/-- R467: 60 s have passed since the nonce was given. -/
def execDbgNonceExpiry (s : State) : Res := whenUpS s fun s => { s with mgmt := { s.mgmt with nonce := none } }

def execDbgUnlock (session : BitVec 32) (keyOk sigOk : Verdict) (s : State) : Res :=
  whenUpS s fun s => s.spdmFrom s.mgmt.spdmVia fun s => s.dbgUnlock session.toNat (keyOk == .good && sigOk == .good)

/-- R467: a write of ATTEST.DBG_CTL with RELOCK set. -/
def execDbgRelock (src : Path) (v : Word) (s : State) : Res := regWr s src 0x09 0x108 (withBit v.toNat 63 true)

end Sys2Proof.Machine
end

