-- ==== Sys2Proof/Machine/BootCmd.lean ====
section
/-! DEFINITION. The commands of power, resets, boot, images and flash, and those of the register conventions (15_bringup.md R420 to R440;
16_management_access.md R451; 17_register_conventions.md R469 to R487; 18_pins_power_package.md R493). -/
namespace Sys2Proof.Machine

/-! ### Resets -/

/-- R420, R493: PWR_OK rises; the internal reset is still held. -/
def execPwrOkRise (s : State) : Res := .next { s with pins := { s.pins with pwrOk := true } }

/-- R420: PWR_OK falls: a cold reset begins. -/
def execPwrOkFall (s : State) : Res := .next (if s.pins.pwrOk then s.coldReset else s)

/-- R421: SYS_RST_N is asserted: a warm reset. -/
def execSysRstNAssert (s : State) : Res := .next s.sysRst

/-- R493: the internal reset is released and the straps are latched. -/
def execInternalResetRelease (strap : BitVec 4) (sbAddr : BitVec 3) (s : State) : Res := .next (s.releaseReset strap.toNat sbAddr.toNat)

/-- R422: a write of CHIP.RESET_CTL with WARM set. -/
def execResetCtlWarm (src : Path) (v : Word) (s : State) : Res := regWr s src 0x00 0x110 (withBit v.toNat 63 true)

/-- R422: 10 µs after it. -/
def execSoftResetStart (s : State) : Res := .next s.softStart

/-! ### Boot (R420, R424, R430, R434, R436) -/

/-- R420: fuse load, repair, training and BIST have ended. -/
def execBistDone (rep : BistReport) (s : State) : Res := .next (s.bistEnd rep).after

/-- R430: verification of the chosen slot has ended. -/
def execImageVerifyDone (keyOk sigOk digestOk : Bool) (ms : BitVec 16) (s : State) : Res :=
  whenUpS s fun s => s.verified keyOk sigOk digestOk ms.toNat

/-- R434: every port that was up has settled. -/
def execSummitEnter (s : State) : Res := whenUpS s State.summit

/-- R434: 2 s have passed since ASCENT. -/
def execAscentLateTimeout (s : State) : Res := whenUpS s State.summitLate

/-- R435: Guide pair 1 has verified its image. -/
def execGuidePair1Verified (ok : Bool) (s : State) : Res := whenUpS s fun s => s.pair1Verified ok

/-- R436: 10 minutes in SUMMIT. -/
def execAutoConfirmTimeout (s : State) : Res := whenUpS s State.autoConfirm

/-- R436: a write of FLASH.IMG_CTL with CONFIRM alone. -/
def execImageConfirm (src : Path) (v : Word) (s : State) : Res := regWr s src 0x05 0x110 (withBit (withBit v.toNat 63 true) 61 false)

/-- R436: a write of FLASH.IMG_CTL with RAISE_SVN alone. -/
def execRaiseSvn (src : Path) (v : Word) (s : State) : Res := regWr s src 0x05 0x110 (withBit (withBit v.toNat 63 false) 61 true)

/-! ### Update and history (R438, R429) -/

/-- R438: a write of FLASH.UPD_CTL with GO alone. -/
def execUpdateGo (src : Path) (v : Word) (s : State) : Res := regWr s src 0x05 0x118 (withBit (withBit v.toNat 63 true) 62 false)

/-- R438: a write of FLASH.UPD_CTL with ABORT alone. -/
def execUpdateAbort (src : Path) (v : Word) (s : State) : Res := regWr s src 0x05 0x118 (withBit (withBit v.toNat 63 false) 62 true)

/-- R438: the phase of the update under way has ended. -/
def execUpdatePhaseDone (rep : PhaseReport) (s : State) : Res := whenUpS s fun s => s.updPhase rep

/-- R429: the Guide writes a history generation. -/
def execHistoryWrite (s : State) : Res := whenUpS s State.histWrite

/-- R429: the history write has ended. -/
def execHistoryWriteDone (ok : Bool) (s : State) : Res := whenUpS s fun s => s.histDone ok

/-! ### Register accesses (R445, R469 to R487) -/

/-- A register write of 4 or 8 B by a path. -/
def execRegisterWrite (src : Path) (addr : BitVec 25) (len : Nat) (v : Word) (s : State) : Res :=
  whenUpS s fun s => s.access (writeAcc src addr.toNat len v.toNat)

/-- A register read by a path. -/
def execRegisterRead (src : Path) (addr : BitVec 25) (len : Nat) (s : State) : Res :=
  whenUpS s fun s => s.access { src := src, who := lockerOf src, addr := addr.toNat, len := len, write := false, value := 0 }

/-- R481, R482: a write of a page's SHADOW_CTL with GO alone. -/
def execShadowGo (page : Fin 512) (src : Path) (v : Word) (s : State) : Res :=
  regWr s src page.val 0x40 (withBit (withBit v.toNat 63 true) 62 false)

/-- R481: the checks of a page's commit end. -/
def execShadowCheckDone (page : Fin 512) (s : State) : Res := whenUpS s fun s => s.shadowCheck page.val

/-- R482: a write of a page's SHADOW_CTL with DISCARD alone. -/
def execShadowDiscard (page : Fin 512) (src : Path) (v : Word) (s : State) : Res :=
  regWr s src page.val 0x40 (withBit (withBit v.toNat 63 false) 62 true)

/-- R479: a write of a page's EVT_FORCE. -/
def execEvtForce (page : Fin 512) (src : Path) (v : Word) (s : State) : Res := regWr s src page.val 0x30 v.toNat

/-- R476: a write of PAGE_CTL, which holds STS_HOLD. -/
def execStsHold (page : Fin 512) (src : Path) (v : Word) (s : State) : Res := regWr s src page.val 0x10 v.toNat

/-- R451: a write of RPU.SLOT. -/
def execRpuSlotWrite (n : Fin 512) (src : Path) (v : Word) (s : State) : Res := regWr s src 0x08 (0x1000 + 8 * n.val) v.toNat

/-- R452: a write of RPU.SLOT with LOCK set. -/
def execRpuSlotLock (n : Fin 512) (src : Path) (v : Word) (s : State) : Res := regWr s src 0x08 (0x1000 + 8 * n.val) (withBit v.toNat 63 true)

end Sys2Proof.Machine
end

