-- ==== Sys2Proof/Machine/BufferCmd.lean ====
section
/-! DEFINITION. The shared-buffer commands (07_buffer_multicast.md R196 to R212, R221). -/
namespace Sys2Proof.Machine

/-- R205: pool trains of an ingress instance move to the shared account. -/
def execSharedMove (p : SrcId) (s : State) : Res := whenUpS s fun s => s.shareMove p.val

/-- R208: the census PERIOD has passed: a pass opens a new epoch. One that still runs delays it, which LATE counts: it then starts
when that one ends. -/
def execCensusPassStart (s : State) : Res :=
  whenUpS s fun s =>
    if !s.flag F.BUF.CENSUS_CFG.EN then s else if s.flag F.BUF.CENSUS_STS.BUSY then
      (({ s with core := { s.core with censusDue := true } } : State).addSat F.BUF.CENSUS_STS.LATE 1) else s.censusStart

/-- R221: a write of CENSUS_CFG with RUN set. -/
def execCensusRun (src : Path) (v : Word) (s : State) : Res := regWr s src 0x28 0x110 (withBit v.toNat 1 true)

/-- R209: the sweep ends with its findings. -/
def execCensusPassEnd (f : CensusFindings) (s : State) : Res := whenUpS s fun s => s.censusEnd f

/-- Corrected errors of a bank: BUF_CE counts each, and is shown and recorded once for the window. -/
def State.bankCes (s : State) (b n : Nat) : State :=
  if n = 0 then s
  else
    ((s.raise Ev.BUF_CE { inst := b, detail := 2 }).count (evCounter Ev.BUF_CE) (n - 1)).addSat F.ERR.CLASS_CNT.C_CNT (n - 1)

/-- R184, R185, R196, R210: a second ends with these errors of a bank beside those its couplings have shown at the yards; an uncorrectable one hits a carriage of a train. More corrected ones than CE_LIMIT,
or two uncorrectable ones, retire the bank; in its RETIRE phase the pass may retire a worn one (R383). -/
def execBankErrorWindow (b : Fin 128) (ce : Nat) (ue : Nat) (s : State) : Res :=
  whenUpS s fun s =>
    let s := (s.bankCes b.val ce).bankUes b.val (min ue (s.liveIn b.val).length)
    let s := s.bankErr b.val ce ue
    ({ s with core := { s.core with bankErrs := Tab.del s.core.bankErrs b.val } } : State).passBank b.val ce

/-- R221: a write of BANK_CFG with RETIRE set. -/
def execBankRetireCmd (src : Path) (v : Word) (s : State) : Res := regWr s src 0x28 0x120 (withBit v.toNat 0 true)

/-- R211 step 3: every live carriage has been copied, the rows named with a poison marker. -/
def execBankCopyDone (copied : BitVec 14) (bad : List (BitVec 13)) (s : State) : Res :=
  whenUpS s fun s => s.bankCopied copied.toNat (bad.map BitVec.toNat)

/-- R211 step 5: accesses resume from the spare. -/
def execBankSwitchDone (interrupt : BitVec 16) (s : State) : Res := whenUpS s fun s => s.bankSwitched interrupt.toNat

/-- R212: a bank retired without a spare has drained. -/
def execBankDrainDone (s : State) : Res := whenUpS s fun s => s.bankDrained

end Sys2Proof.Machine
end

