-- ==== Sys2Proof/Machine/EgressCmd.lean ====
section
/-! DEFINITION. The egress commands: shapers, gates, traffic classes, and the PCIe data link layer (08_egress_scheduling.md R225 to R247;
04_link_layer.md R142). -/
namespace Sys2Proof.Machine

/-- A write of an egress register of a port: `off` is that of controller 0. -/
def egrWr (s : State) (p : PortId) (src : Path) (off v : Nat) : Res := regWr s src (0x30 + p.val / 4) (off + 8 * (p.val % 4)) v

/-- R231: a parked queue's wheel slot is reached. -/
def execShaperWheelSlot (p : PortId) (q : Fin 64) (s : State) : Res := whenUpS s fun s => s.wheelSlot p.val q.val

/-- R236: a write of GATE_ADMIN with GO, without CANCEL. -/
def execGateCommitGo (p : PortId) (src : Path) (v : Word) (s : State) : Res :=
  egrWr s p src 0x120 (withBit (withBit v.toNat 2 false) 1 true)

/-- R236: the checks of a committed list end. -/
def execGateCheckDone (p : PortId) (s : State) : Res := whenUpS s fun s => s.gateChecked p.val

/-- R238: a write of GATE_ADMIN with CANCEL. -/
def execGateCancel (p : PortId) (src : Path) (v : Word) (s : State) : Res := egrWr s p src 0x120 (withBit v.toNat 2 true)

/-- R237: the swap instant. -/
def execGateSwap (p : PortId) (s : State) : Res := whenUpS s fun s => s.gateSwap p.val

/-- R237: the new list is back in the administrative entries. -/
def execGateCopyDone (p : PortId) (s : State) : Res := whenUpS s fun s => s.gateCopied p.val

/-- R233: an entry boundary. -/
def execGateEntryBoundary (p : PortId) (s : State) : Res := whenUpS s fun s => s.gateBoundary p.val

/-- R243: a write of EGR.TCVC. -/
def execTcvcWrite (p : PortId) (src : Path) (v : Word) (s : State) : Res := egrWr s p src 0x100 v.toNat

/-- R142: a data link layer packet arrives on a HOST or DEV port. -/
def execPcieDllpRx (p : PortId) (d : Dllp) (s : State) : Res := whenUpS s fun s => s.dllpRx p.val d

/-- R142: the PCIe replay timer expires. -/
def execPcieReplayTimerExpiry (p : PortId) (s : State) : Res := whenUpS s fun s => s.dllTimeout p.val

end Sys2Proof.Machine
end

