-- ==== Sys2Proof/Machine/ShareCmd.lean ====
section
/-! DEFINITION. The sharing commands: binding, vDSPs, virtual functions, DPC, contexts and dirty-page harvest (10_sharing.md R281 to R306;
12_errors_containment.md R350; 16_management_access.md R418). -/
namespace Sys2Proof.Machine

/-- R281: a write of VH.VH_BIND. -/
def execVhBindWrite (vh : VhId) (src : Path) (v : Word) (s : State) : Res := regWr s src 0x43 (0x200 + 8 * vh.val) v.toNat

/-- A command register value with GO set and OP (bits 62:60) replaced. -/
def goOp (v : Word) (op : Nat) : Nat := 2 ^ 63 + op * 2 ^ 60 + v.toNat % 2 ^ 60

/-- R285, R286: VDSP_CMD ATTACH. -/
def execVdspAttach (src : Path) (v : Word) (s : State) : Res := regWr s src 0x43 0x110 (goOp v 1)
/-- R287: VDSP_CMD DETACH. -/
def execVdspDetach (src : Path) (v : Word) (s : State) : Res := regWr s src 0x43 0x110 (goOp v 2)
/-- R287: VDSP_CMD FORCE_DETACH. -/
def execVdspForceDetach (src : Path) (v : Word) (s : State) : Res := regWr s src 0x43 0x110 (goOp v 3)

/-- R287: the host turns power off on a detaching vDSP. -/
def execVdspPowerOff (vh : VhId) (d : VdspId) (s : State) : Res :=
  whenUpS s fun s =>
    if s.get (F.VH.VDSP.STATE vh.val d.val) = 2 then (s.orCfg vh.val d.val 0x22 10).slotPower vh.val d.val false else s

/-- R287: DETACH_WAIT has passed without it. -/
def execDetachWaitTimeout (vh : VhId) (d : VdspId) (s : State) : Res := whenUpS s fun s => s.detachGo vh.val d.val

/-- R288 step 2: FLR_WAIT of a detached VF has passed; its vDSP drains. -/
def execVdspFlrWaitExpiry (vh : VhId) (d : VdspId) (s : State) : Res :=
  whenUpS s fun s => if s.get (F.VH.VDSP.KIND vh.val d.val) = 3 then s.toDrain vh.val d.val else s

/-- R288 steps 3 and 4: nothing of the old attachment is left. -/
def execVdspDrainDone (vh : VhId) (d : VdspId) (s : State) : Res := whenUpS s fun s => s.drainDone vh.val d.val

/-- R289: a write of a word of VH.VF_MAP. -/
def execVfMapWrite (j : Fin 1024) (w : Fin 4) (src : Path) (v : Word) (s : State) : Res :=
  regWr s src 0x43 (0x8000 + 0x20 * j.val + 8 * w.val) v.toNat

/-- R283: a configuration access to the upstream port, a vDSP or the management endpoint of a bound VH; one to no function is answered with
Unsupported Request. -/
def execVirtualConfigAccess (vh : VhId) (r : CfgReq) (s : State) : Res :=
  whenUpS s fun s =>
    if !s.vhBound vh.val then s
    else
      match s.cfgTarget vh.val r with
      | none => s.cfgReply vh.val r .ur 0
      | some fn => if fn ≥ 64 then s else s.cfgAccess vh.val fn r

/-- R294: a tenant's configuration access to a virtual endpoint. -/
def execVfConfigAccess (vh : VhId) (r : CfgReq) (s : State) : Res :=
  whenUpS s fun s =>
    if !s.vhBound vh.val then s
    else
      match s.cfgTarget vh.val r with
      | some fn => if fn ≥ 64 then s.vfAccess vh.val (fn - 64) r else s
      | none => s

/-- R294, R418: a completion for a forwarded access. -/
def execVfCfgCompletion (tag : Fin 256) (status : CplSt) (cplId : BitVec 16) (data : BitVec 32) (ep : Bool) (s : State) : Res :=
  whenUpS s fun s => s.fwdCpl tag.val status cplId.toNat data.toNat ep

/-- R295: 50 ms without one. -/
def execVfCfgTimeout (tag : Fin 256) (s : State) : Res := whenUpS s fun s => s.fwdExpire tag.val

/-- R418: a held tag is free again. -/
def execMeTagHoldExpiry (tag : Fin 256) (s : State) : Res := whenUpS s fun s => s.fwdRelease tag.val

/-- R294: Initiate FLR at a virtual endpoint, or Secondary Bus Reset at its vDSP, starts a mediated FLR; the bridge's bit is held. -/
def execMediatedFlr (vh : VhId) (d : VdspId) (secondary : Bool) (s : State) : Res :=
  whenUpS s fun s =>
    let v := vh.val
    let d := d.val
    if s.get (F.VH.VDSP.KIND v d) ≠ 3 ∨ !s.vdspLive v d then s
    else
      let s := if secondary then s.orCfg v d 0xF 22 else s
      s.startFlr (s.get (F.VH.VDSP.VFI v d)) false

/-- R294: FLR_WAIT ends. -/
def execMediatedFlrDone (vh : VhId) (d : VdspId) (s : State) : Res :=
  whenUpS s fun s => if s.get (F.VH.VDSP.KIND vh.val d.val) = 3 then s.flrDone (s.get (F.VH.VDSP.VFI vh.val d.val)) else s

/-- R350: a DPC trigger that the host's DPC Control enables. -/
def execDpcTrigger (vh : VhId) (d : VdspId) (reason : BitVec 4) (s : State) : Res :=
  whenUpS s fun s => if s.dpcReady vh.val d.val (reason.toNat % 4) then s.dpcTrig vh.val d.val reason.toNat else s

/-- R350: host software clears DPC Trigger Status. -/
def execDpcRelease (vh : VhId) (d : VdspId) (s : State) : Res := whenUpS s fun s => s.dpcFree vh.val d.val

/-! ### Stream contexts (R300) -/

def execCtxRead (src : Path) (v : Word) (s : State) : Res := regWr s src 0x44 0x108 (goOp v 1)
def execCtxWrite (src : Path) (v : Word) (s : State) : Res := regWr s src 0x44 0x108 (goOp v 2)
def execCtxInsert (src : Path) (v : Word) (s : State) : Res := regWr s src 0x44 0x108 (goOp v 3)
def execCtxDelete (src : Path) (v : Word) (s : State) : Res := regWr s src 0x44 0x108 (goOp v 4)
def execCtxFind (src : Path) (v : Word) (s : State) : Res := regWr s src 0x44 0x108 (goOp v 5)

/-! ### Dirty-page logging and harvest (R302 to R305) -/

/-- R303: a write of DL_SLOT word 0 with EN set. -/
def execDlSlotEnable (j : Fin 256) (src : Path) (v : Word) (s : State) : Res :=
  regWr s src 0x45 (0x1000 + 0x10 * j.val) (withBit v.toNat 11 true)

/-- R303: both bitmaps of a slot are zero. -/
def execDlZeroDone (j : Fin 256) (s : State) : Res := whenUpS s fun s => s.dlZeroed j.val

/-- R302: a line of a slot (bits 22:0 of `line`; bit 23 its epoch) is ORed into its bitmap; the read of the bitmap may be uncorrectable. -/
def execDlLineWriteback (j : Fin 256) (line : BitVec 32) (res : DramRes) (s : State) : Res :=
  whenUpS s fun s =>
    let k := j.val * 2 ^ 24 + line.toNat % 2 ^ 24
    (if s.wbDue k then s.eccClient res else s).dlWriteback k (res == .uncorrectable)

/-- R304: a write of DL_HARVEST with GO alone. -/
def execHarvestGo (src : Path) (v : Word) (s : State) : Res := regWr s src 0x45 0x108 (2 ^ 63 + v.toNat % 2 ^ 61)
/-- R305: a write of DL_HARVEST with ABORT. -/
def execHarvestAbort (src : Path) (v : Word) (s : State) : Res := regWr s src 0x45 0x108 (2 ^ 62 + v.toNat % 2 ^ 61)
/-- R304: a write of DL_HARVEST with DONE. -/
def execHarvestDoneCmd (src : Path) (v : Word) (s : State) : Res := regWr s src 0x45 0x108 (2 ^ 61 + v.toNat % 2 ^ 61)

/-- R305: every line of the closed epoch is written back. -/
def execHarvestFlushDone (s : State) : Res := whenUpS s fun s => s.hvFlushed
/-- R305: no train stamped with it remains. -/
def execHarvestDrainDone (s : State) : Res := whenUpS s fun s => s.hvDrained
/-- R305: the last bitmap write is sent. -/
def execHarvestDeliverDone (s : State) : Res := whenUpS s fun s => s.hvDelivered
/-- R305: the closed bitmap is zeroed. -/
def execHarvestClearDone (s : State) : Res := whenUpS s fun s => s.hvCleared
/-- R305: it is merged into the open one. -/
def execHarvestMergeDone (s : State) : Res := whenUpS s fun s => s.hvMerged

end Sys2Proof.Machine
end

