-- ==== Sys2Proof/Machine/ErrorsCmd.lean ====
section
/-! DEFINITION. The commands of errors and containment (12_errors_containment.md R345, R349, R354, R355, R357, R358). -/
namespace Sys2Proof.Machine

/-- R349: a write of ERR.CONTAIN_CTL with GO and OP 1, CONTAIN. -/
def execContain (src : Path) (v : Word) (s : State) : Res := regWr s src 0x58 0x100 (goOp v 1)

/-- R349: the same with OP 2, RELEASE. -/
def execRelease (src : Path) (v : Word) (s : State) : Res := regWr s src 0x58 0x100 (goOp v 2)

/-- R349: the CONTAIN in progress finishes. -/
def execContainDone (s : State) : Res := whenUpS s State.containDone

/-- R354: DL_Down on a HOST or DEV port; a FAB link in service that stops goes to retraining (R126). -/
def execLinkDown (p : PortId) (s : State) : Res :=
  whenUpS s fun s =>
    if s.role p.val = 3 then (if (s.port p.val).under = 6 then s.retrain p.val else s) else s.dlDown p.val

/-- R355: the receiver detection on a DEV port without a hot-plug slot whose link went down ends: the partner's receivers were found, or the removal is
a surprise. -/
def execRemovalDetectDone (p : PortId) (found : Bool) (s : State) : Res :=
  whenUpS s fun s =>
    if !(s.port p.val).detecting || s.flag (F.STN.PORT_ROLE.HP_SLOT p.val) then s else if found then s.devLinkDown p.val else s.surprise p.val

/-- R345: one second has passed since the first counted occurrence of an escalation entry at an instance. -/
def execEscWindowExpiry (j : Fin 128) (inst : Nat) (s : State) : Res := whenUpS s fun s => s.escExpire j.val inst

/-- R357: the lockstep halves of a Guide pair differ. -/
def execGuideMismatch (pair : Fin 2) (s : State) : Res := whenUpS s fun s => s.guideMismatch pair.val

/-- R357: a pair that was reloaded ends its self-test. -/
def execGuidePairReady (pair : Fin 2) (ok : Bool) (s : State) : Res := whenUpS s fun s => s.guideReady pair.val ok

/-- R357: the ACTIVE pair writes its checkpoint. -/
def execGuideCheckpoint (s : State) : Res := whenUpS s State.guideCheckpoint

/-- R22, R358: the reference clock, or the lock of the root PLL, is lost. -/
def execRefClockLoss (refLost lockLost : Bool) (s : State) : Res := .next (if s.live then (s.clkLoss refLost lockLost).after else s)

/-- R358: the reference returns and the root PLL locks again; a reset may then be taken. -/
def execRefClockReturn (s : State) : Res :=
  .next (if s.pins.pwrOk && !s.pins.rstHeld && !s.pins.thermTrip then s.clkReturn else s)

end Sys2Proof.Machine
end

