-- ==== Sys2Proof/Machine/FabricCmd.lean ====
section
/-! DEFINITION. The fabric commands (09_fabric_mode.md R248 to R280). -/
namespace Sys2Proof.Machine

/-- R249: a write of ROUTE.NODE_ID. -/
def execNodeIdWrite (src : Path) (v : Word) (s : State) : Res := regWr s src 0x41 0x100 v.toNat

/-- R266: a request in a gateway wait lane takes an ORT entry. -/
def execOrtAllocate (p : SrcId) (s : State) : Res := whenUpS s fun s => s.ortAllocate p.val

/-- R270: an entry's completion timeout. -/
def execOrtTimeout (e : Fin 16384) (s : State) : Res := whenUpS s fun s => s.ortExpire e.val

/-- R270: an entry's quarantine ends. -/
def execQuarantineEnd (e : Fin 16384) (s : State) : Res := whenUpS s fun s => s.ortUnquar e.val

/-- R274: a write of GW.PFN_POP. -/
def execPfnPop (src : Path) (v : Word) (s : State) : Res := regWr s src 0x42 0x140 v.toNat

/-- R278: a VC of a FAB port has had no credits for STALL_TIME. -/
def execStallTimeout (p : PortId) (vc : Fin 4) (s : State) : Res := whenUpS s fun s => s.stall p.val vc.val

end Sys2Proof.Machine
end

