-- ==== Sys2Proof/Machine/HllCmd.lean ====
section
/-! DEFINITION. The Halud link-layer commands (04_link_layer.md R94 to R137; 09_fabric_mode.md R256). -/
namespace Sys2Proof.Machine

/-- An event of a FAB port's running link layer; it arises on no other port (notes/assumptions/3.md). -/
def hllCmd (s : State) (p : PortId) (f : State → State) : Res := whenUpS s fun s => if s.flitsRun p.val then f s else s

/-- R99, R100: a flit of 256 bytes arrives: on a running link layer, or in training, where the lane
is the logical lane that carried it whole. -/
def execFlitRx (p : PortId) (lane : Fin 16) (bytes : List Byte) (s : State) : Res :=
  whenUpS s fun s => if bytes.length ≠ 256 then s else if s.flitsRun p.val then s.flitRx p.val bytes else s.trainRx p.val lane.val bytes

/-- R112: the expected flit has not arrived within REPLAY_TIME of the NAK: the NAK is sent once more. -/
def execNakRepeatTimeout (p : PortId) (s : State) : Res :=
  hllCmd s p fun s => if s.flag (F.STN.HLL_STS.NAK_PEND p.val) then s.setHll p.val { s.hll p.val with nakNow := true } else s

/-- R113: 32 ns after the first acceptance not yet reported, ACK_FSN is advanced. -/
def execAckCoalesceTimeout (p : PortId) (s : State) : Res :=
  hllCmd s p fun s =>
    let x := s.hll p.val
    if x.since = 0 then s else s.setHll p.val { x with ackOut := x.accepted, since := 0 }

/-- R114: an ACK_FSN arrives. -/
def execAckFsnRx (p : PortId) (fsn : BitVec 12) (s : State) : Res := hllCmd s p fun s => s.ackRx p.val fsn.toNat

/-- R114: a NAK arrives. -/
def execNakRx (p : PortId) (fsn : BitVec 12) (s : State) : Res := hllCmd s p fun s => s.nakRx p.val fsn.toNat

/-- R114, R115: no advance of ACK_FSN within REPLAY_TIME: a replay from the oldest unacked flit. -/
def execReplayTimerExpiry (p : PortId) (s : State) : Res := hllCmd s p fun s => s.startReplay p.val

/-- R122: MGT_OFF of the partner, in MGT_OFF_RX; while it is 1 no new MGT packet starts. -/
def execMgtOffRx (p : PortId) (on : Bool) (s : State) : Res := hllCmd s p fun s => s.put (F.STN.HLL_STS.MGT_OFF_RX p.val) on

/-- R118, R119, R121: a CREDIT command. -/
def execCreditRx (p : PortId) (vc : HvcId) (hdr : BitVec 12) (data : BitVec 16) (s : State) : Res :=
  hllCmd s p fun s => s.creditRx p.val vc.val hdr.toNat data.toNat

/-- R124: an INIT_CREDIT command. -/
def execInitCreditRx (p : PortId) (vc : HvcId) (hdr : BitVec 12) (data : BitVec 16) (s : State) : Res :=
  hllCmd s p fun s => s.initCredit p.val vc.val hdr.toNat data.toNat

/-- R124, R125: an INIT_DONE command. -/
def execInitDoneRx (p : PortId) (gotAdv resume : Bool) (s : State) : Res := hllCmd s p fun s => s.initDone p.val gotAdv resume

/-- R124, R125: initialisation or resume has not finished within 1 ms of ACTIVE. -/
def execLlInitTimeout (p : PortId) (s : State) : Res := hllCmd s p fun s => s.initTimeout p.val

/-- R125: the link has not reached ACTIVE within LL_HOLD: retained state is discarded. -/
def execLlHoldExpiry (p : PortId) (s : State) : Res :=
  whenUpS s fun s =>
    if s.role p.val = 3 ∧ s.get (F.STN.HLL_STS.STATE p.val) = 3 ∧ (s.port p.val).under ≠ 6 then s.discardLL p.val 1 else s

/-- R127, R128: a WIDTH_REQ command. -/
def execWidthReqRx (p : PortId) (token : BitVec 8) (width : BitVec 5) (s : State) : Res :=
  hllCmd s p fun s => s.widthReq p.val token.toNat width.toNat

/-- R127: a WIDTH_ACK command. -/
def execWidthAckRx (p : PortId) (token : BitVec 8) (accept : Bool) (s : State) : Res :=
  hllCmd s p fun s => s.widthAck p.val token.toNat accept

/-- R127: a WIDTH_SWITCH command. -/
def execWidthSwitchRx (p : PortId) (token : BitVec 8) (left : BitVec 8) (s : State) : Res :=
  hllCmd s p fun s => s.widthSwitch p.val token.toNat left.toNat

/-- R128: a RETRAIN_REQ command. -/
def execRetrainReqRx (p : PortId) (s : State) : Res := hllCmd s p fun s => s.retrainReq p.val

/-- R177: a transmit slot of a port. -/
def execTransmitSlot (p : PortId) (s : State) : Res := whenUpS s fun s => s.transmit p.val

/-- R129: a write of ROUTE.ROPE_PAIR. -/
def execRopePairWrite (r : VhId) (src : Path) (v : Word) (s : State) : Res := regWr s src 0x41 (0x800 + 8 * r.val) v.toNat

/-- R132: a member of a rope pair has received no good flit for REPLAY_TIME: it has failed, and retrains. -/
def execRxSilenceTimeout (p : PortId) (s : State) : Res :=
  hllCmd s p fun s => if (s.ropeOf p.val).isSome && s.memberUp p.val then s.retrain p.val 3 else s

/-- R135: every packet of a VC on the survivor is covered: the VC's flows return to the member that came back. -/
def execRopeRejoinSwitch (r : VhId) (vc : Fin 4) (s : State) : Res := whenUpS s fun s => s.ropeSwitch r.val vc.val

/-- R256: the earlier trains of the other member have been released: a hold at ingress ends. -/
def execRopeHoldRelease (r : VhId) (vc : Fin 4) (s : State) : Res := whenUpS s fun s => s.ropeRelease r.val vc.val

end Sys2Proof.Machine
end

