-- ==== Sys2Proof/Machine/HutCmd.lean ====
section
/-! DEFINITION. The Hut commands (11_hut_ordering.md R307 to R337). -/
namespace Sys2Proof.Machine

/-- An access command: an arrival at the Hut, when its hold queue can take it. -/
def hutCmd (op : Nat) (atom : Option AtomKind) (r : HutReq) (s : State) : Res :=
  whenUpS s fun s => if s.hutRoom r.vh.val then s.hutArrive { op := op, r := r, atom := atom } else s

def execHutDeviceRead (r : HutReq) (s : State) : Res := hutCmd 0 none r s
def execHutDeviceWrite (r : HutReq) (s : State) : Res := hutCmd 1 none r s
def execHutNormalRead (r : HutReq) (s : State) : Res := hutCmd 2 none r s
def execHutNormalWrite (r : HutReq) (s : State) : Res := hutCmd 3 none r s
def execHutReserveRead (r : HutReq) (s : State) : Res := hutCmd 4 none r s
def execHutConditionalWrite (r : HutReq) (s : State) : Res := hutCmd 5 none r s
def execHutAtomic (k : AtomKind) (r : HutReq) (s : State) : Res := hutCmd 6 (some k) r s

/-- R316: a buffered write reaches 1 µs and is performed: the oldest of its bank. -/
def execNormalWriteDeadline (bank : Fin 32) (s : State) : Res := whenUpS s fun s => s.hutPerform bank.val

/-- R323: a reservation reaches RSV_CFG.TIMEOUT. -/
def execRsvTimeout (m : Fin 2048) (s : State) : Res :=
  whenUpS s fun s =>
    match s.hut.mons[m.val]? with
    | some x => if x.held then (s.clearRes (fun y => y.vh == x.vh && y.rid == x.rid) 3).addSat F.HUT.HUT_STS.RSV_TIMEOUTS 1 else s
    | none => s

/-- R326: a fence at its lookup instant. In BASECAMP there is no Hut service, and it is refused (R338). -/
def execFence (vh : VhId) (v : Word) (s : State) : Res :=
  whenUpS s fun s => if s.phase = 1 then s.hutClosed vh.val 8 0x2000000 else s.fenceStart vh.val v.toNat

def execFenceArrival (vh : VhId) (s : State) : Res := whenUpS s fun s => s.fenceArrive vh.val

/-- R328: every covered write is resolved. -/
def execFenceDone (vh : VhId) (s : State) : Res :=
  whenUpS s fun s =>
    if (s.vctl vh.val).st = 1 && (s.openWrites vh.val).isEmpty && s.openPend vh.val == 0 &&
        !(s.hut.buf.any fun e => e.2.any fun w => w.vh == vh.val && !(s.vctl vh.val).holding) then s.fenceEnd vh.val 2 else s

/-- R328: TIMEOUT with writes unresolved, which are counted in OUTSTANDING. -/
def execFenceTimeout (vh : VhId) (s : State) : Res :=
  whenUpS s fun s =>
    if (s.vctl vh.val).st = 1 then
      let n := (s.openWrites vh.val).length + s.openPend vh.val
      let s := s.setVctl vh.val { s.vctl vh.val with outstanding := min 65535 n }
      (s.raise Ev.FENCE_TIMEOUT { inst := vh.val, key := vh.val, recC := 0 }).fenceEnd vh.val 3
    else s

/-- R330: a write of CTL_DB_RING. -/
def execDbRing (vh : VhId) (src : SrcId) (rid : BitVec 16) (target : VhId) (data : BitVec 32) (s : State) : Res :=
  whenUpS s fun s => if s.phase = 1 then s.hutClosed vh.val 4 (0x2000100 + 8 * target.val) else s.dbRing src.val vh.val rid.toNat target.val data.toNat

/-- R330: a read of CTL_DB_PEND. -/
def execDbPendRead (vh : VhId) (s : State) : Res :=
  whenUpS s fun s =>
    if s.phase = 1 then (s.hutClosed vh.val 8 0x2000020).emit (.regData vh.val 0 .ur [])
    else
      let (p, s) := s.dbPendTake vh.val
      s.emit (.regData vh.val 0 .sc [p])

def execHutZero (src : Path) (v : Word) (s : State) : Res := regWr s src 0x48 0x120 (withBit v.toNat 63 true)

/-- R337: the range is zero with valid ECC, its reservations are cleared with CAUSE 1, and BUSY clears, once the TABLE class has paid an access for
each line (DESIGN CHOICE, notes/assumptions/109.md). -/
def execHutZeroDone (s : State) : Res :=
  whenUpS s fun s =>
    match s.hut.zero with
    | none => s
    | some (_, n) => s.budgeted 2 (n / 64) 0 .hutZero State.hutZeroEnd (page := 0x48)

end Sys2Proof.Machine
end

