-- ==== Sys2Proof/Machine/LanesCmd.lean ====
section
/-! DEFINITION. The lane commands (02_lanes.md; 03_ports.md R78; 04_link_layer.md R100, R132). -/
namespace Sys2Proof.Machine

/-- A write of a register of LANE[n]. -/
def laneWr (s : State) (n : LaneId) (src : Path) (off v : Nat) : Res := regWr s src (0x100 + n.val) off v

def execTxeqWrite (n : LaneId) (src : Path) (v : Word) (s : State) : Res :=
  laneWr s n src 0x100 v.toNat

/-- R100, R32, R48: an EQ message: the partner's request is served, its answer and convergence flag are kept. On a PCIe port in Recovery equalisation
the partner's request is served as the PCIe specification asks (R32, R33). -/
def execTrainEqRx (n : LaneId) (m : EqMsg) (s : State) : Res :=
  whenUpS s fun s =>
    if s.laneFab n.val then s.eqRx n.val m.req.toNat m.rsp.toNat m.done
    else
      match m.pcie with
      | some q => if (s.port (s.portOfLane n.val)).under = 4 && !s.laneOff n.val then s.pcieCoefs n.val q else s
      | none => s

/-- Two's complement of a 16-bit field. -/
def int16 (v : Nat) : Int := if v ≥ 32768 then (v : Int) - 65536 else v
/-- A coefficient moved by a step and kept within 16 bits. -/
def coefStep (old : Nat) (step : Int) : Nat := (max (-32768) (min 32767 (int16 old + step)) % 65536).toNat

/-- R37: every 64 symbols the FFE and DFE coefficients move by the accumulated gradient times 2^-(MU + 8) (notes/assumptions/11.md). -/
def execAdaptUpdate (n : LaneId) (grad : List Int) (s : State) : Res :=
  whenUpS s fun s =>
    let st := s.get (F.LANE.RXSTS.STATE n.val)
    if st = 1 ∨ st = 2 then
      let mu := if st = 1 then s.get (F.LANE.RXADAPT.MU_ACQ n.val) else s.get (F.LANE.RXADAPT.MU_TRACK n.val)
      (List.range 20).foldl (fun s i =>
        s.set (F.LANE.RXCOEF.COEF n.val i) (coefStep (s.get (F.LANE.RXCOEF.COEF n.val i)) (grad.getD i 0 / (2 ^ (mu + 8) : Int)))) s
    else s

/-- R37, R42, R50: at an adaptation interval VGA and CTLE move; in TRACK the CTLE moves at most one code, and only each 100 µs, which is a change for
the history. -/
def execVgaCtleUpdate (n : LaneId) (vga : BitVec 7) (ctle : BitVec 5) (slow : Bool) (s : State) : Res :=
  whenUpS s fun s =>
    let st := s.get (F.LANE.RXSTS.STATE n.val)
    let cur := s.get (F.LANE.RXSTS.CTLE n.val)
    let hold := s.flag (F.LANE.RXADAPT.CTLE_HOLD n.val)
    if st = 1 then
      (s.set (F.LANE.RXSTS.VGA n.val) vga.toNat).set (F.LANE.RXSTS.CTLE n.val)
        (if hold then s.get (F.LANE.RXADAPT.CTLE_FORCE n.val) else ctle.toNat)
    else if st = 2 then
      let new := if hold then s.get (F.LANE.RXADAPT.CTLE_FORCE n.val) else if !slow then cur
         else if ctle.toNat > cur then cur + 1 else if ctle.toNat < cur then cur - 1 else cur
      let s := (s.set (F.LANE.RXSTS.VGA n.val) vga.toNat).set (F.LANE.RXSTS.CTLE n.val) new
      if new = cur then s else s.dirtyAge
    else s

/-- R38, R429: the lane has met the criteria for 100 µs and enters TRACK; what it converged to is to be kept in the history. -/
def execLaneConverged (n : LaneId) (snr : BitVec 8) (s : State) : Res :=
  whenUpS s fun s =>
    if s.get (F.LANE.RXSTS.STATE n.val) = 1 then
      let s := s.sawSnr n.val snr.toNat
      if snr.toNat ≥ s.convSnr n.val then
        let s := (s.dirtyAge.setLane n.val { s.lane n.val with selfConv := true, sweep := none, tryRec := false,
                                                               convAt := ((s.lane n.val).convAt ++ [s.get (F.LANE.RXSTS.RATE n.val)]).eraseDups }).setLaneState n.val 2
        if s.role (s.portOfLane n.val) = 3 then (s.sendEq n.val 0 0).eqSettled (s.portOfLane n.val) else s
      else s
    else s

/-- R40, R41: every 1 ms in TRACK a snapshot is taken; a CONV_SNR change of the acclimatisation pass is applied with it. -/
def execLaneSnapshot (n : LaneId) (snr : BitVec 8) (s : State) : Res :=
  whenUpS s fun s =>
    if s.get (F.LANE.RXSTS.STATE n.val) = 2 then
      let s := s.sawSnr n.val snr.toNat
      let cs := (List.range 20).map fun i => s.get (F.LANE.RXCOEF.COEF n.val i)
      let s := match (s.lane n.val).snrDelta with
        | some c => s.set (F.LANE.RXADAPT.CONV_SNR n.val) c
        | none => s
      s.setLane n.val { s.lane n.val with
        snap := some (cs, s.get (F.LANE.RXSTS.CTLE n.val), s.get (F.LANE.RXSTS.VGA n.val)), snrDelta := none }
    else s

/-- R40: the divergence guard restores the snapshot, or the start point without one. -/
def execLaneDivergence (n : LaneId) (snr : BitVec 8) (s : State) : Res :=
  whenUpS s fun s =>
    let s := if s.get (F.LANE.RXSTS.STATE n.val) = 2 then s.sawSnr n.val snr.toNat else s
    if s.get (F.LANE.RXSTS.STATE n.val) = 2 && s.flag (F.LANE.RXADAPT.DIV_GUARD n.val) && snr.toNat + 12 < s.convSnr n.val then
      (((s.laneRestore n.val).addSat (F.LANE.RXSTS.DIV_COUNT n.val) 1).count (Ctr.lane n.val 2) 1).raise Ev.LANE_DIVERGE
        { inst := n.val, recC := 1, detail := 2, w := [s.get (F.LANE.RXSTS.SNR n.val)] }
    else s

/-- R43: a write of RXADAPT with RESTART set. -/
def execLaneRestart (n : LaneId) (src : Path) (v : Word) (s : State) : Res :=
  laneWr s n src 0x108 (withBit v.toNat 1 true)

/-- R42, R43: a write of RXADAPT.FREEZE, without RESTART. -/
def execRxadaptFreeze (n : LaneId) (src : Path) (v : Word) (s : State) : Res :=
  laneWr s n src 0x108 (withBit v.toNat 1 false)

/-- R46 step 3: a lane that started from a record at its first acquisition and has not converged in 2 ms falls back once. Where FREEZE holds the lane
the search, without the record, is what clearing FREEZE starts. -/
def execHistoryFallbackTimeout (n : LaneId) (s : State) : Res :=
  whenUpS s fun s =>
    if (s.lane n.val).tryRec ∧ s.laneState n.val = 1 then
      let s := s.laneSearch n.val
      s.setLane n.val { s.lane n.val with noHist := (s.lane n.val).heldRestart }
    else s

/-- The refinements of R48 from a set: one tap moved by one unit against MAIN, taps PRE2, PRE1, POST1 in turn, up and then down, with their EQ_REQ codes;
only those that keep R32. -/
def refinements (best : List Nat) : List (Nat × List Nat) :=
  ((List.range 6).map fun k =>
    let i := [0, 1, 3].getD (k % 3) 0
    let t := best.getD i 0
    let m := best.getD 2 0
    if k < 3 then (0x40 + 2 * k, (best.set i (t + 1)).set 2 (m - 1))
    else (0x41 + 2 * (k % 3), if t = 0 then [] else (best.set i (t - 1)).set 2 (m + 1))).filter fun e => listOk e.2

/-- R48, R46: the hold of one preset (or refinement) ends; unless the partner rejected it, it is scored; then the next is requested. A Halud lane refines
the best for 2 ms, 125 holds of 16 µs (DEDUCED, notes/assumptions/103.md); a PCIe lane keeps the best preset. -/
def execSweepPresetTimeout (n : LaneId) (snr : BitVec 8) (s : State) : Res :=
  whenUpS s fun s =>
    let n := n.val
    let l := s.lane n
    match l.sweep with
    | none => s
    | some i =>
      if s.laneState n ≠ 1 then s
      else
        let s := s.sawSnr n snr.toNat
        let c := s.tryCount n
        let better := !l.rejected && snr.toNat > l.bestSnr
        let best := if better then l.req else l.best
        let s := s.setLane n { l with best := best, bestSnr := if better then snr.toNat else l.bestSnr, sweep := some (i + 1) }
        if i + 1 < c then s.askPartner n [0x11 + i] (s.tryPreset n (i + 1))
        else if i + 1 = c then
          (if s.laneFab n then s else s.setLane n { s.lane n with sweep := none }).askPartner n (reqCodes best) best
        else if i ≥ c + 125 then (s.setLane n { s.lane n with sweep := none }).askPartner n (reqCodes best) best
        else
          let back := if l.req = best then [] else reqCodes best
          let r := refinements best
          match r[(i - c) % max 1 r.length]? with
          | some (code, want) => s.askPartner n (back ++ [code]) want
          | none => s

def execPatgenEnable (n : LaneId) (src : Path) (v : Word) (s : State) : Res :=
  laneWr s n src 0x118 v.toNat

/-- R55: a write of PATCHK.EN, without CLEAR. -/
def execPatchkEnable (n : LaneId) (src : Path) (v : Word) (s : State) : Res :=
  laneWr s n src 0x130 (withBit v.toNat 1 false)

/-- R56: a write of PATCHK with CLEAR set. -/
def execPatchkClear (n : LaneId) (src : Path) (v : Word) (s : State) : Res :=
  laneWr s n src 0x130 (withBit v.toNat 1 true)

/-- R55, R52: the checker locks, on an OFF port's lane. -/
def execCheckerLock (n : LaneId) (s : State) : Res :=
  whenUpS s fun s =>
    if s.flag (F.LANE.PATCHK.EN n.val) && s.laneOff n.val then s.set (F.LANE.PATCHK.LOCKED n.val) 1 else s

/-- R55: more than 256 errors in 1,024 bits: the checker drops lock, re-seeds and counts a re-lock; the counts gathered while locked stand. -/
def execCheckerRelock (n : LaneId) (bits errs syms : BitVec 48) (s : State) : Res :=
  whenUpS s fun s =>
    if s.flag (F.LANE.PATCHK.LOCKED n.val) then
      ((s.addCounts n.val bits.toNat errs.toNat syms.toNat).set (F.LANE.PATCHK.LOCKED n.val) 0).addSat (F.LANE.PATCHK.RELOCKS n.val) 1
    else s

/-- R55: PATCHK_BITS reaches 2^48 - 1: all three counts stop with SAT. -/
def execPatchkSaturate (n : LaneId) (errs syms : BitVec 48) (s : State) : Res :=
  whenUpS s fun s =>
    if s.flag (F.LANE.PATCHK.LOCKED n.val) && !s.flag (F.LANE.PATCHK_BITS.SAT n.val) then
      s.addCounts n.val (2 ^ 48 - 1) errs.toNat syms.toNat
    else s

/-- R58: a write of ERRINJ with GO set. -/
def execErrinjGo (n : LaneId) (src : Path) (v : Word) (s : State) : Res :=
  laneWr s n src 0x150 (withBit v.toNat 0 true)

/-- R58: with PERIODIC and GO set, each INTERVAL injects another error. -/
def execErrinjInterval (n : LaneId) (s : State) : Res :=
  whenUpS s fun s =>
    if s.flag (F.LANE.ERRINJ.GO n.val) && s.flag (F.LANE.ERRINJ.PERIODIC n.val) then s.injectOne n.val else s

def execLoopbackModeWrite (n : LaneId) (src : Path) (v : Word) (s : State) : Res :=
  laneWr s n src 0x158 v.toNat

/-- R60: a write of EYESCAN with GO set. -/
def execEyescanGo (n : LaneId) (src : Path) (v : Word) (s : State) : Res :=
  laneWr s n src 0x160 (withBit v.toNat 0 true)

/-- R61, R62, R87: a Lane Margining command, served on PCIe ports in L0: for the device's own receiver, by the port's direction number 1 on a DEV port
and 6 on a HOST port (PRESUMED, notes/assumptions/103.md), or for every receiver; one for a retimer is passed on to it. -/
def execLaneMarginingCmd (n : LaneId) (c : MarginMsg) (s : State) : Res :=
  whenUpS s fun s =>
    let p := s.portOfLane n.val
    let own := if s.role p = 1 then 6 else 1
    if !((s.role p = 1 ∨ s.role p = 2) ∧ s.get (F.STN.LINK_STS.STATE p) = 6) then s
    else if c.receiver.toNat = own ∨ c.receiver = 0 then s.margin n.val c.cmd
    else if 2 ≤ c.receiver.toNat ∧ c.receiver.toNat ≤ 5 then s.emit (.train n.val "MARGIN_PASS" (c.receiver.toNat :: marginArgs c.cmd))
    else s

/-- R60, R61: a scan ends and writes its results; one that waits for margining has not begun. -/
def execEyescanDone (n : LaneId) (pts : List EyePoint) (errs : BitVec 24) (uv : BitVec 16) (s : State) : Res :=
  whenUpS s fun s => s.scanDone n.val pts errs.toNat uv.toNat

/-- R39, R78, R132: clock recovery loses lock: the lane returns to ACQUIRE and the 100 µs relock timer starts. A rope-pair member that has lost
more than half its active lanes has failed. -/
def execCdrLockLoss (n : LaneId) (s : State) : Res :=
  whenUpS s fun s =>
    if !s.flag (F.LANE.RXSTS.CDR_LOCK n.val) || s.get (F.LANE.RXSTS.RATE n.val) = 0xF then s
    else
      let s := ((s.laneRestore n.val).set (F.LANE.RXSTS.CDR_LOCK n.val) 0).count (Ctr.lane n.val 1) 1
      let s := s.setLane n.val { s.lane n.val with relock := true }
      let p := s.portOfLane n.val
      let w := s.get (F.STN.LINK_STS.ACTIVE_WIDTH p)
      let lost := ((s.trainedLanes p).take w).countP fun i => !s.flag (F.LANE.RXSTS.CDR_LOCK i)
      if s.role p = 3 && (s.ropeOf p).isSome && (s.port p).under == 6 && decide (w < 2 * lost) then s.retrain p 1 else s

/-- R78: 100 µs without lock: the port retrains. -/
def execLockLossRetrain (n : LaneId) (s : State) : Res :=
  whenUpS s fun s =>
    if !(s.lane n.val).relock then s
    else
      let s := s.setLane n.val { s.lane n.val with relock := false }
      let p := s.portOfLane n.val
      let st := (s.port p).under
      if st = 6 ∨ s.role p = 3 ∧ (st = 3 ∨ st = 4) then s.retrain p else s

/-- R78: clock recovery regains lock; the relock timer stops. -/
def execCdrLockGain (n : LaneId) (s : State) : Res :=
  whenUpS s fun s =>
    if s.get (F.LANE.RXSTS.RATE n.val) = 0xF then s
    else (s.setLane n.val { s.lane n.val with relock := false }).set (F.LANE.RXSTS.CDR_LOCK n.val) 1

end Sys2Proof.Machine
end

