-- ==== Sys2Proof/Machine/LookupCmd.lean ====
section
/-! DEFINITION. The commands of arrival, lookup and windows (04_link_layer.md R142; 05_lookup_windows.md R143 to R162; 07_buffer_multicast.md R204;
10_sharing.md R298). -/
namespace Sys2Proof.Machine

/-- VC of a traffic class on a PCIe port (R225). -/
def State.vcOfTc (s : State) (p tc : Nat) : Nat := bitsOf (s.get (F.EGR.TCVC.MAP p)) (2 * tc + 1) (2 * tc)

/-- Header and data units of a class and VC that a PCIe port holds and has not returned: of its trains, and of the headers that wait there. -/
def State.pcieHeld (s : State) (p q vc : Nat) : Nat × Nat :=
  let charges := (s.waiting p).filterMap InTrain.charge ++ s.trainList.filterMap Train.charge
  let l := charges.filterMap fun c => if c.1 = p ∧ c.2.1 = q ∧ c.2.2.1 = vc then some (c.2.2.2.1, c.2.2.2.2) else none
  ((l.map Prod.fst).sum, (l.map Prod.snd).sum)

/-- Does a TLP exceed what the port has advertised for its class and VC (R201, R204)? -/
def State.pcieOver (s : State) (p vc : Nat) (t : Tlp) : Bool :=
  let q := tlpPool t
  if (Tab.get? s.core.advert (4 * p + q)).isNone then false
  else
    let (h, d, _, _) := s.pcieAdv p q
    let held := s.pcieHeld p q vc
    decide (held.1 + 1 > h) || decide (held.2 + (t.data.length + 15) / 16 > d)

/-- A TLP that is not nullified is acknowledged as it comes (R142). -/
def State.tlpAck (s : State) (p : Nat) (tail : Tail) : State :=
  if tail = .nullified then s
  else
    let d := s.dll p
    (s.setDll p { d with rxSeq := (d.rxSeq + 1) % 4096, nakSent := false }).emit (.dllp p (.ack (BitVec.ofNat 12 d.rxSeq)))

/-- A TLP the data link layer refuses is discarded, a Nak asks for it again unless one already does, and Bad TLP is reported (R142, R342). -/
def State.badTlp (s : State) (p : Nat) : State :=
  let d := s.dll p
  let s := if d.nakSent then s else (s.setDll p { d with nakSent := true }).emit (.dllp p (.nak (BitVec.ofNat 12 (d.rxSeq + 4095))))
  s.raise Ev.PCIE_LINK_CE { inst := p, detail := 2, aerAt := s.aerPort p, ceBit := 6 }

/-- R142, R204: a TLP on a HOST or DEV port whose link is in L0, on the VC its traffic class maps to, is acknowledged and waits for lookup. On a closed
port it is dropped and its credits return; one beyond the advertised credits is a Flow Control Protocol Error and is discarded. -/
def execTlpRx (p : PortId) (t : Tlp) (tail : Tail) (vc : Fin 4) (s : State) : Res :=
  whenUpS s fun s =>
    let p := p.val
    if !(s.role p == 1 || s.role p == 2) || (s.port p).under != 6 || s.vcOfTc p t.tc.toNat != vc.val then s
    else
      if tail = .badLcrc then s.badTlp p
      else
      let s := s.tlpAck p tail
      if s.closed p && !s.stillServed p t then s.returnCredits (some (p, tlpPool t, vc.val, 1, (t.data.length + 15) / 16))
      else if s.pcieOver p vc.val t then
        s.raise Ev.FC_OVERRUN { inst := p, detail := 1, w := tlpW p 0 t 63 t.addr.toNat 0, aerAt := s.aerPort p,
                                 ingress := s.ingressOf p t.reqId.toNat, hdr := s.aerHeader p t }
      else (s.inject { id := 0, src := p, t := t, tail := tail, vc := vc.val, flit := s.flitPort p }).noteFull p (tlpPool t)

/-- R143: a lookup engine takes the next header of an ingress instance. -/
def execTrainLookup (p : SrcId) (s : State) : Res := whenUpS s fun s => s.lookup p.val

/-- R154, R157, R371: a WRT entry read from DRAM returns. -/
def execXlatMissFill (p : SrcId) (res : DramRes) (s : State) : Res :=
  whenUpS s fun s => (if s.winReadDue p.val then s.eccClient (s.winRes p.val res) else s).missFill p.val (res == .uncorrectable)

/-- R298, R371: a context read from DRAM returns. -/
def execCtxMissFill (p : SrcId) (res : DramRes) (s : State) : Res :=
  whenUpS s fun s => (if s.ctxReadDue p.val then s.eccClient (s.ctxRes p.val res) else s).ctxFill p.val (res == .uncorrectable)

/-- R156: a write of TC_CTL with INV_ALL set. -/
def execXlatInvAll (src : Path) (v : Word) (s : State) : Res := regWr s src 0x40 0x118 (withBit v.toNat 1 true)

def execXlatInvDone (s : State) : Res := whenUpS s fun s => s.invDone

/-- A register value with OP (bits 63:62) replaced. -/
def winOp (v : Word) (op : Nat) : Nat := op * 2 ^ 62 + v.toNat % 2 ^ 62

/-- R158: WIN_UPDATE with OP WRITE. -/
def execWinUpdateWrite (src : Path) (v : Word) (s : State) : Res := regWr s src 0x40 0x100 (winOp v 1)
/-- R158: WIN_UPDATE with OP CLEAR. -/
def execWinUpdateClear (src : Path) (v : Word) (s : State) : Res := regWr s src 0x40 0x100 (winOp v 2)
/-- R158: WIN_UPDATE with OP DISCARD. -/
def execWinUpdateDiscard (src : Path) (v : Word) (s : State) : Res := regWr s src 0x40 0x100 (winOp v 3)

/-- R159: WIN_COMMIT with GO alone. -/
def execWinCommitGo (src : Path) (v : Word) (s : State) : Res := regWr s src 0x40 0x108 (withBit (withBit v.toNat 1 false) 0 true)
/-- R159: WIN_COMMIT with CHECK. -/
def execWinCommitCheck (src : Path) (v : Word) (s : State) : Res := regWr s src 0x40 0x108 (withBit v.toNat 1 true)

/-- R160: the new generation takes effect at one TABLE cycle. -/
def execWinCommitApply (s : State) : Res := whenUpS s fun s => s.winApply
/-- R160: the overlay has been written back. -/
def execWinWritebackDone (s : State) : Res := whenUpS s fun s => s.winWriteback

end Sys2Proof.Machine
end

