-- ==== Sys2Proof/Machine/Bridge.lean ====
section
/-! DEFINITION. The sideband bridge and the debug access port (16_management_access.md R457 to R466). -/
namespace Sys2Proof.Machine

/-! ### The bridge's own state -/

/-- The bridge runs on its own oscillator: it answers while the device has power and no reset holds it, root clock or not (R462). -/
def State.sbAlive (s : State) : Bool := s.pins.pwrOk && !s.pins.rstHeld && !s.pins.thermTrip

/-- SB_STS shows the queue and the read state. -/
def State.sbShow (s : State) : State :=
  s.sets [(F.SIDEBAND.SB_STS.WQ_DEPTH, s.mgmt.wq.length),
    (F.SIDEBAND.SB_STS.READ_STATE, if s.mgmt.fetch.isSome then 1 else if s.mgmt.result.isSome then 2 else 0)]

/-- Run a transfer or an event of the bridge, and what follows it while the logic runs. -/
def whenSb (s : State) (f : State → State) : Res :=
  let go (t : State) : State := if t.up then t.after else t
  .next (if s.sbAlive then go (f s).sbShow else s)

/-- A command is answered: its result is held until the next command is written (R462). -/
def State.sbResult (s : State) (r : List Nat) : State :=
  { s with mgmt := { s.mgmt with result := some r, resultExpires := false, wulWait := false } }

/-- A NACKed command byte, counted (R461, R462). -/
def State.sbNacked (s : State) : State := (s.emit .sbNack).addSat F.SIDEBAND.SB_STS.NACKS 1

/-- A write whose PEC is wrong is NACKed, discarded and counted, and the next read says so; a good one is served (R458). -/
def State.sbPec (s : State) (pecOk : Bool) (f : State → State) : State :=
  if !pecOk then
    (({ s with mgmt := { s.mgmt with pecBad := true } } : State).emit .sbNack).addSat F.SIDEBAND.SB_STS.PEC_ERRS 1
  else f { s with mgmt := { s.mgmt with pecBad := false } }

/-- A register command; without the root clock it answers code 0x0C (R462). -/
def State.sbReg (s : State) (f : State → State) : State := if s.pins.clkLost then s.sbResult [2, 0x0C] else f s

/-! ### Register commands (R459 to R462) -/

/-- WRITE32: queued. -/
def State.sbWrite (s : State) (addr data : Nat) : State :=
  s.sbReg fun s =>
    if s.mgmt.wq.length ≥ 16 then s.sbNacked
    else ({ s with mgmt := { s.mgmt with wq := s.mgmt.wq ++ [(addr, data, false)] } } : State).sbResult [0]

/-- WRITE_UNLOCK32: queued; its status comes when it is performed. -/
def State.sbWriteUnlock (s : State) (addr data : Nat) : State :=
  s.sbReg fun s =>
    if s.mgmt.wq.length ≥ 16 then s.sbNacked
    else { s with mgmt := { s.mgmt with wq := s.mgmt.wq ++ [(addr, data, true)], result := none, resultExpires := false, wulWait := true } }

/-- READ32 and LOCK_READ32: a fetch starts, unless one runs; a held result is discarded. -/
def State.sbRead (s : State) (addr : Nat) (lock : Bool) : State :=
  if s.mgmt.fetch.isSome then s.sbNacked
  else
    s.sbReg fun s =>
      { s with mgmt := { s.mgmt with fetch := some { addr := addr, lock := lock, ahead := s.mgmt.wq.length }, result := none,
                                     resultExpires := false, wulWait := false } }

/-- The sideband's broken lock is forgotten once its sequence ends or a new one begins. -/
def State.sbMend (s : State) : State := { s with mgmt := { s.mgmt with broken := s.mgmt.broken.filter fun b => b.1 != 1 } }

def State.sbBroken (s : State) : Bool := s.mgmt.broken.any fun b => b.1 == 1

/-- UNLOCK: the sideband's lock is released; after a broken one the code is LOCK_BROKEN (R457). -/
def State.sbUnlock (s : State) : State :=
  s.sbReg fun s => if s.sbBroken then s.sbMend.sbResult [2, 6] else (s.releaseLock 1).sbResult [0]

/-! ### Queued writes and fetches as performed (R461, R462, R464) -/

/-- A queued write fails after it was accepted: the first is held in ERR_ADDR, later ones are counted; one without an event of its own raises
SB_FAR_ERR (R464). -/
def State.farError (s : State) (addr code : Nat) (own : Bool) : State :=
  let s :=
    if s.flag F.SIDEBAND.ERR_ADDR.VALID then s.addSat F.SIDEBAND.ERR_ADDR.COUNT 1
    else s.sets [(F.SIDEBAND.ERR_ADDR.VALID, 1), (F.SIDEBAND.ERR_ADDR.WRITE, 1), (F.SIDEBAND.ERR_ADDR.CAUSE, code),
      (F.SIDEBAND.ERR_ADDR.COUNT, 0), (F.SIDEBAND.ERR_ADDR.ADDR, addr)]
  if own then s else s.raise Ev.SB_FAR_ERR

/-- The status a WRITE_UNLOCK32 waits for, unless another command has been written since. -/
def State.wulDone (s : State) (unlock : Bool) (r : List Nat) : State := if unlock && s.mgmt.wulWait then s.sbResult r else s

/-- The head of the queue, taken off it; a fetch behind it has one write fewer ahead. -/
def State.sbPop (s : State) : State :=
  { s with mgmt := { s.mgmt with wq := s.mgmt.wq.drop 1, fetch := s.mgmt.fetch.map fun f => { f with ahead := f.ahead - 1 } } }

/-- The head of the queue is performed: from BASECAMP on, in order with the fetches, and not while its segment is locked by another. -/
def State.sbPerform (s : State) : State :=
  match s.mgmt.wq with
  | [] => s
  | (a, d, unlock) :: _ =>
    let mine := match s.mgmt.fetch with
      | some f => decide (f.ahead = 0)
      | none => false
    if mine then s
    else if s.pins.clkLost then (s.sbPop.farError a 0x0C false).wulDone unlock [2, 0x0C]
    else if s.phase = 0 then s
    else if unlock && s.sbBroken then (s.sbPop.sbMend.farError a 6 true).wulDone unlock [2, 6]
    else
      let w := writeAcc .sideband a 4 d
      match s.gateAcc w with
      | .wait => s
      | .discard => s.sbPop
      | .deny c at' => ((s.sbPop.deny .sideband at' true c).farError at' (causeCode c) true).wulDone unlock [2, causeCode c]
      | .go =>
        let s := s.sbPop.performAcc w
        (if unlock then s.releaseLock 1 else s).wulDone unlock [0]

/-- The fetch's answer, unless another command has been written since; it expires (R462). -/
def State.fetchAnswer (s : State) (r : List Nat) : State :=
  let s : State := { s with mgmt := { s.mgmt with fetch := none } }
  if s.mgmt.result.isSome || s.mgmt.wulWait then s else { s with mgmt := { s.mgmt with result := some r, resultExpires := true } }

/-- The fetch ends: after the writes queued before it, from BASECAMP on. A READ32 of a segment locked by another waits; a LOCK_READ32 of one
is answered BUSY (R456). -/
def State.sbFetched (s : State) : State :=
  match s.mgmt.fetch with
  | none => s
  | some f =>
    if f.ahead ≠ 0 then s
    else if s.pins.clkLost then s.fetchAnswer [2, 0x0C]
    else if s.phase = 0 then s
    else
      let w : WaitAcc := { src := .sideband, who := 1, addr := f.addr, len := 4, write := false, value := 0, lock := f.lock }
      match s.gateAcc w with
      | .wait => if f.lock then s.fetchAnswer [1] else s
      | .discard => s
      | .deny c a => (s.deny .sideband a false c).fetchAnswer [2, causeCode c]
      | .go =>
        let s := if f.lock then (s.takeLock w).sbMend else s
        let (l, s) := (s.charged .sideband).readAt 0 f.addr 4
        s.fetchAnswer (0 :: (leBytes 4 (l.headD 0)).map BitVec.toNat)

/-- Two milliseconds after a fetch ended, its result expires. -/
def State.sbExpire (s : State) : State :=
  if s.mgmt.resultExpires then { s with mgmt := { s.mgmt with result := none, resultExpires := false } } else s

/-- A private read: the result of the last command written (R459, R460). While a fetch or a WRITE_UNLOCK32 is under way, BUSY. -/
def State.sbPrivate (s : State) : State :=
  if s.mgmt.pecBad then ({ s with mgmt := { s.mgmt with pecBad := false } } : State).emit (.sb [2, 7])
  else if s.mgmt.fetch.isSome || s.mgmt.wulWait then s.emit (.sb [1])
  else
    match s.mgmt.result with
    | some r => s.emit (.sb r)
    | none => s.emit (.sb [2, 3])

/-! ### Status, alarms and records (R459, R414, R464) -/

/-- ALARM records not yet acknowledged, oldest first. -/
def State.unreadAlarms (s : State) : List AlarmEnt := s.tele.fifo.filter fun e => !e.read

/-- GET_STATUS. -/
def State.sbStatus (s : State) : State :=
  let n := s.unreadAlarms.length
  let m := s.tele.sbRecs.length
  s.sbResult ([0, b2n (s.flag F.SIDEBAND.ERR_ADDR.VALID) + 2 * b2n (decide (n > 0)) + 4 * b2n (decide (m > 0)), s.mgmt.wq.length, s.phase, 0] ++
    (leBytes 2 n ++ leBytes 2 m).map BitVec.toNat)

def State.sbRecord (s : State) (r : LogRec) : State := s.sbResult (0 :: r.toBytes.map BitVec.toNat)

/-- ALARM_READ: the oldest one; it has been shown. -/
def State.sbAlarm (s : State) : State :=
  match s.unreadAlarms with
  | [] => s.sbResult [2, 0x0A]
  | e :: _ => (s.setFifo (s.tele.fifo.map fun x => if x = e then { x with shown := true } else x)).sbRecord e.r

/-- ALARM_ACK: the oldest one, by its SEQ. -/
def State.sbAlarmAck (s : State) (seq : Nat) : State :=
  match s.unreadAlarms with
  | [] => s.sbResult [2, 0x0A]
  | e :: _ =>
    if e.r.seq % 2 ^ 32 = seq then
      ((s.setFifo (s.tele.fifo.map fun x => if x = e then { x with read := true } else x)).fifoFree).sbResult [0]
    else s.sbResult [2, 0x0B]

/-- RECORD_READ and RECORD_ACK: the oldest record of the sideband record queue. -/
def State.sbRecRead (s : State) : State :=
  match s.tele.sbRecs with
  | [] => s.sbResult [2, 0x0A]
  | r :: _ => s.sbRecord r
def State.sbRecAck (s : State) (seq : Nat) : State :=
  match s.tele.sbRecs with
  | [] => s.sbResult [2, 0x0A]
  | r :: rest =>
    if r.seq % 2 ^ 32 = seq then ({ s with tele := { s.tele with sbRecs := rest } } : State).sbResult [0] else s.sbResult [2, 0x0B]

/-! ### The debug access port (R466) -/

/-- A DAP_ACC operation's status and data, captured out at the next one. -/
def State.dapSet (s : State) (status data : Nat) : State := { s with mgmt := { s.mgmt with dapStatus := status, dapData := data } }

/-- A DAP_ACC operation: refused while the DAP is locked; an access of a locked segment is answered busy. -/
def State.dapAcc (s : State) (write size8 : Bool) (addr v : Nat) : State :=
  let s := (s.setIr 0x10).emit (.dap s.mgmt.dapStatus s.mgmt.dapData)
  if !s.up then s.dapSet (if s.flag F.ATTEST.DBG_STS.UNLOCKED then 1 else 3) 0
  else if !s.flag F.ATTEST.DBG_STS.UNLOCKED then (s.deny .debug addr write 7).dapSet 3 0
  else
    let w : WaitAcc := { src := .debug, who := 63, addr := addr, len := if size8 then 8 else 4, write := write, value := v }
    match s.gateAcc w with
    | .wait => s.dapSet 1 0
    | .discard => s.dapSet 2 0
    | .deny c a => (s.deny .debug a write c).dapSet 2 0
    | .go =>
      let s := s.charged .debug
      if write then (s.writeAt 0 4 addr w.len (placed addr w.len v)).dapSet 0 0
      else
        let (l, s) := s.readAt 0 addr w.len
        s.dapSet 0 (l.headD 0)

end Sys2Proof.Machine
end

