-- ==== Sys2Proof/Machine/MgmtCmd.lean ====
section
/-! DEFINITION. The commands of segment locks, the sideband bridge and the debug access port (16_management_access.md R455 to R466). -/
namespace Sys2Proof.Machine

/-! ### Segment locks (R455, R457) -/

/-- R455: a host's MRdLk; only BAR0 takes locks. -/
def execHostLockedRead (vh : VhId) (rid : BitVec 16) (hostPort : Bool) (bar : Fin 3) (addr : BitVec 25) (len : Nat) (s : State) : Res :=
  whenUpS s fun s =>
    let w : WaitAcc := { src := .host vh rid hostPort false, who := 8 + vh.val, addr := addr.toNat, len := len, write := false, value := 0, lock := true }
    if bar.val = 0 then s.access w else if s.barOpen w.src then (s.deny w.src w.addr false 9).answerRead w 9 [] else s

/-- R455: the PCIe Unlock message of a VH. -/
def execHostUnlock (vh : VhId) (s : State) : Res := whenUpS s fun s => s.hostUnlock vh.val

/-- R457: a lock has been held for 1 ms. -/
def execLockBreak (page : Fin 512) (seg : Fin 16) (s : State) : Res := whenUpS s fun s => s.breakLock page.val seg.val

/-! ### The I3C target (R458) -/

/-- R6, R8, R458: an MCTP packet for the SPDM responder; one with a wrong PEC is discarded and counted. The responder needs the logic to run. -/
def execMctpPacketRx (bytes : List Byte) (pecOk : Bool) (s : State) : Res :=
  whenSb s fun s =>
    if pecOk then (if s.up then s.mctpPacket .i3c bytes else s) else (s.emit .sbNack).addSat F.SIDEBAND.SB_STS.PEC_ERRS 1

/-- R458: SETDASA or ENTDAA. -/
def execI3cDynamicAddress (addr : BitVec 7) (s : State) : Res :=
  whenSb s fun s => s.sets [(F.SIDEBAND.SB_STS.DYN_ADDR, addr.toNat), (F.SIDEBAND.SB_STS.DYN_VALID, 1)]

/-! ### Bridge commands (R459) -/

def execWrite32 (addr data : BitVec 32) (pecOk : Bool) (s : State) : Res := whenSb s fun s => s.sbPec pecOk fun s => s.sbWrite addr.toNat data.toNat
def execRead32 (addr : BitVec 32) (pecOk : Bool) (s : State) : Res := whenSb s fun s => s.sbPec pecOk fun s => s.sbRead addr.toNat false
def execLockRead32 (addr : BitVec 32) (pecOk : Bool) (s : State) : Res := whenSb s fun s => s.sbPec pecOk fun s => s.sbRead addr.toNat true
def execWriteUnlock32 (addr data : BitVec 32) (pecOk : Bool) (s : State) : Res :=
  whenSb s fun s => s.sbPec pecOk fun s => s.sbWriteUnlock addr.toNat data.toNat
def execUnlock (pecOk : Bool) (s : State) : Res := whenSb s fun s => s.sbPec pecOk State.sbUnlock
def execGetStatus (pecOk : Bool) (s : State) : Res := whenSb s fun s => s.sbPec pecOk State.sbStatus
def execAlarmRead (pecOk : Bool) (s : State) : Res := whenSb s fun s => s.sbPec pecOk State.sbAlarm
def execAlarmAck (seq : BitVec 32) (pecOk : Bool) (s : State) : Res := whenSb s fun s => s.sbPec pecOk fun s => s.sbAlarmAck seq.toNat
def execRecordRead (pecOk : Bool) (s : State) : Res := whenSb s fun s => s.sbPec pecOk State.sbRecRead
def execRecordAck (seq : BitVec 32) (pecOk : Bool) (s : State) : Res := whenSb s fun s => s.sbPec pecOk fun s => s.sbRecAck seq.toNat
def execSbPrivateRead (s : State) : Res := whenSb s State.sbPrivate

/-- R461: the head of the write queue is performed. -/
def execSbWritePerform (s : State) : Res := whenSb s State.sbPerform
/-- R462: the fetch ends. -/
def execSbFetchDone (s : State) : Res := whenSb s State.sbFetched
/-- R462: its result has been held for 2 ms. -/
def execSbResultExpiry (s : State) : Res := whenSb s State.sbExpire

/-! ### DAP_ACC (R466) -/

def execDapRead (size8 : Bool) (addr : BitVec 25) (s : State) : Res := whenPower s fun s => s.dapAcc false size8 addr.toNat 0
def execDapWrite (size8 : Bool) (addr : BitVec 25) (v : Word) (s : State) : Res := whenPower s fun s => s.dapAcc true size8 addr.toNat v.toNat

end Sys2Proof.Machine
end

