-- ==== Sys2Proof/Machine/PortsCmd.lean ====
section
/-! DEFINITION. The port commands (03_ports.md R66 to R93): roles, link control, widths, training, resets and hot-plug. -/
namespace Sys2Proof.Machine

def execBifurcWrite (st : StnId) (src : Path) (v : Word) (s : State) : Res := regWr s src (0x10 + st.val) 0x100 v.toNat

/-- A write of a register of a port's own: `off` is that of controller 0. -/
def portWr (s : State) (p : PortId) (src : Path) (off v : Nat) : Res := regWr s src (0x10 + p.val / 4) (off + 8 * (p.val % 4)) v

def execPortRoleWrite (p : PortId) (src : Path) (v : Word) (s : State) : Res := portWr s p src 0x110 v.toNat

/-! ### LINK_CTL (R85) -/

/-- R85: a write of LINK_CTL for its DISABLE level. -/
def execLinkDisableCmd (p : PortId) (src : Path) (v : Word) (s : State) : Res := portWr s p src 0x130 v.toNat

/-- R85: a write of LINK_CTL for its PRST_ASSERT level; on a clear the line is released after its minimum (PRST_HOLD_EXPIRY). -/
def execPrstAssertCmd (p : PortId) (src : Path) (v : Word) (s : State) : Res := portWr s p src 0x130 v.toNat

/-- R85: a write of LINK_CTL with HOT_RESET set. -/
def execHotResetCmd (p : PortId) (src : Path) (v : Word) (s : State) : Res := portWr s p src 0x130 (withBit v.toNat 3 true)

/-- R85: a write of LINK_CTL with RETRAIN set. -/
def execRetrainCmd (p : PortId) (src : Path) (v : Word) (s : State) : Res := portWr s p src 0x130 (withBit v.toNat 1 true)

/-- R82: a write of LINK_CTL with WIDTH_GO set. -/
def execWidthGo (p : PortId) (src : Path) (v : Word) (s : State) : Res := portWr s p src 0x130 (withBit v.toNat 2 true)

/-- R85, R89, R288: PRST_N has been asserted for 1 ms; a vDSP of the port that is being emptied goes on to its drain. -/
def execPrstHoldExpiry (p : PortId) (s : State) : Res :=
  whenUpS s fun s =>
    if !(s.prst p.val).minTimer then s
    else
      let s := s.setPrst p.val { s.prst p.val with minTimer := false }
      match s.vdspOfPort p.val with
      | some (v, d) => s.toDrain v d
      | none => s

/-! ### Widths in service (R82 to R84) -/

/-- R82, R83: the PCIe partner asks for a width through L0p. It is refused only above NEG_WIDTH; the port's own pending change is withdrawn and
retried once. -/
def execPartnerWidthRequest (p : PortId) (width : BitVec 5) (s : State) : Res :=
  whenUpS s fun s =>
    let p := p.val
    let w := width.toNat
    if !(s.role p == 1 || s.role p == 2) || (s.port p).under != 6 || s.heldPort p || !s.flag (F.STN.LINK_STS.FLIT p) || !([1, 2, 4, 8, 16].contains w) then s
    else if w > s.get (F.STN.LINK_STS.NEG_WIDTH p) then s.emit (.link p "L0P_NAK" w)
    else
      let x := s.port p
      let own := x.widthOwn.isSome
      let again : Bool := own && !x.widthTried
      let s := if own && x.widthTried then s.set (F.STN.LINK_CTL.WIDTH_RESULT p) 3 else s
      let s := s.setPort p { x with widthOwn := none, widthNew := some w, widthRetry := x.widthRetry || again }
      ((s.set (F.STN.LINK_STS.WIDTH_CHG p) 1).wakeLanes p w).emit (.link p "L0P_ACK" w)

/-- R83: a withdrawn PCIe width change is retried once, when the active width still differs from WIDTH_REQ. A retry that R82 no longer allows ends with
WIDTH_RESULT 4, as the request itself would (DESIGN CHOICE, notes/assumptions/104.md). -/
def execWidthRetry (p : PortId) (s : State) : Res :=
  whenUpS s fun s =>
    let p := p.val
    let x := s.port p
    let w := s.get (F.STN.LINK_CTL.WIDTH_REQ p)
    if !x.widthRetry || x.widthNew.isSome then s
    else
      let s := s.setPort p { x with widthRetry := false, widthTried := true }
      if s.get (F.STN.LINK_STS.ACTIVE_WIDTH p) = w then s.set (F.STN.LINK_CTL.WIDTH_RESULT p) 1
      else if !s.widthOk p w then s.set (F.STN.LINK_CTL.WIDTH_RESULT p) 4
      else s.startWidth p w

/-- R81, R84: the width change in progress completes, or the PCIe partner refuses the port's own. A Halud change completes when both directions
have switched. -/
def execWidthChangeDone (p : PortId) (refused : Bool) (s : State) : Res :=
  whenUpS s fun s =>
    let p := p.val
    let x := s.port p
    match x.widthNew with
    | none => s
    | some w =>
      let clear (s : State) : State :=
        (s.setPort p { s.port p with widthOwn := none, widthNew := none,
                                     hll := { (s.port p).hll with want := false, ackSent := false, ackGot := false } }).set (F.STN.LINK_STS.WIDTH_CHG p) 0
      let own := x.widthOwn.isSome
      if s.role p ≠ 3 ∧ refused then (if own then (clear s).set (F.STN.LINK_CTL.WIDTH_RESULT p) 5 else s)
      else if !s.widthReady p w || (s.role p == 3 && (x.hll.txW != w || x.hll.rxW != w)) then s
      else
        let s := (clear s).applyWidth p w
        if own then s.set (F.STN.LINK_CTL.WIDTH_RESULT p) 1 else s

/-! ### Training (R73 to R78, R100) -/

def execPcieTrainingStep (p : PortId) (t : TrainStep) (s : State) : Res := whenUpS s fun s => s.trainStep p.val t

/-- R74: receiver detection on a FAB port in DETECT, every 12 ms: a partner starts ALIGN, with every lane's transmitter at D5, sending ALIGN. -/
def execRxDetectRepeat (p : PortId) (found : Bool) (s : State) : Res :=
  whenUpS s fun s =>
    let p := p.val
    if s.role p ≠ 3 ∨ (s.port p).under ≠ 1 ∨ !found then s
    else
      let s := (s.lanesOf p).foldl (fun s n => s.useCoefs n (devPreset 0x15) 0x15) s
      ((s.setPort p { s.port p with partner := none, paramSent := false }).setLink p 2).sendAlign (s.lanesOf p)

/-- R100, R74, R78: ALIGN messages: symbol and flit lock, lane order and polarity; then equalisation at 64 GT/s. A retrain equalises only the lanes that
are not in TRACK, at the rate the link has, among them those it lacks of MAX_WIDTH (R72, R78). -/
def execTrainAlignRx (p : PortId) (reversed : Bool) (polarity : BitVec 16) (s : State) : Res :=
  whenUpS s fun s =>
    let p := p.val
    let st := (s.port p).under
    if s.role p = 3 ∧ st = 6 then
      -- ALIGN on lanes that a width change in service wakes (R127)
      (match (s.port p).widthNew with
       | some w => s.alignLanes (((s.trainedLanes p).take w).filter fun n => s.laneState n == 2)
       | none => s)
    else if s.role p ≠ 3 ∨ (st ≠ 2 ∧ st ≠ 5) then s
    else
      let s := s.set (F.STN.LINK_STS.REVERSED p) (b2n reversed)
      let s := (s.lanesOf p).foldl (fun s n => s.set (F.LANE.RXSTS.POL_INV n) (b2n (bitOf polarity.toNat (n % 16)))) s
      let again : Bool := st == 5 && s.get (F.STN.LINK_STS.RATE p) != 0xF
      let s := (s.setPort p { s.port p with partner := none, paramSent := false, alignFails := 0 }).setLink p 4
      let wider : Bool := s.get (F.STN.LINK_STS.NEG_WIDTH p) < s.maxWidth p
      let s := if again then s.acquire (if wider then s.lanesOf p else s.trainedLanes p) (s.get (F.STN.LINK_STS.RATE p)) else (s.acquire (s.lanesOf p) 5).set (F.STN.LINK_STS.RATE p) 5
      ((s.alignLanes (s.lanesOf p)).seedScramblers p).eqSettled p

/-- R75: ALIGN has lasted 2 ms: back to DETECT; the third time in a row training fails. -/
def execAlignTimeout (p : PortId) (s : State) : Res :=
  whenUpS s fun s =>
    let p := p.val
    let st := (s.port p).under
    if s.role p ≠ 3 ∨ (st ≠ 2 ∧ st ≠ 5) then s
    else
      let n := (s.port p).alignFails + 1
      if n ≥ 3 then (s.setPort p { s.port p with alignFails := 0 }).trainFail p 3
      else ((s.setPort p { s.port p with alignFails := n }).idleLanes (s.lanesOf p)).setLink p 1

/-- R74, R75, R130: a PARAM message, from a partner that may be in PARAM before this end is. -/
def execTrainParamRx (p : PortId) (m : ParamMsg) (s : State) : Res :=
  whenUpS s fun s => s.paramRx p.val m

/-- R74: equalisation has ended on every lane of the width: ACTIVE, at 64 GT/s when 128 GT/s was not reached; the link layer starts. A narrower
width than MAX_WIDTH writes an EVENT record (R73). -/
def execFabLinkActive (p : PortId) (s : State) : Res :=
  whenUpS s fun s =>
    let p := p.val
    let x := s.port p
    if s.role p ≠ 3 ∨ (x.under ≠ 3 ∧ x.under ≠ 4) ∨ s.heldPort p ∨ !x.paramSent then s
    else
      match x.partner with
      | none => s
      | some m =>
        let l := s.trainedLanes p
        let conv := s.flag (F.STN.LINK_STS.CAP_CONV p)
        let rate := if conv then 5 else min (min x.trainRate m.rate.toNat) 6
        if l.isEmpty || !(l.all fun n => s.laneState n == 2 && s.get (F.LANE.RXSTS.RATE n) == rate) then s
        else
          let w := l.length
          let s := (s.lanesOf p).foldl (fun s n => if l.contains n then s else s.laneIdle n) s
          let s := s.sets [(F.STN.LINK_STS.RATE p, rate), (F.STN.LINK_STS.ACTIVE_WIDTH p, w), (F.STN.LINK_STS.FLIT p, 1)]
          let s := if conv then s else s.set (F.STN.LINK_STS.CONV_FAIL p) 0
          let s := ((s.setPort p { s.port p with alignFails := 0 }).resetSeqs p).setLink p 6
          let s := if w < s.maxWidth p then s.raise Ev.WIDTH_NARROW { inst := p, recC := 1, detail := 2 } else s
          s.hllStart p

/-- R49, R77, R75: lanes fail to converge at a rate: the port keeps the rate it had, or falls to the lowest where it failed at that one again; a lane that
has not converged at that rate acquires it first. A FAB port
goes on at 64 GT/s without the lanes that fail there, held at that rate (DEDUCED, notes/assumptions/64.md), and fails once none of its lanes is left. The
record's last word is the rate; LINK_STS in it shows the lanes. -/
def execConvFailAtRate (p : PortId) (rate : BitVec 4) (lanes : BitVec 16) (s : State) : Res :=
  whenUpS s fun s =>
    let p := p.val
    let bad := (s.lanesOf p).filter fun n => bitOf lanes.toNat (n % 16) && s.laneState n == 1 && s.get (F.LANE.RXSTS.RATE n) == rate.toNat
    if s.role p = 0 ∨ (s.port p).under ≠ 4 ∨ bad.isEmpty then s
    else
      let mask := bad.foldl (fun m n => withBit m (n % 16) true) (if s.role p = 3 then s.get (F.STN.LINK_STS.CONV_FAIL p) else 0)
      let was := s.get (F.STN.LINK_STS.RATE p)
      let old := if s.role p = 3 then 5 else if was = 0xF then 0 else was
      let s := (s.setPort p { s.port p with failRate := rate.toNat }).sets [(F.STN.LINK_STS.CONV_FAIL p, mask), (F.STN.LINK_STS.CAP_CONV p, 1)]
      let s := s.raise Ev.CONV_FAIL { inst := p, recC := 1, detail := 2, w := s.stnW p rate.toNat }
      let here := (s.lanesOf p).filter fun n => s.get (F.LANE.RXSTS.RATE n) = rate.toNat
      if s.role p = 3 ∧ rate.toNat = 5 then
        let s := bad.foldl (fun s n => s.laneIdle n) s
        if (s.lanesOf p).any fun n => s.laneState n == 1 || s.laneState n == 2 then s.eqSettled p else s.trainFail p 4
      else if old = rate.toNat then s.acquire (here.filter fun n => s.laneState n ≠ 2) 0
      else (here.foldl (fun s n =>
        if (s.lane n).convAt.contains old then ((s.abortScan n).set (F.LANE.RXSTS.RATE n) old).setLaneState n 2 else s.laneStart n old) s).eqSettled p

/-! ### Resets (R90, R91) -/

/-- R90: PRST_N is asserted on a HOST port: its link goes down and the VH bound to it is reset. -/
def execHostPrstAssert (p : PortId) (s : State) : Res :=
  whenUpS s fun s =>
    let p := p.val
    if s.role p ≠ 1 ∨ (s.port p).hostRst then s
    else
      let s := (s.setPort p { s.port p with hostRst := true }).takeDown p 1 Ev.VH_RESET
      match s.vhOfHost p with
      | some v => s.vhReset v true
      | none => s

/-- R90: PRST_N is released on a HOST port: the link goes to DETECT. -/
def execHostPrstRelease (p : PortId) (s : State) : Res :=
  whenUpS s fun s =>
    if s.role p.val = 1 ∧ (s.port p.val).hostRst then (s.setPort p.val { s.port p.val with hostRst := false }).startTrain p.val else s

/-- R90: a hot reset arrives on a HOST port whose link is up. -/
def execHotResetRx (p : PortId) (s : State) : Res :=
  whenUpS s fun s =>
    let p := p.val
    if s.role p ≠ 1 ∨ !s.linkUp p then s
    else
      let s := s.takeDown p 9 Ev.VH_RESET
      match s.vhOfHost p with
      | some v => s.vhReset v false
      | none => s

/-- R90, R351: everything a VH reset waits for has ended. -/
def execVhResetDone (vh : VhId) (s : State) : Res :=
  whenUpS s fun s =>
    let v := vh.val
    if s.share.vhReset.any (fun e => e.1 == v) && s.vhResetOver v then
      let s : State := { s with share := { s.share with vhReset := s.share.vhReset.filter fun e => e.1 ≠ v } }
      (s.bindState v).vhReleased v
    else s

/-- R91: the PLL and slot-power delays have passed: an attached DEV port whose line nothing else holds releases PRST_N and trains. -/
def execDevPrstRelease (p : PortId) (s : State) : Res := whenUpS s fun s => (s.releasePrst p.val).trainBegan p.val

/-! ### Hot-plug and PTM (R92, R88) -/

/-- A reported change of a slot's inputs. -/
def State.slotChanged (s : State) (p : Nat) (old new : Bool × Bool × Bool) : State :=
  match s.vdspOfPort p with
  | none => s
  | some (v, d) =>
    let s := if new.2.1 && !old.2.1 then s.attention v d else s
    let s := if new.2.2 != old.2.2 then (s.setCfg v d 0x22 (withBit (s.cfg v d 0x22) 21 new.2.2)).slotEvent v d 2 2 else s
    let powered := !bitOf (s.cfg v d 0x22) 10
    if new.1 && !old.1 then (if powered then s.removalOver v d p else s).setPresence v d true
    else if old.1 && !new.1 then (if powered then s.surprise p else s.setPresence v d false)
    else s

/-- The signals of a slot in its expander's inputs (R92, R93): a field's bit 4 says that the signal is fitted, its bits 3:0 name the pin, and the
inputs are active low. A presence input that is not fitted reads present. -/
def State.slotInputs (s : State) (p input : Nat) : Bool × Bool × Bool :=
  let low (f : Nat) : Bool := bitOf f 4 && !bitOf input (f % 16)
  let pr := s.get (F.HOTPLUG.SLOT_MAP.PRSNT p)
  (low pr || !bitOf pr 4, low (s.get (F.HOTPLUG.SLOT_MAP.BTN p)), low (s.get (F.HOTPLUG.SLOT_MAP.MRL p)))

/-- One reading of a slot: each signal's change is reported after two consecutive equal reads of it. Two equal reads of presence after DL_Down that
declare no removal make it a link down (R355). -/
def State.slotRead (s : State) (p input : Nat) : State :=
  let cur := s.slotInputs p input
  let x := s.port p
  let old := x.reported
  let last := x.lastRead.getD (!cur.1, !cur.2.1, !cur.2.2)
  let new := (if last.1 == cur.1 then cur.1 else old.1, if last.2.1 == cur.2.1 then cur.2.1 else old.2.1, if last.2.2 == cur.2.2 then cur.2.2 else old.2.2)
  let n := x.detReads + 1
  let x := { x with lastRead := some cur, detReads := min n 2 }
  let s := if old != new then (s.setPort p { x with reported := new }).slotChanged p old new else s.setPort p x
  if last.1 == cur.1 && n ≥ 2 && (s.port p).detecting then s.devLinkDown p else s

/-- An expander in use has been polled: its slots are read, or, where it does not answer, HP_EXP_ERR is raised for each. -/
def State.expPoll (s : State) (reads : List ExpRead) (a : Nat) : State :=
  let ps := s.slotPorts.filter fun p => s.get (F.HOTPLUG.SLOT_MAP.EXP_ADDR p) == a
  match reads.find? fun r => r.addr.toNat == a with
  | some r => ps.foldl (fun s p => s.slotRead p r.input.toNat) s
  | none => ps.foldl (fun s p => s.raise Ev.HP_EXP_ERR { inst := p, detail := 2 }) s

/-- R92: the 1 ms poll of the expanders in use: outputs that have changed, a blinking indicator's among them, are written, and the inputs are read; one
that is not listed does not answer. -/
def execHotplugPoll (reads : List ExpRead) (s : State) : Res :=
  whenUpS s fun s =>
    let s := s.expSync
    let s := s.expAddrs.foldl (fun s a => s.emit (.i2c a [0])) s
    s.expAddrs.foldl (fun s a => s.expPoll reads a) s

/-- R92, R287: host software writes Power Controller Control of a vDSP. -/
def execSlotPowerCtrl (vh : VhId) (d : VdspId) (on : Bool) (s : State) : Res :=
  whenUpS s fun s =>
    let v := vh.val
    let d := d.val
    let c := s.cfg v d 0x22
    if d = 0 || s.get (F.VH.VDSP.STATE v d) == 0 || bitOf c 10 == !on then s
    else ((s.setCfg v d 0x22 (withBit c 10 (!on))).slotPower v d on).expSync

/-- R88: an endpoint's PTM Request on a DEV port is answered with the device time base in ns while that is synchronised; else discarded. -/
def execPtmRequestRx (p : PortId) (reqId : BitVec 16) (s : State) : Res :=
  whenUpS s fun s =>
    let p := p.val
    if s.role p = 2 && s.linkUp p && s.flag (F.STN.PORT_ROLE.PTM_EN p) && s.flag F.TIME.STS.SYNCED then
      s.pushMsg p { kind := .msgD, reqId := reqId, code := 0x53, len := 8, data := leBytes 8 (10 * s.time.now) }
    else s

end Sys2Proof.Machine
end

