-- ==== Sys2Proof/Machine/PowerCmd.lean ====
section
/-! DEFINITION. The commands of pins, power and time (18_pins_power_package.md R491, R496, R499, R500, R504; 03_ports.md R88). -/
namespace Sys2Proof.Machine

/-- R504: a diode reaches the trip temperature. The monitor acts whatever the logic does. -/
def execThermalTrip (s : State) : Res := .next s.trip

/-- R496: the hottest diode is read, above WARN. -/
def execTempWarn (temp : BitVec 12) (diode : BitVec 6) (s : State) : Res := whenUpS s fun s => s.tempRead temp.toNat diode.toNat

/-- R496: the hottest diode is read again, below WARN. -/
def execTempWarnRearm (temp : BitVec 12) (diode : BitVec 6) (s : State) : Res := whenUpS s fun s => s.tempRead temp.toNat diode.toNat

/-- R491: a rail has been out of its tolerance for 10 µs. -/
def execRailToleranceTimeout (r : Fin 9) (s : State) : Res := whenUpS s fun s => s.railLong r.val

/-- R491: a rail leaves its tolerance or returns to it. -/
def execRailToleranceChange (r : Fin 9) (outside : Bool) (s : State) : Res := whenUpS s fun s => s.railMove r.val outside

/-- R88, R499: a PTM exchange of a HOST port ends. -/
def execPtmExchange (p : PortId) (master : BitVec 64) (s : State) : Res := whenUpS s fun s => s.ptmDone p.val master.toNat

/-- R499: a rising edge on TIME_PPS_IN. -/
def execPpsEdge (s : State) : Res := whenUpS s State.ppsIn

/-- R499: no measurement has come for the time its source allows. -/
def execSyncLossTimeout (s : State) : Res := whenUpS s State.syncLost

/-- R500: a write of TIME.SET. -/
def execTimeSet (src : Path) (v : Word) (s : State) : Res := regWr s src 3 0x110 v.toNat

/-- R500: a write of TIME.SRC_CTL. -/
def execTimeSrcWrite (src : Path) (v : Word) (s : State) : Res := regWr s src 3 0x100 v.toNat

/-- R499: the time base reaches a whole second with PPS_OUT on. -/
def execPpsOutPulse (s : State) : Res := whenUpS s State.ppsRise

end Sys2Proof.Machine
end

