-- ==== Sys2Proof/Machine/SwitchCmd.lean ====
section
/-! DEFINITION. The switch-core commands (06_switch_core.md R165 to R195; 07_buffer_multicast.md R213 to R220). -/
namespace Sys2Proof.Machine

/-- R169: an ingress plane port offers the next coupling of a train. -/
def execCouplingOffer (x : XportId) (s : State) : Res := whenUpS s fun s => s.offerCpl x.val

/-- R170 to R174: an output of a plane decides, and with it in one cycle those that `also` names. -/
def execPlaneArbitration (n : PlaneId) (o : XportId) (also : BitVec 14) (s : State) : Res :=
  whenUpS s fun s => s.arbitrate n.val ((List.range 14).filter fun y => y == o.val || bitOf also.toNat y)

/-- R166, R179: a coupling arrives at its yard, with the bits of its carriages that have flipped. -/
def execCouplingYardArrival (n : PlaneId) (o : XportId) (errs : List BitErr) (s : State) : Res := whenUpS s fun s => s.arrive n.val o.val errs

/-- R179, R186: the yard releases the next coupling of a sequence, to the egress queues, the Hut or the management endpoint. -/
def execYardRelease (y : XportId) (s : State) : Res := whenUpS s fun s => s.yardRelease y.val State.deliverRoom State.deliver

/-- R181: the yard declares a coupling missing. -/
def execYardMissingTimeout (y : XportId) (s : State) : Res := whenUpS s fun s => s.yardMissing y.val

/-- R181: the ingress declares a coupling missing. -/
def execIngressNoticeTimeout (x : XportId) (s : State) : Res := whenUpS s fun s => s.noticeMissing x.val

/-- R188: an uncorrectable plane error. -/
def execPlaneUe (n : PlaneId) (s : State) : Res := whenUpS s fun s => s.planeUe n.val

/-- R189: no second mark within 1 ms: the plane is no longer suspect. -/
def execSuspectExpiry (n : PlaneId) (s : State) : Res :=
  whenUpS s fun s => if s.get (F.PLANE.STS.STATE n.val) = 1 then s.set (F.PLANE.STS.STATE n.val) 0 else s

/-- R214: a multicast train is offered to its target stations. -/
def execMcOffer (x : XportId) (s : State) : Res := whenUpS s fun s => s.mcOffer x.val

/-- R217: the siding delivers a missing coupling. -/
def execSidingDeliver (s : State) : Res := whenUpS s State.sidingDeliver

/-- R219: a station still lacks part of a multicast train. -/
def execSidingTimeout (x : XportId) (s : State) : Res := whenUpS s fun s => s.sidingTimeout x.val

end Sys2Proof.Machine
end

