-- ==== Sys2Proof/Machine/TelemetryCmd.lean ====
section
/-! DEFINITION. The telemetry commands: chained counters, cairns, the logbook and its delivery (14_telemetry.md R400 to R417). -/
namespace Sys2Proof.Machine

/-- R400: a write of PMU.CHAIN. -/
def execChainWrite (j : Fin 32) (src : Path) (v : Word) (s : State) : Res := regWr s src 0x5A (0x200 + 8 * j.val) v.toNat

/-- R403: a write of TRACE.TAG_CTL with EN set. -/
def execTagEnable (src : Path) (v : Word) (s : State) : Res := regWr s src 0x5B 0x100 (withBit v.toNat 63 true)

/-- R405: the cairn of a train whose last stage has passed is finished. -/
def execCairnFinish (id : Nat) (s : State) : Res := whenUpS s fun s => s.cairnFinish id

/-- R406, R407: the oldest queued cairn is written to the ring. -/
def execCairnWrite (s : State) : Res := whenUpS s State.cairnWrite

/-- R412: a coalescing window ends. -/
def execCoalWindowExpiry (code inst key : BitVec 16) (s : State) : Res :=
  whenUpS s fun s => s.coalExpire code.toNat inst.toNat key.toNat

/-- R413: a millisecond that saw dropped records ends. -/
def execLogDropSummary (s : State) : Res := whenUpS s State.dropSummary

/-- R414: the oldest alarm of the FIFO is written to the alarm ring. -/
def execAlarmFifoWrite (s : State) : Res := whenUpS s State.alarmWrite

/-- R415: a write of LOG.FREEZE_CTL with REARM set. -/
def execFreezeRearm (src : Path) (v : Word) (s : State) : Res := regWr s src 0x59 0x138 (withBit v.toNat 63 true)

/-- R416: IRQ_GAP_US has passed since the logbook's last interrupt. -/
def execLogIrqGapExpiry (s : State) : Res := whenUpS s State.gapExpire

/-- R416: stream DMA sends a batch. -/
def execLogDmaBatch (s : State) : Res := whenUpS s fun s => s.dmaBatch 0

/-- R409: a write of LOG.MARK with GO set. -/
def execLogMark (src : Path) (v : Word) (s : State) : Res := regWr s src 0x59 0x168 (withBit v.toNat 63 true)

end Sys2Proof.Machine
end

