-- ==== Sys2Proof/Machine/Dispatch.lean ====
section
/-! DEFINITION. One arm per command: the meaning of each. -/
namespace Sys2Proof.Machine

/-- The effect of a command on everything but the queue. -/
def exec (i : Instr) (s : State) : Host.Outcome State Fault Refusal :=
  match i with
  | .pwrOkRise => Sys2Proof.Machine.execPwrOkRise s
  | .pwrOkFall => Sys2Proof.Machine.execPwrOkFall s
  | .sysRstNAssert => Sys2Proof.Machine.execSysRstNAssert s
  | .internalResetRelease strap sbAddr => Sys2Proof.Machine.execInternalResetRelease strap sbAddr s
  | .bistDone rep => Sys2Proof.Machine.execBistDone rep s
  | .imageVerifyDone keyOk sigOk digestOk ms => Sys2Proof.Machine.execImageVerifyDone keyOk sigOk digestOk ms s
  | .ascentRecordApply => Sys2Proof.Machine.execAscentRecordApply s
  | .ascentRecordTimeout => Sys2Proof.Machine.execAscentRecordTimeout s
  | .summitEnter => Sys2Proof.Machine.execSummitEnter s
  | .ascentLateTimeout => Sys2Proof.Machine.execAscentLateTimeout s
  | .guidePair1Verified ok => Sys2Proof.Machine.execGuidePair1Verified ok s
  | .autoConfirmTimeout => Sys2Proof.Machine.execAutoConfirmTimeout s
  | .imageConfirm src v => Sys2Proof.Machine.execImageConfirm src v s
  | .raiseSvn src v => Sys2Proof.Machine.execRaiseSvn src v s
  | .updateGo src v => Sys2Proof.Machine.execUpdateGo src v s
  | .updateAbort src v => Sys2Proof.Machine.execUpdateAbort src v s
  | .updatePhaseDone rep => Sys2Proof.Machine.execUpdatePhaseDone rep s
  | .historyWrite => Sys2Proof.Machine.execHistoryWrite s
  | .resetCtlWarm src v => Sys2Proof.Machine.execResetCtlWarm src v s
  | .softResetStart => Sys2Proof.Machine.execSoftResetStart s
  | .refClockLoss refLost lockLost => Sys2Proof.Machine.execRefClockLoss refLost lockLost s
  | .registerWrite src addr len v => Sys2Proof.Machine.execRegisterWrite src addr len v s
  | .txeqWrite n src v => Sys2Proof.Machine.execTxeqWrite n src v s
  | .trainEqRx n m => Sys2Proof.Machine.execTrainEqRx n m s
  | .adaptUpdate n grad => Sys2Proof.Machine.execAdaptUpdate n grad s
  | .vgaCtleUpdate n vga ctle slow => Sys2Proof.Machine.execVgaCtleUpdate n vga ctle slow s
  | .laneConverged n snr => Sys2Proof.Machine.execLaneConverged n snr s
  | .cdrLockLoss n => Sys2Proof.Machine.execCdrLockLoss n s
  | .laneSnapshot n snr => Sys2Proof.Machine.execLaneSnapshot n snr s
  | .laneDivergence n snr => Sys2Proof.Machine.execLaneDivergence n snr s
  | .laneRestart n src v => Sys2Proof.Machine.execLaneRestart n src v s
  | .rxadaptFreeze n src v => Sys2Proof.Machine.execRxadaptFreeze n src v s
  | .historyFallbackTimeout n => Sys2Proof.Machine.execHistoryFallbackTimeout n s
  | .sweepPresetTimeout n snr => Sys2Proof.Machine.execSweepPresetTimeout n snr s
  | .patgenEnable n src v => Sys2Proof.Machine.execPatgenEnable n src v s
  | .patchkEnable n src v => Sys2Proof.Machine.execPatchkEnable n src v s
  | .patchkClear n src v => Sys2Proof.Machine.execPatchkClear n src v s
  | .checkerLock n => Sys2Proof.Machine.execCheckerLock n s
  | .checkerRelock n bits errs syms => Sys2Proof.Machine.execCheckerRelock n bits errs syms s
  | .patchkSaturate n errs syms => Sys2Proof.Machine.execPatchkSaturate n errs syms s
  | .errinjGo n src v => Sys2Proof.Machine.execErrinjGo n src v s
  | .errinjInterval n => Sys2Proof.Machine.execErrinjInterval n s
  | .loopbackModeWrite n src v => Sys2Proof.Machine.execLoopbackModeWrite n src v s
  | .eyescanGo n src v => Sys2Proof.Machine.execEyescanGo n src v s
  | .eyescanDone n pts errs uv => Sys2Proof.Machine.execEyescanDone n pts errs uv s
  | .laneMarginingCmd n c => Sys2Proof.Machine.execLaneMarginingCmd n c s
  | .bifurcWrite st src v => Sys2Proof.Machine.execBifurcWrite st src v s
  | .portRoleWrite p src v => Sys2Proof.Machine.execPortRoleWrite p src v s
  | .linkDisableCmd p src v => Sys2Proof.Machine.execLinkDisableCmd p src v s
  | .prstAssertCmd p src v => Sys2Proof.Machine.execPrstAssertCmd p src v s
  | .prstHoldExpiry p => Sys2Proof.Machine.execPrstHoldExpiry p s
  | .hotResetCmd p src v => Sys2Proof.Machine.execHotResetCmd p src v s
  | .retrainCmd p src v => Sys2Proof.Machine.execRetrainCmd p src v s
  | .widthGo p src v => Sys2Proof.Machine.execWidthGo p src v s
  | .partnerWidthRequest p width => Sys2Proof.Machine.execPartnerWidthRequest p width s
  | .widthRetry p => Sys2Proof.Machine.execWidthRetry p s
  | .widthChangeDone p refused => Sys2Proof.Machine.execWidthChangeDone p refused s
  | .pcieTrainingStep p t => Sys2Proof.Machine.execPcieTrainingStep p t s
  | .rxDetectRepeat p found => Sys2Proof.Machine.execRxDetectRepeat p found s
  | .trainAlignRx p reversed polarity => Sys2Proof.Machine.execTrainAlignRx p reversed polarity s
  | .alignTimeout p => Sys2Proof.Machine.execAlignTimeout p s
  | .trainParamRx p m => Sys2Proof.Machine.execTrainParamRx p m s
  | .fabLinkActive p => Sys2Proof.Machine.execFabLinkActive p s
  | .convFailAtRate p rate lanes => Sys2Proof.Machine.execConvFailAtRate p rate lanes s
  | .lockLossRetrain n => Sys2Proof.Machine.execLockLossRetrain n s
  | .hostPrstAssert p => Sys2Proof.Machine.execHostPrstAssert p s
  | .hostPrstRelease p => Sys2Proof.Machine.execHostPrstRelease p s
  | .hotResetRx p => Sys2Proof.Machine.execHotResetRx p s
  | .vhResetDone vh => Sys2Proof.Machine.execVhResetDone vh s
  | .devPrstRelease p => Sys2Proof.Machine.execDevPrstRelease p s
  | .hotplugPoll reads => Sys2Proof.Machine.execHotplugPoll reads s
  | .slotPowerCtrl vh d on => Sys2Proof.Machine.execSlotPowerCtrl vh d on s
  | .ptmRequestRx p reqId => Sys2Proof.Machine.execPtmRequestRx p reqId s
  | .flitRx p lane bytes => Sys2Proof.Machine.execFlitRx p lane bytes s
  | .nakRepeatTimeout p => Sys2Proof.Machine.execNakRepeatTimeout p s
  | .ackCoalesceTimeout p => Sys2Proof.Machine.execAckCoalesceTimeout p s
  | .ackFsnRx p fsn => Sys2Proof.Machine.execAckFsnRx p fsn s
  | .nakRx p fsn => Sys2Proof.Machine.execNakRx p fsn s
  | .replayTimerExpiry p => Sys2Proof.Machine.execReplayTimerExpiry p s
  | .mgtOffRx p on => Sys2Proof.Machine.execMgtOffRx p on s
  | .creditRx p vc hdr data => Sys2Proof.Machine.execCreditRx p vc hdr data s
  | .initCreditRx p vc hdr data => Sys2Proof.Machine.execInitCreditRx p vc hdr data s
  | .initDoneRx p gotAdv resume => Sys2Proof.Machine.execInitDoneRx p gotAdv resume s
  | .llInitTimeout p => Sys2Proof.Machine.execLlInitTimeout p s
  | .llHoldExpiry p => Sys2Proof.Machine.execLlHoldExpiry p s
  | .widthReqRx p token width => Sys2Proof.Machine.execWidthReqRx p token width s
  | .widthAckRx p token accept => Sys2Proof.Machine.execWidthAckRx p token accept s
  | .widthSwitchRx p token left => Sys2Proof.Machine.execWidthSwitchRx p token left s
  | .retrainReqRx p => Sys2Proof.Machine.execRetrainReqRx p s
  | .transmitSlot p => Sys2Proof.Machine.execTransmitSlot p s
  | .ropePairWrite r src v => Sys2Proof.Machine.execRopePairWrite r src v s
  | .rxSilenceTimeout p => Sys2Proof.Machine.execRxSilenceTimeout p s
  | .ropeRejoinSwitch r vc => Sys2Proof.Machine.execRopeRejoinSwitch r vc s
  | .ropeHoldRelease r vc => Sys2Proof.Machine.execRopeHoldRelease r vc s
  | .tlpRx p t tail vc => Sys2Proof.Machine.execTlpRx p t tail vc s
  | .trainLookup p => Sys2Proof.Machine.execTrainLookup p s
  | .xlatMissFill p res => Sys2Proof.Machine.execXlatMissFill p res s
  | .ctxMissFill p res => Sys2Proof.Machine.execCtxMissFill p res s
  | .xlatInvAll src v => Sys2Proof.Machine.execXlatInvAll src v s
  | .xlatInvDone => Sys2Proof.Machine.execXlatInvDone s
  | .winUpdateWrite src v => Sys2Proof.Machine.execWinUpdateWrite src v s
  | .winUpdateClear src v => Sys2Proof.Machine.execWinUpdateClear src v s
  | .winUpdateDiscard src v => Sys2Proof.Machine.execWinUpdateDiscard src v s
  | .winCommitGo src v => Sys2Proof.Machine.execWinCommitGo src v s
  | .winCommitCheck src v => Sys2Proof.Machine.execWinCommitCheck src v s
  | .winCommitApply => Sys2Proof.Machine.execWinCommitApply s
  | .winWritebackDone => Sys2Proof.Machine.execWinWritebackDone s
  | .couplingOffer x => Sys2Proof.Machine.execCouplingOffer x s
  | .planeArbitration n o also => Sys2Proof.Machine.execPlaneArbitration n o also s
  | .couplingYardArrival n o errs => Sys2Proof.Machine.execCouplingYardArrival n o errs s
  | .yardRelease y => Sys2Proof.Machine.execYardRelease y s
  | .yardMissingTimeout y => Sys2Proof.Machine.execYardMissingTimeout y s
  | .ingressNoticeTimeout x => Sys2Proof.Machine.execIngressNoticeTimeout x s
  | .planeUe n => Sys2Proof.Machine.execPlaneUe n s
  | .suspectExpiry n => Sys2Proof.Machine.execSuspectExpiry n s
  | .sharedMove p => Sys2Proof.Machine.execSharedMove p s
  | .censusPassStart => Sys2Proof.Machine.execCensusPassStart s
  | .censusRun src v => Sys2Proof.Machine.execCensusRun src v s
  | .censusPassEnd f => Sys2Proof.Machine.execCensusPassEnd f s
  | .bankErrorWindow b ce ue => Sys2Proof.Machine.execBankErrorWindow b ce ue s
  | .bankRetireCmd src v => Sys2Proof.Machine.execBankRetireCmd src v s
  | .bankCopyDone copied bad => Sys2Proof.Machine.execBankCopyDone copied bad s
  | .bankSwitchDone interrupt => Sys2Proof.Machine.execBankSwitchDone interrupt s
  | .bankDrainDone => Sys2Proof.Machine.execBankDrainDone s
  | .mcOffer x => Sys2Proof.Machine.execMcOffer x s
  | .sidingDeliver => Sys2Proof.Machine.execSidingDeliver s
  | .sidingTimeout x => Sys2Proof.Machine.execSidingTimeout x s
  | .shaperWheelSlot p q => Sys2Proof.Machine.execShaperWheelSlot p q s
  | .gateCommitGo p src v => Sys2Proof.Machine.execGateCommitGo p src v s
  | .gateCheckDone p => Sys2Proof.Machine.execGateCheckDone p s
  | .gateCancel p src v => Sys2Proof.Machine.execGateCancel p src v s
  | .gateSwap p => Sys2Proof.Machine.execGateSwap p s
  | .gateCopyDone p => Sys2Proof.Machine.execGateCopyDone p s
  | .gateEntryBoundary p => Sys2Proof.Machine.execGateEntryBoundary p s
  | .tcvcWrite p src v => Sys2Proof.Machine.execTcvcWrite p src v s
  | .nodeIdWrite src v => Sys2Proof.Machine.execNodeIdWrite src v s
  | .ortAllocate p => Sys2Proof.Machine.execOrtAllocate p s
  | .ortTimeout e => Sys2Proof.Machine.execOrtTimeout e s
  | .quarantineEnd e => Sys2Proof.Machine.execQuarantineEnd e s
  | .pfnPop src v => Sys2Proof.Machine.execPfnPop src v s
  | .stallTimeout p vc => Sys2Proof.Machine.execStallTimeout p vc s
  | .vhBindWrite vh src v => Sys2Proof.Machine.execVhBindWrite vh src v s
  | .vdspAttach src v => Sys2Proof.Machine.execVdspAttach src v s
  | .vdspDetach src v => Sys2Proof.Machine.execVdspDetach src v s
  | .vdspForceDetach src v => Sys2Proof.Machine.execVdspForceDetach src v s
  | .vdspPowerOff vh d => Sys2Proof.Machine.execVdspPowerOff vh d s
  | .detachWaitTimeout vh d => Sys2Proof.Machine.execDetachWaitTimeout vh d s
  | .vdspFlrWaitExpiry vh d => Sys2Proof.Machine.execVdspFlrWaitExpiry vh d s
  | .vdspDrainDone vh d => Sys2Proof.Machine.execVdspDrainDone vh d s
  | .vfMapWrite j w src v => Sys2Proof.Machine.execVfMapWrite j w src v s
  | .virtualConfigAccess vh r => Sys2Proof.Machine.execVirtualConfigAccess vh r s
  | .vfConfigAccess vh r => Sys2Proof.Machine.execVfConfigAccess vh r s
  | .vfCfgCompletion tag status cplId data ep => Sys2Proof.Machine.execVfCfgCompletion tag status cplId data ep s
  | .vfCfgTimeout tag => Sys2Proof.Machine.execVfCfgTimeout tag s
  | .mediatedFlr vh d secondary => Sys2Proof.Machine.execMediatedFlr vh d secondary s
  | .mediatedFlrDone vh d => Sys2Proof.Machine.execMediatedFlrDone vh d s
  | .dpcTrigger vh d reason => Sys2Proof.Machine.execDpcTrigger vh d reason s
  | .dpcRelease vh d => Sys2Proof.Machine.execDpcRelease vh d s
  | .ctxRead src v => Sys2Proof.Machine.execCtxRead src v s
  | .ctxWrite src v => Sys2Proof.Machine.execCtxWrite src v s
  | .ctxInsert src v => Sys2Proof.Machine.execCtxInsert src v s
  | .ctxDelete src v => Sys2Proof.Machine.execCtxDelete src v s
  | .ctxFind src v => Sys2Proof.Machine.execCtxFind src v s
  | .dlSlotEnable j src v => Sys2Proof.Machine.execDlSlotEnable j src v s
  | .dlZeroDone j => Sys2Proof.Machine.execDlZeroDone j s
  | .dlLineWriteback j line res => Sys2Proof.Machine.execDlLineWriteback j line res s
  | .harvestGo src v => Sys2Proof.Machine.execHarvestGo src v s
  | .harvestAbort src v => Sys2Proof.Machine.execHarvestAbort src v s
  | .harvestDoneCmd src v => Sys2Proof.Machine.execHarvestDoneCmd src v s
  | .harvestFlushDone => Sys2Proof.Machine.execHarvestFlushDone s
  | .harvestDrainDone => Sys2Proof.Machine.execHarvestDrainDone s
  | .harvestDeliverDone => Sys2Proof.Machine.execHarvestDeliverDone s
  | .harvestClearDone => Sys2Proof.Machine.execHarvestClearDone s
  | .harvestMergeDone => Sys2Proof.Machine.execHarvestMergeDone s
  | .hutDeviceRead r => Sys2Proof.Machine.execHutDeviceRead r s
  | .hutDeviceWrite r => Sys2Proof.Machine.execHutDeviceWrite r s
  | .hutNormalRead r => Sys2Proof.Machine.execHutNormalRead r s
  | .hutNormalWrite r => Sys2Proof.Machine.execHutNormalWrite r s
  | .normalWriteDeadline bank => Sys2Proof.Machine.execNormalWriteDeadline bank s
  | .hutReserveRead r => Sys2Proof.Machine.execHutReserveRead r s
  | .hutConditionalWrite r => Sys2Proof.Machine.execHutConditionalWrite r s
  | .hutAtomic k r => Sys2Proof.Machine.execHutAtomic k r s
  | .rsvTimeout m => Sys2Proof.Machine.execRsvTimeout m s
  | .fence vh v => Sys2Proof.Machine.execFence vh v s
  | .fenceArrival vh => Sys2Proof.Machine.execFenceArrival vh s
  | .fenceDone vh => Sys2Proof.Machine.execFenceDone vh s
  | .fenceTimeout vh => Sys2Proof.Machine.execFenceTimeout vh s
  | .dbRing vh src rid target data => Sys2Proof.Machine.execDbRing vh src rid target data s
  | .dbPendRead vh => Sys2Proof.Machine.execDbPendRead vh s
  | .hutZero src v => Sys2Proof.Machine.execHutZero src v s
  | .hutZeroDone => Sys2Proof.Machine.execHutZeroDone s
  | .contain src v => Sys2Proof.Machine.execContain src v s
  | .release src v => Sys2Proof.Machine.execRelease src v s
  | .linkDown p => Sys2Proof.Machine.execLinkDown p s
  | .removalDetectDone p found => Sys2Proof.Machine.execRemovalDetectDone p found s
  | .escWindowExpiry j inst => Sys2Proof.Machine.execEscWindowExpiry j inst s
  | .guideMismatch pair => Sys2Proof.Machine.execGuideMismatch pair s
  | .guidePairReady pair ok => Sys2Proof.Machine.execGuidePairReady pair ok s
  | .guideCheckpoint => Sys2Proof.Machine.execGuideCheckpoint s
  | .sramRowRepair macroId row ue => Sys2Proof.Machine.execSramRowRepair macroId row ue s
  | .dramRowRepair ch bank row ue => Sys2Proof.Machine.execDramRowRepair ch bank row ue s
  | .scrubRead addr res pos => Sys2Proof.Machine.execScrubRead addr res pos s
  | .acclPassStart => Sys2Proof.Machine.execAcclPassStart s
  | .acclRun src v => Sys2Proof.Machine.execAcclRun src v s
  | .marginMeasureDone ms osc => Sys2Proof.Machine.execMarginMeasureDone ms osc s
  | .acclPassEnd => Sys2Proof.Machine.execAcclPassEnd s
  | .fastGuardStep => Sys2Proof.Machine.execFastGuardStep s
  | .eqHoursTick tj => Sys2Proof.Machine.execEqHoursTick tj s
  | .pitchStart => Sys2Proof.Machine.execPitchStart s
  | .chainWrite j src v => Sys2Proof.Machine.execChainWrite j src v s
  | .tagEnable src v => Sys2Proof.Machine.execTagEnable src v s
  | .cairnFinish id => Sys2Proof.Machine.execCairnFinish id s
  | .cairnWrite => Sys2Proof.Machine.execCairnWrite s
  | .coalWindowExpiry code inst key => Sys2Proof.Machine.execCoalWindowExpiry code inst key s
  | .logDropSummary => Sys2Proof.Machine.execLogDropSummary s
  | .alarmFifoWrite => Sys2Proof.Machine.execAlarmFifoWrite s
  | .freezeRearm src v => Sys2Proof.Machine.execFreezeRearm src v s
  | .logIrqGapExpiry => Sys2Proof.Machine.execLogIrqGapExpiry s
  | .logDmaBatch => Sys2Proof.Machine.execLogDmaBatch s
  | .logMark src v => Sys2Proof.Machine.execLogMark src v s
  | .rpuSlotWrite n src v => Sys2Proof.Machine.execRpuSlotWrite n src v s
  | .rpuSlotLock n src v => Sys2Proof.Machine.execRpuSlotLock n src v s
  | .hostLockedRead vh rid hostPort bar addr len => Sys2Proof.Machine.execHostLockedRead vh rid hostPort bar addr len s
  | .hostUnlock vh => Sys2Proof.Machine.execHostUnlock vh s
  | .lockBreak page seg => Sys2Proof.Machine.execLockBreak page seg s
  | .mctpPacketRx bytes pecOk => Sys2Proof.Machine.execMctpPacketRx bytes pecOk s
  | .i3cDynamicAddress addr => Sys2Proof.Machine.execI3cDynamicAddress addr s
  | .write32 addr data pecOk => Sys2Proof.Machine.execWrite32 addr data pecOk s
  | .read32 addr pecOk => Sys2Proof.Machine.execRead32 addr pecOk s
  | .lockRead32 addr pecOk => Sys2Proof.Machine.execLockRead32 addr pecOk s
  | .writeUnlock32 addr data pecOk => Sys2Proof.Machine.execWriteUnlock32 addr data pecOk s
  | .unlock pecOk => Sys2Proof.Machine.execUnlock pecOk s
  | .getStatus pecOk => Sys2Proof.Machine.execGetStatus pecOk s
  | .alarmRead pecOk => Sys2Proof.Machine.execAlarmRead pecOk s
  | .alarmAck seq pecOk => Sys2Proof.Machine.execAlarmAck seq pecOk s
  | .recordRead pecOk => Sys2Proof.Machine.execRecordRead pecOk s
  | .recordAck seq pecOk => Sys2Proof.Machine.execRecordAck seq pecOk s
  | .sbPrivateRead => Sys2Proof.Machine.execSbPrivateRead s
  | .sbWritePerform => Sys2Proof.Machine.execSbWritePerform s
  | .sbFetchDone => Sys2Proof.Machine.execSbFetchDone s
  | .sbResultExpiry => Sys2Proof.Machine.execSbResultExpiry s
  | .tapReset => Sys2Proof.Machine.execTapReset s
  | .bypass => Sys2Proof.Machine.execBypass s
  | .idcode => Sys2Proof.Machine.execIdcode s
  | .samplePreload pins shiftIn => Sys2Proof.Machine.execSamplePreload pins shiftIn s
  | .extest pins shiftIn => Sys2Proof.Machine.execExtest pins shiftIn s
  | .extestPulse pins shiftIn => Sys2Proof.Machine.execExtestPulse pins shiftIn s
  | .extestTrain pins shiftIn => Sys2Proof.Machine.execExtestTrain pins shiftIn s
  | .highz => Sys2Proof.Machine.execHighz s
  | .dapRead size8 addr => Sys2Proof.Machine.execDapRead size8 addr s
  | .dapWrite size8 addr v => Sys2Proof.Machine.execDapWrite size8 addr v s
  | .getVersion => Sys2Proof.Machine.execGetVersion s
  | .getCapabilities => Sys2Proof.Machine.execGetCapabilities s
  | .negotiateAlgorithms p384 sha384 => Sys2Proof.Machine.execNegotiateAlgorithms p384 sha384 s
  | .getDigests => Sys2Proof.Machine.execGetDigests s
  | .getCertificate slot off len => Sys2Proof.Machine.execGetCertificate slot off len s
  | .challenge slot => Sys2Proof.Machine.execChallenge slot s
  | .getMeasurements index signed => Sys2Proof.Machine.execGetMeasurements index signed s
  | .keyExchange slot reqSession => Sys2Proof.Machine.execKeyExchange slot reqSession s
  | .finish session hmac => Sys2Proof.Machine.execFinish session hmac s
  | .endSession session => Sys2Proof.Machine.execEndSession session s
  | .dbgNonce session => Sys2Proof.Machine.execDbgNonce session s
  | .dbgNonceExpiry => Sys2Proof.Machine.execDbgNonceExpiry s
  | .dbgUnlock session keyOk sigOk => Sys2Proof.Machine.execDbgUnlock session keyOk sigOk s
  | .dbgRelock src v => Sys2Proof.Machine.execDbgRelock src v s
  | .shadowGo page src v => Sys2Proof.Machine.execShadowGo page src v s
  | .shadowCheckDone page => Sys2Proof.Machine.execShadowCheckDone page s
  | .shadowDiscard page src v => Sys2Proof.Machine.execShadowDiscard page src v s
  | .evtForce page src v => Sys2Proof.Machine.execEvtForce page src v s
  | .stsHold page src v => Sys2Proof.Machine.execStsHold page src v s
  | .thermalTrip => Sys2Proof.Machine.execThermalTrip s
  | .tempWarn temp diode => Sys2Proof.Machine.execTempWarn temp diode s
  | .railToleranceTimeout r => Sys2Proof.Machine.execRailToleranceTimeout r s
  | .avsTransactionDone ok mv ca => Sys2Proof.Machine.execAvsTransactionDone ok mv ca s
  | .avsSettleDone => Sys2Proof.Machine.execAvsSettleDone s
  | .ptmExchange p master => Sys2Proof.Machine.execPtmExchange p master s
  | .ppsEdge => Sys2Proof.Machine.execPpsEdge s
  | .syncLossTimeout => Sys2Proof.Machine.execSyncLossTimeout s
  | .timeSet src v => Sys2Proof.Machine.execTimeSet src v s
  | .timeSrcWrite src v => Sys2Proof.Machine.execTimeSrcWrite src v s
  | .ppsOutPulse => Sys2Proof.Machine.execPpsOutPulse s
  | .pcieDllpRx p d => Sys2Proof.Machine.execPcieDllpRx p d s
  | .pcieReplayTimerExpiry p => Sys2Proof.Machine.execPcieReplayTimerExpiry p s
  | .registerRead src addr len => Sys2Proof.Machine.execRegisterRead src addr len s
  | .sramScrub macroId row res hutWords => Sys2Proof.Machine.execSramScrub macroId row res hutWords s
  | .tempWarnRearm temp diode => Sys2Proof.Machine.execTempWarnRearm temp diode s
  | .railToleranceChange r outside => Sys2Proof.Machine.execRailToleranceChange r outside s
  | .refClockReturn => Sys2Proof.Machine.execRefClockReturn s
  | .cdrLockGain n => Sys2Proof.Machine.execCdrLockGain n s
  | .meTagHoldExpiry tag => Sys2Proof.Machine.execMeTagHoldExpiry tag s
  | .containDone => Sys2Proof.Machine.execContainDone s
  | .historyWriteDone ok => Sys2Proof.Machine.execHistoryWriteDone ok s

end Sys2Proof.Machine
end

