-- ==== Sys2Proof/Safety.lean ====
section
/-! DEFINITION. What counts as a safe outcome, in the terms the statements use. -/
namespace Sys2Proof
open Machine

/-- The outcome is a next state. -/
def Completes (o : Res) : Prop := ∃ t, o = .next t

/-- The command answers a next state, of which `P` holds. -/
def Gives (o : Res) (P : State → Prop) : Prop := ∃ t, o = .next t ∧ P t

/-- The command answers a next state: its own effect leads to a state of which `P` holds, and what its events and the accesses that
wait call for (`State.after`) follows. -/
def Leads (o : Res) (P : State → Prop) : Prop := ∃ u, o = .next u.after ∧ P u

/-- An 8-byte write of the register at an offset of a page passes: the block is in service, the path may reach the registers, the rights
and locks let it through, and nothing of its requester waits (R442, R446, R450 to R456, R472). -/
abbrev Machine.State.Admits (s : State) (src : Path) (page off v : Nat) : Prop :=
  s.up = true ∧ s.barOpen src = true ∧ s.gate src (page * 65536 + off) 8 true (v % 2 ^ 64) = .go ∧ s.heldBack src = false ∧
    (src = .guide → s.canSpend 6 1 0 = true)

/-- Nothing is left to follow a command: no access waits, no escalation, DPC trigger or SAFE entry is due, no pass waits to start, no
scan of the acclimatisation pass runs or is to start, and no lane's history is to be read. -/
abbrev Machine.State.Calm (s : State) : Prop :=
  s.mgmt.waits = [] ∧ s.err.escPend = [] ∧ s.err.safePend = none ∧ s.err.dpcPend = [] ∧ s.age.scanning = [] ∧ s.age.toScan = [] ∧
    s.age.histReads = [] ∧ s.age.passWaits = false

end Sys2Proof
end

