-- ==== Sys2Proof/Certificates/Slice0/Obligations.lean ====
section
/-! DEFINITION. The statements for the provers. -/

open Sys2Proof Sys2Proof.Machine

/-- A step runs the front command. For every command c and state s, a step of s with c at the front of its queue is exec of c on s with the queue's rest.
(00_scope.md) -/
def Obligations.StepRunsFront : Prop :=
  ∀ (c : Instr) (s : State), step { s with pending := c :: s.pending } = exec c s

/-- With no command waiting, a step is one tick of the time base (the model's choice, log entry 2). When the queue is empty a step answers the next state
that one 10 ns tick of the time base gives: it neither faults nor refuses. That a tick is what an empty queue does is the model's choice
(notes/assumptions/2.md). (01_architecture.md) -/
def Obligations.IdleStepIsOneTick : Prop :=
  ∀ s : State, s.pending = [] → Completes (step s) ∧ step s = .next s.tick

/-- No step touches the waiting commands but to take the front one. For every command, from every state: the next state it answers holds exactly the
commands that waited behind it, in their order; and an idle step leaves the queue empty. (00_scope.md; 01_architecture.md) -/
def Obligations.QueueIsFirstInFirstOut : Prop :=
  -- Exec leaves the queue alone.
  (∀ (c : Instr) (s t : State), exec c s = .next t → t.pending = s.pending) ∧
  -- A step leaves the rest of the queue, in order.
  (∀ (c : Instr) (l : List Instr) (s t : State), step { s with pending := c :: l } = .next t → t.pending = l) ∧
  -- An idle step starts no command.
  (∀ s t : State, s.pending = [] → step s = .next t → t.pending = [])

/-- Every step keeps the byte memories canonical. For every state whose flash, update staging buffer and Hut memory are in canonical form (addresses
strictly rising, no entry equal to what an unlisted address reads as), every step that answers a next state answers one whose flash, staging buffer
and Hut memory are in canonical form. (11_hut_ordering.md; 15_bringup.md; 18_pins_power_package.md) -/
def Obligations.MemoriesStayCanonical : Prop :=
  ∀ s t : State, Memory.wf s.boot.flash 0xFF = true ∧ Memory.wf s.boot.staging 0 = true ∧ Memory.wf s.hut.mem 0 = true →
    step s = .next t →
      Memory.wf t.boot.flash 0xFF = true ∧ Memory.wf t.boot.staging 0 = true ∧ Memory.wf t.hut.mem 0 = true

/-- After reset: fields at their reset values, no command waits, the byte memories are canonical. Right after reset every register field reads its reset
value, the internal reset is held without power, the transmitters idle, no command waits, no train, reservation, lock or message is held, and the
three byte memories are in canonical form. (15_bringup.md; 18_pins_power_package.md; 11_hut_ordering.md) -/
def Obligations.ResetLeaves : Prop :=
  (∀ f : Fld, State.reset.get f = f.rst) ∧ State.reset.pins.pwrOk = false ∧ State.reset.pins.rstHeld = true ∧ State.reset.pins.txIdle = true ∧
    State.reset.pending = [] ∧ State.reset.core = {} ∧ State.reset.hut.mons = [] ∧ State.reset.mgmt.waits = [] ∧
    Memory.wf State.reset.boot.flash 0xFF = true ∧ Memory.wf State.reset.boot.staging 0 = true ∧ Memory.wf State.reset.hut.mem 0 = true

/-- Only the power, reset, clock and trip commands change the power, reset, trip, clock and self-test conditions. A command other than PWR_OK_RISE,
PWR_OK_FALL, SYS_RST_N_ASSERT, INTERNAL_RESET_RELEASE, SOFT_RESET_START, BIST_DONE, REF_CLOCK_LOSS, REF_CLOCK_RETURN and THERMAL_TRIP leaves unchanged
whether power is good, whether the internal reset is held, whether the block has tripped, whether the reference is lost and whether self-test has
ended; so no such command puts the block into service or takes it out. (15_bringup.md; 18_pins_power_package.md; 12_errors_containment.md) -/
def Obligations.OnlyResetRowsMoveTheSupply : Prop :=
  ∀ (c : Instr) (s t : State),
    c ≠ .pwrOkRise → c ≠ .pwrOkFall → c ≠ .sysRstNAssert → (∀ a b, c ≠ .internalResetRelease a b) → c ≠ .softResetStart →
    (∀ r, c ≠ .bistDone r) → (∀ a b, c ≠ .refClockLoss a b) → c ≠ .refClockReturn → c ≠ .thermalTrip →
    exec c s = .next t →
      t.pins.pwrOk = s.pins.pwrOk ∧ t.pins.rstHeld = s.pins.rstHeld ∧ t.pins.thermTrip = s.pins.thermTrip ∧
      t.pins.clkLost = s.pins.clkLost ∧ t.pins.bistDone = s.pins.bistDone ∧ t.up = s.up ∧ t.live = s.live

/-- A Halud transaction header reads back as it was written. For every header whose fields fit their places (a unicast header names no group and a
multicast one no target, a response carries LOWER_ADDR and BYTE_COUNT in place of an address, an address is a multiple of 4), the 32 bytes that carry
it, followed by any bytes, are read back as exactly that header: no bit of any field is dropped or moved. (09_fabric_mode.md; 04_link_layer.md) -/
def Obligations.HaludHeaderRoundTrip : Prop :=
  ∀ (h : Hdr) (l : List Byte),
    h.op < 64 → h.dst < 4096 → h.group < 1024 → h.src < 4096 → h.dport < 64 → h.dvh < 32 → h.svh < 32 → h.tc < 8 → h.at2 < 4 → h.hops < 32 →
    h.addr < 2 ^ 64 → h.addr % 4 = 0 → h.lowerAddr < 128 → h.byteCount < 8192 → h.ftag < 16384 → h.epoch < 16 → h.len < 8192 → h.rlen < 8192 →
    h.fbe < 16 → h.lbe < 16 → h.status < 8 → h.cause < 16 → h.reqId < 65536 → h.pasid < 2 ^ 20 → h.wtag < 2 ^ 24 →
    (if h.mc then h.dst = 0 else h.group = 0) →
    (if h.op = 8 ∨ h.op = 9 then h.addr = 0 else h.lowerAddr = 0 ∧ h.byteCount = 0) →
    h.bytes.length = 32 ∧ Hdr.ofBytes (h.bytes ++ l) = h

/-- The 48-bit link-command field at bytes 238 to 243 reads back as it was written. For every link command whose fields fit, the six bytes that carry it,
after any 238 bytes, are read back as that command, and its 48-bit value holds ACK_FSN in bits 47:36, NAK in bit 35, MGT_OFF in bit 34, KIND in bits
33:30 and ARG in bits 29:0. (04_link_layer.md) -/
def Obligations.LinkCommandRoundTrip : Prop :=
  ∀ (c : LinkCmd) (a l : List Byte), a.length = 238 → c.ack < 4096 → c.kind < 16 → c.arg < 2 ^ 30 →
    c.bytes.length = 6 ∧ LinkCmd.ofBytes (a ++ (c.bytes ++ l)) = c ∧
    leNat c.bytes = c.ack * 2 ^ 36 + b2n c.nak * 2 ^ 35 + b2n c.mgtOff * 2 ^ 34 + c.kind * 2 ^ 30 + c.arg

/-- Descrambling what was scrambled gives the bytes back. For every width, list of bytes, start place and lane registers, descrambling the scrambled bytes
from the same registers gives the bytes back, and both ends are left with the same lane registers. (04_link_layer.md) -/
def Obligations.ScramblingUndoesItself : Prop :=
  ∀ (w i : Nat) (l : List Byte) (r : List Nat),
    (scramble w (scramble w l i r).1 i r).1 = l ∧ (scramble w (scramble w l i r).1 i r).2 = (scramble w l i r).2 ∧
    (scramble w l i r).1.length = l.length

/-- A sealed flit decodes with nothing to correct, and its CRC agrees. For every 244 bytes of a flit, the sealed flit has 256 bytes that begin with them,
its bytes 244 to 249 hold the CRC of the first 244 little-endian, and the three FEC codewords decode with no byte corrected. (04_link_layer.md) -/
def Obligations.SealedFlitIsGood : Prop :=
  ∀ b : List Byte, b.length = 244 →
    (flitSeal b).length = 256 ∧ (flitSeal b).take 244 = b ∧ leNat (((flitSeal b).drop 244).take 6) = crc48 b ∧
    fecDecodeAll (flitSeal b) = some (flitSeal b, false)

/-- A write performed at the Hut changes exactly the bytes it enables. When no word of its range holds an uncorrectable error, performing a write puts
each enabled byte at its address, leaves every other byte of the Hut memory as it read before, marks no word uncorrectable, and leaves every register
field but HUT_STS.MON_IN_USE as it was. (11_hut_ordering.md) -/
def Obligations.HutStoreFrame : Prop :=
  ∀ (s : State) (src vh rid a : Nat) (data : List Byte) (be : List Bool),
    s.hut.ue = [] →
    let t := s.hutStore src vh rid a data be
    t.hut.ue = [] ∧
    (∀ i, i < data.length → be.getD i true = true → Memory.read t.hut.mem 0 (a + i) = data.getD i 0) ∧
    (∀ x, (∀ i, i < data.length → be.getD i true = true → x ≠ a + i) → Memory.read t.hut.mem 0 x = Memory.read s.hut.mem 0 x) ∧
    (∀ f : Fld, f.key ≠ F.HUT.HUT_STS.MON_IN_USE.key → t.get f = s.get f)

/-- Reading a memory after a write of bytes. In every byte memory, after a list of bytes is written from an address, each of them reads back at its place,
every other address reads as before, and a canonical memory stays canonical. (11_hut_ordering.md; 15_bringup.md) -/
def Obligations.WriteBytesReadBack : Prop :=
  ∀ (m : Memory) (d : Byte) (a : Nat) (l : List Byte), Memory.wf m d = true →
    (∀ i, i < l.length → Memory.read (Memory.writeBytes m d a l) d (a + i) = l.getD i d) ∧
    (∀ x, x < a ∨ a + l.length ≤ x → Memory.read (Memory.writeBytes m d a l) d x = Memory.read m d x) ∧
    Memory.wf (Memory.writeBytes m d a l) d = true ∧
    Memory.readBytes (Memory.writeBytes m d a l) d a l.length = l

/-- The privilege an access carries is fixed by its path. Host software in the manager VH carries MANAGER (1), an access from any other VH TENANT (3), a
sideband access SIDEBAND (2), an access through the unlocked debug port DEBUG (4), an access by the Guide GUIDE (0), whatever the rest of the state.
(R2) -/
def Obligations.PrivilegeByPath : Prop :=
  ∀ (s : State) (vh : VhId) (rid : BitVec 16) (poisoned : Bool),
    (s.flag (F.VH.VH_BIND.PRIV vh.val) = true → s.priv (.host vh rid true poisoned) = 1) ∧
    (s.flag (F.VH.VH_BIND.PRIV vh.val) = false → ∀ hostPort, s.priv (.host vh rid hostPort poisoned) = 3) ∧
    s.priv .sideband = 2 ∧ s.priv .debug = 4 ∧ s.priv .guide = 0

/-- A station's 2,048 belay slots are divided among its ports by bifurcation width. For each of the 48 ports, whatever its role and the width it trained
at: in bifurcation mode 0 the port k = 0 of a station has 2,048 flit slots, in mode 1 ports 0 and 2 have 1,024 each, in mode 2 each of the four has
512, in mode 3 port 0 has 1,024 and ports 2 and 3 have 512 each; the other ports have none. (R116) -/
def Obligations.BelayShares : Prop :=
  ∀ (s : State) (st k : Nat), st < 12 → k < 4 →
    s.belayShare (4 * st + k) =
      (if s.get (F.STN.BIFURC.MODE st) = 0 then (if k = 0 then 2048 else 0)
       else if s.get (F.STN.BIFURC.MODE st) = 1 then (if k = 0 ∨ k = 2 then 1024 else 0)
       else if s.get (F.STN.BIFURC.MODE st) = 2 then 512
       else if k = 0 then 1024 else if k = 1 then 0 else 512)

/-- CHIP.RESET_CTL. RESET_CTL reads 0 in every bit; an admitted write with WARM = 1 and KEY = 0x5AFE schedules a warm reset and changes no register field,
any other write changes nothing; and the scheduled reset leaves what SYS_RST_N leaves but for the cause it records. Which privileges may write it is
the hypothesis that the write is admitted. The 10 µs are the time at which SOFT_RESET_START is sent. (R422) -/
def Obligations.ResetControl : Prop :=
  (∀ (s : State) (vh : Nat), s.mgmt.held = [] → (s.readReg vh 0x00 0x110).1 = 0) ∧
  -- The register's own effect, whichever value is written.
  (∀ (s : State) (priv v : Nat),
     s.writeReg 0x00 0x110 priv v = (if v / 2 ^ 63 % 2 = 1 ∧ v % 65536 = 0x5AFE then { s with pins := { s.pins with softPending := true } } else s)) ∧
  -- An admitted write has that effect and no other.
  (∀ (src : Path) (v : Word) (s : State), s.Admits src 0x00 0x110 (withBit v.toNat 63 true) →
     Leads (exec (.resetCtlWarm src v) s) fun u =>
       u = (if v.toNat % 65536 = 0x5AFE then { s.charged src with pins := { (s.charged src).pins with softPending := true } } else s.charged src)) ∧
  -- The scheduled reset leaves what SYS_RST_N leaves, but for the cause it records.
  (∀ s : State, s.pins.softPending = true → s.live = true →
     ∃ t u, exec .softResetStart s = .next t ∧ exec .sysRstNAssert s = .next u ∧
       t.get F.CHIP.RESET_CAUSE.SOFT = 1 ∧ t.get F.CHIP.RESET_CAUSE.PIN = 0 ∧ u.get F.CHIP.RESET_CAUSE.SOFT = 0 ∧ u.get F.CHIP.RESET_CAUSE.PIN = 1 ∧
       t.pins = u.pins ∧ t.boot = u.boot ∧ t.core = u.core ∧ t.hut = u.hut ∧ t.mgmt = u.mgmt ∧ t.tele = u.tele ∧
       (∀ f : Fld, f.key ≠ F.CHIP.RESET_CAUSE.SOFT.key → f.key ≠ F.CHIP.RESET_CAUSE.PIN.key → t.get f = u.get f))

/-- Power, reset, clock and trip commands answer their reset. In each state in which its event can arise, PWR_OK_RISE, PWR_OK_FALL, SYS_RST_N_ASSERT,
INTERNAL_RESET_RELEASE, RESET_CTL_WARM, SOFT_RESET_START, THERMAL_TRIP, REF_CLOCK_LOSS and REF_CLOCK_RETURN answer a next state with the pins, causes
and kept fields that the reset chapters give. (15_bringup.md; 18_pins_power_package.md; 12_errors_containment.md; 01_architecture.md) -/
def Obligations.ResetRows : Prop :=
  -- PWR_OK_RISE: the pin is high and the reset still held; no register field changes.
  (∀ s : State, Gives (exec .pwrOkRise s) fun t => t.pins.pwrOk = true ∧ t.pins.rstHeld = s.pins.rstHeld ∧ t.flds = s.flds ∧ t.core = s.core) ∧
  -- PWR_OK_FALL: a cold reset begins; every field that is not fused returns to its reset value, fused ones stay, and the flash keeps its bytes.
  (∀ s : State, s.pins.pwrOk = true →
     Gives (exec .pwrOkFall s) fun t => t.pins.pwrOk = false ∧ t.pins.rstHeld = true ∧ t.pins.coldRst = true ∧ t.core = {} ∧
       t.boot.flash = s.boot.flash ∧ t.pending = s.pending ∧ (∀ f : Fld, fusedFld f.key = false → t.get f = f.rst)) ∧
  -- SYS_RST_N_ASSERT: a warm reset: the reset is held, its cause is PIN, trains are gone, the flash stays, the logbook opens a new epoch.
  (∀ s : State, s.pins.pwrOk = true → s.pins.rstHeld = false → s.pins.thermTrip = false →
     Gives (exec .sysRstNAssert s) fun t => t.pins.rstHeld = true ∧ t.pins.coldRst = false ∧ t.core = {} ∧ t.boot.flash = s.boot.flash ∧
       t.get F.CHIP.RESET_CAUSE.PIN = 1 ∧ t.get F.CHIP.RESET_CAUSE.SOFT = 0 ∧
       t.get F.LOG.LOG_STS.EPOCH = (s.get F.LOG.LOG_STS.EPOCH + 1) % 2 ^ 16) ∧
  -- INTERNAL_RESET_RELEASE: the reset is released, the straps and the sideband address are latched, and POR tells a cold start.
  (∀ (strap : BitVec 4) (sb : BitVec 3) (s : State), s.pins.pwrOk = true → s.pins.rstHeld = true → s.pins.thermTrip = false →
     Gives (exec (.internalResetRelease strap sb) s) fun t => t.pins.rstHeld = false ∧ t.get F.CHIP.BOOT_STS.STRAP = strap.toNat ∧
       t.get F.SIDEBAND.SB_STS.STATIC_ADDR = 0x28 + sb.toNat ∧ t.get F.CHIP.RESET_CAUSE.POR = b2n s.pins.coldRst) ∧
  -- RESET_CTL_WARM: with the key a warm reset is scheduled; with another value nothing is.
  (∀ (src : Path) (v : Word) (s : State), s.Admits src 0x00 0x110 (withBit v.toNat 63 true) →
     Leads (exec (.resetCtlWarm src v) s) fun u => u.pins.softPending = (s.pins.softPending || v.toNat % 65536 == 0x5AFE) ∧ u.flds = s.flds) ∧
  -- SOFT_RESET_START: the scheduled warm reset begins, with cause SOFT.
  (∀ s : State, s.pins.softPending = true → s.live = true →
     Gives (exec .softResetStart s) fun t => t.pins.rstHeld = true ∧ t.pins.coldRst = false ∧ t.core = {} ∧ t.boot.flash = s.boot.flash ∧
       t.get F.CHIP.RESET_CAUSE.SOFT = 1 ∧ t.get F.CHIP.RESET_CAUSE.PIN = 0) ∧
  -- THERMAL_TRIP: the transmitters idle and the logic is held until PWR_OK falls.
  (∀ s : State, s.pins.pwrOk = true → Gives (exec .thermalTrip s) fun t => t.pins.thermTrip = true ∧ t.pins.txIdle = true ∧ t.live = false ∧ t.flds = s.flds) ∧
  -- REF_CLOCK_LOSS: the loss is recorded, and the logic has no clock.
  (∀ (ref lock : Bool) (s : State), s.live = true → (ref || lock) = true →
     Leads (exec (.refClockLoss ref lock) s) fun u => u.pins.clkLost = true ∧ u.live = false) ∧
  -- REF_CLOCK_RETURN: the clock is back and the root PLL shows lock.
  (∀ s : State, s.pins.pwrOk = true → s.pins.rstHeld = false → s.pins.thermTrip = false → s.pins.clkLost = true →
     Gives (exec .refClockReturn s) fun t => t.live = true ∧ t.get F.CLK.ROOT_STS.ROOT_LOCK = 1 ∧ t.get F.CLK.ROOT_STS.REF_OK = 1)

/-! ### Every command completes

For each command that has an effect of its own: under conditions on the state and the operands alone, exec answers a next state, and what that state
holds. A register write is admitted (`State.Admits`); `State.after` is what a command's events and waiting accesses then call for. -/

/-- Every command answers a next state. For every command and every state, exec answers a next state: no command of the table faults or is refused.
What each command does is said by the statements per family. (95_what_each_step_holds.md) -/
def Obligations.EveryCommandAnswers : Prop :=
  -- Every command, from every state.
  (∀ (c : Instr) (s : State), ∃ t, exec c s = .next t)

/-- Self-test, boot and Ascent rows complete. The end of the self-test, verification of the chosen slot, a commit group of Ascent and its timeout,
SUMMIT on time and late, the second Guide pair, confirmation of the booted image and the rise of MIN_SVN each answer a next state with the effect the
boot chapter gives. (15_bringup.md; 12_errors_containment.md) -/
def Obligations.BootRowsComplete : Prop :=
  -- BIST_DONE (R420, R430): the block is in service; a failed DRAM channel is DRAM_FAIL, and otherwise boot begins.
  (∀ (rep : BistReport) (s : State), s.live = true → s.pins.bistDone = false → s.phase = 0 →
     ∃ u : State, exec (.bistDone rep) s = .next u.after ∧
       u = s.bistEnd rep ∧ (rep.dramFail = true → u.pins.bistDone = true)) ∧
  -- IMAGE_VERIFY_DONE (R430, R431): key, signature, digest and SVN are good: the slot is booted and ASCENT begins.
  (∀ (i : Nat) (rest : List Nat) (ms : BitVec 16) (s : State), s.up = true → s.boot.cands = i :: rest → s.phase = 1 → s.guideOn = true →
     s.boot.booted = none → s.get F.FLASH.IMG_CTL.MIN_SVN ≤ (s.slotHdr i).svn →
     ∃ u : State, exec (.imageVerifyDone true true true ms) s = .next u.after ∧
       u = (((({ s with boot := { s.boot with booted := some i, upAtAscent := (List.range 48).filter fun p => (s.role p == 1 || s.role p == 2) && s.linkUp p } } : State).sets
         [(F.FLASH.SLOT_STS.VERIFIED i, 1), (F.FLASH.SLOT_STS.ACTIVE i, 1), (F.CHIP.BOOT_STS.RUN_SEQ, (s.slotHdr i).seq), (F.CHIP.BOOT_STS.SLOT, i),
          (F.CHIP.BOOT_STS.TRIAL, b2n ((s.slotHdr i).confirm != 0)),
          (F.CHIP.BOOT_STS.ROLLBACK, b2n ((s.slotHdr (1 - i)).cand && decide ((s.slotHdr (1 - i)).seq > (s.slotHdr i).seq))),
          (F.CHIP.BOOT_STS.VERIFY_MS, min ms.toNat 65535), (F.CHIP.STATE.STATE, 2)]).ascentStart false).raisePorts)) ∧
  -- ASCENT_RECORD_APPLY (R433): in phase 3 the next page commits, and its end is waited for.
  (∀ (pg : Nat) (rest : List Nat) (s : State), s.up = true → s.phase = 2 → s.guideOn = true → s.boot.ascWait = none →
     s.get F.CHIP.ASCENT_STS.PHASE = 3 → s.boot.ascPages = pg :: rest → s.get (F.HDR.SHADOW_CTL.STATE pg) = 0 → pg ≠ 0x40 →
     ∃ u : State, exec .ascentRecordApply s = .next u.after ∧
       u.get (F.HDR.SHADOW_CTL.STATE pg) = 1 ∧ u.boot.ascPages = rest ∧ u.boot.ascWait = some (s.groupIdx pg, pg, 0x40)) ∧
  -- ASCENT_RECORD_TIMEOUT (R433): the record waited for fails with kind 6 and is passed over.
  (∀ (i p o : Nat) (s : State), s.up = true → s.boot.ascWait = some (i, p, o) → s.phase = 2 → s.guideOn = true → s.opState p o = 0 →
     s.get F.CHIP.ASCENT_STS.FAILED = 0 →
     ∃ u : State, exec .ascentRecordTimeout s = .next u.after ∧
       u.get F.CHIP.ASCENT_STS.FAILED = 1 ∧ u.get F.CHIP.ASCENT_STS.FIRST_FAIL = i % 2 ^ 16 ∧ u.get F.CHIP.ASCENT_STS.FAIL_KIND = 6) ∧
  -- SUMMIT_ENTER (R434, R377, R429): Ascent has ended and every port that was up has settled: SUMMIT, with its timers started.
  (∀ (s : State), s.up = true → s.phase = 2 → s.get F.CHIP.ASCENT_STS.PHASE = 5 → s.boot.upAtAscent.all s.settledPort = true →
     ∃ u : State, exec .summitEnter s = .next u.after ∧
       u.get F.CHIP.STATE.STATE = 3 ∧ u.get F.AGE.ACCL_STS.NEXT_DUE = 10 ∧ u.get F.FLASH.HIST_STS.NEXT_MIN = 60 ∧ u.boot.confirmTimer = true) ∧
  -- ASCENT_LATE_TIMEOUT (R434): 2 s after ASCENT, SUMMIT is entered with LATE.
  (∀ (s : State), s.up = true → s.phase = 2 →
     ∃ u : State, exec .ascentLateTimeout s = .next u.after ∧
       u.get F.CHIP.ASCENT_STS.LATE = 1 ∧ u.get F.CHIP.STATE.STATE = 3 ∧ u.boot.confirmTimer = true) ∧
  -- GUIDE_PAIR1_VERIFIED (R435): the pair becomes STANDBY beside an ACTIVE one.
  (∀ (s : State), s.up = true → s.get F.ERR.GUIDE_STS.PAIR1 = 2 → s.boot.booted.isSome = true → s.get F.ERR.GUIDE_STS.PAIR0 = 0 →
     ∃ u : State, exec (.guidePair1Verified true) s = .next u.after ∧
       u.get F.ERR.GUIDE_STS.PAIR1 = 1 ∧ u.get F.ERR.GUIDE_STS.PAIR0 = 0) ∧
  -- AUTO_CONFIRM_TIMEOUT (R436): with AUTO_CONFIRM the booted slot is confirmed.
  (∀ (i : Nat) (s : State), s.up = true → s.boot.confirmTimer = true → s.flag F.FLASH.IMG_CTL.AUTO_CONFIRM = true → s.boot.booted = some i →
     s.phase = 3 → s.guideOn = true →
     ∃ u : State, exec .autoConfirmTimeout s = .next u.after ∧
       u.get F.CHIP.BOOT_STS.TRIAL = 0 ∧ u.get (F.FLASH.SLOT_STS.CONFIRMED i) = 1 ∧ u.boot.confirmTimer = false ∧
         Memory.read u.boot.flash 0xFF (slotBase i + 269) = 0)

/-- Image confirmation, update and history rows complete. Writes of IMG_CTL and UPD_CTL, the phases of an image update, and the history write and its
end answer a next state with the effect of the flash chapter. (15_bringup.md) -/
def Obligations.ImageRowsComplete : Prop :=
  -- IMAGE_CONFIRM (R436): in SUMMIT, with a Guide pair ACTIVE, the booted slot is confirmed.
  (∀ (i : Nat) (src : Path) (v : Word) (s : State), s.Admits src 0x05 0x110 (withBit (withBit v.toNat 63 true) 61 false) → s.boot.booted = some i →
     s.phase = 3 → s.guideOn = true →
     ∃ u : State, exec (.imageConfirm src v) s = .next u.after ∧
       u.get F.CHIP.BOOT_STS.TRIAL = 0 ∧ u.get (F.FLASH.SLOT_STS.CONFIRMED i) = 1 ∧ Memory.read u.boot.flash 0xFF (slotBase i + 269) = 0) ∧
  -- RAISE_SVN (R436): MIN_SVN takes the SVN of the confirmed booted slot.
  (∀ (i : Nat) (src : Path) (v : Word) (s : State), s.Admits src 0x05 0x110 (withBit (withBit v.toNat 63 false) 61 true) → s.boot.booted = some i →
     (s.slotHdr i).confirm = 0 → (s.slotHdr i).svn < 64 → s.get F.FLASH.IMG_CTL.MIN_SVN < (s.slotHdr i).svn →
     ∃ u : State, exec (.raiseSvn src v) s = .next u.after ∧
       u.get F.FLASH.IMG_CTL.MIN_SVN = (s.slotHdr i).svn) ∧
  -- UPDATE_GO (R438): an idle update starts on the slot that is not booted.
  (∀ (i : Nat) (src : Path) (v : Word) (s : State), s.Admits src 0x05 0x118 (withBit (withBit v.toNat 63 true) 62 false) →
     s.get F.FLASH.UPD_STS.STATE = 0 → s.boot.histBusy = false → s.boot.booted = some i →
     ∃ u : State, exec (.updateGo src v) s = .next u.after ∧
       u.get F.FLASH.UPD_STS.STATE = 1 ∧ u.get F.FLASH.UPD_STS.FAULT = 0 ∧ u.boot.updSlot = 1 - i ∧ u.get F.FLASH.UPD_CTL.LEN = v.toNat % 2 ^ 25) ∧
  -- UPDATE_ABORT (R438): the update under way fails with fault 8.
  (∀ (src : Path) (v : Word) (s : State), s.Admits src 0x05 0x118 (withBit (withBit v.toNat 63 false) 62 true) → s.updRunning = true →
     ∃ u : State, exec (.updateAbort src v) s = .next u.after ∧
       u.get F.FLASH.UPD_STS.STATE = 8 ∧ u.get F.FLASH.UPD_STS.FAULT = 8) ∧
  -- UPDATE_PHASE_DONE (R438): the end of each phase goes on to the next; the erase phase empties the target slot up to its history.
  (∀ (rep : PhaseReport) (s : State), s.up = true → s.guideOn = true → s.get F.FLASH.UPD_STS.STATE = 3 → rep.opOk = true →
     ∃ u : State, exec (.updatePhaseDone rep) s = .next u.after ∧
       u.get F.FLASH.UPD_STS.STATE = 4 ∧ u.boot.flash = s.boot.flash.filter fun c => !(slotBase s.boot.updSlot ≤ c.1 && c.1 < slotBase s.boot.updSlot + 0xC00000)) ∧
  -- HISTORY_WRITE (R429): in SUMMIT, when an hour has passed and something has changed, a new generation begins in the older half.
  (∀ (i : Nat) (s : State), s.up = true → s.boot.booted = some i → s.phase = 3 → s.guideOn = true → s.boot.histBusy = false → s.updRunning = false →
     s.get F.FLASH.HIST_STS.NEXT_MIN = 0 → s.boot.ageDirty = true → s.flag F.CHIP.BOOT_STS.BOARD_OK = true → s.newestHist i = none →
     ∃ u : State, exec .historyWrite s = .next u.after ∧
       u.boot.histBusy = true ∧ u.boot.histGen = 1 ∧ u.boot.histHalf = 0 ∧ u.boot.ageDirty = false ∧
         u.boot.histNew = s.get F.REPAIR.MAP_STS.UNWRITTEN ∧ u.get F.FLASH.HIST_STS.NEXT_MIN = 60) ∧
  -- HISTORY_WRITE_DONE (R429): the new generation is the valid one, and what changed since its records were taken is left to be written.
  (∀ (i : Nat) (s : State), s.up = true → s.boot.booted = some i → s.boot.histBusy = true → s.guideOn = true → s.boot.updWaits = false →
     ∃ u : State, exec (.historyWriteDone true) s = .next u.after ∧
       u.boot.histBusy = false ∧ u.boot.ageDirty = s.boot.ageDirty ∧ u.get F.FLASH.HIST_STS.GEN = s.boot.histGen % 2 ^ 32 ∧
         u.get F.REPAIR.MAP_STS.UNWRITTEN = (s.get F.REPAIR.MAP_STS.UNWRITTEN - s.boot.histNew) % 2 ^ 11 ∧
         u.get F.REPAIR.MAP_STS.LAST_WRITE = s.time.now % 2 ^ 36)

/-- Register accesses, shadow commits, forced events and slot rights complete. A register write and read that pass their checks, GO, check and DISCARD
of a shadow commit, EVT_FORCE, PAGE_CTL and the rights of a page answer a next state with the effect of the register chapters.
(16_management_access.md; 17_register_conventions.md) -/
def Obligations.RegisterRowsComplete : Prop :=
  -- REGISTER_WRITE (R445, R450 to R457, R472): an access that passes every check is charged to its path and written.
  (∀ (src : Path) (addr : BitVec 25) (len : Nat) (v : Word) (s : State), s.up = true → s.barOpen src = true →
     s.gate src addr.toNat len true (placed addr.toNat len v.toNat) = .go → s.heldBack src = false → (src = .guide → s.canSpend 6 1 0 = true) →
     ∃ u : State, exec (.registerWrite src addr len v) s = .next u.after ∧
       u = (s.charged src).writeAt (pathVh src) ((s.charged src).priv src) addr.toNat len (placed addr.toNat len v.toNat)) ∧
  -- REGISTER_READ (R445, R472): an access that passes every check is answered with the words read.
  (∀ (src : Path) (addr : BitVec 25) (len : Nat) (s : State), s.up = true → s.barOpen src = true →
     s.gate src addr.toNat len false (placed addr.toNat len 0) = .go → s.heldBack src = false → (src = .guide → s.canSpend 6 1 0 = true) →
     ∃ u : State, exec (.registerRead src addr len) s = .next u.after ∧
       u = (((s.charged src).readAt (pathVh src) addr.toNat len).2.answerRead
         { src := src, who := lockerOf src, addr := addr.toNat, len := len, write := false, value := 0 } 0
           ((s.charged src).readAt (pathVh src) addr.toNat len).1)) ∧
  -- SHADOW_GO (R481): what is staged on the page is taken for the commit, whose checks begin.
  (∀ (page : Fin 512) (src : Path) (v : Word) (s : State), s.Admits src page.val 0x40 (withBit (withBit v.toNat 63 true) 62 false) →
     hasShadow page.val = true → page.val ≠ 0x40 → s.get (F.HDR.SHADOW_CTL.STATE page.val) = 0 →
     ∃ u : State, exec (.shadowGo page src v) s = .next u.after ∧
       u.get (F.HDR.SHADOW_CTL.STATE page.val) = 1 ∧ u.mgmt.atGo = Tab.put s.mgmt.atGo page.val (s.stagedOf page.val) ∧
         u.mgmt.shadow = s.mgmt.shadow.filter fun e => !(s.stagedOf page.val).contains e) ∧
  -- SHADOW_DISCARD (R482): the staged values of the page are dropped.
  (∀ (page : Fin 512) (src : Path) (v : Word) (s : State), s.Admits src page.val 0x40 (withBit (withBit v.toNat 63 false) 62 true) →
     hasShadow page.val = true → page.val ≠ 0x40 → s.get (F.HDR.SHADOW_CTL.STATE page.val) = 0 →
     ∃ u : State, exec (.shadowDiscard page src v) s = .next u.after ∧
       u.get (F.HDR.SHADOW_CTL.DIRTY page.val) = 0 ∧ u.get (F.HDR.SHADOW_CTL.STAGERS page.val) = 0 ∧
         u.mgmt.shadow = s.mgmt.shadow.filter fun e => !(s.stagedOf page.val).contains e) ∧
  -- SHADOW_CHECK_DONE (R481), for ROUTE: without a reserved bit the commit is applied, paid for by the TABLE class, and its result shows it.
  (∀ (s : State), s.up = true → s.get (F.HDR.SHADOW_CTL.STATE 0x41) = 1 → s.reservedAt 0x41 = none → s.get (F.HDR.COMMIT_GEN.GEN 0x41) < 65535 →
     s.canPay 2 (Tab.getD s.mgmt.atGo 0x41 []).length 0 = true →
     ∃ u : State, exec (.shadowCheckDone 0x41) s = .next u.after ∧
       u = ((s.set (F.HDR.SHADOW_CTL.STATE 0x41) 2).spend 2 (Tab.getD s.mgmt.atGo 0x41 []).length 0 0x41).shadowApply 0x41 ∧
         u.get (F.HDR.SHADOW_CTL.STATE 0x41) = 0 ∧ u.get (F.HDR.SHADOW_CTL.RESULT 0x41) = 1) ∧
  -- EVT_FORCE (R479): every bit written 1 forces the event of the page that it stands for.
  (∀ (page : Fin 512) (src : Path) (v : Word) (s : State), s.Admits src page.val 0x30 v.toNat →
     ∃ u : State, exec (.evtForce page src v) s = .next u.after ∧
       u = (List.range 64).foldl (fun t b => if bitOf v.toNat b then t.forceEvent page.val (familyOf page.val * 256 + b + 1) else t) (s.charged src)) ∧
  -- STS_HOLD (R476): the hold takes the value written; on its rise the sampled registers of the page are captured.
  (∀ (page : Fin 512) (src : Path) (v : Word) (s : State), s.Admits src page.val 0x10 v.toNat → s.flag (F.HDR.PAGE_CTL.STS_HOLD page.val) = false →
     v.toNat % 2 = 1 →
     ∃ u : State, exec (.stsHold page src v) s = .next u.after ∧
       u.get (F.HDR.PAGE_CTL.STS_HOLD page.val) = 1 ∧ u.flds = (s.set (F.HDR.PAGE_CTL.STS_HOLD page.val) 1).flds) ∧
  -- RPU_SLOT_WRITE (R451): without LOCK the rights of the page are written.
  (∀ (n : Fin 512) (src : Path) (v : Word) (s : State), s.Admits src 0x08 (0x1000 + 8 * n.val) v.toNat → pageMapped n.val = true →
     bitOf v.toNat 63 = false →
     ∃ u : State, exec (.rpuSlotWrite n src v) s = .next u.after ∧
       u = (s.charged src).writePlain 0x08 (0x1000 + 8 * n.val) (s.priv src) v.toNat) ∧
  -- RPU_SLOT_LOCK (R452): the rights of the page are locked.
  (∀ (n : Fin 512) (src : Path) (v : Word) (s : State), s.Admits src 0x08 (0x1000 + 8 * n.val) (withBit v.toNat 63 true) → pageMapped n.val = true →
     ∃ u : State, exec (.rpuSlotLock n src v) s = .next u.after ∧
       u.get (F.RPU.SLOT.LOCK n.val) = 1)

/-- Temperature, rails and time-base rows complete. TEMP_WARN and its re-arm, the rail monitors, PTM and PPS measurements, loss of synchronisation,
writes of TIME.SET and SRC_CTL and the PPS output answer a next state with the effect of the power and time rules. (18_pins_power_package.md;
03_ports.md) -/
def Obligations.TimeRowsComplete : Prop :=
  -- TEMP_WARN (R496): above WARN the reading is shown and the event raised, once until it has fallen 5 °C below.
  (∀ (temp : BitVec 12) (d : BitVec 6) (s : State), s.up = true → s.get F.PWR.THERM_CFG.WARN < temp.toNat → s.pins.tempHeld = false →
     ∃ u : State, exec (.tempWarn temp d) s = .next u.after ∧
       u.get F.PWR.THERM_STS.HOTTEST = temp.toNat ∧ u.get F.PWR.THERM_STS.DIODE = min d.toNat 47 ∧ u.get F.PWR.THERM_STS.WARN_NOW = 1) ∧
  -- TEMP_WARN_REARM (R496): 5 °C below WARN the next rise raises the event again.
  (∀ (temp : BitVec 12) (d : BitVec 6) (s : State), s.up = true → temp.toNat + 20 ≤ s.get F.PWR.THERM_CFG.WARN →
     ∃ u : State, exec (.tempWarnRearm temp d) s = .next u.after ∧
       u.get F.PWR.THERM_STS.HOTTEST = temp.toNat ∧ u.get F.PWR.THERM_STS.WARN_NOW = 0 ∧ u.pins.tempHeld = false) ∧
  -- RAIL_TOLERANCE_CHANGE (R491): NOW shows the rail as it is.
  (∀ (r : Fin 9) (o : Bool) (s : State), s.up = true →
     ∃ u : State, exec (.railToleranceChange r o) s = .next u.after ∧
       u = s.set F.PWR.RAIL_STS.NOW (withBit (s.get F.PWR.RAIL_STS.NOW) r.val o)) ∧
  -- RAIL_TOLERANCE_TIMEOUT (R491): a rail that is outside has been seen so, and the event is raised.
  (∀ (r : Fin 9) (s : State), s.up = true → bitOf (s.get F.PWR.RAIL_STS.NOW) r.val = true →
     ∃ u : State, exec (.railToleranceTimeout r) s = .next u.after ∧
       u = (s.set F.PWR.RAIL_STS.SEEN (withBit (s.get F.PWR.RAIL_STS.SEEN) r.val true)).raise Ev.VOLT_WARN { inst := r.val, detail := 2 }) ∧
  -- PTM_EXCHANGE (R88, R499): on the selected port a master time more than 1 µs away steps the time base, whose synchronisation is lost.
  (∀ (p : PortId) (m : BitVec 64) (s : State), s.up = true → s.ptmOn p.val = true → (m.toNat : Int) - 10 * (s.time.now : Int) > 1000 →
     ∃ u : State, exec (.ptmExchange p m) s = .next u.after ∧
       u = ((((s.count (Ctr.dev 45) 1).set F.TIME.STS.OFFSET (sat16 ((m.toNat : Int) - 10 * (s.time.now : Int)))).timeStep (m.toNat / 10))).ptmAsk) ∧
  -- PPS_EDGE (R499): with PPS as the source the edge is measured against PPS_NEXT, which moves on by a second.
  (∀ (s : State), s.up = true → s.get F.TIME.SRC_CTL.SRC = 2 →
     ∃ u : State, exec .ppsEdge s = .next u.after ∧
       u.get F.TIME.PPS_NEXT.TICKS = (s.get F.TIME.PPS_NEXT.TICKS + 100000000) % 2 ^ 64) ∧
  -- SYNC_LOSS_TIMEOUT (R499): without a measurement SYNCED clears.
  (∀ (s : State), s.up = true → s.get F.TIME.SRC_CTL.SRC ≠ 0 → s.flag F.TIME.STS.SYNCED = true →
     ∃ u : State, exec .syncLossTimeout s = .next u.after ∧
       u.get F.TIME.STS.SYNCED = 0) ∧
  -- TIME_SET (R500): without a source the time base takes the value at the next tick.
  (∀ (src : Path) (v : Word) (s : State), s.Admits src 3 0x110 v.toNat → s.get F.TIME.SRC_CTL.SRC = 0 → s.flag F.TIME.STS.SYNCED = false →
     ∃ u : State, exec (.timeSet src v) s = .next u.after ∧
       u.time.stepTo = some v.toNat ∧ u.get F.TIME.STS.STEPS = min (s.get F.TIME.STS.STEPS + 1) 255) ∧
  -- TIME_SRC_WRITE (R500): a valid source is taken with its interval and port.
  (∀ (src : Path) (v : Word) (s : State), s.Admits src 3 0x100 v.toNat → bitsOf v.toNat 9 8 = 2 → s.get F.TIME.SRC_CTL.SRC = 2 →
     ∃ u : State, exec (.timeSrcWrite src v) s = .next u.after ∧
       u.get F.TIME.SRC_CTL.SRC = 2 ∧ u.get F.TIME.SRC_CTL.REFUSED = 0 ∧ u.get F.TIME.SRC_CTL.PTM_PORT = bitsOf v.toNat 5 0 ∧
         u.get F.TIME.SRC_CTL.PTM_INTERVAL = bitsOf v.toNat 31 24) ∧
  -- PPS_OUT_PULSE (R499): at a whole second TIME_PPS_OUT rises.
  (∀ (s : State), s.up = true → s.flag F.TIME.PPS_OUT.EN = true → s.time.now % 100000000 = 0 →
     ∃ u : State, exec .ppsOutPulse s = .next u.after ∧
       u.pins.ppsOut = true ∧ u.out = s.out ++ [.pps])

/-- The sideband bridge rows complete. Each command of the sideband bridge, with a good PEC and the root clock present, its queued writes, fetches and
results, the dynamic address and the MCTP packets answer a next state with the effect of R458 to R464. (16_management_access.md) -/
def Obligations.SidebandRowsComplete : Prop :=
  -- I3C_DYNAMIC_ADDRESS (R458).
  (∀ (a : BitVec 7) (s : State), s.sbAlive = true →
     ∃ u : State, exec (.i3cDynamicAddress a) s = .next (if u.up then u.after else u) ∧
       u.get F.SIDEBAND.SB_STS.DYN_ADDR = a.toNat ∧ u.get F.SIDEBAND.SB_STS.DYN_VALID = 1) ∧
  -- MCTP_PACKET_RX (R6, R458): a good packet is taken by the responder, which the logic runs.
  (∀ (l : List Byte) (s : State), s.sbAlive = true → s.up = true →
     ∃ u : State, exec (.mctpPacketRx l true) s = .next (if u.up then u.after else u) ∧
       u = (s.mctpPacket .i3c l).sbShow) ∧
  -- WRITE32 (R459, R461): queued, and its result is OK.
  (∀ (a d : BitVec 32) (s : State), s.sbAlive = true → s.pins.clkLost = false → s.mgmt.wq.length < 16 →
     ∃ u : State, exec (.write32 a d true) s = .next (if u.up then u.after else u) ∧
       u.mgmt.wq = s.mgmt.wq ++ [(a.toNat, d.toNat, false)] ∧ u.mgmt.result = some [0] ∧ u.get F.SIDEBAND.SB_STS.WQ_DEPTH = s.mgmt.wq.length + 1) ∧
  -- READ32 (R459, R462): a fetch starts behind the queued writes.
  (∀ (a : BitVec 32) (s : State), s.sbAlive = true → s.pins.clkLost = false → s.mgmt.fetch = none →
     ∃ u : State, exec (.read32 a true) s = .next (if u.up then u.after else u) ∧
       u.mgmt.fetch = some { addr := a.toNat, lock := false, ahead := s.mgmt.wq.length } ∧ u.mgmt.result = none ∧
         u.get F.SIDEBAND.SB_STS.READ_STATE = 1) ∧
  -- LOCK_READ32 (R459, R455): a fetch starts that takes the lock.
  (∀ (a : BitVec 32) (s : State), s.sbAlive = true → s.pins.clkLost = false → s.mgmt.fetch = none →
     ∃ u : State, exec (.lockRead32 a true) s = .next (if u.up then u.after else u) ∧
       u.mgmt.fetch = some { addr := a.toNat, lock := true, ahead := s.mgmt.wq.length } ∧ u.mgmt.result = none ∧
         u.get F.SIDEBAND.SB_STS.READ_STATE = 1) ∧
  -- WRITE_UNLOCK32 (R459, R461): queued; its status comes when it is performed.
  (∀ (a d : BitVec 32) (s : State), s.sbAlive = true → s.pins.clkLost = false → s.mgmt.wq.length < 16 →
     ∃ u : State, exec (.writeUnlock32 a d true) s = .next (if u.up then u.after else u) ∧
       u.mgmt.wq = s.mgmt.wq ++ [(a.toNat, d.toNat, true)] ∧ u.mgmt.result = none ∧ u.mgmt.wulWait = true) ∧
  -- UNLOCK (R455, R459): the lock of the sideband is released.
  (∀ (s : State), s.sbAlive = true → s.pins.clkLost = false → s.sbBroken = false →
     ∃ u : State, exec (.unlock true) s = .next (if u.up then u.after else u) ∧
       u.mgmt.result = some [0] ∧ u.mgmt.locks = s.mgmt.locks.filter fun l => l.who != 1) ∧
  -- GET_STATUS (R459): flags, queue depth, state of the device and the counts of unread records.
  (∀ (s : State), s.sbAlive = true →
     ∃ u : State, exec (.getStatus true) s = .next (if u.up then u.after else u) ∧
       u.mgmt.result = some ([0, b2n (s.flag F.SIDEBAND.ERR_ADDR.VALID) + 2 * b2n (decide (s.unreadAlarms.length > 0)) + 4 * b2n
         (decide (s.tele.sbRecs.length > 0)),
         s.mgmt.wq.length, s.phase, 0] ++ (leBytes 2 s.unreadAlarms.length ++ leBytes 2 s.tele.sbRecs.length).map BitVec.toNat)) ∧
  -- ALARM_READ (R459, R414): the oldest unread ALARM record is shown.
  (∀ (e : AlarmEnt) (l : List AlarmEnt) (s : State), s.sbAlive = true → s.unreadAlarms = e :: l →
     ∃ u : State, exec (.alarmRead true) s = .next (if u.up then u.after else u) ∧
       u.mgmt.result = some (0 :: e.r.toBytes.map BitVec.toNat)) ∧
  -- ALARM_ACK (R459, R414): the oldest unread ALARM record, named by its SEQ, has been read.
  (∀ (e : AlarmEnt) (l : List AlarmEnt) (q : BitVec 32) (s : State), s.sbAlive = true → s.unreadAlarms = e :: l → e.r.seq % 2 ^ 32 = q.toNat →
     ∃ u : State, exec (.alarmAck q true) s = .next (if u.up then u.after else u) ∧
       u.mgmt.result = some [0]) ∧
  -- RECORD_READ (R459, R464): the oldest record of the sideband record queue.
  (∀ (r : LogRec) (l : List LogRec) (s : State), s.sbAlive = true → s.tele.sbRecs = r :: l →
     ∃ u : State, exec (.recordRead true) s = .next (if u.up then u.after else u) ∧
       u.mgmt.result = some (0 :: r.toBytes.map BitVec.toNat) ∧ u.tele.sbRecs = r :: l) ∧
  -- RECORD_ACK (R459, R464): it leaves the queue.
  (∀ (r : LogRec) (l : List LogRec) (q : BitVec 32) (s : State), s.sbAlive = true → s.tele.sbRecs = r :: l → r.seq % 2 ^ 32 = q.toNat →
     ∃ u : State, exec (.recordAck q true) s = .next (if u.up then u.after else u) ∧
       u.mgmt.result = some [0] ∧ u.tele.sbRecs = l)

/-- Private reads, queued writes, fetches and locks complete. A private read, the head of the write queue, the end of a fetch, the expiry of its
result, a host's locked read and unlock, and the break of a lock answer a next state with the effect of R455 to R462. (16_management_access.md) -/
def Obligations.SidebandEventsComplete : Prop :=
  -- SB_PRIVATE_READ (R459, R460): the held result goes out.
  (∀ (r : List Nat) (s : State), s.sbAlive = true → s.mgmt.pecBad = false → s.mgmt.fetch = none → s.mgmt.wulWait = false → s.mgmt.result = some r →
     ∃ u : State, exec .sbPrivateRead s = .next (if u.up then u.after else u) ∧
       u.out = s.out ++ [.sb r] ∧ u.mgmt = s.mgmt) ∧
  -- SB_WRITE_PERFORM (R461): the head of the write queue is performed with the rights of the sideband.
  (∀ (a d : Nat) (l : List (Nat × Nat × Bool)) (s : State), s.sbAlive = true → s.mgmt.wq = (a, d, false) :: l → s.mgmt.fetch = none →
     s.pins.clkLost = false → s.phase ≠ 0 → s.gateAcc (writeAcc .sideband a 4 d) = .go →
     ∃ u : State, exec .sbWritePerform s = .next (if u.up then u.after else u) ∧
       u = (s.sbPop.performAcc (writeAcc .sideband a 4 d)).sbShow) ∧
  -- SB_FETCH_DONE (R462): the read of the fetch is performed and its bytes held for 2 ms.
  (∀ (a : Nat) (s : State), s.sbAlive = true → s.mgmt.fetch = some { addr := a, lock := false, ahead := 0 } → s.pins.clkLost = false → s.phase ≠ 0 →
     s.gateAcc { src := .sideband, who := 1, addr := a, len := 4, write := false, value := 0 } = .go →
     ∃ u : State, exec .sbFetchDone s = .next (if u.up then u.after else u) ∧
       u = (((s.charged .sideband).readAt 0 a 4).2.fetchAnswer
         (0 :: (leBytes 4 (((s.charged .sideband).readAt 0 a 4).1.headD 0)).map BitVec.toNat)).sbShow) ∧
  -- SB_RESULT_EXPIRY (R462): the result of a fetch is dropped.
  (∀ (s : State), s.sbAlive = true → s.mgmt.resultExpires = true →
     ∃ u : State, exec .sbResultExpiry s = .next (if u.up then u.after else u) ∧
       u.mgmt.result = none ∧ u.mgmt.resultExpires = false) ∧
  -- HOST_LOCKED_READ (R455): on the HOST port and BAR0 the read is performed and its segment locked.
  (∀ (vh : VhId) (rid : BitVec 16) (addr : BitVec 25) (len : Nat) (s : State), s.up = true → s.barOpen (.host vh rid true false) = true →
     s.gateAcc { src := .host vh rid true false, who := 8 + vh.val, addr := addr.toNat, len := len, write := false, value := 0, lock := true } = .go → s.heldBack (.host vh rid true false) = false →
     ∃ u : State, exec (.hostLockedRead vh rid true 0 addr len) s = .next u.after ∧
       u = s.performAcc { src := .host vh rid true false, who := 8 + vh.val, addr := addr.toNat, len := len, write := false, value := 0, lock := true }) ∧
  -- HOST_UNLOCK (R455): the lock of the VH is released.
  (∀ (vh : VhId) (s : State), s.up = true → (s.mgmt.broken.find? fun b => b.1 == 8 + vh.val) = none →
     ∃ u : State, exec (.hostUnlock vh) s = .next u.after ∧
       u.mgmt.locks = s.mgmt.locks.filter fun l => l.who != 8 + vh.val) ∧
  -- LOCK_BREAK (R457): a lock held for 1 ms is broken: LOCK_STS names it, and the sequence of its holder fails until it ends.
  (∀ (page : Fin 512) (seg : Fin 16) (l : SegLock) (s : State), s.up = true →
     (s.mgmt.locks.find? fun l => l.page == page.val && l.seg == seg.val) = some l → l.who ≠ 0 → l.who < 64 →
     ∃ u : State, exec (.lockBreak page seg) s = .next u.after ∧
       u.get F.RPU.LOCK_STS.LAST_BREAK_PAGE = page.val ∧ u.get F.RPU.LOCK_STS.LAST_BREAK_SEG = seg.val ∧ u.get F.RPU.LOCK_STS.LAST_BREAK_REQ = l.who) ∧
  -- DAP_READ (R466): with the debug port unlocked a read is performed, and its data held for the next operation.
  (∀ (size8 : Bool) (addr : BitVec 25) (s : State), s.pins.pwrOk = true → s.up = true → s.flag F.ATTEST.DBG_STS.UNLOCKED = true →
     s.gate .debug addr.toNat (if size8 then 8 else 4) false (placed addr.toNat (if size8 then 8 else 4) 0) = .go →
     ∃ u : State, exec (.dapRead size8 addr) s = .next u ∧
       u = (let t := (((s.setIr 0x10).emit (.dap s.mgmt.dapStatus s.mgmt.dapData)).charged .debug).readAt 0 addr.toNat (if size8 then 8 else 4);
         t.2.dapSet 0 (t.1.headD 0))) ∧
  -- DAP_WRITE (R466): with the debug port unlocked a write is performed with the rights of DEBUG.
  (∀ (size8 : Bool) (addr : BitVec 25) (v : Word) (s : State), s.pins.pwrOk = true → s.up = true → s.flag F.ATTEST.DBG_STS.UNLOCKED = true →
     s.gate .debug addr.toNat (if size8 then 8 else 4) true (placed addr.toNat (if size8 then 8 else 4) v.toNat) = .go →
     ∃ u : State, exec (.dapWrite size8 addr v) s = .next u ∧
       u = ((((s.setIr 0x10).emit (.dap s.mgmt.dapStatus s.mgmt.dapData)).charged .debug).writeAt 0 4 addr.toNat (if size8 then 8 else 4)
         (placed addr.toNat (if size8 then 8 else 4) v.toNat)).dapSet 0 0)

/-- The SPDM requests complete. With a Guide pair ACTIVE, past BASECAMP and after the exchange each needs, every SPDM request answers a next state
with its response on the transport of the request and the session state of R468. (16_management_access.md; 00_scope.md) -/
def Obligations.SpdmRowsComplete : Prop :=
  -- GET_VERSION (R468): version 1.2; the exchange of its transport begins anew and the sessions it opened end.
  (∀ (s : State), s.up = true → s.viaOpen s.mgmt.spdmVia = true → s.guideOn = true → 1 < s.phase →
     ∃ u : State, exec .getVersion s = .next u.after ∧
       u.out = s.out ++ [.spdm s.mgmt.spdmVia 0x84 0 [0x12]] ∧ u.spdmStage = 1 ∧ (∀ e ∈ u.mgmt.sessions, e.2.2 ≠ s.mgmt.spdmVia)) ∧
  -- GET_CAPABILITIES (R468), after VERSION.
  (∀ (s : State), s.up = true → s.viaOpen s.mgmt.spdmVia = true → s.guideOn = true → 1 < s.phase → 1 ≤ s.spdmStage →
     ∃ u : State, exec .getCapabilities s = .next u.after ∧
       u.out = s.out ++ [.spdm s.mgmt.spdmVia 0xE1 0 [17]] ∧ u.spdmStage = 2) ∧
  -- NEGOTIATE_ALGORITHMS (R468), after CAPABILITIES: ECDSA P-384 with SHA-384.
  (∀ (s : State), s.up = true → s.viaOpen s.mgmt.spdmVia = true → s.guideOn = true → 1 < s.phase → 2 ≤ s.spdmStage →
     ∃ u : State, exec (.negotiateAlgorithms true true) s = .next u.after ∧
       u.out = s.out ++ [.spdm s.mgmt.spdmVia 0xE3 0 [384, 384]] ∧ u.spdmStage = 3) ∧
  -- GET_DIGESTS (R468): the digests, free values.
  (∀ (s : State), s.up = true → s.viaOpen s.mgmt.spdmVia = true → s.guideOn = true → 1 < s.phase → s.spdmReady = true →
     ∃ u : State, exec .getDigests s = .next u.after ∧
       u.out = s.out ++ [.spdm s.mgmt.spdmVia 0x81 0 (s.freeWords 12).1] ∧ u.mgmt = s.mgmt) ∧
  -- GET_CERTIFICATE (R468): a part of the chain of slot 0 or 1, free values.
  (∀ (slot : BitVec 4) (off len : BitVec 16) (s : State), s.up = true → s.viaOpen s.mgmt.spdmVia = true → s.guideOn = true → 1 < s.phase →
     s.spdmReady = true → slot.toNat ≤ 1 →
     ∃ u : State, exec (.getCertificate slot off len) s = .next u.after ∧
       u.out = s.out ++ [.spdm s.mgmt.spdmVia 0x82 0 (s.freeWords 8).1] ∧ u.mgmt = s.mgmt) ∧
  -- CHALLENGE (R468): a signature with slot 0 or 1, free values.
  (∀ (slot : BitVec 4) (s : State), s.up = true → s.viaOpen s.mgmt.spdmVia = true → s.guideOn = true → 1 < s.phase → s.spdmReady = true →
     slot.toNat ≤ 1 →
     ∃ u : State, exec (.challenge slot) s = .next u.after ∧
       u.out = s.out ++ [.spdm s.mgmt.spdmVia 0x83 0 (s.freeWords 8).1] ∧ u.mgmt = s.mgmt) ∧
  -- GET_MEASUREMENTS (R468): index 0 asks for their number, and measurement 6 holds the debug state.
  (∀ (s : State), s.up = true → s.viaOpen s.mgmt.spdmVia = true → s.guideOn = true → 1 < s.phase → s.spdmReady = true →
     ∃ u : State, exec (.getMeasurements 6 false) s = .next u.after ∧
       u.out = s.out ++ [.spdm s.mgmt.spdmVia 0xE0 0 [s.get F.ATTEST.DBG_STS.UNLOCKED, s.get F.ATTEST.DBG_STS.UNLOCKS]] ∧ u.mgmt = s.mgmt) ∧
  -- KEY_EXCHANGE (R468): a session opens, four at most.
  (∀ (slot : BitVec 4) (q : BitVec 16) (s : State), s.up = true → s.viaOpen s.mgmt.spdmVia = true → s.guideOn = true → 1 < s.phase →
     s.spdmReady = true → slot.toNat ≤ 1 → s.mgmt.sessions.length < 4 →
     ∃ u : State, exec (.keyExchange slot q) s = .next u.after ∧
       u.out = s.out ++ [.spdm s.mgmt.spdmVia 0xE4 0 [s.mgmt.nextSession % 65536 * 65536 + q.toNat]] ∧
         u.mgmt.sessions = s.mgmt.sessions ++ [(s.mgmt.nextSession % 65536 * 65536 + q.toNat, false, s.mgmt.spdmVia)]) ∧
  -- FINISH (R468): with a good HMAC the session is established.
  (∀ (id : BitVec 32) (s : State), s.up = true → s.viaOpen s.mgmt.spdmVia = true → s.guideOn = true → 1 < s.phase → s.spdmReady = true →
     s.mgmt.sessions.contains (id.toNat, false, s.mgmt.spdmVia) = true →
     ∃ u : State, exec (.finish id .good) s = .next u.after ∧
       u.out = s.out ++ [.spdm s.mgmt.spdmVia 0xE5 0 []] ∧
         u.mgmt.sessions = s.mgmt.sessions.map fun e => if e.1 = id.toNat then (id.toNat, true, e.2.2) else e) ∧
  -- END_SESSION (R468): an established session ends.
  (∀ (id : BitVec 32) (s : State), s.up = true → s.viaOpen s.mgmt.spdmVia = true → s.guideOn = true → 1 < s.phase → s.spdmReady = true →
     s.established id.toNat = true →
     ∃ u : State, exec (.endSession id) s = .next u.after ∧
       u.out = s.out ++ [.spdm s.mgmt.spdmVia 0xEC 0 []] ∧ u.mgmt.sessions = s.mgmt.sessions.filter fun e => e.1 ≠ id.toNat) ∧
  -- DBG_NONCE (R467): in an established session a nonce is given, a free value.
  (∀ (id : BitVec 32) (s : State), s.up = true → s.viaOpen s.mgmt.spdmVia = true → s.guideOn = true → 1 < s.phase → s.spdmReady = true →
     s.established id.toNat = true →
     ∃ u : State, exec (.dbgNonce id) s = .next u.after ∧
       u.out = s.out ++ [.spdm s.mgmt.spdmVia 0xFE 0 (s.freeWords 4).1] ∧ u.mgmt.nonce = some ((s.freeWords 4).1.headD 0, id.toNat))

/-- Debug unlock and the test access port rows complete. Expiry of the nonce, debug unlock and relock, and the instructions of the test access port
answer a next state with the effect of R466 and R467. (16_management_access.md; 00_scope.md) -/
def Obligations.TapRowsComplete : Prop :=
  -- DBG_NONCE_EXPIRY (R467): the nonce is dropped.
  (∀ (s : State), s.up = true →
     ∃ u : State, exec .dbgNonceExpiry s = .next u.after ∧
       u.mgmt.nonce = none ∧ u.flds = s.flds) ∧
  -- DBG_UNLOCK (R467): with the nonce of its session and good key and signature the debug port is unlocked.
  (∀ (id : BitVec 32) (x : Nat) (s : State), s.up = true → s.viaOpen s.mgmt.spdmVia = true → s.guideOn = true → 1 < s.phase → s.spdmReady = true →
     s.established id.toNat = true → s.get F.ATTEST.DBG_STS.FAILS < 3 → s.mgmt.nonce = some (x, id.toNat) →
     ∃ u : State, exec (.dbgUnlock id .good .good) s = .next u.after ∧
       u.get F.ATTEST.DBG_STS.UNLOCKED = 1 ∧ u.mgmt.dapSession = some id.toNat ∧ u.mgmt.nonce = none ∧
         u.out = s.out ++ [.spdm s.mgmt.spdmVia 0xFE 0 []]) ∧
  -- DBG_RELOCK (R467): the debug port is locked.
  (∀ (src : Path) (v : Word) (s : State), s.Admits src 0x09 0x108 (withBit v.toNat 63 true) →
     ∃ u : State, exec (.dbgRelock src v) s = .next u.after ∧
       u.get F.ATTEST.DBG_STS.UNLOCKED = 0 ∧ u.mgmt.dapSession = none) ∧
  -- TAP_RESET (R466): IDCODE is selected.
  (∀ (s : State), s.pins.pwrOk = true →
     ∃ u : State, exec .tapReset s = .next u ∧
       u.pins.ir = 0x01 ∧ u.pins.highz = false) ∧
  -- BYPASS (R466).
  (∀ (s : State), s.pins.pwrOk = true →
     ∃ u : State, exec .bypass s = .next u ∧
       u.pins.ir = 0xFF ∧ u.out = s.out ++ [.tdo 0]) ∧
  -- IDCODE (R466).
  (∀ (s : State), s.pins.pwrOk = true →
     ∃ u : State, exec .idcode s = .next u ∧
       u.pins.ir = 0x01 ∧ u.out = s.out ++ [.tdo 0x141925A7]) ∧
  -- SAMPLE/PRELOAD (R466, R9): the pins are captured and shifted out, and what is shifted in is held.
  (∀ (x v : BitVec 512) (s : State), s.pins.pwrOk = true →
     ∃ u : State, exec (.samplePreload x v) s = .next u ∧
       u.pins.ir = 0x02 ∧ u.pins.boundary = v.toNat ∧ u.out = s.out ++ [.tdo x.toNat]) ∧
  -- EXTEST (R466, R9), in reset or unlocked: what was held is driven, the pins are captured and shifted out, and what is shifted in is driven.
  (∀ (x v : BitVec 512) (s : State), s.pins.pwrOk = true → s.testOk = true →
     ∃ u : State, exec (.extest x v) s = .next u ∧
       u.pins.ir = 0x03 ∧ u.pins.boundary = v.toNat ∧ u.out = s.out ++ [.boundary 0x03 s.pins.boundary, .tdo x.toNat, .boundary 0x03 v.toNat]) ∧
  -- EXTEST_PULSE (R9, R466): a pulse by the boundary register on the lanes, and what their test receivers show is shifted out.
  (∀ (x v : BitVec 512) (s : State), s.pins.pwrOk = true → s.testOk = true →
     ∃ u : State, exec (.extestPulse x v) s = .next u ∧
       u.pins.ir = 0x04 ∧ u.pins.boundary = v.toNat ∧ u.out = s.out ++ [.boundary 0x04 s.pins.boundary, .tdo x.toNat]) ∧
  -- EXTEST_TRAIN (R9, R466): a train by the boundary register on the lanes, and what their test receivers show is shifted out.
  (∀ (x v : BitVec 512) (s : State), s.pins.pwrOk = true → s.testOk = true →
     ∃ u : State, exec (.extestTrain x v) s = .next u ∧
       u.pins.ir = 0x05 ∧ u.pins.boundary = v.toNat ∧ u.out = s.out ++ [.boundary 0x05 s.pins.boundary, .tdo x.toNat]) ∧
  -- HIGHZ (R466): the outputs are released.
  (∀ (s : State), s.pins.pwrOk = true → s.testOk = true →
     ∃ u : State, exec .highz s = .next u ∧
       u.pins.ir = 0x06 ∧ u.pins.highz = true)

/-- Counter chains, cairns and the logbook complete. A write of CHAIN, the enable of tags, a finished cairn and its place in the ring, the windows and
summaries of the logbook, the alarm FIFO, the freeze, the interrupt gap, stream DMA and a mark answer a next state with the effect of R400 to R416.
(14_telemetry.md) -/
def Obligations.TelemetryRowsComplete : Prop :=
  -- CHAIN_WRITE (R400): CHAIN takes the value written; every bit that changes clears its odd counter.
  (∀ (j : Fin 32) (src : Path) (v : Word) (s : State), s.Admits src 0x5A (0x200 + 8 * j.val) v.toNat →
     ∃ u : State, exec (.chainWrite j src v) s = .next u.after ∧
       u.get (F.PMU.CHAIN.CHAIN j.val) = v.toNat) ∧
  -- TAG_ENABLE (R403): tagging is on and every LFSR has its seed.
  (∀ (src : Path) (v : Word) (s : State), s.Admits src 0x5B 0x100 (withBit v.toNat 63 true) → s.flag F.TRACE.TAG_CTL.EN = false →
     ∃ u : State, exec (.tagEnable src v) s = .next u.after ∧
       u.get F.TRACE.TAG_CTL.EN = 1 ∧ u.tele.lfsr.length = 14) ∧
  -- CAIRN_FINISH (R405): a complete cairn enters the queue.
  (∀ (id : Nat) (c : Cairn) (s : State), s.up = true → Tab.get? s.tele.cairns id = some c → c.done = true → s.tele.cairnQ.length < 512 →
     ∃ u : State, exec (.cairnFinish id) s = .next u.after ∧
       u.tele.cairnQ = s.tele.cairnQ ++ [c] ∧ u.tele.cairns = Tab.del s.tele.cairns id) ∧
  -- CAIRN_WRITE (R406, R407): the oldest queued cairn is written at its number modulo the ring's size.
  (∀ (c : Cairn) (l : List Cairn) (s : State), s.up = true → s.tele.cairnQ = c :: l → s.flag F.TRACE.TAG_CTL.STOP = false → s.canPay 4 0 1 = true →
     ∃ u : State, exec .cairnWrite s = .next u.after ∧
       u.tele.cairnQ = l ∧ u.tele.cairnRing = Tab.put s.tele.cairnRing (s.tele.cairnSeq % max 1 s.cairnCap) c ∧
         u.tele.cairnSeq = s.tele.cairnSeq + 1 ∧ u.get F.TRACE.STS.WR_SEQ = (s.tele.cairnSeq + 1) % 2 ^ 32) ∧
  -- COAL_WINDOW_EXPIRY (R412): the repeats of the window become one record, which is admitted.
  (∀ (code inst key : BitVec 16) (e : CoalEnt) (r : LogRec) (s : State), s.up = true →
     s.tele.coal.find? (fun e => e.code == code.toNat && e.inst == inst.toNat && e.key == key.toNat) = some e → e.rep = some r →
     s.flag F.LOG.LOG_CTL.EN = true → s.tele.queue.length < 512 →
     ∃ u : State, exec (.coalWindowExpiry code inst key) s = .next u.after ∧
       ((({ s with tele := { s.tele with coal := s.tele.coal.erase e } } : State).admitRec r).1 = true →
         u = ({ s with tele := { s.tele with coal := s.tele.coal.erase e } } : State).freezeEnd
           (({ s with tele := { s.tele with coal := s.tele.coal.erase e } } : State).admitRec r).2)) ∧
  -- LOG_DROP_SUMMARY (R413): a millisecond that saw refusals leaves one LOG_DROP record with the three counts.
  (∀ (s : State), s.up = true → s.tele.msDrops ≠ (0, 0, 0) → s.flag F.LOG.LOG_CTL.EN = true → s.tele.freezing = false →
     ∃ u : State, exec .logDropSummary s = .next u.after ∧
       u.tele.msDrops = (0, 0, 0)) ∧
  -- ALARM_FIFO_WRITE (R414): the oldest unwritten alarm goes to the alarm ring.
  (∀ (e : AlarmEnt) (s : State), s.up = true → s.flag F.LOG.LOG_CTL.EN = true → s.get F.ERR.SAFE_STS.CODE ≠ Ev.DRAM_FAIL →
     s.tele.fifo.find? (fun e => !e.written) = some e → s.canPay 3 0 1 = true → s.tele.fifoWait = [] →
     ∃ u : State, exec .alarmFifoWrite s = .next u.after ∧
       u.tele.alarm = Tab.put s.tele.alarm (e.r.seq % max 1 s.alarmCap) e.r) ∧
  -- FREEZE_REARM (R415): the freeze region is empty and armed.
  (∀ (src : Path) (v : Word) (s : State), s.Admits src 0x59 0x138 (withBit v.toNat 63 true) → s.tele.freezing = false →
     ∃ u : State, exec (.freezeRearm src v) s = .next u.after ∧
       u.get F.LOG.FREEZE_CTL.ARMED = 1 ∧ u.get F.LOG.FREEZE_CTL.FROZEN = 0 ∧ u.tele.freeze = []) ∧
  -- LOG_IRQ_GAP_EXPIRY (R416): an interrupt that waited for the gap is sent to the manager.
  (∀ (s : State), s.up = true → s.tele.irqGap = true → s.tele.irqWant ≠ [] →
     ∃ u : State, exec .logIrqGapExpiry s = .next u.after ∧
       u.tele.irqWant = [] ∧ u.tele.irqGap = true) ∧
  -- LOG_DMA_BATCH (R416): within the room of the host ring and the LOG budget the oldest records written go out, then the index of the next.
  (∀ (pend l : List LogRec) (n : Nat) (s : State), s.up = true → s.flag F.LOG.DMA_CTL.EN = true → s.dmaReach = true →
     pend = s.tele.dmaPend.filter (fun r => s.tele.queue.contains r || !s.overwritten r) →
     n = (s.tele.dmaIdx + 2 ^ 32 - s.get F.LOG.DMA_HEAD.HEAD) % 2 ^ 32 → n < s.dmaRing / 64 → s.canPay 3 0 1 = true →
     l = ((pend.takeWhile fun r => !s.tele.queue.contains r).take (min 64 (s.dmaRing / 64 - n))).take
     ((s.classUse 3).limDram - (s.classUse 3).usedDram) → l ≠ [] → (∀ r ∈ l, s.err.dramUe.contains (s.recBlock r) = false) →
     ∃ u : State, exec .logDmaBatch s = .next u.after ∧
       u.tele.dmaPend = pend.drop l.length ∧ u.tele.dmaIdx = (s.tele.dmaIdx + l.length) % 2 ^ 32 ∧ u.get F.LOG.DMA_CTL.STATE = 1 ∧
         (∃ w i : List InTrain, Tab.getD u.core.inq 49 [] = Tab.getD s.core.inq 49 [] ++ w ++ i ∧
          w.map (fun x => (x.t.kind, x.t.addr, x.t.data)) = ((l.zip (List.range l.length)).map fun e =>
              (TlpKind.mwr, BitVec.ofNat 64 (s.get F.LOG.DMA_ADDR.ADDR * 4096 + (s.tele.dmaIdx + e.2) % (s.dmaRing / 64) * 64), e.1.toBytes)) ++
            [(TlpKind.mwr, BitVec.ofNat 64 (s.get F.LOG.DMA_ADDR.ADDR * 4096 + s.dmaRing), leBytes 8 ((s.tele.dmaIdx + l.length) % 2 ^ 32))])) ∧
  -- LOG_DMA_BATCH (R416): with no record left to deliver, stream DMA is idle.
  (∀ (s : State), s.up = true → s.flag F.LOG.DMA_CTL.EN = true → s.dmaReach = true → s.tele.dmaPend = [] →
     ∃ u : State, exec .logDmaBatch s = .next u.after ∧
       u.get F.LOG.DMA_CTL.STATE = 1) ∧
  -- LOG_MARK (R409): the mark is offered as a TRACE record.
  (∀ (src : Path) (v : Word) (s : State), s.Admits src 0x59 0x168 (withBit v.toNat 63 true) → s.flag F.LOG.LOG_CTL.EN = true →
     ∃ u : State, exec (.logMark src v) s = .next u.after ∧
       u = ((s.charged src).set F.LOG.MARK.KEY (v.toNat % 2 ^ 16)).mark)

/-- Row repair, scrubbing, acclimatisation, the voltage command and the pitch complete. Repairs of SRAM and DRAM rows, scrub reads, the
acclimatisation pass from its start to its end, the fast step, the minute, the pitch and the end of an AVSBus transaction answer a next state with the
effect of R366 to R390 and R495. (13_dependability.md; 18_pins_power_package.md) -/
def Obligations.AgeingRowsComplete : Prop :=
  -- SRAM_ROW_REPAIR (R366, R367): the row goes to a redundant row of its macro, and the repair is entered in the map.
  (∀ (m : BitVec 16) (row : BitVec 24) (ue : Bool) (s : State), s.up = true → s.flag F.REPAIR.REPAIR_CFG.SRAM_EN = true →
     Tab.getD s.age.rowsUsed m.toNat 0 < 4 → s.canPay 0 1 0 = true → s.get F.REPAIR.MAP_STS.ENTRIES < 1024 →
     ∃ u : State, exec (.sramRowRepair m row ue) s = .next u.after ∧
       u.age.rowsUsed = Tab.put s.age.rowsUsed m.toNat (Tab.getD s.age.rowsUsed m.toNat 0 + 1) ∧
         u.get F.REPAIR.MAP_STS.ENTRIES = s.get F.REPAIR.MAP_STS.ENTRIES + 1) ∧
  -- DRAM_ROW_REPAIR (R373): a reserve row of the channel takes the row's place.
  (∀ (ch : Fin 4) (bank : BitVec 4) (row : BitVec 24) (ue : Bool) (s : State), s.up = true → s.get (F.MEMC.RESERVE_STS.FREE ch.val) ≠ 0 →
     s.canPay 0 0 rowBlocks = true → s.get (F.MEMC.RESERVE_STS.FREE ch.val) < 2048 →
     ∃ u : State, exec (.dramRowRepair ch bank row ue) s = .next u.after ∧
       u.get (F.MEMC.RESERVE_STS.FREE ch.val) = s.get (F.MEMC.RESERVE_STS.FREE ch.val) - 1) ∧
  -- SCRUB_READ (R371, R372): an uncorrectable block is counted and its address shown.
  (∀ (addr : BitVec 32) (pos : BitVec 6) (s : State), s.up = true → s.flag F.MEMC.SCRUB_CFG.EN = true → s.canPay 0 0 1 = true →
     ∃ u : State, exec (.scrubRead addr .uncorrectable pos) s = .next u.after ∧
       u.get F.MEMC.ECC_STS.LAST_ADDR = addr.toNat) ∧
  -- SRAM_SCRUB (R366, R387): the first corrected error of a row in a second is noted with its tick.
  (∀ (m : BitVec 16) (row : BitVec 24) (s : State), s.up = true → s.canPay 0 1 0 = true →
     Tab.get? s.age.rowErr (m.toNat * 2 ^ 24 + row.toNat) = none →
     ∃ u : State, exec (.sramScrub m row .corrected []) s = .next u.after ∧
       u.age.rowErr = Tab.put s.age.rowErr (m.toNat * 2 ^ 24 + row.toNat) (1, s.time.run)) ∧
  -- ACCL_PASS_START (R377): in SUMMIT a pass begins in SENSE.
  (∀ (s : State), s.up = true → s.phase = 3 → s.guideOn = true → s.flag F.AGE.ACCL_CFG.EN = true → s.get F.AGE.ACCL_STS.STATE = 0 →
     ∃ u : State, exec .acclPassStart s = .next u.after ∧
       u.get F.AGE.ACCL_STS.STATE = 1 ∧ u.age.due = 60 * max 1 (min 168 (s.get F.AGE.ACCL_CFG.PERIOD)) ∧ u.age.steps = 0) ∧
  -- ACCL_RUN (R377): RUN begins a pass in SUMMIT.
  (∀ (src : Path) (v : Word) (s : State), s.Admits src 0x61 0x100 (withBit v.toNat 62 true) → s.phase = 3 → s.guideOn = true →
     s.get F.AGE.ACCL_STS.STATE = 0 →
     ∃ u : State, exec (.acclRun src v) s = .next u.after ∧
       u.get F.AGE.ACCL_STS.STATE = 1 ∧ u.age.steps = 0) ∧
  -- MARGIN_MEASURE_DONE (R380): with too little margin the plan goes up one code, which is commanded.
  (∀ (ms : List (BitVec 3)) (osc : List (BitVec 16)) (s : State), s.up = true →
     (s.get F.AGE.ACCL_STS.STATE = 2 ∨ s.get F.AGE.ACCL_STS.STATE = 1 ∧ s.age.sensed = true) → s.guideOn = true → s.avsFree = true →
     s.age.lowered = false → s.age.steps < s.get F.AGE.ACCL_CFG.MAX_STEPS → s.avsCode < 60 → 0#3 ∈ ms.take 6 → s.canPay 6 30 0 = true →
     ∃ u : State, exec (.marginMeasureDone ms osc) s = .next u.after ∧
       u.get F.AGE.ACCL_STS.STATE = 2 ∧ u.age.steps = s.age.steps + 1 ∧ u.avs.busy = some (s.avsCode + 1)) ∧
  -- ACCL_PASS_END (R378, R384): the pass publishes and ends.
  (∀ (s : State), s.up = true → s.get F.AGE.ACCL_STS.STATE = 4 → s.guideOn = true → s.canPay 6 3 0 = true →
     ∃ u : State, exec .acclPassEnd s = .next u.after ∧
       u.get F.AGE.ACCL_STS.STATE = 0 ∧ u.boot.ageDirty = true) ∧
  -- FAST_GUARD_STEP (R381): one fast step, at its tick.
  (∀ (s : State), s.up = true → s.age.lastFast = none → s.avsCode + s.avs.fastDue < 60 → s.flag F.PWR.AVS_CTL.FIXED = false →
     ∃ u : State, exec .fastGuardStep s = .next u.after ∧
       u.age.lastFast = some s.time.run) ∧
  -- EQ_HOURS_TICK (R384): the minute adds its weight.
  (∀ (tj : BitVec 12) (s : State), s.up = true →
     ∃ u : State, exec (.eqHoursTick tj) s = .next u.after ∧
       u.age.minutes = (s.age.minutes + lifeWeight tj.toNat) % 61440) ∧
  -- PITCH_START (R386 to R390): the next pitch, with allowances reloaded.
  (∀ (s : State), s.up = true → s.jobs = [] → s.tele.queue = [] → s.core.censusLeft = 0 → s.tele.freezeQ = [] →
     ∃ u : State, exec .pitchStart s = .next u.after ∧
       u.tele.wrote = (0, 0, 0) ∧ u.get F.BUDGET.PITCH_STS.PITCH = (s.get F.BUDGET.PITCH_STS.PITCH + 1) % 2 ^ 48) ∧
  -- AVS_TRANSACTION_DONE (R495): an acknowledged write settles.
  (∀ (c : Nat) (mv ca : BitVec 16) (s : State), s.up = true → s.avs.busy = some c → s.avs.isStatus = false →
     ∃ u : State, exec (.avsTransactionDone true mv ca) s = .next u.after ∧
       u.avs.settling = true ∧ u.avs.busy = none ∧ u.get F.PWR.AVS_STS.SENT_CODE = c % 64) ∧
  -- AVS_SETTLE_DONE (R495): the voltage sent counts as applied.
  (∀ (s : State), s.up = true → s.avs.settling = true → s.avs.busy = none → s.avs.fixedDue = false → s.avs.fastDue = 0 →
     s.flag F.PWR.AVS_STS.BUS_ERR = false →
     ∃ u : State, exec .avsSettleDone s = .next u.after ∧
       u.get F.AGE.AVS_STS.CODE = s.get F.PWR.AVS_STS.SENT_CODE % 64 ∧ u.avs.settling = false)

/-- Containment, link loss and the Guide pairs complete. CONTAIN and RELEASE that pass the checks of CONTAIN_CTL and the end of a CONTAIN, DL_Down,
the end of the removal detection, the window of an escalation, a mismatch of a standby Guide pair, a reloaded pair and the checkpoint answer a next
state with the effect of R345 to R357. (12_errors_containment.md) -/
def Obligations.ErrorRowsComplete : Prop :=
  -- CONTAIN (R349, R351, R353): the target is contained, and the command is in progress.
  (∀ (k i : Nat) (src : Path) (v : Word) (s : State), s.Admits src 0x58 0x100 (goOp v 1) → bitsOf (goOp v 1) 59 58 = k →
     bitsOf (goOp v 1) 57 48 = i → s.containFault 1 k i = 0 →
     ∃ u : State, exec (.contain src v) s = .next u.after ∧
       (let t := (s.charged src).sets [(F.ERR.CONTAIN_CTL.OP, 1), (F.ERR.CONTAIN_CTL.TARGET, k), (F.ERR.CONTAIN_CTL.INDEX, i),
         (F.ERR.CONTAIN_CTL.CPL_CA, bitsOf (goOp v 1) 40 40)]
        u = (({ t with err := { t.err with cmd := some (1, k, i) } } : State).sets [(F.ERR.CONTAIN_CTL.RESULT, 2),
          (F.ERR.CONTAIN_CTL.FAULT, 0)]).containTarget k i (bitOf v.toNat 40))) ∧
  -- RELEASE (R349, R352, R353): a contained target is released.
  (∀ (k i : Nat) (src : Path) (v : Word) (s : State), s.Admits src 0x58 0x100 (goOp v 2) → bitsOf (goOp v 2) 59 58 = k →
     bitsOf (goOp v 2) 57 48 = i → s.containFault 2 k i = 0 →
     ∃ u : State, exec (.release src v) s = .next u.after ∧
       (let t := (s.charged src).sets [(F.ERR.CONTAIN_CTL.OP, 2), (F.ERR.CONTAIN_CTL.TARGET, k), (F.ERR.CONTAIN_CTL.INDEX, i),
         (F.ERR.CONTAIN_CTL.CPL_CA, bitsOf (goOp v 2) 40 40)]
        let w := ({ t with err := { t.err with cmd := some (2, k, i) } } : State).sets [(F.ERR.CONTAIN_CTL.RESULT, 2), (F.ERR.CONTAIN_CTL.FAULT, 0)]
        u = if k = 0 then w.releasePort i else if k = 1 then w.releaseVh i else w.releaseVf i)) ∧
  -- CONTAIN_DONE (R349): the CONTAIN in progress is done.
  (∀ (k i : Nat) (s : State), s.up = true → s.err.cmd = some (1, k, i) →
     ∃ u : State, exec .containDone s = .next u.after ∧
       u.err.cmd = none ∧ u.get F.ERR.CONTAIN_CTL.RESULT = 1) ∧
  -- LINK_DOWN (R354, R126): DL_Down on a HOST or DEV port; a FAB link in service goes to retraining.
  (∀ (p : PortId) (s : State), s.up = true → s.role p.val ≠ 0 → (s.port p.val).under = 6 →
     ∃ u : State, exec (.linkDown p) s = .next u.after ∧
       u = if s.role p.val = 3 then s.retrain p.val else s.dlDown p.val) ∧
  -- REMOVAL_DETECT_DONE (R355): the receiver detection of a DEV port ends.
  (∀ (p : PortId) (found : Bool) (s : State), s.up = true → (s.port p.val).detecting = true → s.flag (F.STN.PORT_ROLE.HP_SLOT p.val) = false →
     ∃ u : State, exec (.removalDetectDone p found) s = .next u.after ∧
       u = if found then s.devLinkDown p.val else s.surprise p.val) ∧
  -- ESC_WINDOW_EXPIRY (R345): the count returns to 0.
  (∀ (j : Fin 128) (inst : Nat) (s : State), s.up = true →
     ∃ u : State, exec (.escWindowExpiry j inst) s = .next u.after ∧
       u.tele.esc = Tab.del s.tele.esc (j.val * 65536 + inst)) ∧
  -- GUIDE_MISMATCH (R357): a standby pair is stopped and loads its image again.
  (∀ (pair : Fin 2) (s : State), s.up = true → s.get (pairFld pair.val) = 1 → Tab.get? s.err.mism pair.val = none →
     ∃ u : State, exec (.guideMismatch pair) s = .next u.after ∧
       (let t := ((({ s with err := { s.err with mism := Tab.put s.err.mism pair.val s.time.run } } : State).addSat F.ERR.GUIDE_STS.MISMATCHES 1).set (pairFld pair.val) 2).raise Ev.GUIDE_MISMATCH { inst := pair.val, detail := 2 }
        u = if t.get (pairFld 0) = 3 ∧ t.get (pairFld 1) = 3 then t.raise Ev.GUIDE_DOWN { detail := 2 } else t)) ∧
  -- GUIDE_PAIR_READY (R357): a pair a mismatch stopped, its image loaded again, becomes STANDBY beside an ACTIVE one.
  (∀ (pair : Fin 2) (s : State), s.up = true → s.get (pairFld pair.val) = 2 → s.guideOn = true → (Tab.get? s.err.mism pair.val).isSome = true →
     ∃ u : State, exec (.guidePairReady pair true) s = .next u.after ∧
       u.get (pairFld pair.val) = 1) ∧
  -- GUIDE_CHECKPOINT (R357): the ACTIVE pair writes its checkpoint in the GUIDE class.
  (∀ (s : State), s.up = true → s.guideOn = true → s.canPay 6 0 16 = true →
     ∃ u : State, exec .guideCheckpoint s = .next u.after ∧
       u = s.spend 6 0 16)

/-- The rows of a lane's transmitter and receiver complete. Writes of TXEQ, RESTART and FREEZE, an equalisation message, the updates of adaptation,
convergence, loss and return of the clock recovery lock, snapshot, divergence, the fall-back from a record, the end of a sweep's hold and the retrain
after loss of lock answer a next state with the effect of R32 to R48 and R78. (02_lanes.md; 03_ports.md; 04_link_layer.md) -/
def Obligations.LaneRowsComplete : Prop :=
  -- TXEQ_WRITE (R32, R35): on a lane of an OFF port a legal set is taken.
  (∀ (n : LaneId) (src : Path) (v : Word) (s : State), s.Admits src (0x100 + n.val) 0x100 v.toNat → s.laneOff n.val = true →
     listOk [bitsOf v.toNat 5 0, bitsOf v.toNat 13 8, bitsOf v.toNat 30 24, bitsOf v.toNat 21 16] = true →
     ∃ u : State, exec (.txeqWrite n src v) s = .next u.after ∧
       u.get (F.LANE.TXEQ.MANUAL n.val) = bitsOf v.toNat 39 39 ∧ u.get (F.LANE.TXEQ.COEF_ERR n.val) = 0) ∧
  -- TRAIN_EQ_RX (R32, R48, R100): the partner's message on a Halud lane, and its request in Recovery equalisation of a PCIe link.
  (∀ (n : LaneId) (m : EqMsg) (s : State), s.up = true →
     ∃ u : State, exec (.trainEqRx n m) s = .next u.after ∧
       (s.laneFab n.val = true → u = s.eqRx n.val m.req.toNat m.rsp.toNat m.done) ∧
         (∀ q, s.laneFab n.val = false → m.pcie = some q → (s.port (s.portOfLane n.val)).under = 4 → s.laneOff n.val = false →
         u = s.pcieCoefs n.val q)) ∧
  -- ADAPT_UPDATE (R37): in TRACK the coefficients move by the gradient with MU_TRACK.
  (∀ (n : LaneId) (grad : List Int) (s : State), s.up = true → s.get (F.LANE.RXSTS.STATE n.val) = 2 →
     ∃ u : State, exec (.adaptUpdate n grad) s = .next u.after ∧
       u = (List.range 20).foldl (fun s' i => s'.set (F.LANE.RXCOEF.COEF n.val i)
         (coefStep (s'.get (F.LANE.RXCOEF.COEF n.val i)) (grad.getD i 0 / (2 ^ (s.get (F.LANE.RXADAPT.MU_TRACK n.val) + 8) : Int)))) s) ∧
  -- VGA_CTLE_UPDATE (R37): in ACQUIRE both codes are taken.
  (∀ (n : LaneId) (vga : BitVec 7) (ctle : BitVec 5) (slow : Bool) (s : State), s.up = true → s.get (F.LANE.RXSTS.STATE n.val) = 1 →
     s.flag (F.LANE.RXADAPT.CTLE_HOLD n.val) = false →
     ∃ u : State, exec (.vgaCtleUpdate n vga ctle slow) s = .next u.after ∧
       u.get (F.LANE.RXSTS.VGA n.val) = vga.toNat ∧ u.get (F.LANE.RXSTS.CTLE n.val) = ctle.toNat) ∧
  -- LANE_CONVERGED (R38, R429): the lane enters TRACK.
  (∀ (n : LaneId) (snr : BitVec 8) (s : State), s.up = true → s.get (F.LANE.RXSTS.STATE n.val) = 1 → s.convSnr n.val ≤ snr.toNat →
     ∃ u : State, exec (.laneConverged n snr) s = .next u.after ∧
       (let a := s.sawSnr n.val snr.toNat
        let t := (a.dirtyAge.setLane n.val { a.lane n.val with selfConv := true, sweep := none, tryRec := false,
                                                               convAt := ((a.lane n.val).convAt ++ [a.get (F.LANE.RXSTS.RATE n.val)]).eraseDups }).setLaneState n.val 2
        u = if t.role (t.portOfLane n.val) = 3 then (t.sendEq n.val 0 0).eqSettled (t.portOfLane n.val) else t)) ∧
  -- CDR_LOCK_LOSS (R39, R78): back to ACQUIRE from the snapshot or the start point, the relock timer starts; a rope-pair member that lost more than
  -- half its lanes retrains.
  (∀ (n : LaneId) (s : State), s.up = true → s.flag (F.LANE.RXSTS.CDR_LOCK n.val) = true → s.get (F.LANE.RXSTS.RATE n.val) ≠ 0xF →
     ∃ u : State, exec (.cdrLockLoss n) s = .next u.after ∧
       (let a := ((s.laneRestore n.val).set (F.LANE.RXSTS.CDR_LOCK n.val) 0).count (Ctr.lane n.val 1) 1
        let t := a.setLane n.val { a.lane n.val with relock := true }
        let p := t.portOfLane n.val
        u = if t.role p = 3 && (t.ropeOf p).isSome && (t.port p).under == 6 && decide (t.get (F.STN.LINK_STS.ACTIVE_WIDTH p) <
            2 * ((t.trainedLanes p).take (t.get (F.STN.LINK_STS.ACTIVE_WIDTH p))).countP fun i => !t.flag
              (F.LANE.RXSTS.CDR_LOCK i)) then t.retrain p 1 else t)) ∧
  -- CDR_LOCK_GAIN (R78): the relock timer stops.
  (∀ (n : LaneId) (s : State), s.up = true → s.get (F.LANE.RXSTS.RATE n.val) ≠ 0xF →
     ∃ u : State, exec (.cdrLockGain n) s = .next u.after ∧
       u.get (F.LANE.RXSTS.CDR_LOCK n.val) = 1 ∧ (u.lane n.val).relock = false) ∧
  -- LANE_SNAPSHOT (R40): the coefficients, CTLE and VGA in TRACK are kept.
  (∀ (n : LaneId) (snr : BitVec 8) (s : State), s.up = true → s.get (F.LANE.RXSTS.STATE n.val) = 2 → (s.lane n.val).snrDelta = none →
     ∃ u : State, exec (.laneSnapshot n snr) s = .next u.after ∧
       (let a := s.sawSnr n.val snr.toNat
        u = a.setLane n.val { s.lane n.val with
          snap := some ((List.range 20).map fun i => a.get (F.LANE.RXCOEF.COEF n.val i), a.get (F.LANE.RXSTS.CTLE n.val), a.get (F.LANE.RXSTS.VGA n.val)), snrDelta := none })) ∧
  -- LANE_DIVERGENCE (R40): the divergence guard restores the lane.
  (∀ (n : LaneId) (snr : BitVec 8) (s : State), s.up = true → s.get (F.LANE.RXSTS.STATE n.val) = 2 → s.flag (F.LANE.RXADAPT.DIV_GUARD n.val) = true →
     snr.toNat + 12 < s.convSnr n.val →
     ∃ u : State, exec (.laneDivergence n snr) s = .next u.after ∧
       u = ((((s.sawSnr n.val snr.toNat).laneRestore n.val).addSat (F.LANE.RXSTS.DIV_COUNT n.val) 1).count (Ctr.lane n.val 2) 1).raise Ev.LANE_DIVERGE
         { inst := n.val, recC := 1, detail := 2, w := [snr.toNat] }) ∧
  -- LANE_RESTART (R42, R43): a lane that is not frozen restarts.
  (∀ (n : LaneId) (src : Path) (v : Word) (s : State), s.Admits src (0x100 + n.val) 0x108 (withBit v.toNat 1 true) →
     s.flag (F.LANE.RXADAPT.FREEZE n.val) = false → bitOf v.toNat 0 = false →
     ∃ u : State, exec (.laneRestart n src v) s = .next u.after ∧
       (let t := (s.charged src).writePlain (0x100 + n.val) 0x108 0 (withBit v.toNat 1 true)
        let t := if t.flag (F.LANE.RXADAPT.CTLE_HOLD n.val) then t.set (F.LANE.RXSTS.CTLE n.val) (t.get (F.LANE.RXADAPT.CTLE_FORCE n.val)) else t
        u = (t.setLane n.val { t.lane n.val with heldRestart := true, noHist := false }).laneThaw n.val)) ∧
  -- RXADAPT_FREEZE (R37, R42): a rise of FREEZE holds the lane in FROZEN.
  (∀ (n : LaneId) (src : Path) (v : Word) (s : State), s.Admits src (0x100 + n.val) 0x108 (withBit v.toNat 1 false) →
     s.flag (F.LANE.RXADAPT.FREEZE n.val) = false → bitOf v.toNat 0 = true →
     ∃ u : State, exec (.rxadaptFreeze n src v) s = .next u.after ∧
       (let t := (s.charged src).writePlain (0x100 + n.val) 0x108 0 (withBit v.toNat 1 false)
        u = ((t.setLane n.val { t.lane n.val with thawTo := s.get (F.LANE.RXSTS.STATE n.val) }).set (F.LANE.RXSTS.STATE n.val) 3).abortScan n.val)) ∧
  -- HISTORY_FALLBACK_TIMEOUT (R46): the lane goes on without its record.
  (∀ (n : LaneId) (s : State), s.up = true → (s.lane n.val).tryRec = true → s.laneState n.val = 1 →
     ∃ u : State, exec (.historyFallbackTimeout n) s = .next u.after ∧
       u = (s.laneSearch n.val).setLane n.val { (s.laneSearch n.val).lane n.val with noHist := ((s.laneSearch n.val).lane n.val).heldRestart }) ∧
  -- SWEEP_PRESET_TIMEOUT (R46, R48): a preset that scores best is kept and the next one is requested.
  (∀ (n : LaneId) (snr : BitVec 8) (i : Nat) (s : State), s.up = true → (s.lane n.val).sweep = some i → s.laneState n.val = 1 →
     i + 1 < (s.sawSnr n.val snr.toNat).tryCount n.val → (s.lane n.val).rejected = false → (s.lane n.val).bestSnr < snr.toNat →
     ∃ u : State, exec (.sweepPresetTimeout n snr) s = .next u.after ∧
       (let t := (s.sawSnr n.val snr.toNat).setLane n.val
         { s.lane n.val with best := (s.lane n.val).req, bestSnr := snr.toNat, sweep := some (i + 1) }
        u = t.askPartner n.val [0x11 + i] (t.tryPreset n.val (i + 1)))) ∧
  -- LOCK_LOSS_RETRAIN (R78): the port of a lane 100 µs without lock retrains.
  (∀ (n : LaneId) (s : State), s.up = true → (s.lane n.val).relock = true → (s.port (s.portOfLane n.val)).under = 6 →
     ∃ u : State, exec (.lockLossRetrain n) s = .next u.after ∧
       u = (s.setLane n.val { s.lane n.val with relock := false }).retrain (s.portOfLane n.val))

/-- The rows of a lane's test functions and scanner complete. Writes of PATGEN, PATCHK, ERRINJ, LOOPBACK and EYESCAN on a lane of an OFF port, the
checker's lock, relock and saturation, the injection interval, the end of a scan and a Lane Margining command answer a next state with the effect of
R52 to R62. (02_lanes.md; 03_ports.md) -/
def Obligations.LaneTestRowsComplete : Prop :=
  -- PATGEN_ENABLE (R52 to R54): on an OFF port's lane the generator drives the pattern.
  (∀ (n : LaneId) (src : Path) (v : Word) (s : State), s.Admits src (0x100 + n.val) 0x118 v.toNat → bitOf v.toNat 0 = true → s.laneOff n.val = true →
     bitsOf v.toNat 7 4 ≠ 5 → bitsOf v.toNat 7 4 ≠ 6 →
     ∃ u : State, exec (.patgenEnable n src v) s = .next u.after ∧
       u = ((((s.charged src).writePlain (0x100 + n.val) 0x118 0 v.toNat).set (F.LANE.PATGEN.REFUSED n.val) 0).testLane n.val).drivePattern n.val) ∧
  -- PATCHK_ENABLE (R55): the checker starts, or its counts stop.
  (∀ (n : LaneId) (src : Path) (v : Word) (s : State), s.Admits src (0x100 + n.val) 0x130 (withBit v.toNat 1 false) →
     ∃ u : State, exec (.patchkEnable n src v) s = .next u.after ∧
       (let a := (s.charged src).liveCounts n.val
        let t := a.writePlain (0x100 + n.val) 0x130 0 (withBit v.toNat 1 false)
        u = (if !bitOf v.toNat 0 || (a.get (F.LANE.PATCHK.PATTERN n.val), a.flag (F.LANE.PATCHK.INVERT n.val)) !=
          (t.get (F.LANE.PATCHK.PATTERN n.val), t.flag (F.LANE.PATCHK.INVERT n.val))
          then t.set (F.LANE.PATCHK.LOCKED n.val) 0 else t).testLane n.val)) ∧
  -- PATCHK_CLEAR (R56): the counts are cleared with their SAT bits.
  (∀ (n : LaneId) (src : Path) (v : Word) (s : State), s.Admits src (0x100 + n.val) 0x130 (withBit v.toNat 1 true) →
     ∃ u : State, exec (.patchkClear n src v) s = .next u.after ∧
       (let a := (s.charged src).liveCounts n.val
        let t := (a.writePlain (0x100 + n.val) 0x130 0 (withBit v.toNat 1 true)).clearChecker n.val
        u = (if !bitOf v.toNat 0 || (a.get (F.LANE.PATCHK.PATTERN n.val), a.flag (F.LANE.PATCHK.INVERT n.val)) !=
          (t.get (F.LANE.PATCHK.PATTERN n.val), t.flag (F.LANE.PATCHK.INVERT n.val))
          then t.set (F.LANE.PATCHK.LOCKED n.val) 0 else t).testLane n.val)) ∧
  -- CHECKER_LOCK (R55).
  (∀ (n : LaneId) (s : State), s.up = true → s.flag (F.LANE.PATCHK.EN n.val) = true → s.laneOff n.val = true →
     ∃ u : State, exec (.checkerLock n) s = .next u.after ∧
       u.get (F.LANE.PATCHK.LOCKED n.val) = 1) ∧
  -- CHECKER_RELOCK (R55): lock is dropped and counted; the counts gathered stand.
  (∀ (n : LaneId) (bits errs syms : BitVec 48) (s : State), s.up = true → s.flag (F.LANE.PATCHK.LOCKED n.val) = true →
     ∃ u : State, exec (.checkerRelock n bits errs syms) s = .next u.after ∧
       u = ((s.addCounts n.val bits.toNat errs.toNat syms.toNat).set (F.LANE.PATCHK.LOCKED n.val) 0).addSat (F.LANE.PATCHK.RELOCKS n.val) 1 ∧
         u.get (F.LANE.PATCHK.LOCKED n.val) = 0) ∧
  -- PATCHK_SATURATE (R55): all three counts stop.
  (∀ (n : LaneId) (errs syms : BitVec 48) (s : State), s.up = true → s.flag (F.LANE.PATCHK.LOCKED n.val) = true →
     s.flag (F.LANE.PATCHK_BITS.SAT n.val) = false →
     ∃ u : State, exec (.patchkSaturate n errs syms) s = .next u.after ∧
       u = s.addCounts n.val (2 ^ 48 - 1) errs.toNat syms.toNat ∧ u.get (F.LANE.PATCHK_BITS.SAT n.val) = 1 ∧
         u.get (F.LANE.PATCHK_ERRS.SAT n.val) = 1 ∧ u.get (F.LANE.PATCHK_SYMERRS.SAT n.val) = 1) ∧
  -- ERRINJ_GO (R57, R58): one injection.
  (∀ (n : LaneId) (src : Path) (v : Word) (s : State), s.Admits src (0x100 + n.val) 0x150 (withBit v.toNat 0 true) → bitOf v.toNat 1 = false →
     ∃ u : State, exec (.errinjGo n src v) s = .next u.after ∧
       u = (((s.charged src).writePlain (0x100 + n.val) 0x150 0 (withBit v.toNat 0 true)).injectOne n.val).set (F.LANE.ERRINJ.GO n.val) 0) ∧
  -- ERRINJ_INTERVAL (R58): another injection.
  (∀ (n : LaneId) (s : State), s.up = true → s.flag (F.LANE.ERRINJ.GO n.val) = true → s.flag (F.LANE.ERRINJ.PERIODIC n.val) = true →
     ∃ u : State, exec (.errinjInterval n) s = .next u.after ∧
       u = s.injectOne n.val ∧ u.out.length = s.out.length + 1) ∧
  -- LOOPBACK_MODE_WRITE (R52, R59): the mode is placed on an OFF port's lane.
  (∀ (n : LaneId) (src : Path) (v : Word) (s : State), s.Admits src (0x100 + n.val) 0x158 v.toNat → s.laneOff n.val = true →
     ∃ u : State, exec (.loopbackModeWrite n src v) s = .next u.after ∧
       u = (((s.charged src).sets [(F.LANE.LOOPBACK.TX_OFF n.val, bitsOf v.toNat 3 3), (F.LANE.LOOPBACK.MODE n.val, bitsOf v.toNat 2 0),
         (F.LANE.LOOPBACK.REFUSED n.val, 0),
         (F.LANE.LOOPBACK.ACTIVE n.val, b2n (decide (1 ≤ bitsOf v.toNat 2 0 ∧ bitsOf v.toNat 2 0 ≤ 3)))]).testLane n.val).emit
         (.train n.val "LOOPBACK" [bitsOf v.toNat 2 0, b2n ((bitsOf v.toNat 2 0 == 1 || bitsOf v.toNat 2 0 == 2) && bitOf v.toNat 3)])) ∧
  -- EYESCAN_GO (R60): a scan begins on a lane without one.
  (∀ (n : LaneId) (src : Path) (v : Word) (s : State), s.Admits src (0x100 + n.val) 0x160 (withBit v.toNat 0 true) →
     s.flag (F.LANE.EYESCAN_STS.BUSY n.val) = false → (s.lane n.val).margining = false →
     ∃ u : State, exec (.eyescanGo n src v) s = .next u.after ∧
       u = (((s.charged src).writePlain (0x100 + n.val) 0x160 0 (withBit v.toNat 0 false)).set (F.LANE.EYESCAN.GO n.val) 1).beginScan n.val) ∧
  -- EYESCAN_DONE (R60): a point scan writes its errors and scale.
  (∀ (n : LaneId) (pts : List EyePoint) (errs : BitVec 24) (uv : BitVec 16) (s : State), s.up = true →
     s.flag (F.LANE.EYESCAN_STS.BUSY n.val) = true → (s.lane n.val).scanWaits = false → s.get (F.LANE.EYESCAN.MODE n.val) = 1 →
     ∃ u : State, exec (.eyescanDone n pts errs uv) s = .next u.after ∧
       u.get (F.LANE.EYESCAN_STS.POINT_ERRS n.val) = errs.toNat ∧ u.get (F.LANE.EYESCAN_STS.UV_PER_CODE n.val) = uv.toNat ∧
         u.get (F.LANE.EYESCAN_STS.RESULT n.val) = 1 ∧ u.get (F.LANE.EYESCAN_STS.BUSY n.val) = 0) ∧
  -- LANE_MARGINING_CMD (R61, R62): served on a PCIe port in L0.
  (∀ (n : LaneId) (c : MarginMsg) (s : State), s.up = true → (s.role (s.portOfLane n.val) = 1 ∨ s.role (s.portOfLane n.val) = 2) →
     s.get (F.STN.LINK_STS.STATE (s.portOfLane n.val)) = 6 → c.receiver = 0 →
     ∃ u : State, exec (.laneMarginingCmd n c) s = .next u.after ∧
       u = s.margin n.val c.cmd)

/-- The rows of a port's registers, resets and hot-plug complete. Writes of BIFURC, PORT_ROLE and LINK_CTL that the spec accepts, the PRST_N minimum,
PRST_N and hot reset from a host, the end of a VH reset, the release of a DEV port, the hot-plug poll, Power Controller Control and a PTM Request
answer a next state with the effect of R67 to R92. (03_ports.md; 10_sharing.md) -/
def Obligations.PortRowsComplete : Prop :=
  -- BIFURC_WRITE (R67): the four controllers are OFF, so the mode is taken.
  (∀ (st : StnId) (src : Path) (v : Word) (s : State), s.Admits src (0x10 + st.val) 0x100 v.toNat →
     ((List.range 4).any fun k => s.role (4 * st.val + k) != 0) = false →
     ∃ u : State, exec (.bifurcWrite st src v) s = .next u.after ∧
       u = ((s.charged src).sets [(F.STN.BIFURC.MODE st.val, bitsOf v.toNat 1 0), (F.STN.BIFURC.REFUSED st.val, 0)]).refreshBuf) ∧
  -- PORT_ROLE_WRITE (R70, R71): an OFF port takes a role that nothing refuses.
  (∀ (p : PortId) (src : Path) (v : Word) (s : State), s.Admits src (0x10 + p.val / 4) (0x110 + 8 * (p.val % 4)) v.toNat →
     (s.charged src).roleRefusal p.val v.toNat = 0 → s.role p.val = 0 → bitsOf v.toNat 1 0 ≠ 0 →
     ∃ u : State, exec (.portRoleWrite p src v) s = .next u.after ∧
       u = (s.charged src).owning [p.val] fun t =>
         let t := t.sets [(F.STN.PORT_ROLE.HP_SLOT p.val, bitsOf v.toNat 15 15), (F.STN.PORT_ROLE.L1SS_EN p.val, bitsOf v.toNat 14 14),
           (F.STN.PORT_ROLE.L1_EN p.val, bitsOf v.toNat 13 13), (F.STN.PORT_ROLE.PTM_EN p.val, bitsOf v.toNat 12 12),
             (F.STN.PORT_ROLE.CLK_MODE p.val, bitsOf v.toNat 11 11),
           (F.STN.PORT_ROLE.MAX_WIDTH p.val, bitsOf v.toNat 10 6), (F.STN.PORT_ROLE.MAX_RATE p.val, bitsOf v.toNat 5 2),
             (F.STN.PORT_ROLE.ROLE p.val, bitsOf v.toNat 1 0),
           (F.STN.PORT_ROLE.REFUSED p.val, 0)]
         let t := t.sets [(F.STN.LINK_STS.CAP_BASECAMP p.val, 0), (F.STN.LINK_STS.CAP_CONV p.val, 0), (F.STN.LINK_STS.CONV_FAIL p.val, 0)]
         ((t.setPort p.val { t.port p.val with failRate := 16 }).set (F.STN.LINK_STS.FLIT p.val) (b2n (bitsOf v.toNat 1 0 == 3))).enterRole p.val) ∧
  -- LINK_DISABLE_CMD (R85): a rise of DISABLE takes the link down and holds it.
  (∀ (p : PortId) (src : Path) (v : Word) (s : State), s.Admits src (0x10 + p.val / 4) (0x130 + 8 * (p.val % 4)) v.toNat → bitOf v.toNat 4 = true →
     bitOf v.toNat 8 = false → bitOf v.toNat 2 = false → s.flag (F.STN.LINK_CTL.DISABLE p.val) = false →
     ∃ u : State, exec (.linkDisableCmd p src v) s = .next u.after ∧
       u = ((s.charged src).sets [(F.STN.LINK_CTL.WIDTH_REQ p.val, bitsOf v.toNat 28 24), (F.STN.LINK_CTL.PRST_ASSERT p.val, bitsOf v.toNat 8 8),
         (F.STN.LINK_CTL.DISABLE p.val, bitsOf v.toNat 4 4)]).disable p.val) ∧
  -- PRST_ASSERT_CMD (R85, R89): a rise of PRST_ASSERT on a DEV port whose link is down asserts PRST_N.
  (∀ (p : PortId) (src : Path) (v : Word) (s : State), s.Admits src (0x10 + p.val / 4) (0x130 + 8 * (p.val % 4)) v.toNat → bitOf v.toNat 4 = false →
     bitOf v.toNat 8 = true → bitOf v.toNat 2 = false → s.flag (F.STN.LINK_CTL.DISABLE p.val) = false →
     s.flag (F.STN.LINK_CTL.PRST_ASSERT p.val) = false → s.role p.val = 2 → s.linkUp p.val = false →
     ∃ u : State, exec (.prstAssertCmd p src v) s = .next u.after ∧
       u = ((s.charged src).sets [(F.STN.LINK_CTL.WIDTH_REQ p.val, bitsOf v.toNat 28 24), (F.STN.LINK_CTL.PRST_ASSERT p.val, bitsOf v.toNat 8 8),
         (F.STN.LINK_CTL.DISABLE p.val, bitsOf v.toNat 4 4)]).assertPrst p.val) ∧
  -- HOT_RESET_CMD (R85, R90): a hot reset is sent on the link of a DEV port, which goes down, and the owning vDSP learns of it.
  (∀ (p : PortId) (src : Path) (v : Word) (s : State), s.Admits src (0x10 + p.val / 4) (0x130 + 8 * (p.val % 4)) (withBit v.toNat 3 true) →
     bitOf v.toNat 4 = false → bitOf v.toNat 8 = false → bitOf v.toNat 2 = false → s.flag (F.STN.LINK_CTL.DISABLE p.val) = false → s.role p.val = 2 →
     s.linkUp p.val = true →
     ∃ u : State, exec (.hotResetCmd p src v) s = .next u.after ∧
       (let a := (s.charged src).sets [(F.STN.LINK_CTL.WIDTH_REQ p.val, bitsOf (withBit v.toNat 3 true) 28 24),
         (F.STN.LINK_CTL.PRST_ASSERT p.val, bitsOf (withBit v.toNat 3 true) 8 8),
          (F.STN.LINK_CTL.DISABLE p.val, bitsOf (withBit v.toNat 3 true) 4 4)]
        u = (((a.supersedeWidth p.val).emit (.link p.val "HOT_RESET" 0)).takeDown p.val 9 0).devLinkLost p.val)) ∧
  -- HOT_RESET_CMD (R85, R90): a hot reset of a DEV port whose link is down.
  (∀ (p : PortId) (src : Path) (v : Word) (s : State), s.Admits src (0x10 + p.val / 4) (0x130 + 8 * (p.val % 4)) (withBit v.toNat 3 true) →
     bitOf v.toNat 4 = false → bitOf v.toNat 8 = false → bitOf v.toNat 2 = false → s.flag (F.STN.LINK_CTL.DISABLE p.val) = false →
     s.linkUp p.val = false →
     ∃ u : State, exec (.hotResetCmd p src v) s = .next u.after ∧
       u = ((s.charged src).sets [(F.STN.LINK_CTL.WIDTH_REQ p.val, bitsOf (withBit v.toNat 3 true) 28 24),
         (F.STN.LINK_CTL.PRST_ASSERT p.val, bitsOf (withBit v.toNat 3 true) 8 8),
         (F.STN.LINK_CTL.DISABLE p.val, bitsOf (withBit v.toNat 3 true) 4 4)]).hotReset p.val) ∧
  -- RETRAIN_CMD (R85): the link is sent to Recovery or ALIGN, or training starts again.
  (∀ (p : PortId) (src : Path) (v : Word) (s : State), s.Admits src (0x10 + p.val / 4) (0x130 + 8 * (p.val % 4)) (withBit v.toNat 1 true) →
     bitOf v.toNat 4 = false → bitOf v.toNat 8 = false → bitOf v.toNat 3 = false → bitOf v.toNat 2 = false →
     s.flag (F.STN.LINK_CTL.DISABLE p.val) = false →
     ∃ u : State, exec (.retrainCmd p src v) s = .next u.after ∧
       u = ((s.charged src).sets [(F.STN.LINK_CTL.WIDTH_REQ p.val, bitsOf (withBit v.toNat 1 true) 28 24),
         (F.STN.LINK_CTL.PRST_ASSERT p.val, bitsOf (withBit v.toNat 1 true) 8 8),
         (F.STN.LINK_CTL.DISABLE p.val, bitsOf (withBit v.toNat 1 true) 4 4)]).goRetrain p.val) ∧
  -- WIDTH_GO (R82, R85): the width of WIDTH_REQ is asked for.
  (∀ (p : PortId) (src : Path) (v : Word) (s : State), s.Admits src (0x10 + p.val / 4) (0x130 + 8 * (p.val % 4)) (withBit v.toNat 2 true) →
     bitOf v.toNat 4 = false → bitOf v.toNat 8 = false → bitOf v.toNat 3 = false → bitOf v.toNat 1 = false →
     s.flag (F.STN.LINK_CTL.DISABLE p.val) = false →
     ∃ u : State, exec (.widthGo p src v) s = .next u.after ∧
       u = ((s.charged src).sets [(F.STN.LINK_CTL.WIDTH_REQ p.val, bitsOf (withBit v.toNat 2 true) 28 24),
         (F.STN.LINK_CTL.PRST_ASSERT p.val, bitsOf (withBit v.toNat 2 true) 8 8),
         (F.STN.LINK_CTL.DISABLE p.val, bitsOf (withBit v.toNat 2 true) 4 4)]).goWidth p.val) ∧
  -- PRST_HOLD_EXPIRY (R89): the minimum of 1 ms is over.
  (∀ (p : PortId) (s : State), s.up = true → (s.prst p.val).minTimer = true → s.vdspOfPort p.val = none →
     ∃ u : State, exec (.prstHoldExpiry p) s = .next u.after ∧
       u = s.setPrst p.val { s.prst p.val with minTimer := false }) ∧
  -- HOST_PRST_ASSERT (R90): the link of a HOST port goes down and its VH is reset.
  (∀ (p : PortId) (h : Nat) (s : State), s.up = true → s.role p.val = 1 → (s.port p.val).hostRst = false →
     ((s.setPort p.val { s.port p.val with hostRst := true }).takeDown p.val 1 Ev.VH_RESET).vhOfHost p.val = some h →
     ∃ u : State, exec (.hostPrstAssert p) s = .next u.after ∧
       u = ((s.setPort p.val { s.port p.val with hostRst := true }).takeDown p.val 1 Ev.VH_RESET).vhReset h true) ∧
  -- HOST_PRST_RELEASE (R90): training starts.
  (∀ (p : PortId) (s : State), s.up = true → s.role p.val = 1 → (s.port p.val).hostRst = true →
     ∃ u : State, exec (.hostPrstRelease p) s = .next u.after ∧
       u = (s.setPort p.val { s.port p.val with hostRst := false }).startTrain p.val) ∧
  -- HOT_RESET_RX (R90): a hot reset on a HOST port whose link is up resets its VH.
  (∀ (p : PortId) (h : Nat) (s : State), s.up = true → s.role p.val = 1 → s.linkUp p.val = true →
     (s.takeDown p.val 9 Ev.VH_RESET).vhOfHost p.val = some h →
     ∃ u : State, exec (.hotResetRx p) s = .next u.after ∧
       u = (s.takeDown p.val 9 Ev.VH_RESET).vhReset h false) ∧
  -- VH_RESET_DONE (R90, R351): a VH reset whose waits have ended is over.
  (∀ (vh : VhId) (s : State), s.up = true → (s.share.vhReset.any fun e => e.1 == vh.val) = true → s.vhResetOver vh.val = true →
     ∃ u : State, exec (.vhResetDone vh) s = .next u.after ∧
       u = (({ s with share := { s.share with vhReset := s.share.vhReset.filter fun e => e.1 ≠ vh.val } } : State).bindState vh.val).vhReleased vh.val) ∧
  -- DEV_PRST_RELEASE (R91): PRST_N is released where nothing holds it.
  (∀ (p : PortId) (s : State), s.up = true →
     ∃ u : State, exec (.devPrstRelease p) s = .next u.after ∧
       u = (s.releasePrst p.val).trainBegan p.val) ∧
  -- HOTPLUG_POLL (R92): outputs are written, the expanders are read, and one that is silent is reported.
  (∀ (reads : List ExpRead) (s : State), s.up = true →
     ∃ u : State, exec (.hotplugPoll reads) s = .next u.after ∧
       (let t := s.expSync
        let t := t.expAddrs.foldl (fun t a => t.emit (.i2c a [0])) t
        u = t.expAddrs.foldl (fun t a => t.expPoll reads a) t)) ∧
  -- SLOT_POWER_CTRL (R92, R287): Power Controller Control of an attached vDSP changes.
  (∀ (vh : VhId) (d : VdspId) (on : Bool) (s : State), s.up = true → d.val ≠ 0 → s.get (F.VH.VDSP.STATE vh.val d.val) ≠ 0 →
     bitOf (s.cfg vh.val d.val 0x22) 10 = on →
     ∃ u : State, exec (.slotPowerCtrl vh d on) s = .next u.after ∧
       u = ((s.setCfg vh.val d.val 0x22 (withBit (s.cfg vh.val d.val 0x22) 10 (!on))).slotPower vh.val d.val on).expSync) ∧
  -- PTM_REQUEST_RX (R88): answered with the time base in nanoseconds while that is synchronised.
  (∀ (p : PortId) (reqId : BitVec 16) (s : State), s.up = true → s.role p.val = 2 → s.linkUp p.val = true →
     s.flag (F.STN.PORT_ROLE.PTM_EN p.val) = true → s.flag F.TIME.STS.SYNCED = true →
     ∃ u : State, exec (.ptmRequestRx p reqId) s = .next u.after ∧
       u = s.pushMsg p.val { kind := .msgD, reqId := reqId, code := 0x53, len := 8, data := leBytes 8 (10 * s.time.now) })

/-- The rows of link training and of width changes in service complete. A partner's width request, a retry, the end of a width change, a step of PCIe
training to L0, receiver detection, ALIGN, its limit, PARAM, the entry to ACTIVE and a failure to converge answer a next state with the effect of R73
to R84. (03_ports.md; 04_link_layer.md) -/
def Obligations.TrainingRowsComplete : Prop :=
  -- PARTNER_WIDTH_REQUEST (R82, R83): a width within NEG_WIDTH is accepted.
  (∀ (p : PortId) (width : BitVec 5) (s : State), s.up = true → (s.role p.val = 1 ∨ s.role p.val = 2) → (s.port p.val).under = 6 →
     s.heldPort p.val = false → s.flag (F.STN.LINK_STS.FLIT p.val) = true → [1, 2, 4, 8, 16].contains width.toNat = true →
     width.toNat ≤ s.get (F.STN.LINK_STS.NEG_WIDTH p.val) → (s.port p.val).widthOwn = none →
     ∃ u : State, exec (.partnerWidthRequest p width) s = .next u.after ∧
       u = (((s.setPort p.val { s.port p.val with widthOwn := none, widthNew := some width.toNat }).set
         (F.STN.LINK_STS.WIDTH_CHG p.val) 1).wakeLanes p.val width.toNat).emit
         (.link p.val "L0P_ACK" width.toNat)) ∧
  -- WIDTH_RETRY (R83): a withdrawn change is asked for again.
  (∀ (p : PortId) (s : State), s.up = true → (s.port p.val).widthRetry = true → (s.port p.val).widthNew = none →
     s.get (F.STN.LINK_STS.ACTIVE_WIDTH p.val) ≠ s.get (F.STN.LINK_CTL.WIDTH_REQ p.val) →
     (s.setPort p.val { s.port p.val with widthRetry := false, widthTried := true }).widthOk p.val (s.get (F.STN.LINK_CTL.WIDTH_REQ p.val)) = true →
     ∃ u : State, exec (.widthRetry p) s = .next u.after ∧
       u = (s.setPort p.val { s.port p.val with widthRetry := false, widthTried := true }).startWidth p.val (s.get (F.STN.LINK_CTL.WIDTH_REQ p.val))) ∧
  -- WIDTH_CHANGE_DONE (R84): the new width carries traffic.
  (∀ (p : PortId) (w : Nat) (s : State), s.up = true → (s.port p.val).widthNew = some w → s.widthReady p.val w = true → s.role p.val ≠ 3 →
     (s.port p.val).widthOwn = none →
     ∃ u : State, exec (.widthChangeDone p false) s = .next u.after ∧
       (let x := s.port p.val
        let y := { x with widthOwn := none, widthNew := none, hll := { x.hll with want := false, ackSent := false, ackGot := false } }
        u = ((s.setPort p.val y).set (F.STN.LINK_STS.WIDTH_CHG p.val) 0).applyWidth p.val w)) ∧
  -- PCIE_TRAINING_STEP (R73, R79): the step to L0 of a link whose lanes have converged.
  (∀ (p : PortId) (t : TrainStep) (s : State), s.up = true → (s.role p.val = 1 ∨ s.role p.val = 2) → s.linkHeld p.val = false →
     (s.port p.val).hostRst = false → (s.port p.val).under = 4 → t.state = 6 → t.width ≠ 0 → s.lanesOk p.val t = true →
     ∃ u : State, exec (.pcieTrainingStep p t) s = .next u.after ∧
       u = s.reachL0 p.val t) ∧
  -- RX_DETECT_REPEAT (R74): a receiver is found: ALIGN.
  (∀ (p : PortId) (s : State), s.up = true → s.role p.val = 3 → (s.port p.val).under = 1 →
     ∃ u : State, exec (.rxDetectRepeat p true) s = .next u.after ∧
       (let t := (s.lanesOf p.val).foldl (fun t n => t.useCoefs n (devPreset 0x15) 0x15) s
        u = ((t.setPort p.val { t.port p.val with partner := none, paramSent := false }).setLink p.val 2).sendAlign (t.lanesOf p.val))) ∧
  -- TRAIN_ALIGN_RX (R74, R100): alignment, then equalisation at 64 GT/s on a first training.
  (∀ (p : PortId) (rev : Bool) (pol : BitVec 16) (s : State), s.up = true → s.role p.val = 3 → (s.port p.val).under = 2 →
     ∃ u : State, exec (.trainAlignRx p rev pol) s = .next u.after ∧
       (let a := s.set (F.STN.LINK_STS.REVERSED p.val) (b2n rev)
        let b := (a.lanesOf p.val).foldl (fun t n => t.set (F.LANE.RXSTS.POL_INV n) (b2n (bitOf pol.toNat (n % 16)))) a
        let d := (b.setPort p.val { b.port p.val with partner := none, paramSent := false, alignFails := 0 }).setLink p.val 4
        let e := (d.acquire (d.lanesOf p.val) 5).set (F.STN.LINK_STS.RATE p.val) 5
        u = ((e.alignLanes (e.lanesOf p.val)).seedScramblers p.val).eqSettled p.val)) ∧
  -- ALIGN_TIMEOUT (R75): back to DETECT; the third time in a row training fails with cause 3.
  (∀ (p : PortId) (s : State), s.up = true → s.role p.val = 3 → (s.port p.val).under = 2 →
     ∃ u : State, exec (.alignTimeout p) s = .next u.after ∧
       u = if (s.port p.val).alignFails ≥ 2 then (s.setPort p.val { s.port p.val with alignFails := 0 }).trainFail p.val 3 else
         ((s.setPort p.val { s.port p.val with alignFails := (s.port p.val).alignFails + 1 }).idleLanes (s.lanesOf p.val)).setLink p.val 1) ∧
  -- TRAIN_PARAM_RX (R74, R75, R130): a PARAM message in PARAM is taken.
  (∀ (p : PortId) (m : ParamMsg) (s : State), s.up = true → s.role p.val = 3 → (s.port p.val).under = 3 → (s.port p.val).partner = none →
     (s.port p.val).paramSent = true →
     ∃ u : State, exec (.trainParamRx p m) s = .next u.after ∧
       u = (s.setPort p.val { s.port p.val with partner := some m }).gotParam p.val m) ∧
  -- FAB_LINK_ACTIVE (R74): every lane of the width has converged: ACTIVE, and the link layer starts.
  (∀ (p : PortId) (m : ParamMsg) (r : Nat) (s : State), s.up = true → s.role p.val = 3 → (s.port p.val).under = 4 → s.heldPort p.val = false →
     (s.port p.val).paramSent = true → (s.port p.val).partner = some m → s.flag (F.STN.LINK_STS.CAP_CONV p.val) = false →
     r = min (min (s.port p.val).trainRate m.rate.toNat) 6 → (s.trainedLanes p.val).isEmpty = false →
     ((s.trainedLanes p.val).all fun n => s.laneState n == 2 && s.get (F.LANE.RXSTS.RATE n) == r) = true →
     ∃ u : State, exec (.fabLinkActive p) s = .next u.after ∧
       (let a := (s.lanesOf p.val).foldl (fun t n => if (s.trainedLanes p.val).contains n then t else t.laneIdle n) s
        let b := (a.sets [(F.STN.LINK_STS.RATE p.val, r), (F.STN.LINK_STS.ACTIVE_WIDTH p.val, (s.trainedLanes p.val).length),
          (F.STN.LINK_STS.FLIT p.val, 1)]).set (F.STN.LINK_STS.CONV_FAIL p.val) 0
        let d := ((b.setPort p.val { b.port p.val with alignFails := 0 }).resetSeqs p.val).setLink p.val 6
        u = (if (s.trainedLanes p.val).length < d.maxWidth p.val then d.raise Ev.WIDTH_NARROW
          { inst := p.val, recC := 1, detail := 2 } else d).hllStart p.val)) ∧
  -- CONV_FAIL_AT_RATE (R49, R77): the lanes that fail are named, the rate is capped, and a PCIe port keeps the rate it had, or falls to the lowest
  -- where it is the one that failed; a lane that has not converged at that rate acquires it.
  (∀ (p : PortId) (rate : BitVec 4) (lanes : BitVec 16) (bad : List Nat) (s : State), s.up = true → (s.role p.val = 1 ∨ s.role p.val = 2) →
     (s.port p.val).under = 4 → bad = ((s.lanesOf p.val).filter fun n => bitOf lanes.toNat (n % 16) && s.laneState n == 1 && s.get
     (F.LANE.RXSTS.RATE n) == rate.toNat) → bad.isEmpty = false →
     ∃ u : State, exec (.convFailAtRate p rate lanes) s = .next u.after ∧
       (let a := (s.setPort p.val { s.port p.val with failRate := rate.toNat }).sets [(F.STN.LINK_STS.CONV_FAIL p.val, bad.foldl
         (fun m n => withBit m (n % 16) true) 0), (F.STN.LINK_STS.CAP_CONV p.val, 1)]
        let old := if s.get (F.STN.LINK_STS.RATE p.val) = 0xF then 0 else s.get (F.STN.LINK_STS.RATE p.val)
        let b := a.raise Ev.CONV_FAIL { inst := p.val, recC := 1, detail := 2, w := a.stnW p.val rate.toNat }
        let here := (b.lanesOf p.val).filter fun n => b.get (F.LANE.RXSTS.RATE n) = rate.toNat
        u = if old = rate.toNat then b.acquire (here.filter fun n => b.laneState n ≠ 2) 0
          else (here.foldl (fun t n =>
            if (t.lane n).convAt.contains old then
              ((t.abortScan n).set (F.LANE.RXSTS.RATE n) old).setLaneState n 2 else t.laneStart n old) b).eqSettled p.val))

/-- The rows of the Halud link layer complete. On a running link layer a flit, the NAK repeat, the Ack coalescing time, an Ack, a NAK, the replay
timer, MGT_OFF, credits, INIT_CREDIT, INIT_DONE, their time limit, the end of LL_HOLD, the width commands and RETRAIN_REQ answer a next state with the
effect of R99 to R128. (04_link_layer.md) -/
def Obligations.LinkLayerRowsComplete : Prop :=
  -- FLIT_RX (R99): 256 bytes are taken; a good sequenced flit is handed to its command and its payload.
  (∀ (p : PortId) (lane : Fin 16) (bytes : List Byte) (s : State), s.up = true → s.flitsRun p.val = true → bytes.length = 256 →
     ∃ u : State, exec (.flitRx p lane bytes) s = .next u.after ∧
       u = s.flitRx p.val bytes ∧ (∀ l, fecDecodeAll (scramble (s.hll p.val).rxW bytes 0 (s.hll p.val).rxScr).1 = some (l, false) →
         crc48 (l.take 244) = leNat ((l.drop 244).take 6) → leNat (l.take 2) / 4096 ≤ 1 →
        u = (let t := s.setHll p.val { s.hll p.val with rxScr := (scramble (s.hll p.val).rxW bytes 0 (s.hll p.val).rxScr).2 }
             let a := (t.setHll p.val { t.hll p.val with badRun := 0 }).cmdRx p.val (LinkCmd.ofBytes l)
             (if a.flitsRun p.val then a.seqRx p.val (leNat (l.take 2) / 4096) (leNat (l.take 2) % 4096) l else a).rxCount p.val))) ∧
  -- NAK_REPEAT_TIMEOUT (R112): a pending NAK is sent once more.
  (∀ (p : PortId) (s : State), s.up = true → s.flitsRun p.val = true → s.flag (F.STN.HLL_STS.NAK_PEND p.val) = true →
     ∃ u : State, exec (.nakRepeatTimeout p) s = .next u.after ∧
       u = s.setHll p.val { s.hll p.val with nakNow := true }) ∧
  -- ACK_COALESCE_TIMEOUT (R113): ACK_FSN is brought up to what has been accepted.
  (∀ (p : PortId) (s : State), s.up = true → s.flitsRun p.val = true → (s.hll p.val).since ≠ 0 →
     ∃ u : State, exec (.ackCoalesceTimeout p) s = .next u.after ∧
       u = s.setHll p.val { s.hll p.val with ackOut := (s.hll p.val).accepted, since := 0 }) ∧
  -- ACK_FSN_RX (R114): flits covered leave the belay buffer.
  (∀ (p : PortId) (fsn : BitVec 12) (s : State), s.up = true → s.flitsRun p.val = true →
     ∃ u : State, exec (.ackFsnRx p fsn) s = .next u.after ∧
       u = s.ackRx p.val fsn.toNat ∧ (s.ropeOf p.val = none → (s.hll p.val).sent = [] →
         (u.hll p.val).belay = (s.hll p.val).belay.filter fun b => !fsnDone fsn.toNat b.fsn)) ∧
  -- NAK_RX (R114): what the NAK covers leaves, and the rest is replayed.
  (∀ (p : PortId) (fsn : BitVec 12) (s : State), s.up = true → s.flitsRun p.val = true → ((s.ackRx p.val fsn.toNat).hll p.val).replay = none →
     ∃ u : State, exec (.nakRx p fsn) s = .next u.after ∧
       u = (s.ackRx p.val fsn.toNat).startReplay p.val) ∧
  -- REPLAY_TIMER_EXPIRY (R114, R115): a replay from the oldest unacked flit, below the limit.
  (∀ (p : PortId) (b : BFlit) (l : List BFlit) (s : State), s.up = true → s.flitsRun p.val = true → (s.hll p.val).belay = b :: l →
     (s.hll p.val).runFsn ≠ some b.fsn → s.ropeOf p.val = none → 1 < (s.hll p.val).limit →
     ∃ u : State, exec (.replayTimerExpiry p) s = .next u.after ∧
       (let t := (s.setHll p.val { s.hll p.val with runFsn := some b.fsn }).set (F.STN.HLL_STS.REPLAY_RUN p.val) 1
        u = (t.setHll p.val { t.hll p.val with replay := some b.fsn }).count (Ctr.port p.val 18) 1)) ∧
  -- MGT_OFF_RX (R122).
  (∀ (p : PortId) (on : Bool) (s : State), s.up = true → s.flitsRun p.val = true →
     ∃ u : State, exec (.mgtOffRx p on) s = .next u.after ∧
       u.get (F.STN.HLL_STS.MGT_OFF_RX p.val) = b2n on) ∧
  -- CREDIT_RX (R118 to R121): the counts freed are taken and what they cover is released.
  (∀ (p : PortId) (vc : HvcId) (hdr : BitVec 12) (data : BitVec 16) (s : State), s.up = true → s.flitsRun p.val = true →
     s.get (F.STN.HLL_STS.STATE p.val) = 2 → vc.val < 3 →
     ∃ u : State, exec (.creditRx p vc hdr data) s = .next u.after ∧
       (let done (k : SentPk) : Bool := k.vc == vc.val && decide (sub12 hdr.toNat k.h < 2048)
        u = ((((s.hll p.val).sent.filter done).foldl (fun t k => t.coverTrain k.train p.val) (s.setHll p.val { s.hll p.val with
          frH := (s.hll p.val).frH.set vc.val hdr.toNat, frD := (s.hll p.val).frD.set vc.val data.toNat, sent := (s.hll p.val).sent.filter fun k => !done k })).showAvail p.val vc.val))) ∧
  -- INIT_CREDIT_RX (R124): an advertisement is taken.
  (∀ (p : PortId) (vc : HvcId) (hdr : BitVec 12) (data : BitVec 16) (s : State), s.up = true → s.flitsRun p.val = true →
     s.get (F.STN.HLL_STS.STATE p.val) = 1 → (s.hll p.val).cycle = true → vc.val < 3 →
     ∃ u : State, exec (.initCreditRx p vc hdr data) s = .next u.after ∧
       u = (((s.sets [(F.STN.HLL_CREDIT.ADV_HDR p.val vc.val, hdr.toNat), (F.STN.HLL_CREDIT.ADV_DATA p.val vc.val, data.toNat)]).setHll p.val
         { s.hll p.val with gotAdv := withBit (s.hll p.val).gotAdv vc.val true }).showAvail p.val vc.val).initCheck p.val) ∧
  -- INIT_DONE_RX (R124): the partner has the advertisements.
  (∀ (p : PortId) (g : Bool) (s : State), s.up = true → s.flitsRun p.val = true → s.get (F.STN.HLL_STS.STATE p.val) = 1 →
     (s.hll p.val).resuming = false → (s.hll p.val).cycle = true →
     ∃ u : State, exec (.initDoneRx p g false) s = .next u.after ∧
       u = (s.setHll p.val { s.hll p.val with partnerGot := (s.hll p.val).partnerGot || g }).initCheck p.val) ∧
  -- LL_INIT_TIMEOUT (R124, R126): what link-layer state there is is discarded with cause 5, and the port retrains.
  (∀ (p : PortId) (s : State), s.up = true → s.flitsRun p.val = true → s.get (F.STN.HLL_STS.STATE p.val) = 1 →
     ∃ u : State, exec (.llInitTimeout p) s = .next u.after ∧
       u = if ((s.discardLL p.val 5).port p.val).under = 6 then (s.discardLL p.val 5).retrain p.val else s.discardLL p.val 5) ∧
  -- LL_HOLD_EXPIRY (R125): retained state is discarded with cause 1.
  (∀ (p : PortId) (s : State), s.up = true → s.role p.val = 3 → s.get (F.STN.HLL_STS.STATE p.val) = 3 → (s.port p.val).under ≠ 6 →
     ∃ u : State, exec (.llHoldExpiry p) s = .next u.after ∧
       u = s.discardLL p.val 1) ∧
  -- WIDTH_REQ_RX (R127, R128): the partner's width change is taken up.
  (∀ (p : PortId) (tok : BitVec 8) (width : BitVec 5) (s : State), s.up = true → s.flitsRun p.val = true → (s.port p.val).under = 6 →
     width.toNat ≤ s.get (F.STN.LINK_STS.NEG_WIDTH p.val) → (s.port p.val).widthOwn = none →
     ∃ u : State, exec (.widthReqRx p tok width) s = .next u.after ∧
       u = ((s.setPort p.val { s.port p.val with widthOwn := none, widthNew := some width.toNat, hll := { (s.port p.val).hll with
         widthOut := (s.port p.val).hll.widthOut.filter (fun c => c.1 ≠ 4), widthTok := tok.toNat % 16, want := true, ackSent := false, ackGot := false } }).set
         (F.STN.LINK_STS.WIDTH_CHG p.val) 1).wakeLanes p.val width.toNat) ∧
  -- WIDTH_ACK_RX (R127): the own change is accepted.
  (∀ (p : PortId) (tok : BitVec 8) (s : State), s.up = true → s.flitsRun p.val = true → (s.port p.val).under = 6 →
     tok.toNat % 16 = (s.port p.val).hll.widthTok → (s.port p.val).widthNew.isSome = true → (s.port p.val).hll.ackGot = false →
     (s.port p.val).hll.ackSent = false →
     ∃ u : State, exec (.widthAckRx p tok true) s = .next u.after ∧
       u = s.setPort p.val { s.port p.val with hll := { (s.port p.val).hll with ackGot := true, want := true } }) ∧
  -- WIDTH_ACK_RX (R127): with the own WIDTH_ACK sent too, the WIDTH_SWITCH flits begin.
  (∀ (p : PortId) (tok : BitVec 8) (s : State), s.up = true → s.flitsRun p.val = true → (s.port p.val).under = 6 →
     tok.toNat % 16 = (s.port p.val).hll.widthTok → (s.port p.val).widthNew.isSome = true → (s.port p.val).hll.ackGot = false →
     (s.port p.val).hll.ackSent = true →
     ∃ u : State, exec (.widthAckRx p tok true) s = .next u.after ∧
       u = s.setPort p.val { s.port p.val with hll := { (s.port p.val).hll with ackGot := true, switchOut := (s.port p.val).hll.switchOut.or (some 3) } }) ∧
  -- WIDTH_SWITCH_RX (R127): the receive width will change.
  (∀ (p : PortId) (tok left : BitVec 8) (s : State), s.up = true → s.flitsRun p.val = true → (s.port p.val).under = 6 →
     tok.toNat % 16 = (s.port p.val).hll.widthTok → (s.port p.val).widthNew.isSome = true → (s.port p.val).hll.rxSwitch = none →
     ∃ u : State, exec (.widthSwitchRx p tok left) s = .next u.after ∧
       u = s.setPort p.val { s.port p.val with hll := { (s.port p.val).hll with rxSwitch := some (left.toNat % 4) } }) ∧
  -- RETRAIN_REQ_RX (R128): the port retrains.
  (∀ (p : PortId) (s : State), s.up = true → s.flitsRun p.val = true → (s.port p.val).under = 6 →
     ∃ u : State, exec (.retrainReqRx p) s = .next u.after ∧
       u = s.retrain p.val)

/-- The rows of rope pairs and of a transmit slot complete. A transmit slot, a write of ROPE_PAIR that the spec accepts, the silence of a member, the
switch back to a member that rejoined and the end of a hold answer a next state with the effect of R129 to R135, R177 and R256. (04_link_layer.md;
06_switch_core.md; 08_egress_scheduling.md) -/
def Obligations.RopeRowsComplete : Prop :=
  -- TRANSMIT_SLOT (R177): a FAB port sends its next flit, a PCIe port in L0 its next packets.
  (∀ (p : PortId) (s : State), s.up = true → (s.role p.val = 3 ∧ s.flitsRun p.val = true) ∨
     ((s.role p.val = 1 ∨ s.role p.val = 2) ∧ s.get (F.STN.LINK_STS.STATE p.val) = 6) →
     ∃ u : State, exec (.transmitSlot p) s = .next u.after ∧
       u = if s.role p.val = 3 then s.fabSlot p.val else s.pcieSlot p.val) ∧
  -- ROPE_PAIR_WRITE (R129): two OFF ports of no other pair form one.
  (∀ (r : VhId) (src : Path) (v : Word) (s : State), s.Admits src 0x41 (0x800 + 8 * r.val) v.toNat →
     (bitsOf v.toNat 61 56 < 48 ∧ bitsOf v.toNat 53 48 < 48 ∧ bitsOf v.toNat 61 56 ≠ bitsOf v.toNat 53 48) →
     (s.role (bitsOf v.toNat 61 56) = 0 ∧ s.role (bitsOf v.toNat 53 48) = 0) →
     (∀ k < 24, k ≠ r.val → s.flag (F.ROUTE.ROPE_PAIR.EN k) = true → s.get (F.ROUTE.ROPE_PAIR.PORT_A k) ≠ bitsOf v.toNat 61 56 ∧
     s.get (F.ROUTE.ROPE_PAIR.PORT_B k) ≠ bitsOf v.toNat 61 56 ∧ s.get (F.ROUTE.ROPE_PAIR.PORT_A k) ≠ bitsOf v.toNat 53 48 ∧
     s.get (F.ROUTE.ROPE_PAIR.PORT_B k) ≠ bitsOf v.toNat 53 48) →
     ∃ u : State, exec (.ropePairWrite r src v) s = .next u.after ∧
       u = ((s.charged src).sets [(F.ROUTE.ROPE_PAIR.EN r.val, bitsOf v.toNat 63 63), (F.ROUTE.ROPE_PAIR.PORT_A r.val, bitsOf v.toNat 61 56),
         (F.ROUTE.ROPE_PAIR.PORT_B r.val, bitsOf v.toNat 53 48),
         (F.ROUTE.ROPE_PAIR.REFUSED r.val, 0), (F.ROUTE.ROPE_PAIR.STATE r.val, if bitOf v.toNat 63 then 3 else 0)]).setRope r.val {}) ∧
  -- RX_SILENCE_TIMEOUT (R132): a silent member retrains.
  (∀ (p : PortId) (s : State), s.up = true → s.flitsRun p.val = true → (s.ropeOf p.val).isSome = true → s.memberUp p.val = true →
     ∃ u : State, exec (.rxSilenceTimeout p) s = .next u.after ∧
       u = s.retrain p.val 3) ∧
  -- ROPE_REJOIN_SWITCH (R135).
  (∀ (r : VhId) (vc : Fin 4) (s : State), s.up = true →
     ∃ u : State, exec (.ropeRejoinSwitch r vc) s = .next u.after ∧
       u = s.ropeSwitch r.val vc.val) ∧
  -- ROPE_HOLD_RELEASE (R256): the hold ends once the trains it waits for have been released.
  (∀ (r : VhId) (vc : Fin 4) (s : State), s.up = true →
     ∃ u : State, exec (.ropeHoldRelease r vc) s = .next u.after ∧
       u = s.setRope r.val { s.rope r.val with holds := (s.rope r.val).holds.filter fun h =>
         !(h.1 == vc.val && h.2.2.all fun id => !((s.unreleased (s.ropeOther r.val h.2.1) vc.val).contains id)) })

/-- Arrival, lookup and the returns of its reads complete. A TLP within its credits on a PCIe port in L0, a lookup, the return of a window entry and
of a context from DRAM answer a next state with the effect of R142 to R157 and R298. (04_link_layer.md; 05_lookup_windows.md; 10_sharing.md) -/
def Obligations.LookupRowsComplete : Prop :=
  -- TLP_RX (R142, R204): a TLP is acknowledged and waits for lookup.
  (∀ (p : PortId) (t : Tlp) (tail : Tail) (vc : Fin 4) (s : State), s.up = true → (s.role p.val = 1 ∨ s.role p.val = 2) → (s.port p.val).under = 6 →
     s.vcOfTc p.val t.tc.toNat = vc.val → (s.tlpAck p.val tail).closed p.val = false → (s.tlpAck p.val tail).pcieOver p.val vc.val t = false →
     tail ≠ .badLcrc →
     ∃ u : State, exec (.tlpRx p t tail vc) s = .next u.after ∧
       u = ((s.tlpAck p.val tail).inject { id := 0, src := p.val, t := t, tail := tail, vc := vc.val, flit := (s.tlpAck p.val tail).flitPort p.val }).noteFull p.val (tlpPool t)) ∧
  -- TLP_RX (R342): one whose LCRC is bad is not taken: its error is reported and a Nak is due.
  (∀ (p : PortId) (t : Tlp) (vc : Fin 4) (s : State), s.up = true → (s.role p.val = 1 ∨ s.role p.val = 2) → (s.port p.val).under = 6 →
     s.vcOfTc p.val t.tc.toNat = vc.val →
     ∃ u : State, exec (.tlpRx p t .badLcrc vc) s = .next u.after ∧
       u = s.badTlp p.val) ∧
  -- TRAIN_LOOKUP (R143, R348): the next TLP from outside is looked up, at an ingress that is not closed.
  (∀ (p : SrcId) (it : InTrain) (s : State), s.up = true → ((s.drainMiss p.val 33).missLane p.val).length < 32 →
     (Tab.getD (s.drainMiss p.val 33).core.gwWait p.val []).length < 32 → (s.drainMiss p.val 33).nextHead p.val = some it → it.hal = none →
     it.vh = none → (s.drainMiss p.val 33).closed p.val = false →
     ∃ u : State, exec (.trainLookup p) s = .next u.after ∧
       (let a := s.drainMiss p.val 33
        u = ({ a with core := { a.core with inq := Tab.setD a.core.inq p.val ((Tab.getD a.core.inq p.val []).filter fun x => x.id != it.id) [] } } : State).lookupTlp a it)) ∧
  -- XLAT_MISS_FILL (R154, R156, R160): a good entry that no commit has overtaken is cached, while EN is set, and its train goes on.
  (∀ (p : SrcId) (x : Pend) (i : Nat) (s : State), s.up = true → ((s.missLane p.val).find? fun y => y.idx.isSome) = some x →
     s.oldestRead x.winRead = true → x.idx = some i → s.xlat.wrtUe.contains i = false →
     ∃ u : State, exec (.xlatMissFill p .ok) s = .next u.after ∧
       (let t := if entValid x.entry && !x.stale && s.flag F.XLAT.TC_CTL.EN then s.cachePut i x.entry else s
        u = (t.setMiss p.val (setPend (t.missLane p.val) x.it.id { x with idx := none })).drainMiss p.val 33)) ∧
  -- CTX_MISS_FILL (R298): a good context is cached and its train goes on.
  (∀ (p : SrcId) (x : Pend) (i : Nat) (s : State), s.up = true → ((s.missLane p.val).find? fun y => y.ctxWait) = some x →
     s.oldestRead x.ctxRead = true → s.ctxFor x.vh x.t = some i → s.ctxs.ue.contains i = false →
     ∃ u : State, exec (.ctxMissFill p .ok) s = .next u.after ∧
       (let t := s.ctxCache i
        u = (t.setMiss p.val (setPend (t.missLane p.val) x.it.id { x with ctxWait := false, ctx := some (i, t.ctxAt i) })).drainMiss p.val 33))

/-- The rows of windows and their commits complete. The invalidation of the entry cache and its end, the writes of WIN_UPDATE, GO and CHECK with no
commit under way, the moment a commit takes effect and the end of its write-back answer a next state with the effect of R156 to R162.
(05_lookup_windows.md) -/
def Obligations.WindowRowsComplete : Prop :=
  -- XLAT_INV_ALL (R156): the walk begins.
  (∀ (src : Path) (v : Word) (s : State), s.Admits src 0x40 0x118 (withBit v.toNat 1 true) →
     ∃ u : State, exec (.xlatInvAll src v) s = .next u.after ∧
       u = ((s.charged src).set F.XLAT.TC_CTL.EN (bitsOf (withBit v.toNat 1 true) 0 0)).invAll) ∧
  -- XLAT_INV_DONE (R156): the walk ends.
  (∀ (s : State), s.up = true → s.xlat.invWalk = true →
     ∃ u : State, exec .xlatInvDone s = .next u.after ∧
       u.xlat.invWalk = false ∧ u.get F.XLAT.TC_CTL.INV_BUSY = 0) ∧
  -- WIN_UPDATE_WRITE (R158): an update from WIN_DATA waits.
  (∀ (src : Path) (v : Word) (s : State), s.Admits src 0x40 0x100 (winOp v 1) → s.xlat.updates.length < 256 →
     ∃ u : State, exec (.winUpdateWrite src v) s = .next u.after ∧
       u.xlat.updates = s.xlat.updates ++ [(bitsOf (winOp v 1) 18 0, ((List.range 8).map fun k => s.get (F.XLAT.WIN_DATA.DATA k)) ++ [1])]) ∧
  -- WIN_UPDATE_CLEAR (R158): an update to an empty entry waits.
  (∀ (src : Path) (v : Word) (s : State), s.Admits src 0x40 0x100 (winOp v 2) → s.xlat.updates.length < 256 →
     ∃ u : State, exec (.winUpdateClear src v) s = .next u.after ∧
       u.xlat.updates = s.xlat.updates ++ [(bitsOf (winOp v 2) 18 0, zeroEntry ++ [2])]) ∧
  -- WIN_UPDATE_DISCARD (R158): the updates that wait are dropped.
  (∀ (src : Path) (v : Word) (s : State), s.Admits src 0x40 0x100 (winOp v 3) →
     ∃ u : State, exec (.winUpdateDiscard src v) s = .next u.after ∧
       u = (s.charged src).winDiscard) ∧
  -- WIN_COMMIT_GO (R159): with no commit under way a set that passes the checks is taken.
  (∀ (src : Path) (v : Word) (s : State), s.Admits src 0x40 0x108 (withBit (withBit v.toNat 1 false) 0 true) → s.get F.XLAT.WIN_STATUS.STATE = 0 →
     ((s.charged src).set (F.HDR.SHADOW_CTL.STATE 0x40) 1).winCheck = none →
     ∃ u : State, exec (.winCommitGo src v) s = .next u.after ∧
       (let t := (s.charged src).set (F.HDR.SHADOW_CTL.STATE 0x40) 1
        u = ({ t with xlat := { t.xlat with commit := t.xlat.updates, commitApt := t.mgmt.shadow.filter fun e => e.1 / 64 / 65536 % 512 == 0x40, updates := [] } } : State).winChecking true 0 noFault)) ∧
  -- WIN_COMMIT_CHECK (R159, R162): the checks alone, of a set that passes them.
  (∀ (src : Path) (v : Word) (s : State), s.Admits src 0x40 0x108 (withBit v.toNat 1 true) → s.get F.XLAT.WIN_STATUS.STATE = 0 →
     (s.charged src).winCheck = none →
     ∃ u : State, exec (.winCommitCheck src v) s = .next u.after ∧
       u = (s.charged src).winChecking false 3 noFault) ∧
  -- WIN_COMMIT_APPLY (R160): the new generation takes effect and the entries stand in the overlay.
  (∀ (s : State), s.up = true → s.winChecked.get F.XLAT.WIN_STATUS.STATE = 2 →
     s.winChecked.stampCount ((s.winChecked.get (F.HDR.COMMIT_GEN.GEN 0x40) + 1) % 2 ^ 32 % 16) = 0 → s.winChecked.xlat.overlay = [] →
     ∃ u : State, exec .winCommitApply s = .next u.after ∧
       u = s.winApply ∧ u.xlat.overlay = s.winChecked.xlat.commit.foldl (fun o e => Tab.put o e.1 (e.2.take 8)) [] ∧ u.xlat.commit = []) ∧
  -- WIN_WRITEBACK_DONE (R160): the overlay, written back at the cost of 64 B an index, is released.
  (∀ (s : State), s.up = true → s.get F.XLAT.WIN_STATUS.STATE = 3 →
     (s.core.miss.any fun e => e.2.any fun p => p.idx.isSome && p.gen != s.get (F.HDR.COMMIT_GEN.GEN 0x40)) = false →
     s.canPay 2 0 s.xlat.overlay.length = true →
     ∃ u : State, exec .winWritebackDone s = .next u.after ∧
       (let t := if s.xlat.overlay = [] then s else s.spend 2 0 s.xlat.overlay.length
        u = ({ t with xlat := { t.xlat with wrt := s.xlat.overlay.foldl (fun w e => Tab.setD w e.1 e.2 zeroEntry) s.xlat.wrt, overlay := [],
                                            wrtUe := s.xlat.wrtUe.filter fun i => !(s.xlat.overlay.map Prod.fst).contains i } } : State).set F.XLAT.WIN_STATUS.STATE 0))

/-- The rows of the switch core complete. A coupling offer, a plane's decision, the arrival of a coupling, a yard's release, the two kinds of missing
coupling, an uncorrectable plane error, the end of a suspicion and the multicast offer, delivery and time limit of the siding answer a next state with
the effect of R169 to R189 and R213 to R220. (06_switch_core.md; 07_buffer_multicast.md) -/
def Obligations.SwitchRowsComplete : Prop :=
  -- COUPLING_OFFER (R169, R179): the next coupling of the chosen train is requested; a train that begins is numbered.
  (∀ (x : XportId) (t t' : Train) (i : Nat) (a b : State) (s : State), s.up = true → s.pick (s.offerers x.val) = (some t, a) → a.nextCpl t = some i →
     t.bad = none → b = (if t.begun then a else a.numberTrain t) → b.train? t.id = some t' →
     ∃ u : State, exec (.couplingOffer x) s = .next u.after ∧
       u = b.putTrain (t'.setCpl (planePort t'.dst) i fun c => { c with st := 1 })) ∧
  -- COUPLING_OFFER (R184): a train found bad after its head left, and not cut through, is nullified.
  (∀ (x : XportId) (t : Train) (i code : Nat) (a : State) (s : State), s.up = true → s.pick (s.offerers x.val) = (some t, a) → a.nextCpl t = some i →
     t.bad = some code → t.ct = false →
     ∃ u : State, exec (.couplingOffer x) s = .next u.after ∧
       u = a.nullify t code) ∧
  -- PLANE_ARBITRATION (R170 to R174): an idle output that decides alone, with no multicast coupling at it, grants its winner.
  (∀ (n : PlaneId) (o : XportId) (t t' : Train) (l : Leg) (i : Nat) (c : Cpl) (a b : State) (s : State), s.up = true →
     s.outBusy n.val o.val = false → s.targets n.val [o.val] = [] →
     a = { s with core := { s.core with first := Tab.put s.core.first n.val o.val } } → a.winner n.val o.val [] = some (t, l, i, c) →
     b = (a.bookGrant n.val o.val [] t i true).putTrain (t.setCpl o.val i fun c => { c with st := 2 }) → b.train? t.id = some t' → t'.mcast = false →
     ∃ u : State, exec (.planeArbitration n o 0) s = .next u.after ∧
       u = if i = 0 then b.cairnStage t.id 2 else b) ∧
  -- PLANE_ARBITRATION (R172, R174, R215): idle outputs that decide in one cycle do so in rotating order, each among the inputs that the earlier ones
  -- left.
  (∀ (n : PlaneId) (o : XportId) (also : BitVec 14) (m w : List Nat) (a : State) (s : State), s.up = true →
     m = ((List.range 14).filter fun y => y == o.val || bitOf also.toNat y) → (m.any fun y => s.outBusy n.val y) = false →
     w = ((List.range 14).map fun k => (Tab.getD s.core.first n.val 13 + 1 + k) % 14).filter (m ++ s.targets n.val m).contains →
     a = { s with core := { s.core with first := Tab.put s.core.first n.val (w.headD 0) } } →
     ∃ u : State, exec (.planeArbitration n o also) s = .next u.after ∧
       u = (a.decideAll n.val [] [] w).2.foldl (fun b e => b.granted n.val e) (a.decideAll n.val [] [] w).1) ∧
  -- COUPLING_YARD_ARRIVAL (R166, R179): the coupling takes its slot, once the errors of its bits are dealt with.
  (∀ (n : PlaneId) (o : XportId) (e : List BitErr) (t t' : Train) (l : Leg) (i : Nat) (c : Cpl) (r : List (Train × Leg × Nat × Cpl)) (b : State)
     (s : State), s.up = true → (s.cplsAt o.val fun _ c => c.plane == n.val && c.st == 2) = (t, l, i, c) :: r →
     b = e.foldl (fun a x => a.bitErr n.val o.val t.id i x) (s.readCpl t.id i) → b.train? t.id = some t' → t'.mcast = false →
     ∃ u : State, exec (.couplingYardArrival n o e) s = .next u.after ∧
       u = ((b.putTrain (t'.setCpl o.val i fun c => { c with st := 3 })).mcCrossed t'.id).yardOcc o.val) ∧
  -- YARD_RELEASE (R179): the next coupling of a train for a port leaves the yard; the first puts the train in its queue.
  (∀ (y : XportId) (t : Train) (l : Leg) (i : Nat) (c : Cpl) (a : State) (s : State), s.up = true →
     s.pick (s.releasable y.val State.deliverRoom) = (some (t, l, i, c), a) → t.mcast = false → t.dst < 48 →
     ∃ u : State, exec (.yardRelease y) s = .next u.after ∧
       (let b := ({ a with core := { a.core with expect := Tab.setD a.core.expect (t.seqKey y.val) ((c.csn + 1) % 1024) 0 } } : State).count
         (Ctr.yard y.val 0) 1
        let t' := t.setCpl y.val i fun c => { c with st := 4 }
        u = (if i = 0 then (b.cairnStage t.id 3).enqueue t' ((b.cairnStage t.id 3).ropeTarget t') else b.putTrain t').yardOcc y.val)) ∧
  -- YARD_MISSING_TIMEOUT (R181): the earliest missing coupling of a sequence whose later one the yard holds is declared missing.
  (∀ (y : XportId) (m : Train × Leg × Nat × Cpl) (g : List (Train × Leg × Nat × Cpl)) (a : State) (s : State), s.up = true →
     g = ((((s.cplsAt y.val fun _ c => c.st == 3).map fun r => r.1.seqKey y.val).eraseDups).filterMap fun k =>
         match s.lacking k y.val with
         | [] => none
         | m :: _ => if (s.cplsAt y.val fun _ c => c.st == 3).any fun r => r.1.seqKey y.val == k && decide (s.csnDist r.1 y.val r.2.2.2 > s.csnDist m.1 y.val m.2.2.2) then some m else none) → s.pick g = (some m, a) →
     ∃ u : State, exec (.yardMissingTimeout y) s = .next u.after ∧
       u = a.missing y.val m) ∧
  -- INGRESS_NOTICE_TIMEOUT (R181): a coupling of which no notice has come is declared missing; for one the yard holds, the earliest that it lacks.
  (∀ (x : XportId) (y : Nat) (m : Train × Leg × Nat × Cpl) (g : List (Nat × Train × Leg × Nat × Cpl)) (a : State) (s : State), s.up = true →
     g = (((List.range 14).flatMap fun y => (s.cplsAt y fun t c => t.x == x.val && (c.st == 2 || c.st == 3)).map fun r =>
     (y, r)).filterMap fun e =>
         if e.2.2.2.2.st = 2 then some e
         else
     ((s.lacking (e.2.1.seqKey e.1) e.1).head?.map fun m =>
     (e.1, m)).bind fun m =>
           if s.csnDist m.2.1 e.1 m.2.2.2.2 < s.csnDist e.2.1 e.1 e.2.2.2.2 then some m else none) →
     s.pick g = (some (y, m), a) →
     ∃ u : State, exec (.ingressNoticeTimeout x) s = .next u.after ∧
       u = a.missing y m) ∧
  -- PLANE_UE (R188): the plane is retired with cause 1.
  (∀ (n : PlaneId) (s : State), s.up = true → s.get (F.PLANE.STS.STATE n.val) ≠ 2 →
     ∃ u : State, exec (.planeUe n) s = .next u.after ∧
       u = (s.count (Ctr.plane n.val 11) 1).retirePlane n.val 1) ∧
  -- SUSPECT_EXPIRY (R189): the plane is no longer suspect.
  (∀ (n : PlaneId) (s : State), s.up = true → s.get (F.PLANE.STS.STATE n.val) = 1 →
     ∃ u : State, exec (.suspectExpiry n) s = .next u.after ∧
       u.get (F.PLANE.STS.STATE n.val) = 0) ∧
  -- MC_OFFER (R214): the next coupling of a multicast train that has begun is requested at every target station.
  (∀ (x : XportId) (t t' : Train) (i : Nat) (l : List Train) (a : State) (s : State), s.up = true →
     l = (s.trainList.filter fun t => t.x == x.val && t.mcast && t.inBuffer && (s.mcNext t).isSome && (t.begun || (!s.mcHeld t && s.sidingRoom t))) →
     s.pick (l.filter Train.begun) = (some t, a) → a.mcNext t = some i → t.begun = true → a.train? t.id = some t' →
     ∃ u : State, exec (.mcOffer x) s = .next u.after ∧
       u = a.putTrain { t' with legs := t'.legs.map fun l => { l with cpls := l.cpls.modify i fun c => if c.st = 0 then { c with st := 1 } else c } }) ∧
  -- SIDING_DELIVER (R217): the siding copies the missing coupling that came first into the yard; with more to come its entry stays.
  (∀ (t0 t : Train) (l : Leg) (i : Nat) (c : Cpl) (r : List (Train × Leg × Nat × Cpl)) (a : State) (s : State), s.up = true →
     s.sidingNext = (t0, l, i, c) :: r → a = State.readCpl
     { s with core := { s.core with residue := s.core.residue.erase (t0.id, l.y, i) } } t0.id i → a.train? t0.id = some t →
     ∃ u : State, exec .sidingDeliver s = .next u.after ∧
       (let t1 := t.setCpl l.y i fun c => { c with st := 3 }
        let t2 := { t1 with legs := t1.legs.map fun k => if k.y = l.y then { k with res := true } else k }
        let b := a.putTrain t2
        u = (if (t2.legs.any fun l => l.cpls.any fun c => c.st == 5 || decide (c.st < 3)) || t2.mcRsv ≠ 2 then b else
          (b.putTrain { t2 with mcRsv := 1 }).subF F.MCAST.SIDING_STS.ENTRIES 1).yardOcc l.y)) ∧
  -- SIDING_TIMEOUT (R219): the copies for a station that still lacks part of a train are dropped.
  (∀ (y : XportId) (t : Train) (l : Leg) (r : List (Train × Leg)) (s : State), s.up = true →
     ((s.trainList.filter fun t => t.mcast && t.inBuffer).flatMap fun t =>
     (t.legs.filter fun l => l.y == y.val && l.numbered && l.cpls.any fun c => decide (c.st < 3) || c.st == 5).map fun l => (t, l)) = (t, l) :: r →
     ∃ u : State, exec (.sidingTimeout y) s = .next u.after ∧
       u = ((l.ports.foldl (fun b p => match b.train? t.id with
         | some t => b.dropCopy t p 1
         | none => b) s).mcCrossed t.id).yardOcc y.val)

/-- The rows of the shared buffer complete. The move to the shared account, the census (its period, its run by register and its end), the errors of a
bank, a retirement by register, and the end of a bank's copy, switch and drain answer a next state with the effect of R205 to R212 and R221.
(07_buffer_multicast.md; 06_switch_core.md) -/
def Obligations.BufferRowsComplete : Prop :=
  -- SHARED_MOVE (R205): pool by pool, in order, what fits moves.
  (∀ (p : SrcId) (s : State), s.up = true →
     ∃ u : State, exec (.sharedMove p) s = .next u.after ∧
       u = (List.range 4).foldl (fun t q => t.sharePool (t.poolTrains p.val q)) s) ∧
  -- CENSUS_PASS_START (R208): a pass begins, in a new epoch.
  (∀ (s : State), s.up = true → s.flag F.BUF.CENSUS_CFG.EN = true → s.flag F.BUF.CENSUS_STS.BUSY = false →
     ∃ u : State, exec .censusPassStart s = .next u.after ∧
       u.get F.BUF.CENSUS_STS.BUSY = 1 ∧ u.core.epoch = !s.core.epoch ∧ u.core.censusOpen = true) ∧
  -- CENSUS_RUN (R208, R221): a pass is run by register.
  (∀ (src : Path) (v : Word) (s : State), s.Admits src 0x28 0x110 (withBit v.toNat 1 true) → s.flag F.BUF.CENSUS_STS.BUSY = false →
     ∃ u : State, exec (.censusRun src v) s = .next u.after ∧
       u = ((s.charged src).writePlain 0x28 0x110 0 (withBit v.toNat 1 true)).censusStart) ∧
  -- CENSUS_PASS_END (R209): a pass that has made all its accesses ends; its findings are counted and carriages in conflict are held out.
  (∀ (f : CensusFindings) (s : State), s.up = true → s.flag F.BUF.CENSUS_STS.BUSY = true → s.core.censusLeft = 0 → s.core.censusDue = false →
     ∃ u : State, exec (.censusPassEnd f) s = .next u.after ∧
       u = s.censusEnd f ∧ (f.leaked = [] → f.conflicts = [] → f.refWrong = [] → u.core.censusOpen = false ∧ u.get F.BUF.CENSUS_STS.BUSY = 0)) ∧
  -- BANK_ERROR_WINDOW (R210): with none found at the yards before, the errors are taken, and too many retire the bank; the next window counts anew.
  (∀ (b : Fin 128) (ce ue : Nat) (t a : State) (s : State), s.up = true → t = (s.bankCes b.val ce).bankUes b.val (min ue (s.liveIn b.val).length) →
     Tab.get? t.core.bankErrs b.val = none → a = { t with core := { t.core with bankErrs := Tab.put t.core.bankErrs b.val (t.time.run, ce, ue) } } →
     ∃ u : State, exec (.bankErrorWindow b ce ue) s = .next u.after ∧
       (let d := if ce > a.get F.BUF.BANK_CFG.CE_LIMIT then a.retireBank b.val 1 else if ue ≥ 2 then a.retireBank b.val 2 else a
        u = ({ d with core := { d.core with bankErrs := Tab.del d.core.bankErrs b.val } } : State).passBank b.val ce)) ∧
  -- BANK_RETIRE_CMD (R221): the bank named is retired with cause 3.
  (∀ (src : Path) (v : Word) (s : State), s.Admits src 0x28 0x120 (withBit v.toNat 0 true) →
     ∃ u : State, exec (.bankRetireCmd src v) s = .next u.after ∧
       u = ((s.charged src).writePlain 0x28 0x120 0 (withBit v.toNat 0 true)).retireBank (bitsOf (withBit v.toNat 0 true) 7 1) 3) ∧
  -- BANK_COPY_DONE (R211): the copies of the live carriages are counted, and those that read uncorrectable bear a poison marker.
  (∀ (copied : BitVec 14) (bad : List (BitVec 13)) (b : Nat) (s : State), s.up = true → s.core.copying = some b → s.get F.BUF.BANK_STS.STATE = 1 →
     (s.liveIn b).length ≤ 8192 →
     ∃ u : State, exec (.bankCopyDone copied bad) s = .next u.after ∧
       u.core = { s.core with marks := (s.core.marks ++ ((s.liveIn b).map Prod.snd).filter fun c => (bad.map BitVec.toNat).contains (c % 8192)).eraseDups } ∧ u.get F.BUF.BANK_STS.STATE = 2 ∧ u.get F.BUF.BANK_STS.LAST_COPIED = max (s.liveIn b).length (min copied.toNat 8192)) ∧
  -- BANK_SWITCH_DONE (R210, R211): the map entry is the spare's, and a retirement that waited begins.
  (∀ (t : BitVec 16) (b sp : Nat) (r : List Nat) (s : State), s.up = true → s.core.copying = some b → s.core.spares = sp :: r →
     s.get F.BUF.BANK_STS.STATE = 2 →
     ∃ u : State, exec (.bankSwitchDone t) s = .next u.after ∧
       (let a := ({ s with core := { s.core with copying := none, spares := r } } : State).repairEnter 2
         (bankCause (s.get F.BUF.BANK_STS.LAST_CAUSE)) (s.get (F.BUF.BANK_MAP.PHYS b)) 0
        let d := (((a.sets [(F.BUF.BANK_STS.STATE, 0), (F.BUF.BANK_MAP.PHYS b, sp), (F.BUF.CAP_STS.SPARES_LEFT, r.length),
          (F.BUF.BANK_STS.LAST_INTERRUPT, t.toNat)]).addSat
          F.BUF.BANK_STS.RETIREMENTS 1).raise (bankEvent (s.get F.BUF.BANK_STS.LAST_CAUSE) Ev.BANK_RETIRE) { inst := b, detail := 2 })
        u = d.retireNext d.core.retireQ.length)) ∧
  -- BANK_DRAIN_DONE (R212): a drained bank leaves service with its capacity.
  (∀ (b c : Nat) (s : State), s.up = true → s.core.draining = [(b, c)] → (s.trainList.any fun t => t.heldCars.any fun c => c / 8192 == b) = false →
     ∃ u : State, exec .bankDrainDone s = .next u.after ∧
       (let a := ({ s with core := { s.core with draining := [], unmapped := s.core.unmapped ++ [b] } } : State).repairEnter 2 (bankCause c)
         (s.get (F.BUF.BANK_MAP.PHYS b)) 0
        let d := ((((a.set (F.BUF.BANK_MAP.PHYS b) 0xFF).subF F.BUF.CAP_STS.CAPACITY 8192).addSat F.BUF.BANK_STS.RETIREMENTS 1).refreshBuf).raise
          (bankEvent c Ev.BANK_LOST) { inst := b, detail := 2 }
        u = if d.get F.BUF.CAP_STS.CAPACITY < d.get F.BUF.CAP_STS.RESERVED then d.raise Ev.BUF_CAPACITY { inst := b, detail := 2 } else d))

/-- The rows of shapers, gates, traffic classes and the PCIe data link layer complete. A shaper's wheel slot, the commit, checks, cancel, swap, copy
and entry boundary of a gate list, a write of TCVC, a data link layer packet and the PCIe replay timer answer a next state with the effect of R142,
R231 to R238 and R243. (08_egress_scheduling.md; 04_link_layer.md) -/
def Obligations.EgressRowsComplete : Prop :=
  -- SHAPER_WHEEL_SLOT (R231): a parked queue's slot is reached.
  (∀ (p : PortId) (q : Fin 64) (w : Nat) (s : State), s.up = true → Tab.get? s.core.wheel (64 * p.val + q.val) = some w → w / 2 ≤ s.time.run / 2 →
     ∃ u : State, exec (.shaperWheelSlot p q) s = .next u.after ∧
       (let t := ({ s with core := { s.core with wheel := Tab.del s.core.wheel (64 * p.val + q.val) } } : State).set
         (F.EGR.QUEUE_STS.ON_WHEEL p.val q.val) 0
        u = if w % 2 = 1 then t.shape p.val q.val 0 else t)) ∧
  -- GATE_COMMIT_GO (R236): with no list held the checks begin.
  (∀ (p : PortId) (src : Path) (v : Word) (s : State), s.Admits src (0x30 + p.val / 4) (0x120 + 8 * (p.val % 4))
     (withBit (withBit v.toNat 2 false) 1 true) → s.gateHeld p.val = false →
     ∃ u : State, exec (.gateCommitGo p src v) s = .next u.after ∧
       Tab.get? u.core.gateChk p.val = some s.time.now ∧ u.get (F.EGR.GATE_ADMIN.LEN p.val) = bitsOf (withBit (withBit v.toNat 2 false) 1 true) 40 32) ∧
  -- GATE_CHECK_DONE (R236): a list without fault becomes pending; another is refused with its fault.
  (∀ (p : PortId) (go : Nat) (s : State), s.up = true → Tab.get? s.core.gateChk p.val = some go →
     ∃ u : State, exec (.gateCheckDone p) s = .next u.after ∧
       Tab.get? u.core.gateChk p.val = none ∧ u.get (F.EGR.GATE_STS.RESULT p.val) = (if s.gateFault p.val go = 0 then 1 else 2) ∧
         (s.gateFault p.val go = 0 → u.get (F.EGR.GATE_STS.PENDING p.val) = 1)) ∧
  -- GATE_CANCEL (R238): a commit whose checks run is cancelled.
  (∀ (p : PortId) (src : Path) (v : Word) (s : State), s.Admits src (0x30 + p.val / 4) (0x120 + 8 * (p.val % 4)) (withBit v.toNat 2 true) →
     (Tab.get? s.core.gateChk p.val).isSome = true →
     ∃ u : State, exec (.gateCancel p src v) s = .next u.after ∧
       Tab.get? u.core.gateChk p.val = none ∧ u.get (F.EGR.GATE_STS.RESULT p.val) = 3) ∧
  -- GATE_SWAP (R237): with no list in force the pending one comes in at or after its stated time.
  (∀ (p : PortId) (s : State), s.up = true → s.gatePend p.val = true → s.get (F.EGR.GATE_STS.ACTIVE_LEN p.val) = 0 →
     s.get (F.EGR.GATE_BASE_TIME.BASE p.val) ≤ s.time.now →
     ∃ u : State, exec (.gateSwap p) s = .next u.after ∧
       u = s.gateSwapAt p.val s.time.now) ∧
  -- GATE_COPY_DONE (R237).
  (∀ (p : PortId) (s : State), s.up = true → s.core.gateCopy.contains p.val = true →
     ∃ u : State, exec (.gateCopyDone p) s = .next u.after ∧
       u.get (F.EGR.GATE_STS.PENDING p.val) = 0 ∧ u.core.gateCopy = s.core.gateCopy.filter (· ≠ p.val)) ∧
  -- GATE_ENTRY_BOUNDARY (R233): the next entry begins.
  (∀ (p : PortId) (s : State), s.up = true → s.get (F.EGR.GATE_STS.ACTIVE_LEN p.val) ≠ 0 → Tab.getD s.core.gateTill p.val 0 ≤ s.time.now →
     s.gatePend p.val = false →
     ∃ u : State, exec (.gateEntryBoundary p) s = .next u.after ∧
       (let a := Tab.getD s.core.gateTill p.val 0
        let e := (s.get (F.EGR.GATE_STS.ENTRY p.val) + 1) % s.get (F.EGR.GATE_STS.ACTIVE_LEN p.val)
        u = ({ s with core := { s.core with gateTill := Tab.put s.core.gateTill p.val (a + s.get (F.EGR.GATE_ACTIVE.INTERVAL p.val e)) } } : State).sets
          [(F.EGR.GATE_STS.ENTRY p.val, e), (F.EGR.GATE_STS.OPEN p.val, s.get (F.EGR.GATE_ACTIVE.MASK p.val e))])) ∧
  -- TCVC_WRITE (R243): on an OFF port a legal map is taken.
  (∀ (p : PortId) (src : Path) (v : Word) (s : State), s.Admits src (0x30 + p.val / 4) (0x100 + 8 * (p.val % 4)) v.toNat → s.role p.val = 0 →
     ((List.range 8).any fun t => decide (bitsOf v.toNat (2 * t + 1) (2 * t) > bitsOf v.toNat 17 16)) = false →
     ∃ u : State, exec (.tcvcWrite p src v) s = .next u.after ∧
       u = ((s.charged src).sets [(F.EGR.TCVC.VCS p.val, bitsOf v.toNat 17 16), (F.EGR.TCVC.MAP p.val, v.toNat % 65536),
         (F.EGR.TCVC.REFUSED p.val, 0)]).refreshBuf) ∧
  -- PCIE_DLLP_RX (R142): an Ack, a Nak, an update of flow control or an error.
  (∀ (p : PortId) (x : Dllp) (s : State), s.up = true → (s.role p.val = 1 ∨ s.role p.val = 2) → s.linkUp p.val = true →
     ∃ u : State, exec (.pcieDllpRx p x) s = .next u.after ∧
       (∀ q, x = .ack q → u = s.dllAck p.val q.toNat) ∧ (∀ q, x = .nak q → u = (s.dllAck p.val q.toNat).dllReplay p.val) ∧
         (∀ vc cls h n kh kd, x = .updateFc vc cls h n kh kd →
         Tab.get? (u.dll p.val).limit (3 * vc.val + cls.val) = some (h.toNat % 256, n.toNat % 4096)) ∧
         (x = .protoError → u = s.raise Ev.DLL_PROTO { inst := p.val, detail := 2, aerAt := s.aerPort p.val })) ∧
  -- PCIE_REPLAY_TIMER_EXPIRY (R142): what is not acknowledged is sent again.
  (∀ (p : PortId) (s : State), s.up = true → (s.role p.val = 1 ∨ s.role p.val = 2) → s.linkUp p.val = true → ((s.dll p.val).unacked.isEmpty = false) →
     ∃ u : State, exec (.pcieReplayTimerExpiry p) s = .next u.after ∧
       u = (s.raise Ev.PCIE_LINK_CE { inst := p.val, detail := 2, aerAt := s.aerPort p.val, ceBit := 12 }).dllReplay p.val)

/-- The rows of fabric mode complete. A write of NODE_ID with no FAB port, an ORT allocation, the time-out and the quarantine of an entry, a write of
PFN_POP and the stall of a VC answer a next state with the effect of R249, R266 to R278. (09_fabric_mode.md) -/
def Obligations.FabricRowsComplete : Prop :=
  -- NODE_ID_WRITE (R249).
  (∀ (src : Path) (v : Word) (s : State), s.Admits src 0x41 0x100 v.toNat → ((List.range 48).any fun p => s.role p == 3) = false →
     ∃ u : State, exec (.nodeIdWrite src v) s = .next u.after ∧
       u.get F.ROUTE.NODE_ID.ID = bitsOf v.toNat 11 0 ∧ u.get F.ROUTE.NODE_ID.REFUSED = 0) ∧
  -- ORT_ALLOCATE (R266): a request that waited takes its entry, and what waited only behind it goes on.
  (∀ (p : SrcId) (g : GwWait) (s : State), s.up = true → s.gwReady (Tab.getD s.core.gwWait p.val []) [] = some g →
     ∃ u : State, exec (.ortAllocate p) s = .next u.after ∧
       (let l := (Tab.getD s.core.gwWait p.val []).filter fun x => x.tr.it.id != g.tr.it.id
        let f := freeFollowers g.tr.cls l
        let a : State := { s with core := { s.core with gwWait := Tab.setD s.core.gwWait p.val (l.filter fun x => !f.any fun y => y.tr.it.id == x.tr.it.id) [] } }
        let b := if a.closed g.tr.dst then a.toClosed g.tr else if g.kind = 3 then a.enterCore g.tr g.tr.it.id else a.gwIssue g.tr g.kind g.target
        u = ((f.foldl (fun t x => if t.closed x.tr.dst then t.toClosed x.tr else t.enterCore x.tr x.tr.it.id) b).ortSts).drainGen)) ∧
  -- ORT_TIMEOUT (R270): an entry in use is completed with abort and reported.
  (∀ (e : Fin 16384) (o : Ort) (s : State), s.up = true → s.ort? e.val = some o → o.quar = false →
     ∃ u : State, exec (.ortTimeout e) s = .next u.after ∧
       (let a := (s.ortAbort e.val).addSat F.GW.GW_STS.TIMEOUTS 1
        u = (a.count (Ctr.vh o.vh 11) 1).raise Ev.CPL_TIMEOUT
          { inst := o.src, key := o.vh, detail := 1, w := ortW e.val o, ingress := a.ingressOf o.src o.req.reqId.toNat })) ∧
  -- QUARANTINE_END (R270): the entry is free with its EPOCH advanced.
  (∀ (e : Fin 16384) (o : Ort) (s : State), s.up = true → s.ort? e.val = some o → o.quar = true →
     ∃ u : State, exec (.quarantineEnd e) s = .next u.after ∧
       u.ort? e.val = none ∧ u.epochOf e.val = (s.epochOf e.val + 1) % 16) ∧
  -- PFN_POP (R274): the oldest entries are freed.
  (∀ (src : Path) (v : Word) (s : State), s.Admits src 0x42 0x140 v.toNat → bitsOf v.toNat 8 0 ≤ s.get F.GW.PFN_STS.COUNT →
     s.get F.GW.PFN_STS.COUNT ≤ 256 →
     ∃ u : State, exec (.pfnPop src v) s = .next u.after ∧
       u.get F.GW.PFN_STS.HEAD = (s.get F.GW.PFN_STS.HEAD + bitsOf v.toNat 8 0) % 256 ∧
         u.get F.GW.PFN_STS.COUNT = s.get F.GW.PFN_STS.COUNT - bitsOf v.toNat 8 0) ∧
  -- STALL_TIMEOUT (R278): a stalled unicast train of VC 0 or 1 is dropped; on VC 2 and 3 the stall is reported.
  (∀ (p : PortId) (vc : Fin 4) (t : Train) (c : Copy) (r : List (Train × Copy)) (s : State), s.up = true → s.role p.val = 3 →
     s.get (F.STN.HLL_STS.STATE p.val) = 2 → (((List.range 8).flatMap fun k => s.queued p.val (8 * vc.val + k)).mergeSort fun a b => decide
     (a.2.rel ≤ b.2.rel)) = (t, c) :: r → (((t, c) :: r).any fun x => !s.credit p.val x.2.queue x.1) = true → t.mcast = false →
     ∃ u : State, exec (.stallTimeout p vc) s = .next u.after ∧
       (let a := s.addSat F.GW.GW_STS.STALL_DROPS 1
        u = if vc.val ≥ 2 then (s.addSat F.GW.GW_STS.STALL_REPORTS 1).raise Ev.STALL_REPORT { inst := p.val, recC := 2, detail := 2 }
          else (((((a.fabDrop t.src (a.sendHdr t p.val) 8).fenceLose t.stamp false t.sentAddr 4).endTrain t true).refreshQueues t).queueSts p.val c.queue)))

/-- The rows of binding, attachment and detachment complete. A write of VH_BIND that nothing refuses, the three operations of VDSP_CMD without fault,
the host's power off of a detaching vDSP, the end of DETACH_WAIT, of FLR_WAIT and of the drain, and a write of a FREE entry of VF_MAP answer a next
state with the effect of R281 to R289. (10_sharing.md) -/
def Obligations.SharingRowsComplete : Prop :=
  -- VH_BIND_WRITE (R281): a VH is bound to its host port.
  (∀ (vh : VhId) (src : Path) (v : Word) (s : State), s.Admits src 0x43 (0x200 + 8 * vh.val) v.toNat →
     (s.charged src).bindRefusal vh.val v.toNat = 0 → s.vhBound vh.val = false → bitOf v.toNat 62 = false →
     ∃ u : State, exec (.vhBindWrite vh src v) s = .next u.after ∧
       u = (s.charged src).owning [s.get (F.VH.VH_BIND.HOST_PORT vh.val), bitsOf v.toNat 37 32] fun t =>
         ((t.set (F.VH.VH_BIND.REFUSED vh.val) 0).sets [(F.VH.VH_BIND.EN vh.val, bitsOf v.toNat 63 63),
           (F.VH.VH_BIND.HOST_PORT vh.val, bitsOf v.toNat 37 32)]).bindState vh.val) ∧
  -- VDSP_ATTACH (R285, R286): the vDSP is attached.
  (∀ (a : State) (src : Path) (v : Word) (s : State), s.Admits src 0x43 0x110 (goOp v 1) →
     a = (s.charged src).sets [(F.VH.VDSP_CMD.OP, bitsOf (goOp v 1) 62 60), (F.VH.VDSP_CMD.KIND, bitsOf (goOp v 1) 59 58),
     (F.VH.VDSP_CMD.VH, bitsOf (goOp v 1) 57 53),
         (F.VH.VDSP_CMD.DEV, bitsOf (goOp v 1) 52 48),
     (F.VH.VDSP_CMD.PORT, bitsOf (goOp v 1) 47 42), (F.VH.VDSP_CMD.VFI, bitsOf (goOp v 1) 41 32)] → a.vdspFault = 0 →
     ∃ u : State, exec (.vdspAttach src v) s = .next u.after ∧
       u = (a.attach (a.get F.VH.VDSP_CMD.VH) (a.get F.VH.VDSP_CMD.DEV) (a.get F.VH.VDSP_CMD.KIND) (a.get F.VH.VDSP_CMD.PORT)
         (a.get F.VH.VDSP_CMD.VFI)).set F.VH.VDSP_CMD.RESULT 1) ∧
  -- VDSP_DETACH (R287): the vDSP waits for its host, which the attention button asks.
  (∀ (a : State) (src : Path) (v : Word) (s : State), s.Admits src 0x43 0x110 (goOp v 2) →
     a = (s.charged src).sets [(F.VH.VDSP_CMD.OP, bitsOf (goOp v 2) 62 60), (F.VH.VDSP_CMD.KIND, bitsOf (goOp v 2) 59 58),
     (F.VH.VDSP_CMD.VH, bitsOf (goOp v 2) 57 53),
         (F.VH.VDSP_CMD.DEV, bitsOf (goOp v 2) 52 48),
     (F.VH.VDSP_CMD.PORT, bitsOf (goOp v 2) 47 42), (F.VH.VDSP_CMD.VFI, bitsOf (goOp v 2) 41 32)] → a.vdspFault = 0 →
     a.get (F.VH.VDSP.STATE (a.get F.VH.VDSP_CMD.VH) (a.get F.VH.VDSP_CMD.DEV)) ≠ 4 →
     ∃ u : State, exec (.vdspDetach src v) s = .next u.after ∧
       (let d := ({ a with share := { a.share with cmd := some (a.get F.VH.VDSP_CMD.VH, a.get F.VH.VDSP_CMD.DEV) } } : State).set F.VH.VDSP_CMD.RESULT 2
        u = (d.set (F.VH.VDSP.STATE (a.get F.VH.VDSP_CMD.VH) (a.get F.VH.VDSP_CMD.DEV)) 2).attention (a.get F.VH.VDSP_CMD.VH)
          (a.get F.VH.VDSP_CMD.DEV))) ∧
  -- VDSP_FORCE_DETACH (R287): the vDSP is emptied without waiting.
  (∀ (a : State) (src : Path) (v : Word) (s : State), s.Admits src 0x43 0x110 (goOp v 3) →
     a = (s.charged src).sets [(F.VH.VDSP_CMD.OP, bitsOf (goOp v 3) 62 60), (F.VH.VDSP_CMD.KIND, bitsOf (goOp v 3) 59 58),
     (F.VH.VDSP_CMD.VH, bitsOf (goOp v 3) 57 53),
         (F.VH.VDSP_CMD.DEV, bitsOf (goOp v 3) 52 48),
     (F.VH.VDSP_CMD.PORT, bitsOf (goOp v 3) 47 42), (F.VH.VDSP_CMD.VFI, bitsOf (goOp v 3) 41 32)] → a.vdspFault = 0 →
     ∃ u : State, exec (.vdspForceDetach src v) s = .next u.after ∧
       u = (({ a with share := { a.share with cmd := some (a.get F.VH.VDSP_CMD.VH, a.get F.VH.VDSP_CMD.DEV) } } : State).set F.VH.VDSP_CMD.RESULT 2).forceDetach
         (a.get F.VH.VDSP_CMD.VH) (a.get F.VH.VDSP_CMD.DEV)) ∧
  -- VDSP_POWER_OFF (R287): the host turns power off on a detaching vDSP.
  (∀ (vh : VhId) (d : VdspId) (s : State), s.up = true → s.get (F.VH.VDSP.STATE vh.val d.val) = 2 →
     ∃ u : State, exec (.vdspPowerOff vh d) s = .next u.after ∧
       u = (s.orCfg vh.val d.val 0x22 10).slotPower vh.val d.val false) ∧
  -- DETACH_WAIT_TIMEOUT (R287): the vDSP is emptied.
  (∀ (vh : VhId) (d : VdspId) (s : State), s.up = true → s.get (F.VH.VDSP.STATE vh.val d.val) = 2 →
     ∃ u : State, exec (.detachWaitTimeout vh d) s = .next u.after ∧
       u = s.startEmpty vh.val d.val) ∧
  -- VDSP_FLR_WAIT_EXPIRY (R288): the vDSP of a detached VF drains.
  (∀ (vh : VhId) (d : VdspId) (s : State), s.up = true → s.get (F.VH.VDSP.KIND vh.val d.val) = 3 → s.share.resetting.contains (vh.val, d.val) = true →
     ∃ u : State, exec (.vdspFlrWaitExpiry vh d) s = .next u.after ∧
       u.share.drains = s.share.drains ++ [(vh.val, d.val)] ∧ u.share.resetting = s.share.resetting.filter (· ≠ (vh.val, d.val))) ∧
  -- VDSP_DRAIN_DONE (R288): the vDSP is EMPTY and its VF FREE.
  (∀ (vh : VhId) (d : VdspId) (s : State), s.up = true → s.share.drains.contains (vh.val, d.val) = true → s.routedUnder vh.val d.val = false →
     s.get (F.VH.VDSP.KIND vh.val d.val) ≠ 3 → s.share.cmd = none →
     ∃ u : State, exec (.vdspDrainDone vh d) s = .next u.after ∧
       u = s.owning [s.get (F.VH.VDSP.PORT vh.val d.val)] fun t =>
         (({ t with share := { t.share with drains := t.share.drains.filter (· ≠ (vh.val, d.val)), dpc := t.share.dpc.filter (· ≠ 32 * vh.val + d.val) } } : State).sets
           [(F.VH.VDSP.STATE vh.val d.val, 0), (F.VH.VDSP.KIND vh.val d.val, 0), (F.VH.VDSP.PORT vh.val d.val, 0),
             (F.VH.VDSP.VFI vh.val d.val, 0)]).unbindDone vh.val) ∧
  -- VF_MAP_WRITE (R289): a word of a FREE entry is taken.
  (∀ (j : Fin 1024) (w : Fin 4) (src : Path) (v : Word) (s : State), s.Admits src 0x43 (0x8000 + 0x20 * j.val + 8 * w.val) v.toNat →
     s.get (F.VH.VF_MAP0.STATE j.val) = 0 →
     ∃ u : State, exec (.vfMapWrite j w src v) s = .next u.after ∧
       (w.val = 0 → u.get (F.VH.VF_MAP0.VALID j.val) = bitsOf v.toNat 63 63 ∧ u.get (F.VH.VF_MAP0.PORT j.val) = bitsOf v.toNat 59 54 ∧
         u.get (F.VH.VF_MAP0.PHYS_RID j.val) = bitsOf v.toNat 31 16) ∧
         (∀ b, w.val = b + 1 → u.get (F.VH.VF_BAR.PHYS_BASE j.val b) = bitsOf v.toNat 63 12 ∧
         u.get (F.VH.VF_BAR.SIZE_LOG2 j.val b) = bitsOf v.toNat 11 6 ∧ u.get (F.VH.VF_BAR.PREF j.val b) = bitsOf v.toNat 5 5))

/-- The rows of configuration, forwarded accesses, mediated FLR and DPC complete. A configuration access to a bound VH's switch or virtual endpoint,
the completion, the time limit and the end of the hold of a forwarded access, a mediated FLR and its end, a DPC trigger and its release answer a next
state with the effect of R283, R294 to R297, R350 and R418. (10_sharing.md; 12_errors_containment.md; 16_management_access.md) -/
def Obligations.ConfigRowsComplete : Prop :=
  -- VIRTUAL_CONFIG_ACCESS (R283): the function named is accessed; with none the answer is Unsupported Request.
  (∀ (vh : VhId) (r : CfgReq) (s : State), s.up = true → s.vhBound vh.val = true →
     ∃ u : State, exec (.virtualConfigAccess vh r) s = .next u.after ∧
       (s.cfgTarget vh.val r = none → u = s.cfgReply vh.val r .ur 0) ∧ (∀ fn, s.cfgTarget vh.val r = some fn → fn < 64 → u = s.cfgAccess vh.val fn r)) ∧
  -- VF_CONFIG_ACCESS (R294): a virtual endpoint is accessed.
  (∀ (vh : VhId) (r : CfgReq) (fn : Nat) (s : State), s.up = true → s.vhBound vh.val = true → s.cfgTarget vh.val r = some fn → 64 ≤ fn →
     ∃ u : State, exec (.vfConfigAccess vh r) s = .next u.after ∧
       u = s.vfAccess vh.val (fn - 64) r) ∧
  -- VF_CFG_COMPLETION (R294, R346, R418): a forwarded access is answered, poisoned where its completion is, and its tag is free.
  (∀ (tag : Fin 256) (st : CplSt) (id : BitVec 16) (data : BitVec 32) (ep : Bool) (f : FwdCfg) (s : State), s.up = true →
     Tab.get? s.share.tags tag.val = some f → f.held = false →
     ∃ u : State, exec (.vfCfgCompletion tag st id data ep) s = .next u.after ∧
       u = (({ s with share := { s.share with tags := Tab.del s.share.tags tag.val } } : State).cfgReply f.vh f.req st
         (relinked f.dword data.toNat) ep).fwdNext) ∧
  -- VF_CFG_TIMEOUT (R295): the access is completed with abort and its tag is held.
  (∀ (tag : Fin 256) (f : FwdCfg) (s : State), s.up = true → Tab.get? s.share.tags tag.val = some f → f.held = false →
     ∃ u : State, exec (.vfCfgTimeout tag) s = .next u.after ∧
       u = ({ s with share := { s.share with tags := Tab.put s.share.tags tag.val { f with held := true } } } : State).fwdAbort f (0x3F00 + tag.val)) ∧
  -- ME_TAG_HOLD_EXPIRY (R418): a held tag is free again.
  (∀ (tag : Fin 256) (f : FwdCfg) (s : State), s.up = true → Tab.get? s.share.tags tag.val = some f → f.held = true →
     ∃ u : State, exec (.meTagHoldExpiry tag) s = .next u.after ∧
       u = ({ s with share := { s.share with tags := Tab.del s.share.tags tag.val } } : State).fwdNext) ∧
  -- MEDIATED_FLR (R294): the FLR of the VF of a live vDSP starts.
  (∀ (vh : VhId) (d : VdspId) (s : State), s.up = true → s.get (F.VH.VDSP.KIND vh.val d.val) = 3 → s.vdspLive vh.val d.val = true →
     ∃ u : State, exec (.mediatedFlr vh d false) s = .next u.after ∧
       u = s.startFlr (s.get (F.VH.VDSP.VFI vh.val d.val)) false) ∧
  -- MEDIATED_FLR_DONE (R294).
  (∀ (vh : VhId) (d : VdspId) (s : State), s.up = true → s.get (F.VH.VDSP.KIND vh.val d.val) = 3 →
     ∃ u : State, exec (.mediatedFlrDone vh d) s = .next u.after ∧
       u = s.flrDone (s.get (F.VH.VDSP.VFI vh.val d.val))) ∧
  -- DPC_TRIGGER (R350): a trigger that the host's DPC Control enables acts.
  (∀ (vh : VhId) (d : VdspId) (reason : BitVec 4) (s : State), s.up = true → s.dpcReady vh.val d.val (reason.toNat % 4) = true →
     ∃ u : State, exec (.dpcTrigger vh d reason) s = .next u.after ∧
       u = s.dpcTrig vh.val d.val reason.toNat) ∧
  -- DPC_RELEASE (R350): the trigger status is cleared and the port of an attached device opens and trains.
  (∀ (vh : VhId) (d : VdspId) (s : State), s.up = true → bitOf (s.cfg vh.val d.val 0x56) 0 = true → s.get (F.VH.VDSP.KIND vh.val d.val) ≠ 3 →
     ∃ u : State, exec (.dpcRelease vh d) s = .next u.after ∧
       (let a := s.setCfg vh.val d.val 0x56 (withBit (s.cfg vh.val d.val 0x56) 0 false)
        let p := a.get (F.VH.VDSP.PORT vh.val d.val)
        let t : State := { a with share := { a.share with dpc := a.share.dpc.filter (· ≠ 32 * vh.val + d.val) } }
        u = if t.flag (byFld 3 p) then (t.openPort p 3).startTrain p else t))

/-- The rows of the context directory complete. With no command waiting and four units of the TABLE class left, a read, a write, an insertion, a
deletion and a search of CTX_ACCESS answer a next state in which the operation has run and its units are spent, as R298 to R300 say. (10_sharing.md)
-/
def Obligations.ContextRowsComplete : Prop :=
  -- CTX_READ (R300): the context at INDEX is put into CTX_DATA.
  (∀ (a : State) (src : Path) (v : Word) (s : State), s.Admits src 0x44 0x108 (goOp v 1) → s.ctxs.wait = false →
     a = (s.charged src).sets [(F.CTX.CTX_ACCESS.OP, 1), (F.CTX.CTX_ACCESS.KEEP_CNT, bitsOf (goOp v 1) 59 59),
     (F.CTX.CTX_ACCESS.INDEX, bitsOf (goOp v 1) 17 0)] → a.canPay 2 0 4 true = true →
     ∃ u : State, exec (.ctxRead src v) s = .next u.after ∧
       u = ({ a.spend 2 0 4 0x44 with ctxs := { a.ctxs with wait := false } } : State).ctxRun) ∧
  -- CTX_WRITE (R300): the context at INDEX is rewritten, its key unchanged.
  (∀ (a : State) (src : Path) (v : Word) (s : State), s.Admits src 0x44 0x108 (goOp v 2) → s.ctxs.wait = false →
     a = (s.charged src).sets [(F.CTX.CTX_ACCESS.OP, 2), (F.CTX.CTX_ACCESS.KEEP_CNT, bitsOf (goOp v 2) 59 59),
     (F.CTX.CTX_ACCESS.INDEX, bitsOf (goOp v 2) 17 0)] → a.canPay 2 0 4 true = true →
     ∃ u : State, exec (.ctxWrite src v) s = .next u.after ∧
       u = ({ a.spend 2 0 4 0x44 with ctxs := { a.ctxs with wait := false } } : State).ctxRun) ∧
  -- CTX_INSERT (R299, R300): the context takes a free slot of one of its two buckets.
  (∀ (a : State) (src : Path) (v : Word) (s : State), s.Admits src 0x44 0x108 (goOp v 3) → s.ctxs.wait = false →
     a = (s.charged src).sets [(F.CTX.CTX_ACCESS.OP, 3), (F.CTX.CTX_ACCESS.KEEP_CNT, bitsOf (goOp v 3) 59 59),
     (F.CTX.CTX_ACCESS.INDEX, bitsOf (goOp v 3) 17 0)] → a.canPay 2 0 4 true = true →
     ∃ u : State, exec (.ctxInsert src v) s = .next u.after ∧
       u = ({ a.spend 2 0 4 0x44 with ctxs := { a.ctxs with wait := false } } : State).ctxRun) ∧
  -- CTX_DELETE (R300): the context at INDEX is emptied.
  (∀ (a : State) (src : Path) (v : Word) (s : State), s.Admits src 0x44 0x108 (goOp v 4) → s.ctxs.wait = false →
     a = (s.charged src).sets [(F.CTX.CTX_ACCESS.OP, 4), (F.CTX.CTX_ACCESS.KEEP_CNT, bitsOf (goOp v 4) 59 59),
     (F.CTX.CTX_ACCESS.INDEX, bitsOf (goOp v 4) 17 0)] → a.canPay 2 0 4 true = true →
     ∃ u : State, exec (.ctxDelete src v) s = .next u.after ∧
       u = ({ a.spend 2 0 4 0x44 with ctxs := { a.ctxs with wait := false } } : State).ctxRun) ∧
  -- CTX_FIND (R300): the index of a key is looked up.
  (∀ (a : State) (src : Path) (v : Word) (s : State), s.Admits src 0x44 0x108 (goOp v 5) → s.ctxs.wait = false →
     a = (s.charged src).sets [(F.CTX.CTX_ACCESS.OP, 5), (F.CTX.CTX_ACCESS.KEEP_CNT, bitsOf (goOp v 5) 59 59),
     (F.CTX.CTX_ACCESS.INDEX, bitsOf (goOp v 5) 17 0)] → a.canPay 2 0 4 true = true →
     ∃ u : State, exec (.ctxFind src v) s = .next u.after ∧
       u = ({ a.spend 2 0 4 0x44 with ctxs := { a.ctxs with wait := false } } : State).ctxRun)

/-- The rows of dirty-page logging and harvest complete. The enabling of a slot whose bitmaps fit, the end of its zeroing, the write-back of a line,
and every step of a harvest in the state R304 and R305 give it answer a next state with its effect. (10_sharing.md; 12_errors_containment.md) -/
def Obligations.DirtyRowsComplete : Prop :=
  -- DL_SLOT_ENABLE (R303): a slot whose bitmaps fit is enabled and zeroed.
  (∀ (j : Fin 256) (a : State) (src : Path) (v : Word) (s : State), s.Admits src 0x45 (0x1000 + 0x10 * j.val) (withBit v.toNat 11 true) →
     s.get (F.DIRTY.DL_SLOT0.EN j.val) = 0 → a = (s.charged src).sets [(F.DIRTY.DL_SLOT0.BASE j.val, bitsOf (withBit v.toNat 11 true) 63 12),
     (F.DIRTY.DL_SLOT0.GRAN j.val, bitsOf (withBit v.toNat 11 true) 10 10), (F.DIRTY.DL_SLOT0.AT_SEL j.val, bitsOf (withBit v.toNat 11 true) 9 8)] →
     a.dlFits j.val = true →
     ∃ u : State, exec (.dlSlotEnable j src v) s = .next u.after ∧
       u = { a.sets [(F.DIRTY.DL_SLOT0.EN j.val, 1), (F.DIRTY.DL_SLOT0.REFUSED j.val, 0)] with
         dirty := { a.dirty with cache := a.dirty.cache.filter (fun e => e.1 / 2 ^ 24 != j.val),
                                 wb := a.dirty.wb.filter (fun e => e.1 / 2 ^ 24 != j.val),
                                 zeroing := (a.dirty.zeroing.filter (· ≠ j.val)) ++ [j.val] } }) ∧
  -- DL_ZERO_DONE (R303): both bitmaps of the slot are zero.
  (∀ (j : Fin 256) (n : Nat) (s : State), s.up = true → s.dirty.zeroing.contains j.val = true →
     n = 2 * (dlBytes (s.get (F.DIRTY.DL_SLOT1.BITS j.val)) / 64) → s.canPay 2 0 n = true →
     ∃ u : State, exec (.dlZeroDone j) s = .next u.after ∧
       (let a := s.spend 2 0 n 0x45
        u = { a with dirty := { a.dirty with zeroing := a.dirty.zeroing.filter (· ≠ j.val), dram := a.dirty.dram.filter fun e => e.1 / 2 ^ 24 != j.val } })) ∧
  -- DL_ZERO_DONE (R386, R387): what the TABLE class cannot pay for now waits for the allowance, as its job.
  (∀ (j : Fin 256) (n : Nat) (s : State), s.up = true → s.dirty.zeroing.contains j.val = true →
     n = 2 * (dlBytes (s.get (F.DIRTY.DL_SLOT1.BITS j.val)) / 64) → s.canPay 2 0 n = false →
     ∃ u : State, exec (.dlZeroDone j) s = .next u.after ∧
       u = s.defer { cls := 2, reg := 0, dram := n, page := 0x45, act := .zero j.val }) ∧
  -- DL_LINE_WRITEBACK (R24, R302, R346): a line whose write-back is the oldest request of tier 1 is ORed into its bitmap; an uncorrectable one becomes
  -- all ones.
  (∀ (j : Fin 256) (line : BitVec 32) (k x : Nat) (b : State) (s : State), s.up = true → k = j.val * 2 ^ 24 + line.toNat % 2 ^ 24 →
     Tab.get? s.dirty.cache k = some x → s.dirty.zeroing.contains j.val = false → b = s.wbAsk [k] → b.oldestRead (Tab.getD b.dirty.wb k 0) = true →
     ∃ u : State, exec (.dlLineWriteback j line .ok) s = .next u.after ∧
       (let a : State := { b with dirty := { b.dirty with cache := Tab.del b.dirty.cache k, wb := Tab.del b.dirty.wb k, dram := Tab.setD b.dirty.dram k (Nat.lor (Tab.getD b.dirty.dram k 0) x) 0 } }
        u = ((a.count (Ctr.dev 2) 1).dramUse 3 1).linesPend)) ∧
  (∀ (j : Fin 256) (line : BitVec 32) (k x : Nat) (s : State), s.up = true → k = j.val * 2 ^ 24 + line.toNat % 2 ^ 24 →
     Tab.get? s.dirty.cache k = some x → s.dirty.zeroing.contains j.val = false → s.wbDue k = true →
     ∃ u : State, exec (.dlLineWriteback j line .uncorrectable) s = .next u.after ∧
       (let b := (s.eccClient .uncorrectable).wbAsk [k]
        let a := b.raise Ev.DL_UE { inst := j.val }
        let d : State := { a with dirty := { a.dirty with cache := Tab.del a.dirty.cache k, wb := Tab.del a.dirty.wb k, dram := Tab.setD a.dirty.dram k (2 ^ 512 - 1) 0 } }
        u = ((d.count (Ctr.dev 2) 1).dramUse 3 1).linesPend)) ∧
  -- DL_LINE_WRITEBACK (R24, R302): behind an older request of tier 1 the line has taken its place there.
  (∀ (j : Fin 256) (line : BitVec 32) (r : DramRes) (k x : Nat) (s : State), s.up = true → k = j.val * 2 ^ 24 + line.toNat % 2 ^ 24 →
     Tab.get? s.dirty.cache k = some x → s.dirty.zeroing.contains j.val = false →
     (s.wbAsk [k]).oldestRead (Tab.getD (s.wbAsk [k]).dirty.wb k 0) = false →
     ∃ u : State, exec (.dlLineWriteback j line r) s = .next u.after ∧
       u = s.wbAsk [k]) ∧
  -- HARVEST_GO (R302, R304): the epochs of an enabled slot swap, and the lines of the closed one go to tier 1.
  (∀ (a : State) (src : Path) (v : Word) (s : State), s.Admits src 0x45 0x108 (2 ^ 63 + v.toNat % 2 ^ 61) → s.get F.DIRTY.DL_HARVEST.STATE = 0 →
     a = (s.charged src).sets [(F.DIRTY.DL_HARVEST.MODE, bitsOf (2 ^ 63 + v.toNat % 2 ^ 61) 60 60),
     (F.DIRTY.DL_HARVEST.TC, bitsOf (2 ^ 63 + v.toNat % 2 ^ 61) 59 57),
     (F.DIRTY.DL_HARVEST.DEST_VH, bitsOf (2 ^ 63 + v.toNat % 2 ^ 61) 56 52),
     (F.DIRTY.DL_HARVEST.SLOT, bitsOf (2 ^ 63 + v.toNat % 2 ^ 61) 51 44), (F.DIRTY.DL_HARVEST.IRQ_EN, bitsOf (2 ^ 63 + v.toNat % 2 ^ 61) 32 32)] →
     a.get (F.DIRTY.DL_SLOT0.EN a.hvSlot) = 1 → a.get F.DIRTY.DL_HARVEST.DEST_VH < 24 →
     a.get (F.VH.VH_BIND.STATE (a.get F.DIRTY.DL_HARVEST.DEST_VH)) = 2 → a.get (F.GW.GW_RID.VALID (a.get F.DIRTY.DL_HARVEST.DEST_VH)) = 1 →
     ∃ u : State, exec (.harvestGo src v) s = .next u.after ∧
       (let b := ((a.sets [(F.DIRTY.DL_SLOT0.OPEN a.hvSlot, 1 - a.get (F.DIRTY.DL_SLOT0.OPEN a.hvSlot)), (F.DIRTY.DL_HARVEST.RESULT, 0),
          (F.DIRTY.DL_HARVEST.FAULT, 0)]).hvState 1)
        u = b.wbAsk ((b.dirty.cache.map Prod.fst).filter fun k => k / 2 ^ 23 == 2 * a.hvSlot + b.hvEpoch))) ∧
  -- HARVEST_ABORT (R305): an unfinished harvest goes to its merge.
  (∀ (src : Path) (v : Word) (s : State), s.Admits src 0x45 0x108 (2 ^ 62 + v.toNat % 2 ^ 61) → 1 ≤ s.get F.DIRTY.DL_HARVEST.STATE →
     s.get F.DIRTY.DL_HARVEST.STATE ≤ 4 →
     ∃ u : State, exec (.harvestAbort src v) s = .next u.after ∧
       u = (s.charged src).hvMerge true) ∧
  -- HARVEST_DONE (R304): software has read the bitmap; the clear begins.
  (∀ (src : Path) (v : Word) (s : State), s.Admits src 0x45 0x108 (2 ^ 61 + v.toNat % 2 ^ 61) → s.get F.DIRTY.DL_HARVEST.STATE = 4 →
     ∃ u : State, exec (.harvestDoneCmd src v) s = .next u.after ∧
       u = (s.charged src).hvState 5) ∧
  -- HARVEST_FLUSH_DONE (R305): no line of the closed epoch is cached; the drain begins.
  (∀ (s : State), s.up = true → s.get F.DIRTY.DL_HARVEST.STATE = 1 → s.dirty.zeroing.contains s.hvSlot = false →
     (s.dirty.cache.any fun e => e.1 / 2 ^ 23 == 2 * s.hvSlot + s.hvEpoch) = false →
     ∃ u : State, exec .harvestFlushDone s = .next u.after ∧
       u = s.hvState 2) ∧
  -- HARVEST_DRAIN_DONE (R305): by MODE the bitmap is for software, or its delivery begins.
  (∀ (s : State), s.up = true → s.get F.DIRTY.DL_HARVEST.STATE = 2 →
     (s.trainList.any fun t => t.inBuffer && t.dl == some (s.hvSlot, s.hvEpoch)) = false →
     (s.core.gwWait.any fun e => e.2.any fun g => g.tr.dl == some (s.hvSlot, s.hvEpoch)) = false →
     ∃ u : State, exec .harvestDrainDone s = .next u.after ∧
       (s.get F.DIRTY.DL_HARVEST.MODE = 1 → u = s.hvState 4) ∧
         (s.get F.DIRTY.DL_HARVEST.MODE = 0 → s.hvReach = true →
         u = (({ s with dirty := { s.dirty with ids := [], sendAt := 0 } } : State).hvState 3).hvDeliver) ∧
         (s.get F.DIRTY.DL_HARVEST.MODE = 0 → s.hvReach = false → u = s.hvMerge false)) ∧
  -- HARVEST_DELIVER_DONE (R305): the last bitmap write has left; the clear begins.
  (∀ (s : State), s.up = true → s.get F.DIRTY.DL_HARVEST.STATE = 3 → s.hvReach = true → s.hvSent = true →
     ∃ u : State, exec .harvestDeliverDone s = .next u.after ∧
       u = s.hvIrq.hvState 5) ∧
  -- HARVEST_CLEAR_DONE (R305, R387): paid for block by block, the closed bitmap is gone and the harvest is done.
  (∀ (s : State), s.up = true → s.get F.DIRTY.DL_HARVEST.STATE = 5 → s.canPay 2 0 (s.dlBlocks s.hvSlot) = true →
     ∃ u : State, exec .harvestClearDone s = .next u.after ∧
       (let a := (s.spend 2 0 (s.dlBlocks s.hvSlot) 0x45).dlErase s.hvSlot s.hvEpoch
        u = ((if a.flag F.DIRTY.DL_HARVEST.MODE then a.hvIrq else a).set F.DIRTY.DL_HARVEST.RESULT 1).hvState 0)) ∧
  -- HARVEST_MERGE_DONE (R305, R387): with its blocks paid for the closed epoch joins the open one; the harvest ended without delivery.
  (∀ (s : State), s.up = true → s.get F.DIRTY.DL_HARVEST.STATE = 6 → s.dirty.zeroing.contains s.hvSlot = false →
     s.canPay 2 0 (4 * s.dlBlocks s.hvSlot) = true →
     ∃ u : State, exec .harvestMergeDone s = .next u.after ∧
       u.get F.DIRTY.DL_HARVEST.STATE = 0 ∧ u.get F.DIRTY.DL_HARVEST.RESULT = (if s.dirty.abort then 3 else 4) ∧
         u.dirty.cache = s.dirty.cache.filter (fun e => e.1 / 2 ^ 23 != 2 * s.hvSlot + s.hvEpoch) ∧
         (u.dirty.dram.all fun e => e.1 / 2 ^ 23 != 2 * s.hvSlot + s.hvEpoch) = true)

/-- The rows of the Hut's accesses complete. A read, a write, a reserving read, a conditional write and an AtomicOp for which the Hut has room, a
buffered write at its deadline, a reservation's time limit and the zeroing of a range for which the TABLE class has accesses left answer a next state
with the effect of R310 to R327 and R337. (11_hut_ordering.md) -/
def Obligations.HutRowsComplete : Prop :=
  -- HUT_DEVICE_READ (R315): held by a fence of its VH, or performed.
  (∀ (r : HutReq) (s : State), s.up = true → s.hutRoom r.vh.val = true →
     ∃ u : State, exec (.hutDeviceRead r) s = .next u.after ∧
       (let x : HutAcc := { op := 0, r := r, atom := none }
        u = if (s.vctl r.vh.val).holding then
            (s.setVctl r.vh.val { s.vctl r.vh.val with held := (s.vctl r.vh.val).held ++ [x] }).hutHeldSts
          else s.hutDo x)) ∧
  -- HUT_DEVICE_WRITE (R315).
  (∀ (r : HutReq) (s : State), s.up = true → s.hutRoom r.vh.val = true →
     ∃ u : State, exec (.hutDeviceWrite r) s = .next u.after ∧
       (let x : HutAcc := { op := 1, r := r, atom := none }
        u = if (s.vctl r.vh.val).holding then
            (s.setVctl r.vh.val { s.vctl r.vh.val with held := (s.vctl r.vh.val).held ++ [x] }).hutHeldSts
          else s.hutDo x)) ∧
  -- HUT_NORMAL_READ (R316).
  (∀ (r : HutReq) (s : State), s.up = true → s.hutRoom r.vh.val = true →
     ∃ u : State, exec (.hutNormalRead r) s = .next u.after ∧
       (let x : HutAcc := { op := 2, r := r, atom := none }
        u = if (s.vctl r.vh.val).holding then
            (s.setVctl r.vh.val { s.vctl r.vh.val with held := (s.vctl r.vh.val).held ++ [x] }).hutHeldSts
          else s.hutDo x)) ∧
  -- HUT_NORMAL_WRITE (R316).
  (∀ (r : HutReq) (s : State), s.up = true → s.hutRoom r.vh.val = true →
     ∃ u : State, exec (.hutNormalWrite r) s = .next u.after ∧
       (let x : HutAcc := { op := 3, r := r, atom := none }
        u = if (s.vctl r.vh.val).holding then
            (s.setVctl r.vh.val { s.vctl r.vh.val with held := (s.vctl r.vh.val).held ++ [x] }).hutHeldSts
          else s.hutDo x)) ∧
  -- HUT_RESERVE_READ (R321).
  (∀ (r : HutReq) (s : State), s.up = true → s.hutRoom r.vh.val = true →
     ∃ u : State, exec (.hutReserveRead r) s = .next u.after ∧
       (let x : HutAcc := { op := 4, r := r, atom := none }
        u = if (s.vctl r.vh.val).holding then
            (s.setVctl r.vh.val { s.vctl r.vh.val with held := (s.vctl r.vh.val).held ++ [x] }).hutHeldSts
          else s.hutDo x)) ∧
  -- HUT_CONDITIONAL_WRITE (R322).
  (∀ (r : HutReq) (s : State), s.up = true → s.hutRoom r.vh.val = true →
     ∃ u : State, exec (.hutConditionalWrite r) s = .next u.after ∧
       (let x : HutAcc := { op := 5, r := r, atom := none }
        u = if (s.vctl r.vh.val).holding then
            (s.setVctl r.vh.val { s.vctl r.vh.val with held := (s.vctl r.vh.val).held ++ [x] }).hutHeldSts
          else s.hutDo x)) ∧
  -- HUT_ATOMIC (R325).
  (∀ (k : AtomKind) (r : HutReq) (s : State), s.up = true → s.hutRoom r.vh.val = true →
     ∃ u : State, exec (.hutAtomic k r) s = .next u.after ∧
       (let x : HutAcc := { op := 6, r := r, atom := some k }
        u = if (s.vctl r.vh.val).holding then
            (s.setVctl r.vh.val { s.vctl r.vh.val with held := (s.vctl r.vh.val).held ++ [x] }).hutHeldSts
          else s.hutDo x)) ∧
  -- NORMAL_WRITE_DEADLINE (R316): the oldest write of a bank is performed.
  (∀ (bank : Fin 32) (w : HutWr) (l : List HutWr) (s : State), s.up = true → s.hutBuf bank.val = w :: l →
     ∃ u : State, exec (.normalWriteDeadline bank) s = .next u.after ∧
       u = ((s.setHutBuf bank.val l).hutStore 48 w.vh w.rid w.addr w.data w.be).hutResolve w.train) ∧
  -- RSV_TIMEOUT (R323): the reservation is cleared with CAUSE 3 and counted.
  (∀ (m : Fin 2048) (x : Monitor) (s : State), s.up = true → s.hut.mons[m.val]? = some x → x.held = true →
     ∃ u : State, exec (.rsvTimeout m) s = .next u.after ∧
       u = (s.clearRes (fun y => y.vh == x.vh && y.rid == x.rid) 3).addSat F.HUT.HUT_STS.RSV_TIMEOUTS 1) ∧
  -- HUT_ZERO (R337): the clear of a range starts.
  (∀ (src : Path) (v : Word) (s : State), s.Admits src 0x48 0x120 (withBit v.toNat 63 true) → s.hut.zero = none →
     ∃ u : State, exec (.hutZero src v) s = .next u.after ∧
       u.get F.HUT.ZERO.BUSY = 1 ∧ u.hut.zero = some (bitsOf v.toNat 22 12 * 4096, bitsOf v.toNat 47 36 * 4096)) ∧
  -- HUT_ZERO_DONE (R337): the range reads zero, without error, its reservations are cleared and BUSY is 0.
  (∀ (b n : Nat) (s : State), s.up = true → s.hut.zero = some (b, n) → s.canPay 2 (n / 64) 0 = true →
     ∃ u : State, exec .hutZeroDone s = .next u.after ∧
       u.get F.HUT.ZERO.BUSY = 0 ∧ u.hut.zero = none ∧ u.hut.mem = s.hut.mem.filter (fun c => !(b ≤ c.1 && c.1 < b + n)) ∧
         u.hut.ue = s.hut.ue.filter (fun w => !(b / 8 ≤ w && w < (b + n) / 8)))

/-- The rows of fences and doorbells complete. Outside BASECAMP a fence with none pending and its next stamp unused, a doorbell that its target allows
and the read of pending doorbells, and in any phase a fence's arrival, its end and its time limit answer a next state with the effect of R326 to R330.
(11_hut_ordering.md) -/
def Obligations.FenceRowsComplete : Prop :=
  -- FENCE (R326): the fence is pending and covers the writes stamped before it.
  (∀ (vh : VhId) (v : Word) (s : State), s.up = true → s.phase ≠ 1 → (s.vctl vh.val).st ≠ 1 →
     s.trainList.any (fun t => t.stamp == some (vh.val, ((s.vctl vh.val).stamp + 1) % 8)) = false →
     (s.core.miss.any fun e => e.2.any fun p => p.stamp == some (vh.val, ((s.vctl vh.val).stamp + 1) % 8)) = false →
     ∃ u : State, exec (.fence vh v) s = .next u.after ∧
       u = (s.setVctl vh.val { s.vctl vh.val with
           refused := false, refuseCode := 0, seq := ((s.vctl vh.val).seq + 1) % 65536, loss := 0, outstanding := 0, firstCause := 0, lossAddr := 0,
           scope := bitOf v.toNat 0, irq := bitOf v.toNat 1, st := 1, stamp := ((s.vctl vh.val).stamp + 1) % 8, holding := false }).count
             (Ctr.vh vh.val 21) 1) ∧
  -- FENCE_ARRIVAL (R327): the buffered writes of the VH are performed and its later accesses are held.
  (∀ (vh : VhId) (s : State), s.up = true → (s.vctl vh.val).st = 1 →
     ∃ u : State, exec (.fenceArrival vh) s = .next u.after ∧
       (let a := s.hutDrainVh vh.val
        u = a.setVctl vh.val { a.vctl vh.val with holding := true })) ∧
  -- FENCE_DONE (R328): every covered write is resolved; the fence ends in STATE 2.
  (∀ (vh : VhId) (s : State), s.up = true → (s.vctl vh.val).st = 1 → s.openWrites vh.val = [] → s.openPend vh.val = 0 →
     (s.hut.buf.any fun e => e.2.any fun w => w.vh == vh.val && !(s.vctl vh.val).holding) = false →
     ∃ u : State, exec (.fenceDone vh) s = .next u.after ∧
       u = s.fenceEnd vh.val 2) ∧
  -- FENCE_TIMEOUT (R328): the fence ends in STATE 3 with the writes outstanding counted.
  (∀ (vh : VhId) (s : State), s.up = true → (s.vctl vh.val).st = 1 →
     ∃ u : State, exec (.fenceTimeout vh) s = .next u.after ∧
       u = ((s.setVctl vh.val { s.vctl vh.val with outstanding := min 65535 ((s.openWrites vh.val).length + s.openPend vh.val) }).raise
           Ev.FENCE_TIMEOUT { inst := vh.val, key := vh.val, recC := 0 }).fenceEnd vh.val 3) ∧
  -- DB_RING (R330): the writes of the VH are performed, then its bit pends at the target, which is interrupted when it was clear.
  (∀ (vh target : VhId) (src : SrcId) (rid : BitVec 16) (data : BitVec 32) (s : State), s.up = true → s.phase ≠ 1 →
     bitOf (s.get (F.HUT.DB_ALLOW.FROM target.val)) vh.val = true →
     ∃ u : State, exec (.dbRing vh src rid target data) s = .next u.after ∧
       (let a := s.hutDrainVh vh.val
        let x := a.vctl target.val
        let b := ((a.setVctl target.val { x with dbPend := withBit x.dbPend vh.val true, dbData := Tab.setD x.dbData vh.val data.toNat 0 }).count
          (Ctr.vh vh.val 24) 1).count (Ctr.vh target.val 25) 1
        u = if (!bitOf x.dbPend vh.val) && b.flag (F.HUT.DB_ALLOW.IRQ_EN target.val) then b.raiseMsix target.val 4 else b)) ∧
  -- DB_PEND_READ (R330): the pending bits are answered and cleared.
  (∀ (vh : VhId) (s : State), s.up = true → s.phase ≠ 1 →
     ∃ u : State, exec (.dbPendRead vh) s = .next u.after ∧
       u = (s.setVctl vh.val { s.vctl vh.val with dbPend := 0 }).emit (.regData vh.val 0 .sc [(s.vctl vh.val).dbPend]))

/-- An SPDM request changes the management unit and its answer alone. Each of ten rows of SPDM and debug unlock (GET_VERSION to KEY_EXCHANGE,
DBG_NONCE, DBG_NONCE_EXPIRY) in every state in service answers a next state, and its own effect leaves everything but the management unit's session
state, what goes out, and the count of free values: every register field, train, link, lane, table and memory is unchanged, but that GET_VERSION,
which ends its requester's sessions, may lock the debug port (DBG_STS.UNLOCKED). (16_management_access.md; 00_scope.md) -/
def Obligations.SpdmFrame : Prop :=
  -- GET_VERSION.
  (∀ (s : State), s.up = true →
     ∃ u : State, exec .getVersion s = .next u.after ∧
       u = { s with mgmt := u.mgmt, out := u.out, freeCtr := u.freeCtr, flds := u.flds } ∧
         (∀ f : Fld, f.key ≠ F.ATTEST.DBG_STS.UNLOCKED.key → u.get f = s.get f)) ∧
  -- GET_CAPABILITIES.
  (∀ (s : State), s.up = true →
     ∃ u : State, exec .getCapabilities s = .next u.after ∧
       u = { s with mgmt := u.mgmt, out := u.out, freeCtr := u.freeCtr }) ∧
  -- NEGOTIATE_ALGORITHMS.
  (∀ (p s3 : Bool) (s : State), s.up = true →
     ∃ u : State, exec (.negotiateAlgorithms p s3) s = .next u.after ∧
       u = { s with mgmt := u.mgmt, out := u.out, freeCtr := u.freeCtr }) ∧
  -- GET_DIGESTS.
  (∀ (s : State), s.up = true →
     ∃ u : State, exec .getDigests s = .next u.after ∧
       u = { s with mgmt := u.mgmt, out := u.out, freeCtr := u.freeCtr }) ∧
  -- GET_CERTIFICATE.
  (∀ (slot : BitVec 4) (off len : BitVec 16) (s : State), s.up = true →
     ∃ u : State, exec (.getCertificate slot off len) s = .next u.after ∧
       u = { s with mgmt := u.mgmt, out := u.out, freeCtr := u.freeCtr }) ∧
  -- CHALLENGE.
  (∀ (slot : BitVec 4) (s : State), s.up = true →
     ∃ u : State, exec (.challenge slot) s = .next u.after ∧
       u = { s with mgmt := u.mgmt, out := u.out, freeCtr := u.freeCtr }) ∧
  -- GET_MEASUREMENTS.
  (∀ (i : BitVec 8) (sg : Bool) (s : State), s.up = true →
     ∃ u : State, exec (.getMeasurements i sg) s = .next u.after ∧
       u = { s with mgmt := u.mgmt, out := u.out, freeCtr := u.freeCtr }) ∧
  -- KEY_EXCHANGE.
  (∀ (slot : BitVec 4) (rs : BitVec 16) (s : State), s.up = true →
     ∃ u : State, exec (.keyExchange slot rs) s = .next u.after ∧
       u = { s with mgmt := u.mgmt, out := u.out, freeCtr := u.freeCtr }) ∧
  -- DBG_NONCE.
  (∀ (id : BitVec 32) (s : State), s.up = true →
     ∃ u : State, exec (.dbgNonce id) s = .next u.after ∧
       u = { s with mgmt := u.mgmt, out := u.out, freeCtr := u.freeCtr }) ∧
  -- DBG_NONCE_EXPIRY.
  (∀ (s : State), s.up = true →
     ∃ u : State, exec .dbgNonceExpiry s = .next u.after ∧
       u = { s with mgmt := u.mgmt, out := u.out, freeCtr := u.freeCtr })

/-- A TAP instruction changes the TAP alone. Each of the eight TAP instructions with power on answers a next state that differs only in the TAP's
instruction, its boundary register, the state of the outputs under HIGHZ and what goes out; no pin's reset or power state, register field, train,
link, lane, table or memory changes. (16_management_access.md) -/
def Obligations.TapFrame : Prop :=
  -- TAP_RESET.
  (∀ (s : State), s.pins.pwrOk = true →
     ∃ u : State, exec .tapReset s = .next u ∧
       u = { s with pins := { s.pins with ir := u.pins.ir, boundary := u.pins.boundary, highz := u.pins.highz }, out := u.out }) ∧
  -- BYPASS.
  (∀ (s : State), s.pins.pwrOk = true →
     ∃ u : State, exec .bypass s = .next u ∧
       u = { s with pins := { s.pins with ir := u.pins.ir, boundary := u.pins.boundary, highz := u.pins.highz }, out := u.out }) ∧
  -- IDCODE.
  (∀ (s : State), s.pins.pwrOk = true →
     ∃ u : State, exec .idcode s = .next u ∧
       u = { s with pins := { s.pins with ir := u.pins.ir, boundary := u.pins.boundary, highz := u.pins.highz }, out := u.out }) ∧
  -- SAMPLE_PRELOAD.
  (∀ (x v : BitVec 512) (s : State), s.pins.pwrOk = true →
     ∃ u : State, exec (.samplePreload x v) s = .next u ∧
       u = { s with pins := { s.pins with ir := u.pins.ir, boundary := u.pins.boundary, highz := u.pins.highz }, out := u.out }) ∧
  -- EXTEST.
  (∀ (x v : BitVec 512) (s : State), s.pins.pwrOk = true →
     ∃ u : State, exec (.extest x v) s = .next u ∧
       u = { s with pins := { s.pins with ir := u.pins.ir, boundary := u.pins.boundary, highz := u.pins.highz }, out := u.out }) ∧
  -- EXTEST_PULSE.
  (∀ (x v : BitVec 512) (s : State), s.pins.pwrOk = true →
     ∃ u : State, exec (.extestPulse x v) s = .next u ∧
       u = { s with pins := { s.pins with ir := u.pins.ir, boundary := u.pins.boundary, highz := u.pins.highz }, out := u.out }) ∧
  -- EXTEST_TRAIN.
  (∀ (x v : BitVec 512) (s : State), s.pins.pwrOk = true →
     ∃ u : State, exec (.extestTrain x v) s = .next u ∧
       u = { s with pins := { s.pins with ir := u.pins.ir, boundary := u.pins.boundary, highz := u.pins.highz }, out := u.out }) ∧
  -- HIGHZ.
  (∀ (s : State), s.pins.pwrOk = true →
     ∃ u : State, exec .highz s = .next u ∧
       u = { s with pins := { s.pins with ir := u.pins.ir, boundary := u.pins.boundary, highz := u.pins.highz }, out := u.out })

/-- A Hut read with no buffered write leaves every byte of memory. Each of HUT_DEVICE_READ, HUT_NORMAL_READ and HUT_RESERVE_READ, whatever its
partition, poison or fence makes of it, in every state in service in which no write is buffered, answers a next state whose own effect leaves the Hut
memory, the flash and the update staging buffer as they were. (11_hut_ordering.md) -/
def Obligations.HutReadFrame : Prop :=
  -- HUT_DEVICE_READ.
  (∀ (r : HutReq) (s : State), s.up = true → s.hut.buf = [] →
     ∃ u : State, exec (.hutDeviceRead r) s = .next u.after ∧
       u.hut.mem = s.hut.mem ∧ u.boot.flash = s.boot.flash ∧ u.boot.staging = s.boot.staging) ∧
  -- HUT_NORMAL_READ.
  (∀ (r : HutReq) (s : State), s.up = true → s.hut.buf = [] →
     ∃ u : State, exec (.hutNormalRead r) s = .next u.after ∧
       u.hut.mem = s.hut.mem ∧ u.boot.flash = s.boot.flash ∧ u.boot.staging = s.boot.staging) ∧
  -- HUT_RESERVE_READ.
  (∀ (r : HutReq) (s : State), s.up = true → s.hut.buf = [] →
     ∃ u : State, exec (.hutReserveRead r) s = .next u.after ∧
       u.hut.mem = s.hut.mem ∧ u.boot.flash = s.boot.flash ∧ u.boot.staging = s.boot.staging)

/-- No window update takes effect before its commit. Each of WIN_UPDATE_WRITE, WIN_UPDATE_CLEAR and WIN_UPDATE_DISCARD that is admitted answers a next
state in which every window entry in force, the entry cache, the aperture fields and every other register field (but QFULL; for a discard, the marks
of what is staged) read as before, and no train, link or lane has changed. (05_lookup_windows.md) -/
def Obligations.WindowUpdateFrame : Prop :=
  -- WIN_UPDATE_WRITE.
  (∀ (src : Path) (v : Word) (s : State), s.Admits src 0x40 0x100 (winOp v 1) →
     ∃ u : State, exec (.winUpdateWrite src v) s = .next u.after ∧
       (∀ i, u.wrtNow i = s.wrtNow i) ∧ u.xlat.cache = s.xlat.cache ∧ (∀ f : Fld, f.key ≠ F.XLAT.WIN_STATUS.QFULL.key → u.get f = s.get f) ∧
         u.core = s.core ∧ u.ports = s.ports ∧ u.lanes = s.lanes) ∧
  -- WIN_UPDATE_CLEAR.
  (∀ (src : Path) (v : Word) (s : State), s.Admits src 0x40 0x100 (winOp v 2) →
     ∃ u : State, exec (.winUpdateClear src v) s = .next u.after ∧
       (∀ i, u.wrtNow i = s.wrtNow i) ∧ u.xlat.cache = s.xlat.cache ∧ (∀ f : Fld, f.key ≠ F.XLAT.WIN_STATUS.QFULL.key → u.get f = s.get f) ∧
         u.core = s.core ∧ u.ports = s.ports ∧ u.lanes = s.lanes) ∧
  -- WIN_UPDATE_DISCARD.
  (∀ (src : Path) (v : Word) (s : State), s.Admits src 0x40 0x100 (winOp v 3) →
     ∃ u : State, exec (.winUpdateDiscard src v) s = .next u.after ∧
       (∀ i, u.wrtNow i = s.wrtNow i) ∧ u.xlat.cache = s.xlat.cache ∧
         (∀ f : Fld, f.key ∉ [(F.HDR.SHADOW_CTL.DIRTY 0x40).key, (F.HDR.PAGE_STS.DIRTY 0x40).key, (F.HDR.SHADOW_CTL.STAGERS 0x40).key] →
         u.get f = s.get f) ∧ u.core = s.core ∧ u.ports = s.ports ∧ u.lanes = s.lanes)
end

