-- ==== Sys2Proof/Laws/Bits.lean ====
section
/-! SUPPORT. Laws of the bit helpers: what a number's bits and fields are after one bit is set or cleared. -/
namespace Sys2Proof.Machine

theorem bitOf_lt_other (v : Nat) {i j : Nat} (h : j < i) : bitOf (v + 2 ^ i) j = bitOf v j := by
  obtain ⟨k, rfl⟩ : ∃ k, i = j + 1 + k := ⟨i - j - 1, by omega⟩
  have : v + 2 ^ (j + 1 + k) = v + 2 ^ j * (2 * 2 ^ k) := by
    rw [Nat.pow_add, Nat.pow_succ, Nat.mul_assoc]
  simp only [bitOf, this, Nat.add_mul_div_left _ _ (Nat.two_pow_pos j), Nat.add_mul_mod_self_left]

theorem bitOf_same_of_off (v i : Nat) (h : bitOf v i = false) : bitOf (v + 2 ^ i) i = true := by
  simp only [bitOf, beq_eq_false_iff_ne, beq_iff_eq, Nat.add_div_right _ (Nat.two_pow_pos i)] at *
  omega

/-- The bits above one that is off do not change when it is set. -/
theorem div_above_of_off (v i : Nat) (h : bitOf v i = false) : (v + 2 ^ i) / 2 ^ (i + 1) = v / 2 ^ (i + 1) := by
  simp only [bitOf, beq_eq_false_iff_ne] at h
  rw [Nat.pow_succ, ← Nat.div_div_eq_div_mul, ← Nat.div_div_eq_div_mul, Nat.add_div_right _ (Nat.two_pow_pos i)]
  omega

theorem bitOf_gt_other (v : Nat) {i j : Nat} (h : i < j) (hb : bitOf v i = false) : bitOf (v + 2 ^ i) j = bitOf v j := by
  obtain ⟨k, rfl⟩ : ∃ k, j = i + 1 + k := ⟨j - i - 1, by omega⟩
  simp only [bitOf]
  rw [Nat.pow_add, ← Nat.div_div_eq_div_mul, ← Nat.div_div_eq_div_mul, div_above_of_off v i hb]

theorem on_as_add (v i : Nat) (h : bitOf v i = true) : bitOf (v - 2 ^ i) i = false ∧ v - 2 ^ i + 2 ^ i = v := by
  have hp := Nat.two_pow_pos i
  have hle : 2 ^ i ≤ v := by
    rcases Nat.lt_or_ge v (2 ^ i) with hc | hc
    · simp [bitOf, Nat.div_eq_of_lt hc] at h
    · exact hc
  have e : v - 2 ^ i + 2 ^ i = v := Nat.sub_add_cancel hle
  refine ⟨?_, e⟩
  have : (v - 2 ^ i) / 2 ^ i + 1 = v / 2 ^ i := by rw [← Nat.add_div_right _ hp, e]
  simp only [bitOf, beq_iff_eq, beq_eq_false_iff_ne] at *
  omega

/-- The bit that was set or cleared. -/
@[simp] theorem bitOf_withBit_same (v i : Nat) (b : Bool) : bitOf (withBit v i b) i = b := by
  unfold withBit
  rcases h : bitOf v i with _ | _ <;> cases b <;> simp [h]
  · exact bitOf_same_of_off v i h
  · exact (on_as_add v i h).1

/-- The other bits. -/
theorem bitOf_withBit_other (v : Nat) {i j : Nat} (b : Bool) (h : j ≠ i) : bitOf (withBit v i b) j = bitOf v j := by
  unfold withBit
  rcases hb : bitOf v i with _ | _ <;> cases b <;> simp
  · rcases Nat.lt_or_gt_of_ne h with h | h
    · exact bitOf_lt_other v h
    · exact bitOf_gt_other v h hb
  · obtain ⟨h0, he⟩ := on_as_add v i hb
    conv => rhs; rw [← he]
    rcases Nat.lt_or_gt_of_ne h with h | h
    · exact (bitOf_lt_other _ h).symm
    · exact (bitOf_gt_other _ h h0).symm

theorem bitOf_eq_testBit (v i : Nat) : bitOf v i = v.testBit i := by
  rw [bitOf, Nat.testBit_eq_decide_div_mod_eq]; rfl

/-- A field of bits is unchanged by a bit outside it. -/
theorem bitsOf_withBit_other (v i hi lo : Nat) (b : Bool) (h : i < lo ∨ hi < i) (hl : lo ≤ hi) : bitsOf (withBit v i b) hi lo = bitsOf v hi lo := by
  apply Nat.eq_of_testBit_eq
  intro j
  simp only [bitsOf, Nat.testBit_mod_two_pow, Nat.testBit_div_two_pow]
  by_cases hj : j < hi + 1 - lo
  · simp only [hj, decide_true, Bool.true_and]
    rw [← bitOf_eq_testBit, ← bitOf_eq_testBit, bitOf_withBit_other]
    omega
  · simp [hj]

theorem withBit_lt (v i n : Nat) (b : Bool) (h : v < 2 ^ n) (hi : i < n) : withBit v i b < 2 ^ n := by
  apply Nat.lt_pow_two_of_testBit
  intro j hj
  rw [← bitOf_eq_testBit, bitOf_withBit_other _ _ (by omega), bitOf_eq_testBit]
  exact Nat.testBit_lt_two_pow (Nat.lt_of_lt_of_le h (Nat.pow_le_pow_right (by omega) hj))

/-- The low bits of a number are its field down from them. -/
theorem mod_eq_bitsOf (v n : Nat) : v % 2 ^ (n + 1) = bitsOf v n 0 := by simp [bitsOf]

@[simp] theorem withBit_word_mod (v : BitVec 64) (i : Nat) (b : Bool) (h : i < 64) : withBit v.toNat i b % 2 ^ 64 = withBit v.toNat i b :=
  Nat.mod_eq_of_lt (withBit_lt _ _ _ _ v.isLt h)

/-- The same with the modulus as the simplifier writes it. -/
@[simp] theorem withBit_word_mod_lit (v : BitVec 64) (i : Nat) (b : Bool) (h : i < 64) :
    withBit v.toNat i b % 18446744073709551616 = withBit v.toNat i b := withBit_word_mod v i b h
@[simp] theorem withBit_withBit_word_mod_lit (v : BitVec 64) (i j : Nat) (b c : Bool) (h : i < 64) (k : j < 64) :
    withBit (withBit v.toNat i b) j c % 18446744073709551616 = withBit (withBit v.toNat i b) j c :=
  Nat.mod_eq_of_lt (withBit_lt _ _ 64 _ (withBit_lt _ _ 64 _ v.isLt h) k)
@[simp] theorem word_mod_lit (v : BitVec 64) : v.toNat % 18446744073709551616 = v.toNat := Nat.mod_eq_of_lt v.isLt

theorem withBit_low (v i n : Nat) (b : Bool) (h : n ≤ i) : withBit v i b % 2 ^ n = v % 2 ^ n := by
  cases n with
  | zero => simp [Nat.mod_one]
  | succ n => rw [mod_eq_bitsOf, mod_eq_bitsOf, bitsOf_withBit_other _ _ _ _ _ (by omega) (by omega)]

end Sys2Proof.Machine
end

