-- ==== Sys2Proof/Laws/Tab.lean ====
section
/-! SUPPORT. What the operations on sparse tables and byte memories do: a read after a write, at the same key and at another, and that every
operation keeps the canonical form. -/
namespace Sys2Proof.Machine

/-! ### Reads after writes -/

@[simp] theorem Tab.get?_nil {α : Type} (k : Nat) : Tab.get? ([] : Tab α) k = none := rfl

@[simp] theorem Tab.get?_put_same {α : Type} (t : Tab α) (k : Nat) (v : α) : Tab.get? (Tab.put t k v) k = some v := by
  induction t with
  | nil => simp [Tab.put, Tab.get?]
  | cons e t ih =>
    obtain ⟨k', v'⟩ := e
    simp only [Tab.put]
    split
    · simp [Tab.get?]
    · split
      · simp [Tab.get?]
      · rename_i h
        simp [Tab.get?, h, ih]

theorem Tab.get?_put_other {α : Type} (t : Tab α) {j k : Nat} (v : α) (h : j ≠ k) : Tab.get? (Tab.put t k v) j = Tab.get? t j := by
  induction t with
  | nil => simp [Tab.put, Tab.get?, h]
  | cons e t ih =>
    obtain ⟨k', v'⟩ := e
    simp only [Tab.put]
    split
    · simp [Tab.get?, h]
    · split
      · rename_i h2
        subst h2
        simp [Tab.get?, h]
      · simp [Tab.get?, ih]

@[simp] theorem Tab.get?_del_same {α : Type} (t : Tab α) (k : Nat) : Tab.get? (Tab.del t k) k = none := by
  induction t with
  | nil => rfl
  | cons e t ih =>
    obtain ⟨k', v'⟩ := e
    simp only [Tab.del]
    split
    · exact ih
    · rename_i h
      simp [Tab.get?, h, ih]

theorem Tab.get?_del_other {α : Type} (t : Tab α) {j k : Nat} (h : j ≠ k) : Tab.get? (Tab.del t k) j = Tab.get? t j := by
  induction t with
  | nil => rfl
  | cons e t ih =>
    obtain ⟨k', v'⟩ := e
    simp only [Tab.del]
    split
    · rename_i h2
      subst h2
      simp [Tab.get?, h, ih]
    · simp [Tab.get?, ih]

/-- A read after a write. -/
theorem Tab.getD_put {α : Type} (t : Tab α) (j k : Nat) (v d : α) : Tab.getD (Tab.put t k v) j d = if j = k then v else Tab.getD t j d := by
  by_cases h : j = k
  · subst h
    simp [Tab.getD]
  · simp [Tab.getD, Tab.get?_put_other t v h, h]

/-- A read after a write that keeps no default entries. -/
theorem Tab.getD_setD {α : Type} [DecidableEq α] (t : Tab α) (j k : Nat) (v d : α) :
    Tab.getD (Tab.setD t k v d) j d = if j = k then v else Tab.getD t j d := by
  unfold Tab.setD
  split
  · rename_i hv
    by_cases h : j = k
    · subst h
      simp [Tab.getD, hv]
    · simp [Tab.getD, Tab.get?_del_other t h, h]
  · exact Tab.getD_put t j k v d

/-- The same where the read takes another default than the write. -/
theorem Tab.getD_setD_other {α : Type} [DecidableEq α] (t : Tab α) {j k : Nat} (v d d' : α) (h : j ≠ k) :
    Tab.getD (Tab.setD t k v d) j d' = Tab.getD t j d' := by
  unfold Tab.setD
  split
  · simp [Tab.getD, Tab.get?_del_other t h]
  · simp [Tab.getD, Tab.get?_put_other t v h]

@[simp] theorem Tab.get?_upd_same {α : Type} (t : Tab α) (k : Nat) (f : α → α) : Tab.get? (Tab.upd t k f) k = (Tab.get? t k).map f := by
  unfold Tab.upd
  split
  · rename_i v h
    simp [h]
  · rename_i h
    simp [h]

theorem Tab.get?_upd_other {α : Type} (t : Tab α) {j k : Nat} (f : α → α) (h : j ≠ k) : Tab.get? (Tab.upd t k f) j = Tab.get? t j := by
  unfold Tab.upd
  split
  · exact Tab.get?_put_other t _ h
  · rfl

/-! ### The canonical form -/

/-- Every key of a table is at least `k`. -/
def Tab.above {α : Type} (t : Tab α) (k : Nat) : Prop := ∀ e ∈ t, k ≤ e.1

theorem Tab.sorted_cons {α : Type} (e : Nat × α) (t : Tab α) : Tab.sorted (e :: t) = true ↔ (Tab.above t (e.1 + 1) ∧ Tab.sorted t = true) := by
  induction t generalizing e with
  | nil => simp [Tab.sorted, Tab.above]
  | cons b t ih =>
    simp only [Tab.sorted, Bool.and_eq_true, decide_eq_true_eq]
    constructor
    · intro ⟨h, hs⟩
      refine ⟨?_, hs⟩
      intro x hx
      rcases List.mem_cons.mp hx with rfl | hx
      · exact h
      · have := ((ih b).mp hs).1 x hx
        omega
    · intro ⟨h, hs⟩
      exact ⟨h b (by simp), hs⟩

theorem Tab.put_mem {α : Type} (t : Tab α) (k : Nat) (v : α) : ∀ e ∈ Tab.put t k v, e = (k, v) ∨ e ∈ t := by
  induction t with
  | nil => simp [Tab.put]
  | cons b t ih =>
    intro e he
    simp only [Tab.put] at he
    split at he
    · simpa using he
    · split at he
      · rcases List.mem_cons.mp he with h | h
        · exact .inl h
        · exact .inr (List.mem_cons_of_mem _ h)
      · rcases List.mem_cons.mp he with h | h
        · exact .inr (by simp [h])
        · rcases ih e h with h | h
          · exact .inl h
          · exact .inr (List.mem_cons_of_mem _ h)

theorem Tab.del_mem {α : Type} (t : Tab α) (k : Nat) : ∀ e ∈ Tab.del t k, e ∈ t := by
  induction t with
  | nil => simp [Tab.del]
  | cons b t ih =>
    intro e he
    simp only [Tab.del] at he
    split at he
    · exact List.mem_cons_of_mem _ (ih e he)
    · rcases List.mem_cons.mp he with h | h
      · simp [h]
      · exact List.mem_cons_of_mem _ (ih e h)

theorem Tab.sorted_put {α : Type} (t : Tab α) (k : Nat) (v : α) (h : Tab.sorted t = true) : Tab.sorted (Tab.put t k v) = true := by
  induction t with
  | nil => rfl
  | cons b t ih =>
    obtain ⟨ha, hs⟩ := (Tab.sorted_cons b t).mp h
    simp only [Tab.put]
    split
    · rename_i hk
      refine (Tab.sorted_cons _ _).mpr ⟨?_, h⟩
      intro e he
      rcases List.mem_cons.mp he with rfl | he
      · exact hk
      · have := ha e he
        simp only
        omega
    · split
      · rename_i hk
        exact (Tab.sorted_cons _ _).mpr ⟨by simpa [hk] using ha, hs⟩
      · rename_i h1 h2
        refine (Tab.sorted_cons _ _).mpr ⟨?_, ih hs⟩
        intro e he
        rcases Tab.put_mem t k v e he with rfl | he
        · simp only
          omega
        · exact ha e he

theorem Tab.sorted_del {α : Type} (t : Tab α) (k : Nat) (h : Tab.sorted t = true) : Tab.sorted (Tab.del t k) = true := by
  induction t with
  | nil => rfl
  | cons b t ih =>
    obtain ⟨ha, hs⟩ := (Tab.sorted_cons b t).mp h
    simp only [Tab.del]
    split
    · exact ih hs
    · exact (Tab.sorted_cons _ _).mpr ⟨fun e he => ha e (Tab.del_mem t k e he), ih hs⟩

/-- Writing keeps the canonical form. -/
theorem Tab.wf_setD {α : Type} [DecidableEq α] (t : Tab α) (k : Nat) (v d : α) (h : Tab.wf t d = true) : Tab.wf (Tab.setD t k v d) d = true := by
  simp only [Tab.wf, Bool.and_eq_true, List.all_eq_true, decide_eq_true_eq] at h ⊢
  unfold Tab.setD
  split
  · exact ⟨Tab.sorted_del t k h.1, fun e he => h.2 e (Tab.del_mem t k e he)⟩
  · rename_i hv
    refine ⟨Tab.sorted_put t k v h.1, fun e he => ?_⟩
    rcases Tab.put_mem t k v e he with rfl | he
    · exact hv
    · exact h.2 e he

theorem Tab.sorted_filter {α : Type} (t : Tab α) (p : Nat × α → Bool) (h : Tab.sorted t = true) : Tab.sorted (t.filter p) = true := by
  induction t with
  | nil => rfl
  | cons b t ih =>
    obtain ⟨ha, hs⟩ := (Tab.sorted_cons b t).mp h
    rw [List.filter_cons]
    split
    · exact (Tab.sorted_cons _ _).mpr ⟨fun e he => ha e (List.mem_filter.mp he).1, ih hs⟩
    · exact ih hs

/-- Removing entries keeps the canonical form. -/
theorem Tab.wf_filter {α : Type} [DecidableEq α] (t : Tab α) (p : Nat × α → Bool) (d : α) (h : Tab.wf t d = true) : Tab.wf (t.filter p) d = true := by
  simp only [Tab.wf, Bool.and_eq_true, List.all_eq_true, decide_eq_true_eq] at h ⊢
  exact ⟨Tab.sorted_filter t p h.1, fun e he => h.2 e (List.mem_filter.mp he).1⟩

/-! ### Byte memories -/

/-- A byte read after a byte written. -/
theorem Memory.read_write (m : Memory) (d : BitVec 8) (a b : Nat) (v : BitVec 8) :
    Memory.read (Memory.write m d a v) d b = if b = a then v else Memory.read m d b := Tab.getD_setD m b a v d

/-- A write keeps the canonical form. -/
theorem Memory.wf_write (m : Memory) (d : BitVec 8) (a : Nat) (v : BitVec 8) (h : Memory.wf m d = true) :
    Memory.wf (Memory.write m d a v) d = true := Tab.wf_setD m a v d h

/-- Erasing a range keeps the canonical form. -/
theorem Memory.wf_filter (m : Memory) (d : BitVec 8) (p : Host.Cell → Bool) (h : Memory.wf m d = true) : Memory.wf (m.filter p) d = true :=
  Tab.wf_filter m p d h

/-- Writing bytes keeps the canonical form. -/
theorem Memory.wf_writeBytes (m : Memory) (d : BitVec 8) (a : Nat) (l : List (BitVec 8)) (h : Memory.wf m d = true) :
    Memory.wf (Memory.writeBytes m d a l) d = true := by
  induction l generalizing m a with
  | nil => exact h
  | cons b l ih => exact ih _ _ (Memory.wf_write m d a b h)

/-- Bytes below and above those written are unchanged; those written hold what was written. -/
theorem Memory.read_writeBytes (m : Memory) (d : BitVec 8) (a b : Nat) (l : List (BitVec 8)) :
    Memory.read (Memory.writeBytes m d a l) d b = if a ≤ b ∧ b < a + l.length then l.getD (b - a) 0 else Memory.read m d b := by
  induction l generalizing m a with
  | nil =>
    have h : ¬ (a ≤ b ∧ b < a + ([] : List (BitVec 8)).length) := by
      simp only [List.length_nil]
      omega
    rw [if_neg h]
    rfl
  | cons x l ih =>
    simp only [Memory.writeBytes, ih, Memory.read_write, List.length_cons]
    by_cases h1 : b = a
    · have h2 : ¬ (a + 1 ≤ b ∧ b < a + 1 + l.length) := by omega
      have h3 : a ≤ b ∧ b < a + (l.length + 1) := by omega
      rw [if_neg h2, if_pos h3, if_pos h1, h1, Nat.sub_self, List.getD_cons_zero]
    · by_cases h2 : a + 1 ≤ b ∧ b < a + 1 + l.length
      · have h3 : a ≤ b ∧ b < a + (l.length + 1) := by omega
        have h4 : b - a = b - (a + 1) + 1 := by omega
        rw [if_pos h2, if_pos h3, h4, List.getD_cons_succ]
      · have h3 : ¬ (a ≤ b ∧ b < a + (l.length + 1)) := by omega
        rw [if_neg h2, if_neg h3, if_neg h1]

end Sys2Proof.Machine
end

