-- ==== Sys2Proof/Laws/Ops.lean ====
section
/-! SUPPORT. Laws of the register fields and of the shared operations: what a field reads after a write, and which operations leave the
register fields as they are. -/
namespace Sys2Proof.Machine

/-! ### Reading a field after a write -/

/-- A field reads what was written to it, as far as it is wide. -/
@[simp] theorem State.get_set_same (s : State) (f : Fld) (v : Nat) : (s.set f v).get f = v % 2 ^ f.width := by
  simp [State.get, State.set, Tab.getD_setD]

/-- A write of a field leaves every field at another bit as it is. -/
theorem State.get_set_other (s : State) (f g : Fld) (v : Nat) (h : g.key ≠ f.key) : (s.set f v).get g = s.get g := by
  simp only [State.get, State.set]
  exact Tab.getD_setD_other _ _ _ _ h

/-- Fields of equal register tables read alike. -/
theorem State.get_of_flds {s t : State} (h : t.flds = s.flds) (f : Fld) : t.get f = s.get f := by
  simp only [State.get, h]

@[simp] theorem State.sets_nil (s : State) : s.sets [] = s := rfl
@[simp] theorem State.sets_cons (s : State) (f : Fld) (v : Nat) (l : List (Fld × Nat)) : s.sets ((f, v) :: l) = (s.set f v).sets l := rfl

theorem State.flag_eq (s : State) (f : Fld) : s.flag f = (s.get f != 0) := rfl

/-! ### Operations that leave the register fields alone -/

@[simp] theorem State.flds_ite (c : Prop) [Decidable c] (s t : State) : (if c then s else t).flds = if c then s.flds else t.flds := by
  split <;> rfl
@[simp] theorem State.flds_emit (s : State) (o : Out) : (s.emit o).flds = s.flds := rfl
@[simp] theorem State.flds_setCtr (s : State) (i n : Nat) : (s.setCtr i n).flds = s.flds := rfl
@[simp] theorem State.flds_count (s : State) (i n : Nat) : (s.count i n).flds = s.flds := by
  unfold State.count; split
  · rfl
  · dsimp only; split <;> simp
@[simp] theorem State.flds_dramUse (s : State) (i n : Nat) : (s.dramUse i n).flds = s.flds := State.flds_count _ _ _
@[simp] theorem State.flds_spend (s : State) (c r d p : Nat) : (s.spend c r d p).flds = s.flds := by
  unfold State.spend; dsimp only; split <;> simp
@[simp] theorem State.flds_charged (s : State) (src : Path) : (s.charged src).flds = s.flds := by
  unfold State.charged State.countAccess; split <;> simp
@[simp] theorem State.flds_submit (s : State) (src vh : Nat) (t : Tlp) : (s.submit src vh t).flds = s.flds := rfl
@[simp] theorem State.flds_raiseMsix (s : State) (v k : Nat) : (s.raiseMsix v k).flds = s.flds := by
  simp [State.raiseMsix]
@[simp] theorem State.flds_setCfg (s : State) (v f d x : Nat) : (s.setCfg v f d x).flds = s.flds := rfl
@[simp] theorem State.flds_orCfg (s : State) (v f d b : Nat) : (s.orCfg v f d b).flds = s.flds := rfl
@[simp] theorem State.flds_errUp (s : State) (v f n : Nat) : (s.errUp v f n).flds = s.flds := by
  unfold State.errUp; split <;> rfl
@[simp] theorem State.flds_devStatus (s : State) (v f n : Nat) (ur : Bool) : (s.devStatus v f n ur).flds = s.flds := by
  unfold State.devStatus; dsimp only; split <;> rfl
@[simp] theorem State.flds_aerLog (s : State) (v f b : Nat) (h : List Nat) : (s.aerLog v f b h).flds = s.flds := by
  unfold State.aerLog; dsimp only; split
  · rfl
  · split
    · rfl
    · simp only [List.range, List.range.loop, List.foldl_cons, List.foldl_nil, State.flds_setCfg]
@[simp] theorem State.flds_aer (s : State) (v f : Nat) (k : AerKind) (ce : Nat) (h : List Nat) : (s.aer v f k ce h).flds = s.flds := by
  unfold State.aer; split
  · rfl
  · dsimp only; split
    · simp
    · split <;> simp
  · dsimp only; split <;> simp
@[simp] theorem State.flds_notice (s : State) (r : LogRec) : (s.notice r).flds = s.flds := by
  unfold State.notice; dsimp only; split
  · rfl
  · simp

/-! ### Raising an event -/

/-- A field that raising an event never writes: outside the common header, and outside the pages of the sideband, the errors and the logbook. -/
abbrev Fld.still (f : Fld) : Prop :=
  0x100 ≤ f.key / 64 % 65536 ∧ f.key / 4194304 ≠ 0x06 ∧ f.key / 4194304 ≠ 0x58 ∧ f.key / 4194304 ≠ 0x59

/-- A field an event may write: of the common header or of one of those pages. -/
abbrev Fld.noisy (g : Fld) : Prop :=
  g.key / 64 % 65536 < 0x100 ∨ g.key / 4194304 = 0x06 ∨ g.key / 4194304 = 0x58 ∨ g.key / 4194304 = 0x59

theorem State.get_set_noisy (s : State) {f g : Fld} (v : Nat) (hf : f.still) (hg : g.noisy) : (s.set g v).get f = s.get f := by
  refine State.get_set_other _ _ _ _ fun e => ?_
  unfold Fld.still at hf
  unfold Fld.noisy at hg
  omega
theorem State.get_addSat_noisy (s : State) {f g : Fld} (n : Nat) (hf : f.still) (hg : g.noisy) : (s.addSat g n).get f = s.get f :=
  State.get_set_noisy s _ hf hg
theorem State.get_foldl {α : Type} (g : State → α → State) (f : Fld) (h : ∀ s x, (g s x).get f = s.get f) (l : List α) (s : State) :
    (l.foldl g s).get f = s.get f := by
  induction l generalizing s with
  | nil => rfl
  | cons x l ih => rw [List.foldl_cons, ih, h]

theorem State.get_mk (a b c d e f g h i j k l m n o p q r t u v w x y) (z : Fld) :
    State.get (State.mk a b c d e f g h i j k l m n o p q r t u v w x y) z = Tab.getD d z.key z.rst := rfl
theorem State.get_fold (s : State) (f : Fld) : Tab.getD s.flds f.key f.rst = s.get f := rfl
theorem State.get_ite (c : Prop) [Decidable c] (s t : State) (f : Fld) : (if c then s else t).get f = if c then s.get f else t.get f := by
  split <;> rfl

theorem State.get_showEvent (s : State) (page code : Nat) (b : Bool) {f : Fld} (hf : f.still) : (s.showEvent page code b).get f = s.get f := by
  have e (s : State) (v : Nat) {g : Fld} (hg : g.key / 64 % 65536 < 0x100) : (s.set g v).get f = s.get f := s.get_set_noisy v hf (.inl hg)
  unfold State.showEvent
  dsimp only
  split
  · rfl
  · simp only [State.get_ite, State.sets_cons, State.sets_nil]
    have h1 : (F.HDR.EVT_STS.EVT page).key / 64 % 65536 < 0x100 := by simp only [F.HDR.EVT_STS.EVT, fld]; omega
    have h2 : (F.HDR.EVT_FIRST.VALID page).key / 64 % 65536 < 0x100 := by simp only [F.HDR.EVT_FIRST.VALID, fld]; omega
    have h3 : (F.HDR.EVT_FIRST.FORCED page).key / 64 % 65536 < 0x100 := by simp only [F.HDR.EVT_FIRST.FORCED, fld]; omega
    have h4 : (F.HDR.EVT_FIRST.CODE page).key / 64 % 65536 < 0x100 := by simp only [F.HDR.EVT_FIRST.CODE, fld]; omega
    have h5 : (F.HDR.EVT_FIRST.TIME page).key / 64 % 65536 < 0x100 := by simp only [F.HDR.EVT_FIRST.TIME, fld]; omega
    rw [e _ _ h5, e _ _ h4, e _ _ h3, e _ _ h2, e _ _ h1]
    split <;> rfl

@[simp] theorem State.flds_blockWritten (s : State) (b : Nat) : (s.blockWritten b).flds = s.flds := rfl
theorem State.get_blockWritten (s : State) (b : Nat) (f : Fld) : (s.blockWritten b).get f = s.get f := rfl

theorem State.get_freezePut (s : State) (r : LogRec) (l : List LogRec) {f : Fld} (hf : f.still) : (s.freezePut r l).get f = s.get f := by
  have e (s : State) (v : Nat) {g : Fld} (hg : g.noisy) : (s.set g v).get f = s.get f := s.get_set_noisy v hf hg
  have hp (s : State) (a b c d : Nat) : (s.spend a b c d).get f = s.get f := State.get_of_flds (by simp) f
  unfold State.freezePut
  dsimp only
  split
  · rw [e _ _ (by decide)]; exact hp _ _ _ _ _
  · rw [State.sets_cons, State.sets_cons, State.sets_nil, e _ _ (by decide), e _ _ (by decide), e _ _ (by decide)]; exact hp _ _ _ _ _

theorem State.get_freezeNext (s : State) {f : Fld} (hf : f.still) : s.freezeNext.get f = s.get f := by
  unfold State.freezeNext
  split
  · rfl
  · split
    · exact s.get_freezePut _ _ hf
    · rfl

theorem State.get_freezeCopy (s : State) (r : LogRec) {f : Fld} (hf : f.still) : (s.freezeCopy r).get f = s.get f := by
  unfold State.freezeCopy
  split
  · rfl
  · exact State.get_freezeNext _ hf

theorem State.get_offer (s : State) (r : LogRec) {f : Fld} (hf : f.still) : (s.offer r).get f = s.get f := by
  unfold State.offer State.offerDma State.offerSb State.offerIrq
  dsimp only
  have hn : (s.notice r).get f = s.get f := State.get_of_flds (by simp) f
  rw [← hn]
  generalize s.notice r = s
  have hm (v k : Nat) : (s.raiseMsix v k).get f = s.get f := State.get_of_flds (by simp) f
  have e (s : State) (v : Nat) : (s.addSat F.SIDEBAND.SB_STS.REC_LOST v).get f = s.get f := s.get_addSat_noisy v hf (by decide)
  simp only [State.get_ite, State.get_mk, State.get_fold, e, hm, ite_self]

theorem State.get_admitRec (s : State) (r : LogRec) {f : Fld} (hf : f.still) : (s.admitRec r).2.get f = s.get f := by
  have e (s : State) (v : Nat) {g : Fld} (hg : g.noisy) : (s.set g v).get f = s.get f := s.get_set_noisy v hf hg
  have hc (s : State) (i n : Nat) : (s.count i n).get f = s.get f := State.get_of_flds (by simp) f
  have hp (s : State) (a b c d : Nat) : (s.spend a b c d).get f = s.get f := State.get_of_flds (by simp) f
  have ho (s : State) : (s.offer r).get f = s.get f := s.get_offer r hf
  have hz (s : State) : (s.freezeCopy r).get f = s.get f := s.get_freezeCopy r hf
  have hd (s : State) : (s.addSat (if r.lclass = 2 then F.LOG.DROP_STS.ERROR else if r.lclass = 1 then F.LOG.DROP_STS.EVENT else F.LOG.DROP_STS.TRACE)
      1).get f = s.get f := by
    refine s.get_addSat_noisy 1 hf ?_
    split
    · decide
    · split <;> decide
  have hs (s : State) (v : Nat) : (s.set F.LOG.LOG_STS.QUEUE v).get f = s.get f := e s v (by decide)
  have hq (s : State) (v : Nat) : (s.set F.LOG.LOG_SEQ.MAIN v).get f = s.get f := e s v (by decide)
  unfold State.admitRec
  dsimp only
  by_cases h : s.tele.queue.length ≥ if r.lclass = 2 then 1024 else if r.lclass = 1 then 768 else 512
  · rw [if_pos h]
    exact (hd _).trans (hc _ _ _)
  · rw [if_neg h]
    split
    · simp only [State.writeMain, State.addWrote, hq, State.get_blockWritten, State.get_mk, State.get_fold, hp, ho, hz, hc]
    · simp only [State.setQueue, hs, State.get_mk, State.get_fold, ho, hz, hc]

theorem State.get_enterAlarm (s : State) (r : LogRec) {f : Fld} (hf : f.still) : (s.enterAlarm r).get f = s.get f := by
  have e (s : State) (v : Nat) {g : Fld} (hg : g.noisy) : (s.set g v).get f = s.get f := s.get_set_noisy v hf hg
  have hc (s : State) (i n : Nat) : (s.count i n).get f = s.get f := State.get_of_flds (by simp) f
  have ho (s : State) (r : LogRec) : (s.offer r).get f = s.get f := s.get_offer r hf
  have hz (s : State) (r : LogRec) : (s.freezeCopy r).get f = s.get f := s.get_freezeCopy r hf
  have hd (s : State) (v : Nat) : (s.addSat F.LOG.DROP_STS.SB_MISSED v).get f = s.get f := s.get_addSat_noisy v hf (by decide)
  have hs (s : State) (v : Nat) : (s.set F.LOG.LOG_STS.ALARM_FIFO v).get f = s.get f := e s v (by decide)
  have hq (s : State) (v : Nat) : (s.set F.LOG.LOG_SEQ.ALARM v).get f = s.get f := e s v (by decide)
  unfold State.enterAlarm
  dsimp only
  split
  · simp only [State.setFifo, ho, hz, hc, hq, hs, State.get_mk, State.get_fold]
  · split
    · simp only [State.setFifo, ho, hz, hc, hq, hs, State.get_mk, State.get_fold, hd]
    · rfl

theorem State.get_coalesce (s : State) (r : LogRec) {f : Fld} (hf : f.still) : (s.coalesce r).2.get f = s.get f := by
  have hc (s : State) (i n : Nat) : (s.count i n).get f = s.get f := State.get_of_flds (by simp) f
  unfold State.coalesce
  dsimp only
  split
  · simp only [hc, State.get_mk, State.get_fold]
  · simp only [State.get_admitRec _ _ hf, State.get_ite, State.get_mk, State.get_fold, ite_self]

theorem State.get_countEvent (s : State) (code page : Nat) {f : Fld} (hf : f.still) : (s.countEvent code page).get f = s.get f := by
  have hc (s : State) (i n : Nat) : (s.count i n).get f = s.get f := State.get_of_flds (by simp) f
  unfold State.countEvent
  rw [State.get_addSat_noisy _ _ hf (by decide), State.get_showEvent _ _ _ _ hf, hc]

theorem State.get_log (s : State) (r : LogRec) {f : Fld} (hf : f.still) : (s.log r).get f = s.get f := by
  unfold State.log
  split
  · exact s.get_enterAlarm r hf
  · split
    · rfl
    · dsimp only
      split <;> split <;>
        simp only [State.get_countEvent _ _ _ hf, State.get_coalesce _ _ hf, State.get_admitRec _ _ hf]

theorem State.get_freezeEnd (s0 s : State) {f : Fld} (hf : f.still) : (State.freezeEnd s0 s).get f = s.get f := by
  unfold State.freezeEnd
  split
  · rw [State.get_log _ _ hf, State.get_countEvent _ _ _ hf]
  · rfl

theorem State.get_countClass (s : State) (k : EClass) {f : Fld} (hf : f.still) : (s.countClass k).get f = s.get f := by
  unfold State.countClass
  split
  · exact s.get_addSat_noisy 1 hf (by decide)
  · exact s.get_addSat_noisy 1 hf (by decide)
  · exact s.get_addSat_noisy 1 hf (by decide)
  · exact s.get_addSat_noisy 1 hf (by decide)
  · rfl

theorem State.get_freezeStart (s : State) (code : Nat) {f : Fld} (hf : f.still) : (s.freezeStart code).get f = s.get f := by
  have e (s : State) (v : Nat) {g : Fld} (hg : g.noisy) : (s.set g v).get f = s.get f := s.get_set_noisy v hf hg
  have hc (s : State) (i n : Nat) : (s.count i n).get f = s.get f := State.get_of_flds (by simp) f
  unfold State.freezeStart
  split
  · simp only [hc, State.sets_cons, State.sets_nil]
    rw [e _ _ (by decide), e _ _ (by decide)]; rfl
  · rfl

theorem State.get_logEvent (s : State) (cls : EClass) (code : Nat) (mute : Bool) (a : EvArg) {f : Fld} (hf : f.still) :
    (s.logEvent cls code mute a).get f = s.get f := by
  unfold State.logEvent
  cases cls <;> dsimp only <;> (repeat' split) <;> simp only [State.get_log _ _ hf, State.get_freezeStart _ _ hf]

theorem State.get_aerEvent (s : State) (cls : EClass) (k : AerKind) (a : EvArg) (f : Fld) : (s.aerEvent cls k a).get f = s.get f := by
  have h (s : State) (v n ce : Nat) (l : List Nat) : (s.aer v n k ce l).get f = s.get f := State.get_of_flds (by simp) f
  unfold State.aerEvent
  split
  · exact h _ _ _ _ _
  · split
    · rfl
    · refine State.get_foldl _ _ (fun s v => ?_) _ _
      split
      · exact h _ _ _ _ _
      · rfl
  · split
    · split
      · exact h _ _ _ _ _
      · rfl
    · rfl

theorem State.get_irqEvent (s : State) (cls : EClass) (m : Option Nat) (f : Fld) : (s.irqEvent cls m).get f = s.get f := by
  have h (s : State) (v n : Nat) : (s.raiseMsix v n).get f = s.get f := State.get_of_flds (by simp) f
  unfold State.irqEvent
  split
  · exact h _ _ _
  · split
    · exact h _ _ _
    · rfl
  · rfl

theorem State.get_escEvent (s : State) (cls : EClass) (code : Nat) (m : Option Nat) (a : EvArg) (f : Fld) :
    (s.escEvent cls code m a).get f = s.get f := by
  unfold State.escEvent
  split
  · split
    · rfl
    · dsimp only; split <;> rfl
  · rfl
  · rfl

/-- What raising an event can do to the register fields: nothing to those outside the common header, the sideband, the errors and the logbook. -/
theorem State.get_raise (s : State) (code : Nat) (a : EvArg) {f : Fld} (hf : f.still) : (s.raise code a).get f = s.get f := by
  have hc (s : State) (i n : Nat) : (s.count i n).get f = s.get f := State.get_of_flds (by simp) f
  unfold State.raise
  split
  · rfl
  · simp only [State.get_freezeEnd _ _ hf, State.get_escEvent, State.get_irqEvent, State.get_aerEvent, State.get_logEvent _ _ _ _ _ hf,
      State.get_countClass _ _ hf, State.get_showEvent _ _ _ _ hf, hc]

end Sys2Proof.Machine
end

