-- ==== Sys2Proof/Laws/State.lean ====
section
/-! SUPPORT. Laws of the state: what the updates of its parts leave, and how a command that is in service answers. -/
namespace Sys2Proof.Machine

/-! ### What `State.set` leaves -/

@[simp] theorem State.set_pending (s : State) (f : Fld) (v : Nat) : (s.set f v).pending = s.pending := rfl
@[simp] theorem State.set_out (s : State) (f : Fld) (v : Nat) : (s.set f v).out = s.out := rfl
@[simp] theorem State.set_freeCtr (s : State) (f : Fld) (v : Nat) : (s.set f v).freeCtr = s.freeCtr := rfl
@[simp] theorem State.set_pins (s : State) (f : Fld) (v : Nat) : (s.set f v).pins = s.pins := rfl
@[simp] theorem State.set_time (s : State) (f : Fld) (v : Nat) : (s.set f v).time = s.time := rfl
@[simp] theorem State.set_avs (s : State) (f : Fld) (v : Nat) : (s.set f v).avs = s.avs := rfl
@[simp] theorem State.set_boot (s : State) (f : Fld) (v : Nat) : (s.set f v).boot = s.boot := rfl
@[simp] theorem State.set_tele (s : State) (f : Fld) (v : Nat) : (s.set f v).tele = s.tele := rfl
@[simp] theorem State.set_mgmt (s : State) (f : Fld) (v : Nat) : (s.set f v).mgmt = s.mgmt := rfl
@[simp] theorem State.set_budget (s : State) (f : Fld) (v : Nat) : (s.set f v).budget = s.budget := rfl
@[simp] theorem State.set_blockUse (s : State) (f : Fld) (v : Nat) : (s.set f v).blockUse = s.blockUse := rfl
@[simp] theorem State.set_core (s : State) (f : Fld) (v : Nat) : (s.set f v).core = s.core := rfl
@[simp] theorem State.set_ports (s : State) (f : Fld) (v : Nat) : (s.set f v).ports = s.ports := rfl
@[simp] theorem State.set_jobs (s : State) (f : Fld) (v : Nat) : (s.set f v).jobs = s.jobs := rfl
@[simp] theorem State.set_xlat (s : State) (f : Fld) (v : Nat) : (s.set f v).xlat = s.xlat := rfl
@[simp] theorem State.set_fab (s : State) (f : Fld) (v : Nat) : (s.set f v).fab = s.fab := rfl
@[simp] theorem State.set_share (s : State) (f : Fld) (v : Nat) : (s.set f v).share = s.share := rfl
@[simp] theorem State.set_ctxs (s : State) (f : Fld) (v : Nat) : (s.set f v).ctxs = s.ctxs := rfl
@[simp] theorem State.set_dirty (s : State) (f : Fld) (v : Nat) : (s.set f v).dirty = s.dirty := rfl
@[simp] theorem State.set_hut (s : State) (f : Fld) (v : Nat) : (s.set f v).hut = s.hut := rfl
@[simp] theorem State.set_err (s : State) (f : Fld) (v : Nat) : (s.set f v).err = s.err := rfl
@[simp] theorem State.set_age (s : State) (f : Fld) (v : Nat) : (s.set f v).age = s.age := rfl
@[simp] theorem State.set_lanes (s : State) (f : Fld) (v : Nat) : (s.set f v).lanes = s.lanes := rfl

/-! ### What `State.put` leaves -/

@[simp] theorem State.put_pending (s : State) (f : Fld) (b : Bool) : (s.put f b).pending = s.pending := rfl
@[simp] theorem State.put_out (s : State) (f : Fld) (b : Bool) : (s.put f b).out = s.out := rfl
@[simp] theorem State.put_freeCtr (s : State) (f : Fld) (b : Bool) : (s.put f b).freeCtr = s.freeCtr := rfl
@[simp] theorem State.put_pins (s : State) (f : Fld) (b : Bool) : (s.put f b).pins = s.pins := rfl
@[simp] theorem State.put_time (s : State) (f : Fld) (b : Bool) : (s.put f b).time = s.time := rfl
@[simp] theorem State.put_avs (s : State) (f : Fld) (b : Bool) : (s.put f b).avs = s.avs := rfl
@[simp] theorem State.put_boot (s : State) (f : Fld) (b : Bool) : (s.put f b).boot = s.boot := rfl
@[simp] theorem State.put_tele (s : State) (f : Fld) (b : Bool) : (s.put f b).tele = s.tele := rfl
@[simp] theorem State.put_mgmt (s : State) (f : Fld) (b : Bool) : (s.put f b).mgmt = s.mgmt := rfl
@[simp] theorem State.put_budget (s : State) (f : Fld) (b : Bool) : (s.put f b).budget = s.budget := rfl
@[simp] theorem State.put_blockUse (s : State) (f : Fld) (b : Bool) : (s.put f b).blockUse = s.blockUse := rfl
@[simp] theorem State.put_core (s : State) (f : Fld) (b : Bool) : (s.put f b).core = s.core := rfl
@[simp] theorem State.put_ports (s : State) (f : Fld) (b : Bool) : (s.put f b).ports = s.ports := rfl
@[simp] theorem State.put_jobs (s : State) (f : Fld) (b : Bool) : (s.put f b).jobs = s.jobs := rfl
@[simp] theorem State.put_xlat (s : State) (f : Fld) (b : Bool) : (s.put f b).xlat = s.xlat := rfl
@[simp] theorem State.put_fab (s : State) (f : Fld) (b : Bool) : (s.put f b).fab = s.fab := rfl
@[simp] theorem State.put_share (s : State) (f : Fld) (b : Bool) : (s.put f b).share = s.share := rfl
@[simp] theorem State.put_ctxs (s : State) (f : Fld) (b : Bool) : (s.put f b).ctxs = s.ctxs := rfl
@[simp] theorem State.put_dirty (s : State) (f : Fld) (b : Bool) : (s.put f b).dirty = s.dirty := rfl
@[simp] theorem State.put_hut (s : State) (f : Fld) (b : Bool) : (s.put f b).hut = s.hut := rfl
@[simp] theorem State.put_err (s : State) (f : Fld) (b : Bool) : (s.put f b).err = s.err := rfl
@[simp] theorem State.put_age (s : State) (f : Fld) (b : Bool) : (s.put f b).age = s.age := rfl
@[simp] theorem State.put_lanes (s : State) (f : Fld) (b : Bool) : (s.put f b).lanes = s.lanes := rfl

/-! ### What `State.addSat` leaves -/

@[simp] theorem State.addSat_pending (s : State) (f : Fld) (n : Nat) : (s.addSat f n).pending = s.pending := rfl
@[simp] theorem State.addSat_out (s : State) (f : Fld) (n : Nat) : (s.addSat f n).out = s.out := rfl
@[simp] theorem State.addSat_freeCtr (s : State) (f : Fld) (n : Nat) : (s.addSat f n).freeCtr = s.freeCtr := rfl
@[simp] theorem State.addSat_pins (s : State) (f : Fld) (n : Nat) : (s.addSat f n).pins = s.pins := rfl
@[simp] theorem State.addSat_time (s : State) (f : Fld) (n : Nat) : (s.addSat f n).time = s.time := rfl
@[simp] theorem State.addSat_avs (s : State) (f : Fld) (n : Nat) : (s.addSat f n).avs = s.avs := rfl
@[simp] theorem State.addSat_boot (s : State) (f : Fld) (n : Nat) : (s.addSat f n).boot = s.boot := rfl
@[simp] theorem State.addSat_tele (s : State) (f : Fld) (n : Nat) : (s.addSat f n).tele = s.tele := rfl
@[simp] theorem State.addSat_mgmt (s : State) (f : Fld) (n : Nat) : (s.addSat f n).mgmt = s.mgmt := rfl
@[simp] theorem State.addSat_budget (s : State) (f : Fld) (n : Nat) : (s.addSat f n).budget = s.budget := rfl
@[simp] theorem State.addSat_blockUse (s : State) (f : Fld) (n : Nat) : (s.addSat f n).blockUse = s.blockUse := rfl
@[simp] theorem State.addSat_core (s : State) (f : Fld) (n : Nat) : (s.addSat f n).core = s.core := rfl
@[simp] theorem State.addSat_ports (s : State) (f : Fld) (n : Nat) : (s.addSat f n).ports = s.ports := rfl
@[simp] theorem State.addSat_jobs (s : State) (f : Fld) (n : Nat) : (s.addSat f n).jobs = s.jobs := rfl
@[simp] theorem State.addSat_xlat (s : State) (f : Fld) (n : Nat) : (s.addSat f n).xlat = s.xlat := rfl
@[simp] theorem State.addSat_fab (s : State) (f : Fld) (n : Nat) : (s.addSat f n).fab = s.fab := rfl
@[simp] theorem State.addSat_share (s : State) (f : Fld) (n : Nat) : (s.addSat f n).share = s.share := rfl
@[simp] theorem State.addSat_ctxs (s : State) (f : Fld) (n : Nat) : (s.addSat f n).ctxs = s.ctxs := rfl
@[simp] theorem State.addSat_dirty (s : State) (f : Fld) (n : Nat) : (s.addSat f n).dirty = s.dirty := rfl
@[simp] theorem State.addSat_hut (s : State) (f : Fld) (n : Nat) : (s.addSat f n).hut = s.hut := rfl
@[simp] theorem State.addSat_err (s : State) (f : Fld) (n : Nat) : (s.addSat f n).err = s.err := rfl
@[simp] theorem State.addSat_age (s : State) (f : Fld) (n : Nat) : (s.addSat f n).age = s.age := rfl
@[simp] theorem State.addSat_lanes (s : State) (f : Fld) (n : Nat) : (s.addSat f n).lanes = s.lanes := rfl

/-! ### What `State.sets` leaves -/

@[simp] theorem State.sets_pending (s : State) (l : List (Fld × Nat)) : (s.sets l).pending = s.pending := by
  induction l generalizing s with
  | nil => rfl
  | cons e l ih => rw [State.sets_cons, ih, State.set_pending]
@[simp] theorem State.sets_out (s : State) (l : List (Fld × Nat)) : (s.sets l).out = s.out := by
  induction l generalizing s with
  | nil => rfl
  | cons e l ih => rw [State.sets_cons, ih, State.set_out]
@[simp] theorem State.sets_freeCtr (s : State) (l : List (Fld × Nat)) : (s.sets l).freeCtr = s.freeCtr := by
  induction l generalizing s with
  | nil => rfl
  | cons e l ih => rw [State.sets_cons, ih, State.set_freeCtr]
@[simp] theorem State.sets_pins (s : State) (l : List (Fld × Nat)) : (s.sets l).pins = s.pins := by
  induction l generalizing s with
  | nil => rfl
  | cons e l ih => rw [State.sets_cons, ih, State.set_pins]
@[simp] theorem State.sets_time (s : State) (l : List (Fld × Nat)) : (s.sets l).time = s.time := by
  induction l generalizing s with
  | nil => rfl
  | cons e l ih => rw [State.sets_cons, ih, State.set_time]
@[simp] theorem State.sets_avs (s : State) (l : List (Fld × Nat)) : (s.sets l).avs = s.avs := by
  induction l generalizing s with
  | nil => rfl
  | cons e l ih => rw [State.sets_cons, ih, State.set_avs]
@[simp] theorem State.sets_boot (s : State) (l : List (Fld × Nat)) : (s.sets l).boot = s.boot := by
  induction l generalizing s with
  | nil => rfl
  | cons e l ih => rw [State.sets_cons, ih, State.set_boot]
@[simp] theorem State.sets_tele (s : State) (l : List (Fld × Nat)) : (s.sets l).tele = s.tele := by
  induction l generalizing s with
  | nil => rfl
  | cons e l ih => rw [State.sets_cons, ih, State.set_tele]
@[simp] theorem State.sets_mgmt (s : State) (l : List (Fld × Nat)) : (s.sets l).mgmt = s.mgmt := by
  induction l generalizing s with
  | nil => rfl
  | cons e l ih => rw [State.sets_cons, ih, State.set_mgmt]
@[simp] theorem State.sets_budget (s : State) (l : List (Fld × Nat)) : (s.sets l).budget = s.budget := by
  induction l generalizing s with
  | nil => rfl
  | cons e l ih => rw [State.sets_cons, ih, State.set_budget]
@[simp] theorem State.sets_blockUse (s : State) (l : List (Fld × Nat)) : (s.sets l).blockUse = s.blockUse := by
  induction l generalizing s with
  | nil => rfl
  | cons e l ih => rw [State.sets_cons, ih, State.set_blockUse]
@[simp] theorem State.sets_core (s : State) (l : List (Fld × Nat)) : (s.sets l).core = s.core := by
  induction l generalizing s with
  | nil => rfl
  | cons e l ih => rw [State.sets_cons, ih, State.set_core]
@[simp] theorem State.sets_ports (s : State) (l : List (Fld × Nat)) : (s.sets l).ports = s.ports := by
  induction l generalizing s with
  | nil => rfl
  | cons e l ih => rw [State.sets_cons, ih, State.set_ports]
@[simp] theorem State.sets_jobs (s : State) (l : List (Fld × Nat)) : (s.sets l).jobs = s.jobs := by
  induction l generalizing s with
  | nil => rfl
  | cons e l ih => rw [State.sets_cons, ih, State.set_jobs]
@[simp] theorem State.sets_xlat (s : State) (l : List (Fld × Nat)) : (s.sets l).xlat = s.xlat := by
  induction l generalizing s with
  | nil => rfl
  | cons e l ih => rw [State.sets_cons, ih, State.set_xlat]
@[simp] theorem State.sets_fab (s : State) (l : List (Fld × Nat)) : (s.sets l).fab = s.fab := by
  induction l generalizing s with
  | nil => rfl
  | cons e l ih => rw [State.sets_cons, ih, State.set_fab]
@[simp] theorem State.sets_share (s : State) (l : List (Fld × Nat)) : (s.sets l).share = s.share := by
  induction l generalizing s with
  | nil => rfl
  | cons e l ih => rw [State.sets_cons, ih, State.set_share]
@[simp] theorem State.sets_ctxs (s : State) (l : List (Fld × Nat)) : (s.sets l).ctxs = s.ctxs := by
  induction l generalizing s with
  | nil => rfl
  | cons e l ih => rw [State.sets_cons, ih, State.set_ctxs]
@[simp] theorem State.sets_dirty (s : State) (l : List (Fld × Nat)) : (s.sets l).dirty = s.dirty := by
  induction l generalizing s with
  | nil => rfl
  | cons e l ih => rw [State.sets_cons, ih, State.set_dirty]
@[simp] theorem State.sets_hut (s : State) (l : List (Fld × Nat)) : (s.sets l).hut = s.hut := by
  induction l generalizing s with
  | nil => rfl
  | cons e l ih => rw [State.sets_cons, ih, State.set_hut]
@[simp] theorem State.sets_err (s : State) (l : List (Fld × Nat)) : (s.sets l).err = s.err := by
  induction l generalizing s with
  | nil => rfl
  | cons e l ih => rw [State.sets_cons, ih, State.set_err]
@[simp] theorem State.sets_age (s : State) (l : List (Fld × Nat)) : (s.sets l).age = s.age := by
  induction l generalizing s with
  | nil => rfl
  | cons e l ih => rw [State.sets_cons, ih, State.set_age]
@[simp] theorem State.sets_lanes (s : State) (l : List (Fld × Nat)) : (s.sets l).lanes = s.lanes := by
  induction l generalizing s with
  | nil => rfl
  | cons e l ih => rw [State.sets_cons, ih, State.set_lanes]

/-! ### What `State.emit` leaves -/

@[simp] theorem State.emit_pending (s : State) (o : Out) : (s.emit o).pending = s.pending := rfl
@[simp] theorem State.emit_freeCtr (s : State) (o : Out) : (s.emit o).freeCtr = s.freeCtr := rfl
@[simp] theorem State.emit_pins (s : State) (o : Out) : (s.emit o).pins = s.pins := rfl
@[simp] theorem State.emit_time (s : State) (o : Out) : (s.emit o).time = s.time := rfl
@[simp] theorem State.emit_avs (s : State) (o : Out) : (s.emit o).avs = s.avs := rfl
@[simp] theorem State.emit_boot (s : State) (o : Out) : (s.emit o).boot = s.boot := rfl
@[simp] theorem State.emit_tele (s : State) (o : Out) : (s.emit o).tele = s.tele := rfl
@[simp] theorem State.emit_mgmt (s : State) (o : Out) : (s.emit o).mgmt = s.mgmt := rfl
@[simp] theorem State.emit_budget (s : State) (o : Out) : (s.emit o).budget = s.budget := rfl
@[simp] theorem State.emit_blockUse (s : State) (o : Out) : (s.emit o).blockUse = s.blockUse := rfl
@[simp] theorem State.emit_core (s : State) (o : Out) : (s.emit o).core = s.core := rfl
@[simp] theorem State.emit_ports (s : State) (o : Out) : (s.emit o).ports = s.ports := rfl
@[simp] theorem State.emit_jobs (s : State) (o : Out) : (s.emit o).jobs = s.jobs := rfl
@[simp] theorem State.emit_xlat (s : State) (o : Out) : (s.emit o).xlat = s.xlat := rfl
@[simp] theorem State.emit_fab (s : State) (o : Out) : (s.emit o).fab = s.fab := rfl
@[simp] theorem State.emit_share (s : State) (o : Out) : (s.emit o).share = s.share := rfl
@[simp] theorem State.emit_ctxs (s : State) (o : Out) : (s.emit o).ctxs = s.ctxs := rfl
@[simp] theorem State.emit_dirty (s : State) (o : Out) : (s.emit o).dirty = s.dirty := rfl
@[simp] theorem State.emit_hut (s : State) (o : Out) : (s.emit o).hut = s.hut := rfl
@[simp] theorem State.emit_err (s : State) (o : Out) : (s.emit o).err = s.err := rfl
@[simp] theorem State.emit_age (s : State) (o : Out) : (s.emit o).age = s.age := rfl
@[simp] theorem State.emit_lanes (s : State) (o : Out) : (s.emit o).lanes = s.lanes := rfl

/-! ### What `State.setCfg` leaves -/

@[simp] theorem State.setCfg_pending (s : State) (v f d x : Nat) : (s.setCfg v f d x).pending = s.pending := rfl
@[simp] theorem State.setCfg_out (s : State) (v f d x : Nat) : (s.setCfg v f d x).out = s.out := rfl
@[simp] theorem State.setCfg_freeCtr (s : State) (v f d x : Nat) : (s.setCfg v f d x).freeCtr = s.freeCtr := rfl
@[simp] theorem State.setCfg_pins (s : State) (v f d x : Nat) : (s.setCfg v f d x).pins = s.pins := rfl
@[simp] theorem State.setCfg_time (s : State) (v f d x : Nat) : (s.setCfg v f d x).time = s.time := rfl
@[simp] theorem State.setCfg_avs (s : State) (v f d x : Nat) : (s.setCfg v f d x).avs = s.avs := rfl
@[simp] theorem State.setCfg_boot (s : State) (v f d x : Nat) : (s.setCfg v f d x).boot = s.boot := rfl
@[simp] theorem State.setCfg_tele (s : State) (v f d x : Nat) : (s.setCfg v f d x).tele = s.tele := rfl
@[simp] theorem State.setCfg_budget (s : State) (v f d x : Nat) : (s.setCfg v f d x).budget = s.budget := rfl
@[simp] theorem State.setCfg_blockUse (s : State) (v f d x : Nat) : (s.setCfg v f d x).blockUse = s.blockUse := rfl
@[simp] theorem State.setCfg_core (s : State) (v f d x : Nat) : (s.setCfg v f d x).core = s.core := rfl
@[simp] theorem State.setCfg_ports (s : State) (v f d x : Nat) : (s.setCfg v f d x).ports = s.ports := rfl
@[simp] theorem State.setCfg_jobs (s : State) (v f d x : Nat) : (s.setCfg v f d x).jobs = s.jobs := rfl
@[simp] theorem State.setCfg_xlat (s : State) (v f d x : Nat) : (s.setCfg v f d x).xlat = s.xlat := rfl
@[simp] theorem State.setCfg_fab (s : State) (v f d x : Nat) : (s.setCfg v f d x).fab = s.fab := rfl
@[simp] theorem State.setCfg_share (s : State) (v f d x : Nat) : (s.setCfg v f d x).share = s.share := rfl
@[simp] theorem State.setCfg_ctxs (s : State) (v f d x : Nat) : (s.setCfg v f d x).ctxs = s.ctxs := rfl
@[simp] theorem State.setCfg_dirty (s : State) (v f d x : Nat) : (s.setCfg v f d x).dirty = s.dirty := rfl
@[simp] theorem State.setCfg_hut (s : State) (v f d x : Nat) : (s.setCfg v f d x).hut = s.hut := rfl
@[simp] theorem State.setCfg_err (s : State) (v f d x : Nat) : (s.setCfg v f d x).err = s.err := rfl
@[simp] theorem State.setCfg_age (s : State) (v f d x : Nat) : (s.setCfg v f d x).age = s.age := rfl
@[simp] theorem State.setCfg_lanes (s : State) (v f d x : Nat) : (s.setCfg v f d x).lanes = s.lanes := rfl

/-! ### What `State.setCtr` leaves -/

@[simp] theorem State.setCtr_pending (s : State) (i n : Nat) : (s.setCtr i n).pending = s.pending := rfl
@[simp] theorem State.setCtr_out (s : State) (i n : Nat) : (s.setCtr i n).out = s.out := rfl
@[simp] theorem State.setCtr_freeCtr (s : State) (i n : Nat) : (s.setCtr i n).freeCtr = s.freeCtr := rfl
@[simp] theorem State.setCtr_pins (s : State) (i n : Nat) : (s.setCtr i n).pins = s.pins := rfl
@[simp] theorem State.setCtr_time (s : State) (i n : Nat) : (s.setCtr i n).time = s.time := rfl
@[simp] theorem State.setCtr_avs (s : State) (i n : Nat) : (s.setCtr i n).avs = s.avs := rfl
@[simp] theorem State.setCtr_boot (s : State) (i n : Nat) : (s.setCtr i n).boot = s.boot := rfl
@[simp] theorem State.setCtr_mgmt (s : State) (i n : Nat) : (s.setCtr i n).mgmt = s.mgmt := rfl
@[simp] theorem State.setCtr_budget (s : State) (i n : Nat) : (s.setCtr i n).budget = s.budget := rfl
@[simp] theorem State.setCtr_blockUse (s : State) (i n : Nat) : (s.setCtr i n).blockUse = s.blockUse := rfl
@[simp] theorem State.setCtr_core (s : State) (i n : Nat) : (s.setCtr i n).core = s.core := rfl
@[simp] theorem State.setCtr_ports (s : State) (i n : Nat) : (s.setCtr i n).ports = s.ports := rfl
@[simp] theorem State.setCtr_jobs (s : State) (i n : Nat) : (s.setCtr i n).jobs = s.jobs := rfl
@[simp] theorem State.setCtr_xlat (s : State) (i n : Nat) : (s.setCtr i n).xlat = s.xlat := rfl
@[simp] theorem State.setCtr_fab (s : State) (i n : Nat) : (s.setCtr i n).fab = s.fab := rfl
@[simp] theorem State.setCtr_share (s : State) (i n : Nat) : (s.setCtr i n).share = s.share := rfl
@[simp] theorem State.setCtr_ctxs (s : State) (i n : Nat) : (s.setCtr i n).ctxs = s.ctxs := rfl
@[simp] theorem State.setCtr_dirty (s : State) (i n : Nat) : (s.setCtr i n).dirty = s.dirty := rfl
@[simp] theorem State.setCtr_hut (s : State) (i n : Nat) : (s.setCtr i n).hut = s.hut := rfl
@[simp] theorem State.setCtr_err (s : State) (i n : Nat) : (s.setCtr i n).err = s.err := rfl
@[simp] theorem State.setCtr_age (s : State) (i n : Nat) : (s.setCtr i n).age = s.age := rfl
@[simp] theorem State.setCtr_lanes (s : State) (i n : Nat) : (s.setCtr i n).lanes = s.lanes := rfl

/-! ### What `State.count` leaves -/

@[simp] theorem State.count_pending (s : State) (i n : Nat) : (s.count i n).pending = s.pending := by
  unfold State.count; split
  · rfl
  · dsimp only; split <;> rfl
@[simp] theorem State.count_out (s : State) (i n : Nat) : (s.count i n).out = s.out := by
  unfold State.count; split
  · rfl
  · dsimp only; split <;> rfl
@[simp] theorem State.count_freeCtr (s : State) (i n : Nat) : (s.count i n).freeCtr = s.freeCtr := by
  unfold State.count; split
  · rfl
  · dsimp only; split <;> rfl
@[simp] theorem State.count_pins (s : State) (i n : Nat) : (s.count i n).pins = s.pins := by
  unfold State.count; split
  · rfl
  · dsimp only; split <;> rfl
@[simp] theorem State.count_time (s : State) (i n : Nat) : (s.count i n).time = s.time := by
  unfold State.count; split
  · rfl
  · dsimp only; split <;> rfl
@[simp] theorem State.count_avs (s : State) (i n : Nat) : (s.count i n).avs = s.avs := by
  unfold State.count; split
  · rfl
  · dsimp only; split <;> rfl
@[simp] theorem State.count_boot (s : State) (i n : Nat) : (s.count i n).boot = s.boot := by
  unfold State.count; split
  · rfl
  · dsimp only; split <;> rfl
@[simp] theorem State.count_mgmt (s : State) (i n : Nat) : (s.count i n).mgmt = s.mgmt := by
  unfold State.count; split
  · rfl
  · dsimp only; split <;> rfl
@[simp] theorem State.count_budget (s : State) (i n : Nat) : (s.count i n).budget = s.budget := by
  unfold State.count; split
  · rfl
  · dsimp only; split <;> rfl
@[simp] theorem State.count_blockUse (s : State) (i n : Nat) : (s.count i n).blockUse = s.blockUse := by
  unfold State.count; split
  · rfl
  · dsimp only; split <;> rfl
@[simp] theorem State.count_core (s : State) (i n : Nat) : (s.count i n).core = s.core := by
  unfold State.count; split
  · rfl
  · dsimp only; split <;> rfl
@[simp] theorem State.count_ports (s : State) (i n : Nat) : (s.count i n).ports = s.ports := by
  unfold State.count; split
  · rfl
  · dsimp only; split <;> rfl
@[simp] theorem State.count_jobs (s : State) (i n : Nat) : (s.count i n).jobs = s.jobs := by
  unfold State.count; split
  · rfl
  · dsimp only; split <;> rfl
@[simp] theorem State.count_xlat (s : State) (i n : Nat) : (s.count i n).xlat = s.xlat := by
  unfold State.count; split
  · rfl
  · dsimp only; split <;> rfl
@[simp] theorem State.count_fab (s : State) (i n : Nat) : (s.count i n).fab = s.fab := by
  unfold State.count; split
  · rfl
  · dsimp only; split <;> rfl
@[simp] theorem State.count_share (s : State) (i n : Nat) : (s.count i n).share = s.share := by
  unfold State.count; split
  · rfl
  · dsimp only; split <;> rfl
@[simp] theorem State.count_ctxs (s : State) (i n : Nat) : (s.count i n).ctxs = s.ctxs := by
  unfold State.count; split
  · rfl
  · dsimp only; split <;> rfl
@[simp] theorem State.count_dirty (s : State) (i n : Nat) : (s.count i n).dirty = s.dirty := by
  unfold State.count; split
  · rfl
  · dsimp only; split <;> rfl
@[simp] theorem State.count_hut (s : State) (i n : Nat) : (s.count i n).hut = s.hut := by
  unfold State.count; split
  · rfl
  · dsimp only; split <;> rfl
@[simp] theorem State.count_err (s : State) (i n : Nat) : (s.count i n).err = s.err := by
  unfold State.count; split
  · rfl
  · dsimp only; split <;> rfl
@[simp] theorem State.count_age (s : State) (i n : Nat) : (s.count i n).age = s.age := by
  unfold State.count; split
  · rfl
  · dsimp only; split <;> rfl
@[simp] theorem State.count_lanes (s : State) (i n : Nat) : (s.count i n).lanes = s.lanes := by
  unfold State.count; split
  · rfl
  · dsimp only; split <;> rfl

/-! ### What `State.blockWritten` leaves -/

@[simp] theorem State.blockWritten_pending (s : State) (b : Nat) : (s.blockWritten b).pending = s.pending := rfl
@[simp] theorem State.blockWritten_out (s : State) (b : Nat) : (s.blockWritten b).out = s.out := rfl
@[simp] theorem State.blockWritten_freeCtr (s : State) (b : Nat) : (s.blockWritten b).freeCtr = s.freeCtr := rfl
@[simp] theorem State.blockWritten_pins (s : State) (b : Nat) : (s.blockWritten b).pins = s.pins := rfl
@[simp] theorem State.blockWritten_time (s : State) (b : Nat) : (s.blockWritten b).time = s.time := rfl
@[simp] theorem State.blockWritten_avs (s : State) (b : Nat) : (s.blockWritten b).avs = s.avs := rfl
@[simp] theorem State.blockWritten_boot (s : State) (b : Nat) : (s.blockWritten b).boot = s.boot := rfl
@[simp] theorem State.blockWritten_tele (s : State) (b : Nat) : (s.blockWritten b).tele = s.tele := rfl
@[simp] theorem State.blockWritten_mgmt (s : State) (b : Nat) : (s.blockWritten b).mgmt = s.mgmt := rfl
@[simp] theorem State.blockWritten_budget (s : State) (b : Nat) : (s.blockWritten b).budget = s.budget := rfl
@[simp] theorem State.blockWritten_jobs (s : State) (b : Nat) : (s.blockWritten b).jobs = s.jobs := rfl
@[simp] theorem State.blockWritten_blockUse (s : State) (b : Nat) : (s.blockWritten b).blockUse = s.blockUse := rfl
@[simp] theorem State.blockWritten_core (s : State) (b : Nat) : (s.blockWritten b).core = s.core := rfl
@[simp] theorem State.blockWritten_ports (s : State) (b : Nat) : (s.blockWritten b).ports = s.ports := rfl
@[simp] theorem State.blockWritten_xlat (s : State) (b : Nat) : (s.blockWritten b).xlat = s.xlat := rfl
@[simp] theorem State.blockWritten_fab (s : State) (b : Nat) : (s.blockWritten b).fab = s.fab := rfl
@[simp] theorem State.blockWritten_share (s : State) (b : Nat) : (s.blockWritten b).share = s.share := rfl
@[simp] theorem State.blockWritten_ctxs (s : State) (b : Nat) : (s.blockWritten b).ctxs = s.ctxs := rfl
@[simp] theorem State.blockWritten_dirty (s : State) (b : Nat) : (s.blockWritten b).dirty = s.dirty := rfl
@[simp] theorem State.blockWritten_hut (s : State) (b : Nat) : (s.blockWritten b).hut = s.hut := rfl
@[simp] theorem State.blockWritten_age (s : State) (b : Nat) : (s.blockWritten b).age = s.age := rfl
@[simp] theorem State.blockWritten_lanes (s : State) (b : Nat) : (s.blockWritten b).lanes = s.lanes := rfl

/-! ### What `State.dramUse` leaves -/

@[simp] theorem State.dramUse_pending (s : State) (i n : Nat) : (s.dramUse i n).pending = s.pending := by simp [State.dramUse]
@[simp] theorem State.dramUse_out (s : State) (i n : Nat) : (s.dramUse i n).out = s.out := by simp [State.dramUse]
@[simp] theorem State.dramUse_freeCtr (s : State) (i n : Nat) : (s.dramUse i n).freeCtr = s.freeCtr := by simp [State.dramUse]
@[simp] theorem State.dramUse_pins (s : State) (i n : Nat) : (s.dramUse i n).pins = s.pins := by simp [State.dramUse]
@[simp] theorem State.dramUse_time (s : State) (i n : Nat) : (s.dramUse i n).time = s.time := by simp [State.dramUse]
@[simp] theorem State.dramUse_avs (s : State) (i n : Nat) : (s.dramUse i n).avs = s.avs := by simp [State.dramUse]
@[simp] theorem State.dramUse_boot (s : State) (i n : Nat) : (s.dramUse i n).boot = s.boot := by simp [State.dramUse]
@[simp] theorem State.dramUse_mgmt (s : State) (i n : Nat) : (s.dramUse i n).mgmt = s.mgmt := by simp [State.dramUse]
@[simp] theorem State.dramUse_core (s : State) (i n : Nat) : (s.dramUse i n).core = s.core := by simp [State.dramUse]
@[simp] theorem State.dramUse_ports (s : State) (i n : Nat) : (s.dramUse i n).ports = s.ports := by simp [State.dramUse]
@[simp] theorem State.dramUse_jobs (s : State) (i n : Nat) : (s.dramUse i n).jobs = s.jobs := by simp [State.dramUse]
@[simp] theorem State.dramUse_xlat (s : State) (i n : Nat) : (s.dramUse i n).xlat = s.xlat := by simp [State.dramUse]
@[simp] theorem State.dramUse_fab (s : State) (i n : Nat) : (s.dramUse i n).fab = s.fab := by simp [State.dramUse]
@[simp] theorem State.dramUse_share (s : State) (i n : Nat) : (s.dramUse i n).share = s.share := by simp [State.dramUse]
@[simp] theorem State.dramUse_ctxs (s : State) (i n : Nat) : (s.dramUse i n).ctxs = s.ctxs := by simp [State.dramUse]
@[simp] theorem State.dramUse_dirty (s : State) (i n : Nat) : (s.dramUse i n).dirty = s.dirty := by simp [State.dramUse]
@[simp] theorem State.dramUse_hut (s : State) (i n : Nat) : (s.dramUse i n).hut = s.hut := by simp [State.dramUse]
@[simp] theorem State.dramUse_err (s : State) (i n : Nat) : (s.dramUse i n).err = s.err := by simp [State.dramUse]
@[simp] theorem State.dramUse_age (s : State) (i n : Nat) : (s.dramUse i n).age = s.age := by simp [State.dramUse]
@[simp] theorem State.dramUse_lanes (s : State) (i n : Nat) : (s.dramUse i n).lanes = s.lanes := by simp [State.dramUse]
@[simp] theorem State.dramUse_budget (s : State) (i n : Nat) : (s.dramUse i n).budget = s.budget := by simp [State.dramUse]
@[simp] theorem State.dramUse_blockUse (s : State) (i n : Nat) : (s.dramUse i n).blockUse = s.blockUse := by simp [State.dramUse]

/-! ### What `State.spend` leaves -/

@[simp] theorem State.spend_pending (s : State) (c r d p : Nat) : (s.spend c r d p).pending = s.pending := by
  unfold State.spend; dsimp only; split <;> simp
@[simp] theorem State.spend_out (s : State) (c r d p : Nat) : (s.spend c r d p).out = s.out := by
  unfold State.spend; dsimp only; split <;> simp
@[simp] theorem State.spend_freeCtr (s : State) (c r d p : Nat) : (s.spend c r d p).freeCtr = s.freeCtr := by
  unfold State.spend; dsimp only; split <;> simp
@[simp] theorem State.spend_pins (s : State) (c r d p : Nat) : (s.spend c r d p).pins = s.pins := by
  unfold State.spend; dsimp only; split <;> simp
@[simp] theorem State.spend_time (s : State) (c r d p : Nat) : (s.spend c r d p).time = s.time := by
  unfold State.spend; dsimp only; split <;> simp
@[simp] theorem State.spend_avs (s : State) (c r d p : Nat) : (s.spend c r d p).avs = s.avs := by
  unfold State.spend; dsimp only; split <;> simp
@[simp] theorem State.spend_boot (s : State) (c r d p : Nat) : (s.spend c r d p).boot = s.boot := by
  unfold State.spend; dsimp only; split <;> simp
@[simp] theorem State.spend_mgmt (s : State) (c r d p : Nat) : (s.spend c r d p).mgmt = s.mgmt := by
  unfold State.spend; dsimp only; split <;> simp
@[simp] theorem State.spend_core (s : State) (c r d p : Nat) : (s.spend c r d p).core = s.core := by
  unfold State.spend; dsimp only; split <;> simp
@[simp] theorem State.spend_ports (s : State) (c r d p : Nat) : (s.spend c r d p).ports = s.ports := by
  unfold State.spend; dsimp only; split <;> simp
@[simp] theorem State.spend_jobs (s : State) (c r d p : Nat) : (s.spend c r d p).jobs = s.jobs := by
  unfold State.spend; dsimp only; split <;> simp
@[simp] theorem State.spend_xlat (s : State) (c r d p : Nat) : (s.spend c r d p).xlat = s.xlat := by
  unfold State.spend; dsimp only; split <;> simp
@[simp] theorem State.spend_fab (s : State) (c r d p : Nat) : (s.spend c r d p).fab = s.fab := by
  unfold State.spend; dsimp only; split <;> simp
@[simp] theorem State.spend_share (s : State) (c r d p : Nat) : (s.spend c r d p).share = s.share := by
  unfold State.spend; dsimp only; split <;> simp
@[simp] theorem State.spend_ctxs (s : State) (c r d p : Nat) : (s.spend c r d p).ctxs = s.ctxs := by
  unfold State.spend; dsimp only; split <;> simp
@[simp] theorem State.spend_dirty (s : State) (c r d p : Nat) : (s.spend c r d p).dirty = s.dirty := by
  unfold State.spend; dsimp only; split <;> simp
@[simp] theorem State.spend_hut (s : State) (c r d p : Nat) : (s.spend c r d p).hut = s.hut := by
  unfold State.spend; dsimp only; split <;> simp
@[simp] theorem State.spend_err (s : State) (c r d p : Nat) : (s.spend c r d p).err = s.err := by
  unfold State.spend; dsimp only; split <;> simp
@[simp] theorem State.spend_age (s : State) (c r d p : Nat) : (s.spend c r d p).age = s.age := by
  unfold State.spend; dsimp only; split <;> simp
@[simp] theorem State.spend_lanes (s : State) (c r d p : Nat) : (s.spend c r d p).lanes = s.lanes := by
  unfold State.spend; dsimp only; split <;> simp

/-! ### What `State.charged` leaves -/

@[simp] theorem State.charged_pending (s : State) (p : Path) : (s.charged p).pending = s.pending := by
  unfold State.charged State.countAccess; split <;> simp
@[simp] theorem State.charged_out (s : State) (p : Path) : (s.charged p).out = s.out := by
  unfold State.charged State.countAccess; split <;> simp
@[simp] theorem State.charged_freeCtr (s : State) (p : Path) : (s.charged p).freeCtr = s.freeCtr := by
  unfold State.charged State.countAccess; split <;> simp
@[simp] theorem State.charged_pins (s : State) (p : Path) : (s.charged p).pins = s.pins := by
  unfold State.charged State.countAccess; split <;> simp
@[simp] theorem State.charged_time (s : State) (p : Path) : (s.charged p).time = s.time := by
  unfold State.charged State.countAccess; split <;> simp
@[simp] theorem State.charged_avs (s : State) (p : Path) : (s.charged p).avs = s.avs := by
  unfold State.charged State.countAccess; split <;> simp
@[simp] theorem State.charged_boot (s : State) (p : Path) : (s.charged p).boot = s.boot := by
  unfold State.charged State.countAccess; split <;> simp
@[simp] theorem State.charged_mgmt (s : State) (p : Path) : (s.charged p).mgmt = s.mgmt := by
  unfold State.charged State.countAccess; split <;> simp
@[simp] theorem State.charged_core (s : State) (p : Path) : (s.charged p).core = s.core := by
  unfold State.charged State.countAccess; split <;> simp
@[simp] theorem State.charged_ports (s : State) (p : Path) : (s.charged p).ports = s.ports := by
  unfold State.charged State.countAccess; split <;> simp
@[simp] theorem State.charged_jobs (s : State) (p : Path) : (s.charged p).jobs = s.jobs := by
  unfold State.charged State.countAccess; split <;> simp
@[simp] theorem State.charged_xlat (s : State) (p : Path) : (s.charged p).xlat = s.xlat := by
  unfold State.charged State.countAccess; split <;> simp
@[simp] theorem State.charged_fab (s : State) (p : Path) : (s.charged p).fab = s.fab := by
  unfold State.charged State.countAccess; split <;> simp
@[simp] theorem State.charged_share (s : State) (p : Path) : (s.charged p).share = s.share := by
  unfold State.charged State.countAccess; split <;> simp
@[simp] theorem State.charged_ctxs (s : State) (p : Path) : (s.charged p).ctxs = s.ctxs := by
  unfold State.charged State.countAccess; split <;> simp
@[simp] theorem State.charged_dirty (s : State) (p : Path) : (s.charged p).dirty = s.dirty := by
  unfold State.charged State.countAccess; split <;> simp
@[simp] theorem State.charged_hut (s : State) (p : Path) : (s.charged p).hut = s.hut := by
  unfold State.charged State.countAccess; split <;> simp
@[simp] theorem State.charged_err (s : State) (p : Path) : (s.charged p).err = s.err := by
  unfold State.charged State.countAccess; split <;> simp
@[simp] theorem State.charged_age (s : State) (p : Path) : (s.charged p).age = s.age := by
  unfold State.charged State.countAccess; split <;> simp
@[simp] theorem State.charged_lanes (s : State) (p : Path) : (s.charged p).lanes = s.lanes := by
  unfold State.charged State.countAccess; split <;> simp

/-! ### What `State.setLane` leaves -/

@[simp] theorem State.setLane_pending (s : State) (n : Nat) (x : LaneSt) : (s.setLane n x).pending = s.pending := rfl
@[simp] theorem State.setLane_out (s : State) (n : Nat) (x : LaneSt) : (s.setLane n x).out = s.out := rfl
@[simp] theorem State.setLane_freeCtr (s : State) (n : Nat) (x : LaneSt) : (s.setLane n x).freeCtr = s.freeCtr := rfl
@[simp] theorem State.setLane_flds (s : State) (n : Nat) (x : LaneSt) : (s.setLane n x).flds = s.flds := rfl
@[simp] theorem State.setLane_pins (s : State) (n : Nat) (x : LaneSt) : (s.setLane n x).pins = s.pins := rfl
@[simp] theorem State.setLane_time (s : State) (n : Nat) (x : LaneSt) : (s.setLane n x).time = s.time := rfl
@[simp] theorem State.setLane_avs (s : State) (n : Nat) (x : LaneSt) : (s.setLane n x).avs = s.avs := rfl
@[simp] theorem State.setLane_boot (s : State) (n : Nat) (x : LaneSt) : (s.setLane n x).boot = s.boot := rfl
@[simp] theorem State.setLane_tele (s : State) (n : Nat) (x : LaneSt) : (s.setLane n x).tele = s.tele := rfl
@[simp] theorem State.setLane_mgmt (s : State) (n : Nat) (x : LaneSt) : (s.setLane n x).mgmt = s.mgmt := rfl
@[simp] theorem State.setLane_budget (s : State) (n : Nat) (x : LaneSt) : (s.setLane n x).budget = s.budget := rfl
@[simp] theorem State.setLane_blockUse (s : State) (n : Nat) (x : LaneSt) : (s.setLane n x).blockUse = s.blockUse := rfl
@[simp] theorem State.setLane_core (s : State) (n : Nat) (x : LaneSt) : (s.setLane n x).core = s.core := rfl
@[simp] theorem State.setLane_ports (s : State) (n : Nat) (x : LaneSt) : (s.setLane n x).ports = s.ports := rfl
@[simp] theorem State.setLane_jobs (s : State) (n : Nat) (x : LaneSt) : (s.setLane n x).jobs = s.jobs := rfl
@[simp] theorem State.setLane_xlat (s : State) (n : Nat) (x : LaneSt) : (s.setLane n x).xlat = s.xlat := rfl
@[simp] theorem State.setLane_fab (s : State) (n : Nat) (x : LaneSt) : (s.setLane n x).fab = s.fab := rfl
@[simp] theorem State.setLane_share (s : State) (n : Nat) (x : LaneSt) : (s.setLane n x).share = s.share := rfl
@[simp] theorem State.setLane_ctxs (s : State) (n : Nat) (x : LaneSt) : (s.setLane n x).ctxs = s.ctxs := rfl
@[simp] theorem State.setLane_dirty (s : State) (n : Nat) (x : LaneSt) : (s.setLane n x).dirty = s.dirty := rfl
@[simp] theorem State.setLane_hut (s : State) (n : Nat) (x : LaneSt) : (s.setLane n x).hut = s.hut := rfl
@[simp] theorem State.setLane_err (s : State) (n : Nat) (x : LaneSt) : (s.setLane n x).err = s.err := rfl
@[simp] theorem State.setLane_age (s : State) (n : Nat) (x : LaneSt) : (s.setLane n x).age = s.age := rfl

/-! ### What `State.setPort` leaves -/

@[simp] theorem State.setPort_pending (s : State) (n : Nat) (x : PortSt) : (s.setPort n x).pending = s.pending := rfl
@[simp] theorem State.setPort_out (s : State) (n : Nat) (x : PortSt) : (s.setPort n x).out = s.out := rfl
@[simp] theorem State.setPort_freeCtr (s : State) (n : Nat) (x : PortSt) : (s.setPort n x).freeCtr = s.freeCtr := rfl
@[simp] theorem State.setPort_flds (s : State) (n : Nat) (x : PortSt) : (s.setPort n x).flds = s.flds := rfl
@[simp] theorem State.setPort_pins (s : State) (n : Nat) (x : PortSt) : (s.setPort n x).pins = s.pins := rfl
@[simp] theorem State.setPort_time (s : State) (n : Nat) (x : PortSt) : (s.setPort n x).time = s.time := rfl
@[simp] theorem State.setPort_avs (s : State) (n : Nat) (x : PortSt) : (s.setPort n x).avs = s.avs := rfl
@[simp] theorem State.setPort_boot (s : State) (n : Nat) (x : PortSt) : (s.setPort n x).boot = s.boot := rfl
@[simp] theorem State.setPort_tele (s : State) (n : Nat) (x : PortSt) : (s.setPort n x).tele = s.tele := rfl
@[simp] theorem State.setPort_mgmt (s : State) (n : Nat) (x : PortSt) : (s.setPort n x).mgmt = s.mgmt := rfl
@[simp] theorem State.setPort_budget (s : State) (n : Nat) (x : PortSt) : (s.setPort n x).budget = s.budget := rfl
@[simp] theorem State.setPort_blockUse (s : State) (n : Nat) (x : PortSt) : (s.setPort n x).blockUse = s.blockUse := rfl
@[simp] theorem State.setPort_core (s : State) (n : Nat) (x : PortSt) : (s.setPort n x).core = s.core := rfl
@[simp] theorem State.setPort_jobs (s : State) (n : Nat) (x : PortSt) : (s.setPort n x).jobs = s.jobs := rfl
@[simp] theorem State.setPort_xlat (s : State) (n : Nat) (x : PortSt) : (s.setPort n x).xlat = s.xlat := rfl
@[simp] theorem State.setPort_fab (s : State) (n : Nat) (x : PortSt) : (s.setPort n x).fab = s.fab := rfl
@[simp] theorem State.setPort_share (s : State) (n : Nat) (x : PortSt) : (s.setPort n x).share = s.share := rfl
@[simp] theorem State.setPort_ctxs (s : State) (n : Nat) (x : PortSt) : (s.setPort n x).ctxs = s.ctxs := rfl
@[simp] theorem State.setPort_dirty (s : State) (n : Nat) (x : PortSt) : (s.setPort n x).dirty = s.dirty := rfl
@[simp] theorem State.setPort_hut (s : State) (n : Nat) (x : PortSt) : (s.setPort n x).hut = s.hut := rfl
@[simp] theorem State.setPort_err (s : State) (n : Nat) (x : PortSt) : (s.setPort n x).err = s.err := rfl
@[simp] theorem State.setPort_age (s : State) (n : Nat) (x : PortSt) : (s.setPort n x).age = s.age := rfl
@[simp] theorem State.setPort_lanes (s : State) (n : Nat) (x : PortSt) : (s.setPort n x).lanes = s.lanes := rfl

/-! ### Fields, lanes and ports after updates elsewhere -/

@[simp] theorem State.get_emit (s : State) (o : Out) (g : Fld) : (s.emit o).get g = s.get g := State.get_of_flds (by simp) g
@[simp] theorem State.get_setCtr (s : State) (i n : Nat) (g : Fld) : (s.setCtr i n).get g = s.get g := State.get_of_flds (by simp) g
@[simp] theorem State.get_count (s : State) (i n : Nat) (g : Fld) : (s.count i n).get g = s.get g := State.get_of_flds (by simp) g
@[simp] theorem State.get_spend (s : State) (c r d q : Nat) (g : Fld) : (s.spend c r d q).get g = s.get g := State.get_of_flds (by simp) g
@[simp] theorem State.get_charged (s : State) (q : Path) (g : Fld) : (s.charged q).get g = s.get g := State.get_of_flds (by simp) g
@[simp] theorem State.get_setCfg (s : State) (v f d x : Nat) (g : Fld) : (s.setCfg v f d x).get g = s.get g := State.get_of_flds (by simp) g
@[simp] theorem State.get_setLane (s : State) (n : Nat) (x : LaneSt) (g : Fld) : (s.setLane n x).get g = s.get g := State.get_of_flds (by simp) g
@[simp] theorem State.get_setPort (s : State) (n : Nat) (x : PortSt) (g : Fld) : (s.setPort n x).get g = s.get g := State.get_of_flds (by simp) g
@[simp] theorem State.lane_set (s : State) (f : Fld) (v : Nat) (k : Nat) : (s.set f v).lane k = s.lane k := by simp [State.lane]
@[simp] theorem State.lane_put (s : State) (f : Fld) (v : Bool) (k : Nat) : (s.put f v).lane k = s.lane k := by simp [State.lane]
@[simp] theorem State.lane_sets (s : State) (l : List (Fld × Nat)) (k : Nat) : (s.sets l).lane k = s.lane k := by simp [State.lane]
@[simp] theorem State.lane_addSat (s : State) (f : Fld) (v : Nat) (k : Nat) : (s.addSat f v).lane k = s.lane k := by simp [State.lane]
@[simp] theorem State.lane_emit (s : State) (o : Out) (k : Nat) : (s.emit o).lane k = s.lane k := by simp [State.lane]
@[simp] theorem State.lane_count (s : State) (i n : Nat) (k : Nat) : (s.count i n).lane k = s.lane k := by simp [State.lane]
@[simp] theorem State.lane_charged (s : State) (q : Path) (k : Nat) : (s.charged q).lane k = s.lane k := by simp [State.lane]
@[simp] theorem State.lane_setPort (s : State) (n : Nat) (x : PortSt) (k : Nat) : (s.setPort n x).lane k = s.lane k := by simp [State.lane]
@[simp] theorem State.port_set (s : State) (f : Fld) (v : Nat) (k : Nat) : (s.set f v).port k = s.port k := by simp [State.port]
@[simp] theorem State.port_put (s : State) (f : Fld) (v : Bool) (k : Nat) : (s.put f v).port k = s.port k := by simp [State.port]
@[simp] theorem State.port_sets (s : State) (l : List (Fld × Nat)) (k : Nat) : (s.sets l).port k = s.port k := by simp [State.port]
@[simp] theorem State.port_addSat (s : State) (f : Fld) (v : Nat) (k : Nat) : (s.addSat f v).port k = s.port k := by simp [State.port]
@[simp] theorem State.port_emit (s : State) (o : Out) (k : Nat) : (s.emit o).port k = s.port k := by simp [State.port]
@[simp] theorem State.port_count (s : State) (i n : Nat) (k : Nat) : (s.count i n).port k = s.port k := by simp [State.port]
@[simp] theorem State.port_charged (s : State) (q : Path) (k : Nat) : (s.charged q).port k = s.port k := by simp [State.port]
@[simp] theorem State.port_setLane (s : State) (n : Nat) (x : LaneSt) (k : Nat) : (s.setLane n x).port k = s.port k := by simp [State.port]
@[simp] theorem State.lane_setLane_same (s : State) (n : Nat) (x : LaneSt) : (s.setLane n x).lane n = x := by
  simp [State.lane, State.setLane, Tab.getD_setD]
theorem State.lane_setLane_other (s : State) (n k : Nat) (x : LaneSt) (h : k ≠ n) : (s.setLane n x).lane k = s.lane k := by
  simp [State.lane, State.setLane, Tab.getD_setD, h]
@[simp] theorem State.port_setPort_same (s : State) (n : Nat) (x : PortSt) : (s.setPort n x).port n = x := by
  simp [State.port, State.setPort, Tab.getD_setD]
theorem State.port_setPort_other (s : State) (n k : Nat) (x : PortSt) (h : k ≠ n) : (s.setPort n x).port k = s.port k := by
  simp [State.port, State.setPort, Tab.getD_setD, h]
@[simp] theorem State.hll_setHll_same (s : State) (n : Nat) (x : Hll) : (s.setHll n x).hll n = x := by
  simp [State.hll, State.setHll]
@[simp] theorem State.flds_setHll (s : State) (n : Nat) (x : Hll) : (s.setHll n x).flds = s.flds := rfl
@[simp] theorem State.get_setHll (s : State) (n : Nat) (x : Hll) (g : Fld) : (s.setHll n x).get g = s.get g := rfl
@[simp] theorem State.vctl_setVctl_same (s : State) (n : Nat) (x : VhCtl) : (s.setVctl n x).vctl n = x := by
  simp [State.vctl, State.setVctl, Tab.getD_setD]
@[simp] theorem State.flds_setVctl (s : State) (n : Nat) (x : VhCtl) : (s.setVctl n x).flds = s.flds := rfl
@[simp] theorem State.get_setVctl (s : State) (n : Nat) (x : VhCtl) (g : Fld) : (s.setVctl n x).get g = s.get g := rfl

/-! ### How commands answer -/

/-- In service, a command answers its effect with what follows. -/
theorem next_whenUpS (s : State) (f : State → State) (h : s.up = true) : whenUpS s f = .next (f s).after := by simp [whenUpS, h]

/-- A register row that passes answers the register's own effect, charged to its path, with what follows. -/
theorem next_regWr (s : State) (src : Path) (page off v : Nat) (h : s.Admits src page off v) :
    regWr s src page off v = .next ((s.charged src).writeReg page off (s.priv src) (v % 2 ^ 64)).after := by
  obtain ⟨hu, ho, hg, hf, hs⟩ := h
  have hp : placed (page * 65536 + off) 8 v = v % 2 ^ 64 := by simp [placed]
  have hw : (src == .guide && !s.canSpend 6 1 0) = false := by
    by_cases e : src = .guide
    · simp [hs e]
    · simp [e]
  generalize v % 2 ^ 64 = d at hg hp ⊢
  simp [regWr, whenUpS, hu, State.regCmd, ho, hp, hg, hf, hw]

/-- In service, a command answers its effect with what follows. -/
theorem leads_whenUpS (s : State) (f : State → State) (P : State → Prop) (h : s.up = true) (k : P (f s)) : Leads (whenUpS s f) P :=
  ⟨f s, next_whenUpS s f h, k⟩

/-- A register row that passes answers the register's own effect, charged to its path, with what follows. -/
theorem leads_regWr (s : State) (src : Path) (page off v : Nat) (P : State → Prop) (h : s.Admits src page off v)
    (k : P ((s.charged src).writeReg page off (s.priv src) (v % 2 ^ 64))) : Leads (regWr s src page off v) P :=
  ⟨_, next_regWr s src page off v h, k⟩

/-! ### Work of an activity class (R386, R388) -/

/-- Work the class can pay for is done at once. -/
theorem State.budgeted_pays (s : State) (c reg dram : Nat) (act : Act) (f : State → State) (page : Nat) (whole : Bool)
    (h : s.canPay c reg dram whole = true) : s.budgeted c reg dram act f page whole = f (s.spend c reg dram page) := if_pos h

/-- Work the class cannot pay for waits, and is done by no part. -/
theorem State.budgeted_waits (s : State) (c reg dram : Nat) (act : Act) (f : State → State) (page : Nat) (whole : Bool)
    (h : s.canPay c reg dram whole = false) :
    s.budgeted c reg dram act f page whole = s.defer ⟨c, reg, dram, page, whole, act⟩ := if_neg (by simp [h])

/-- What a class can pay for hangs on its allowance, on what it was charged, and on the work that waits. -/
theorem State.canPay_congr {s t : State} (c r d : Nat) (w : Bool) (h1 : t.budget = s.budget) (h2 : t.jobs = s.jobs)
    (h3 : t.budgetOf c = s.budgetOf c) : t.canPay c r d w = s.canPay c r d w := by
  have e : t.classUse c = s.classUse c := by unfold State.classUse; rw [h1, h3]
  unfold State.canPay State.canSpend State.leftReg State.leftDram
  rw [e, h2]

/-! ### What `State.defer` leaves: work that waits changes nothing but what it was charged -/

@[simp] theorem State.defer_pending (s : State) (j : Job) : (s.defer j).pending = s.pending := by
  unfold State.defer; split
  · rfl
  · dsimp only; (repeat' split) <;> simp [State.turnedAway]
@[simp] theorem State.defer_out (s : State) (j : Job) : (s.defer j).out = s.out := by
  unfold State.defer; split
  · rfl
  · dsimp only; (repeat' split) <;> simp [State.turnedAway]
@[simp] theorem State.defer_freeCtr (s : State) (j : Job) : (s.defer j).freeCtr = s.freeCtr := by
  unfold State.defer; split
  · rfl
  · dsimp only; (repeat' split) <;> simp [State.turnedAway]
@[simp] theorem State.defer_flds (s : State) (j : Job) : (s.defer j).flds = s.flds := by
  unfold State.defer; split
  · rfl
  · dsimp only; (repeat' split) <;> simp [State.turnedAway]
@[simp] theorem State.defer_pins (s : State) (j : Job) : (s.defer j).pins = s.pins := by
  unfold State.defer; split
  · rfl
  · dsimp only; (repeat' split) <;> simp [State.turnedAway]
@[simp] theorem State.defer_time (s : State) (j : Job) : (s.defer j).time = s.time := by
  unfold State.defer; split
  · rfl
  · dsimp only; (repeat' split) <;> simp [State.turnedAway]
@[simp] theorem State.defer_avs (s : State) (j : Job) : (s.defer j).avs = s.avs := by
  unfold State.defer; split
  · rfl
  · dsimp only; (repeat' split) <;> simp [State.turnedAway]
@[simp] theorem State.defer_boot (s : State) (j : Job) : (s.defer j).boot = s.boot := by
  unfold State.defer; split
  · rfl
  · dsimp only; (repeat' split) <;> simp [State.turnedAway]
@[simp] theorem State.defer_mgmt (s : State) (j : Job) : (s.defer j).mgmt = s.mgmt := by
  unfold State.defer; split
  · rfl
  · dsimp only; (repeat' split) <;> simp [State.turnedAway]
@[simp] theorem State.defer_core (s : State) (j : Job) : (s.defer j).core = s.core := by
  unfold State.defer; split
  · rfl
  · dsimp only; (repeat' split) <;> simp [State.turnedAway]
@[simp] theorem State.defer_ports (s : State) (j : Job) : (s.defer j).ports = s.ports := by
  unfold State.defer; split
  · rfl
  · dsimp only; (repeat' split) <;> simp [State.turnedAway]
@[simp] theorem State.defer_xlat (s : State) (j : Job) : (s.defer j).xlat = s.xlat := by
  unfold State.defer; split
  · rfl
  · dsimp only; (repeat' split) <;> simp [State.turnedAway]
@[simp] theorem State.defer_fab (s : State) (j : Job) : (s.defer j).fab = s.fab := by
  unfold State.defer; split
  · rfl
  · dsimp only; (repeat' split) <;> simp [State.turnedAway]
@[simp] theorem State.defer_share (s : State) (j : Job) : (s.defer j).share = s.share := by
  unfold State.defer; split
  · rfl
  · dsimp only; (repeat' split) <;> simp [State.turnedAway]
@[simp] theorem State.defer_ctxs (s : State) (j : Job) : (s.defer j).ctxs = s.ctxs := by
  unfold State.defer; split
  · rfl
  · dsimp only; (repeat' split) <;> simp [State.turnedAway]
@[simp] theorem State.defer_dirty (s : State) (j : Job) : (s.defer j).dirty = s.dirty := by
  unfold State.defer; split
  · rfl
  · dsimp only; (repeat' split) <;> simp [State.turnedAway]
@[simp] theorem State.defer_hut (s : State) (j : Job) : (s.defer j).hut = s.hut := by
  unfold State.defer; split
  · rfl
  · dsimp only; (repeat' split) <;> simp [State.turnedAway]
@[simp] theorem State.defer_err (s : State) (j : Job) : (s.defer j).err = s.err := by
  unfold State.defer; split
  · rfl
  · dsimp only; (repeat' split) <;> simp [State.turnedAway]
@[simp] theorem State.defer_age (s : State) (j : Job) : (s.defer j).age = s.age := by
  unfold State.defer; split
  · rfl
  · dsimp only; (repeat' split) <;> simp [State.turnedAway]
@[simp] theorem State.defer_lanes (s : State) (j : Job) : (s.defer j).lanes = s.lanes := by
  unfold State.defer; split
  · rfl
  · dsimp only; (repeat' split) <;> simp [State.turnedAway]

/-- With nothing left to follow, a command's effect is its answer. -/
theorem State.after_calm (s : State) (h : s.Calm) : s.after = s := by
  obtain ⟨hw, he, hs, hd, hc, ht, hh, hp⟩ := h
  have h1 : s.settle 4096 = s := by
    rw [show 4096 = 4095 + 1 from rfl, State.settle]; simp only [hs, he, hd]
  have h0 : s.passWaited = s := by simp [State.passWaited, hp]
  have h2 : s.intWant = none := by simp [State.intWant, hh, hc, ht]
  have h3 : s.intReady = none := by simp [State.intReady, h2]
  have h4 : s.inFlightAcc = [] := by simp [State.inFlightAcc, hw]
  have h5 : s.nextWait = none := by simp [State.nextWait, h4]
  have h6 : s.passScans = s := by simp [State.passScans, hc]
  have h7 : s.intNote = s := by simp [State.intNote, h2]
  simp only [State.after, h1, h0, h6, h7, hw]
  rw [show ([] : List WaitAcc).length + 2048 = 2047 + 1 from rfl, State.drainWaits, h5, h3]

end Sys2Proof.Machine
end

