-- ==== Sys2Proof/Laws/Raise.lean ====
section
/-! SUPPORT. Laws of raising an event (12_errors_containment.md R342): what it leaves of the state, said once for every step of a report. -/
namespace Sys2Proof.Machine

/-- The parts of the state that no report of an event touches. -/
def State.quiet (s : State) := (s.pending, s.out, s.freeCtr, s.pins, s.time, s.avs, s.boot, s.xlat, s.fab, s.share, s.ctxs, s.dirty, s.hut, s.age, s.lanes)

theorem State.quiet_eq (s : State) : s.quiet = (s.pending, s.out, s.freeCtr, s.pins, s.time, s.avs, s.boot, s.xlat, s.fab, s.share, s.ctxs, s.dirty, s.hut, s.age, s.lanes) := rfl
@[simp] theorem State.quiet_set (s : State) (f : Fld) (v : Nat) : (s.set f v).quiet = s.quiet := rfl
@[simp] theorem State.quiet_setCtr (s : State) (i n : Nat) : (s.setCtr i n).quiet = s.quiet := rfl
@[simp] theorem State.quiet_addSat (s : State) (f : Fld) (n : Nat) : (s.addSat f n).quiet = s.quiet := rfl
@[simp] theorem State.quiet_count (s : State) (i n : Nat) : (s.count i n).quiet = s.quiet := by simp [State.quiet]
@[simp] theorem State.quiet_spend (s : State) (c r d p : Nat) : (s.spend c r d p).quiet = s.quiet := by simp [State.quiet]
@[simp] theorem State.quiet_charged (s : State) (p : Path) : (s.charged p).quiet = s.quiet := by simp [State.quiet]

@[simp] theorem State.submit_quiet (s : State) (a b : Nat) (m : Tlp) : (s.submit a b m).quiet = s.quiet := rfl
@[simp] theorem State.raiseMsix_quiet (s : State) (a b : Nat) : (s.raiseMsix a b).quiet = s.quiet := by
  unfold State.raiseMsix
  try dsimp only
  (repeat' split) <;> first | rfl | (simp; done) | simp [State.quiet]
@[simp] theorem State.raiseMsix_pending (s : State) (v k : Nat) : (s.raiseMsix v k).pending = s.pending := congrArg (fun q => q.1) (State.raiseMsix_quiet s v k)
@[simp] theorem State.raiseMsix_out (s : State) (v k : Nat) : (s.raiseMsix v k).out = s.out := congrArg (fun q => q.2.1) (State.raiseMsix_quiet s v k)
@[simp] theorem State.raiseMsix_freeCtr (s : State) (v k : Nat) : (s.raiseMsix v k).freeCtr = s.freeCtr := congrArg (fun q => q.2.2.1) (State.raiseMsix_quiet s v k)
@[simp] theorem State.raiseMsix_pins (s : State) (v k : Nat) : (s.raiseMsix v k).pins = s.pins := congrArg (fun q => q.2.2.2.1) (State.raiseMsix_quiet s v k)
@[simp] theorem State.raiseMsix_time (s : State) (v k : Nat) : (s.raiseMsix v k).time = s.time := congrArg (fun q => q.2.2.2.2.1) (State.raiseMsix_quiet s v k)
@[simp] theorem State.raiseMsix_avs (s : State) (v k : Nat) : (s.raiseMsix v k).avs = s.avs := congrArg (fun q => q.2.2.2.2.2.1) (State.raiseMsix_quiet s v k)
@[simp] theorem State.raiseMsix_boot (s : State) (v k : Nat) : (s.raiseMsix v k).boot = s.boot := congrArg (fun q => q.2.2.2.2.2.2.1) (State.raiseMsix_quiet s v k)
@[simp] theorem State.raiseMsix_xlat (s : State) (v k : Nat) : (s.raiseMsix v k).xlat = s.xlat := congrArg (fun q => q.2.2.2.2.2.2.2.1) (State.raiseMsix_quiet s v k)
@[simp] theorem State.raiseMsix_fab (s : State) (v k : Nat) : (s.raiseMsix v k).fab = s.fab := congrArg (fun q => q.2.2.2.2.2.2.2.2.1) (State.raiseMsix_quiet s v k)
@[simp] theorem State.raiseMsix_share (s : State) (v k : Nat) : (s.raiseMsix v k).share = s.share := congrArg (fun q => q.2.2.2.2.2.2.2.2.2.1) (State.raiseMsix_quiet s v k)
@[simp] theorem State.raiseMsix_ctxs (s : State) (v k : Nat) : (s.raiseMsix v k).ctxs = s.ctxs := congrArg (fun q => q.2.2.2.2.2.2.2.2.2.2.1) (State.raiseMsix_quiet s v k)
@[simp] theorem State.raiseMsix_dirty (s : State) (v k : Nat) : (s.raiseMsix v k).dirty = s.dirty := congrArg (fun q => q.2.2.2.2.2.2.2.2.2.2.2.1) (State.raiseMsix_quiet s v k)
@[simp] theorem State.raiseMsix_hut (s : State) (v k : Nat) : (s.raiseMsix v k).hut = s.hut := congrArg (fun q => q.2.2.2.2.2.2.2.2.2.2.2.2.1) (State.raiseMsix_quiet s v k)
@[simp] theorem State.raiseMsix_age (s : State) (v k : Nat) : (s.raiseMsix v k).age = s.age := congrArg (fun q => q.2.2.2.2.2.2.2.2.2.2.2.2.2.1) (State.raiseMsix_quiet s v k)
@[simp] theorem State.raiseMsix_lanes (s : State) (v k : Nat) : (s.raiseMsix v k).lanes = s.lanes := congrArg (fun q => q.2.2.2.2.2.2.2.2.2.2.2.2.2.2) (State.raiseMsix_quiet s v k)
@[simp] theorem State.errUp_quiet (s : State) (a b c : Nat) : (s.errUp a b c).quiet = s.quiet := by
  unfold State.errUp
  try dsimp only
  (repeat' split) <;> first | rfl | (simp; done) | simp [State.quiet]
@[simp] theorem State.orCfg_quiet (s : State) (a b c d : Nat) : (s.orCfg a b c d).quiet = s.quiet := rfl
@[simp] theorem State.setCfg_quiet (s : State) (a b c d : Nat) : (s.setCfg a b c d).quiet = s.quiet := rfl
@[simp] theorem State.devStatus_quiet (s : State) (a b c : Nat) (u : Bool) : (s.devStatus a b c u).quiet = s.quiet := by
  unfold State.devStatus; dsimp only; split <;> rfl
theorem State.quiet_foldl_setCfg (a b : Nat) (f g : Nat → Nat) (l : List Nat) (s : State) :
    (l.foldl (fun (s : State) i => s.setCfg a b (f i) (g i)) s).quiet = s.quiet := by
  induction l generalizing s with
  | nil => rfl
  | cons x l ih => rw [List.foldl_cons, ih]; rfl
@[simp] theorem State.aerLog_quiet (s : State) (a b c : Nat) (h : List Nat) : (s.aerLog a b c h).quiet = s.quiet := by
  unfold State.aerLog
  dsimp only
  split
  · rfl
  · split
    · rfl
    · exact (State.quiet_foldl_setCfg _ _ _ _ _ _).trans rfl
@[simp] theorem State.aer_quiet (s : State) (a b : Nat) (k : AerKind) (c : Nat) (h : List Nat) : (s.aer a b k c h).quiet = s.quiet := by
  unfold State.aer
  dsimp only
  (repeat' split) <;> first | rfl | exact (s.orCfg_quiet _ _ _ _).trans rfl | (simp; done) |
    exact (State.devStatus_quiet _ _ _ _ _).trans (by simp)
@[simp] theorem State.notice_quiet (s : State) (r : LogRec) : (s.notice r).quiet = s.quiet := by
  unfold State.notice
  try dsimp only
  (repeat' split) <;> first | rfl | (simp; done) | simp [State.quiet]
theorem State.quiet_tele (s : State) (t : Tele) : ({ s with tele := t } : State).quiet = s.quiet := rfl
@[simp] theorem State.offerIrq_quiet (s : State) (r : LogRec) : (s.offerIrq r).quiet = s.quiet := by
  unfold State.offerIrq
  dsimp only
  split
  · rfl
  · split
    · rfl
    · exact (State.quiet_tele _ _).trans (State.raiseMsix_quiet _ _ _)
@[simp] theorem State.offerSb_quiet (s : State) (r : LogRec) : (s.offerSb r).quiet = s.quiet := by
  unfold State.offerSb
  dsimp only
  (repeat' split) <;> rfl
@[simp] theorem State.offerDma_quiet (s : State) (r : LogRec) : (s.offerDma r).quiet = s.quiet := by
  unfold State.offerDma
  split <;> rfl
@[simp] theorem State.offer_quiet (s : State) (r : LogRec) : (s.offer r).quiet = s.quiet := by
  simp [State.offer]
@[simp] theorem State.blockWritten_quiet (s : State) (b : Nat) : (s.blockWritten b).quiet = s.quiet := rfl
@[simp] theorem State.freezePut_quiet (s : State) (r : LogRec) (l : List LogRec) : (s.freezePut r l).quiet = s.quiet := by
  unfold State.freezePut
  dsimp only
  split <;> simp only [State.sets, List.foldl, State.quiet_set, State.blockWritten_quiet] <;>
    exact (State.quiet_tele _ _).trans (State.quiet_spend _ _ _ _ _)
@[simp] theorem State.freezeNext_quiet (s : State) : s.freezeNext.quiet = s.quiet := by
  unfold State.freezeNext
  split
  · rfl
  · split
    · exact s.freezePut_quiet _ _
    · rfl
@[simp] theorem State.freezeCopy_quiet (s : State) (r : LogRec) : (s.freezeCopy r).quiet = s.quiet := by
  unfold State.freezeCopy
  split
  · rfl
  · exact (State.freezeNext_quiet _).trans rfl
@[simp] theorem State.writeMain_quiet (s : State) (r : LogRec) : (s.writeMain r).quiet = s.quiet := rfl
@[simp] theorem State.addWrote_quiet (s : State) (n : Nat) : (s.addWrote n).quiet = s.quiet := rfl
@[simp] theorem State.setQueue_quiet (s : State) (q : List LogRec) : (s.setQueue q).quiet = s.quiet := rfl
@[simp] theorem State.setFifo_quiet (s : State) (q : List AlarmEnt) : (s.setFifo q).quiet = s.quiet := rfl
@[simp] theorem State.admitRec_quiet (s : State) (r : LogRec) : (s.admitRec r).2.quiet = s.quiet := by
  unfold State.admitRec
  try dsimp only
  (repeat' split) <;> first | rfl | (simp; done) | simp [State.quiet]
theorem State.enterOne_quiet (s : State) (q : List AlarmEnt) (n i : Nat) (r : LogRec) :
    (((((s.setFifo q).set F.LOG.LOG_SEQ.ALARM n).count i 1).freezeCopy r).offer r).quiet = s.quiet := by simp
@[simp] theorem State.enterAlarm_quiet (s : State) (r : LogRec) : (s.enterAlarm r).quiet = s.quiet := by
  unfold State.enterAlarm
  dsimp only
  (repeat' split) <;> first | rfl | exact (State.enterOne_quiet _ _ _ _ _).trans (by simp) | (simp; done) | simp [State.quiet]
@[simp] theorem State.coalesce_quiet (s : State) (r : LogRec) : (s.coalesce r).2.quiet = s.quiet := by
  unfold State.coalesce
  try dsimp only
  (repeat' split) <;> first | rfl | exact (State.admitRec_quiet _ _).trans rfl | (simp; done) | simp [State.quiet]
@[simp] theorem State.showEvent_quiet (s : State) (a b : Nat) (c : Bool) : (s.showEvent a b c).quiet = s.quiet := by
  unfold State.showEvent
  try dsimp only
  (repeat' split) <;> first | rfl | (simp; done) | simp [State.quiet]
@[simp] theorem State.countEvent_quiet (s : State) (a b : Nat) : (s.countEvent a b).quiet = s.quiet := by
  unfold State.countEvent; simp
@[simp] theorem State.log_quiet (s : State) (r : LogRec) : (s.log r).quiet = s.quiet := by
  unfold State.log
  split
  · simp
  · split
    · rfl
    · dsimp only
      split <;> split <;> simp only [State.countEvent_quiet, State.coalesce_quiet, State.admitRec_quiet]
@[simp] theorem State.freezeEnd_quiet (t s : State) : (State.freezeEnd t s).quiet = s.quiet := by
  unfold State.freezeEnd
  try dsimp only
  (repeat' split) <;> first | rfl | (simp; done) | simp [State.quiet]
@[simp] theorem State.freezeStart_quiet (s : State) (c : Nat) : (s.freezeStart c).quiet = s.quiet := by
  unfold State.freezeStart
  try dsimp only
  (repeat' split) <;> first | rfl | (simp; done) | simp [State.quiet]
@[simp] theorem State.countClass_quiet (s : State) (k : EClass) : (s.countClass k).quiet = s.quiet := by
  unfold State.countClass
  try dsimp only
  (repeat' split) <;> first | rfl | (simp; done) | simp [State.quiet]
@[simp] theorem State.logEvent_quiet (s : State) (k : EClass) (n : Nat) (m : Bool) (a : EvArg) : (s.logEvent k n m a).quiet = s.quiet := by
  unfold State.logEvent
  try dsimp only
  (repeat' split) <;> first | rfl | (simp; done) | simp [State.quiet]
theorem State.foldl_aer_quiet (k : AerKind) (l : List Nat) (s : State) : (l.foldl (fun (s : State) v => if s.vhBound v then s.aer v 32 k else s) s).quiet = s.quiet := by
  induction l generalizing s with
  | nil => rfl
  | cons a l ih => rw [List.foldl_cons, ih]; split <;> simp
@[simp] theorem State.aerEvent_quiet (s : State) (w : EClass) (k : AerKind) (a : EvArg) : (s.aerEvent w k a).quiet = s.quiet := by
  unfold State.aerEvent
  split
  · simp
  · split
    · rfl
    · exact State.foldl_aer_quiet _ _ _
  · ((try dsimp only); (repeat' split) <;> first | rfl | simp)
@[simp] theorem State.irqEvent_quiet (s : State) (k : EClass) (m : Option Nat) : (s.irqEvent k m).quiet = s.quiet := by
  unfold State.irqEvent
  try dsimp only
  (repeat' split) <;> first | rfl | (simp; done) | simp [State.quiet]
@[simp] theorem State.escEvent_quiet (s : State) (k : EClass) (n : Nat) (m : Option Nat) (a : EvArg) : (s.escEvent k n m a).quiet = s.quiet := by
  unfold State.escEvent
  try dsimp only
  (repeat' split) <;> first | rfl | (simp; done) | simp [State.quiet]
@[simp] theorem State.raise_quiet (s : State) (c : Nat) (a : EvArg) : (s.raise c a).quiet = s.quiet := by
  unfold State.raise
  split
  · rfl
  · simp only [State.freezeEnd_quiet, State.escEvent_quiet, State.irqEvent_quiet, State.aerEvent_quiet, State.logEvent_quiet, State.countClass_quiet, State.showEvent_quiet, State.quiet_count]

/-! ### What `State.raise` leaves -/

@[simp] theorem State.raise_pending (s : State) (c : Nat) (a : EvArg) : (s.raise c a).pending = s.pending := congrArg (fun q => q.1) (State.raise_quiet s c a)
@[simp] theorem State.raise_out (s : State) (c : Nat) (a : EvArg) : (s.raise c a).out = s.out := congrArg (fun q => q.2.1) (State.raise_quiet s c a)
@[simp] theorem State.raise_freeCtr (s : State) (c : Nat) (a : EvArg) : (s.raise c a).freeCtr = s.freeCtr := congrArg (fun q => q.2.2.1) (State.raise_quiet s c a)
@[simp] theorem State.raise_pins (s : State) (c : Nat) (a : EvArg) : (s.raise c a).pins = s.pins := congrArg (fun q => q.2.2.2.1) (State.raise_quiet s c a)
@[simp] theorem State.raise_time (s : State) (c : Nat) (a : EvArg) : (s.raise c a).time = s.time := congrArg (fun q => q.2.2.2.2.1) (State.raise_quiet s c a)
@[simp] theorem State.raise_avs (s : State) (c : Nat) (a : EvArg) : (s.raise c a).avs = s.avs := congrArg (fun q => q.2.2.2.2.2.1) (State.raise_quiet s c a)
@[simp] theorem State.raise_boot (s : State) (c : Nat) (a : EvArg) : (s.raise c a).boot = s.boot := congrArg (fun q => q.2.2.2.2.2.2.1) (State.raise_quiet s c a)
@[simp] theorem State.raise_xlat (s : State) (c : Nat) (a : EvArg) : (s.raise c a).xlat = s.xlat := congrArg (fun q => q.2.2.2.2.2.2.2.1) (State.raise_quiet s c a)
@[simp] theorem State.raise_fab (s : State) (c : Nat) (a : EvArg) : (s.raise c a).fab = s.fab := congrArg (fun q => q.2.2.2.2.2.2.2.2.1) (State.raise_quiet s c a)
@[simp] theorem State.raise_share (s : State) (c : Nat) (a : EvArg) : (s.raise c a).share = s.share := congrArg (fun q => q.2.2.2.2.2.2.2.2.2.1) (State.raise_quiet s c a)
@[simp] theorem State.raise_ctxs (s : State) (c : Nat) (a : EvArg) : (s.raise c a).ctxs = s.ctxs := congrArg (fun q => q.2.2.2.2.2.2.2.2.2.2.1) (State.raise_quiet s c a)
@[simp] theorem State.raise_dirty (s : State) (c : Nat) (a : EvArg) : (s.raise c a).dirty = s.dirty := congrArg (fun q => q.2.2.2.2.2.2.2.2.2.2.2.1) (State.raise_quiet s c a)
@[simp] theorem State.raise_hut (s : State) (c : Nat) (a : EvArg) : (s.raise c a).hut = s.hut := congrArg (fun q => q.2.2.2.2.2.2.2.2.2.2.2.2.1) (State.raise_quiet s c a)
@[simp] theorem State.raise_age (s : State) (c : Nat) (a : EvArg) : (s.raise c a).age = s.age := congrArg (fun q => q.2.2.2.2.2.2.2.2.2.2.2.2.2.1) (State.raise_quiet s c a)
@[simp] theorem State.raise_lanes (s : State) (c : Nat) (a : EvArg) : (s.raise c a).lanes = s.lanes := congrArg (fun q => q.2.2.2.2.2.2.2.2.2.2.2.2.2.2) (State.raise_quiet s c a)

end Sys2Proof.Machine
end

