-- ==== Sys2Proof/Laws/RegWrite.lean ====
section
/-! SUPPORT. Laws of register writes: the operation that a write of each register with an effect of its own is. -/
namespace Sys2Proof.Machine

/-! ### The pages -/

theorem State.writeReg_header (s : State) (page off pr v : Nat) (h : off < 0x100) : s.writeReg page off pr v = s.wrHeader page off pr v := by
  simp [State.writeReg, h]
theorem State.writeReg_low (s : State) (page off pr v : Nat) (h : 0x100 ≤ off) (hp : page ≤ 9) :
    s.writeReg page off pr v = s.wrLow page off pr v := by
  rw [State.writeReg, if_neg (by omega), if_pos hp]
theorem State.writeReg_station (s : State) (page off pr v : Nat) (h : 0x100 ≤ off) (hp : 0x10 ≤ page) (hq : page ≤ 0x1B) :
    s.writeReg page off pr v = s.wrStation page off pr v := by
  rw [State.writeReg, if_neg (by omega), if_neg (by omega), if_pos ⟨hp, hq⟩]
theorem State.writeReg_egress (s : State) (page off pr v : Nat) (h : 0x100 ≤ off) (hp : 0x30 ≤ page) (hq : page ≤ 0x3B) :
    s.writeReg page off pr v = s.wrEgress page off pr v := by
  rw [State.writeReg, if_neg (by omega), if_neg (by omega), if_neg (by omega), if_pos ⟨hp, hq⟩]
theorem State.writeReg_lane (s : State) (n off pr v : Nat) (h : 0x100 ≤ off) :
    s.writeReg (0x100 + n) off pr v = s.wrLane n (0x100 + n) off pr v := by
  rw [State.writeReg]
  iterate 4 rw [if_neg (by omega)]
  rw [if_pos (by omega), Nat.add_sub_cancel_left]
theorem State.writeReg_high (s : State) (page off pr v : Nat) (h : 0x100 ≤ off) (hp : 0x58 ≤ page) (hq : page < 0x100) :
    s.writeReg page off pr v = s.wrHigh page off pr v := by
  rw [State.writeReg]
  iterate 5 rw [if_neg (by omega)]
  rw [if_pos hp]
theorem State.writeReg_core (s : State) (page off pr v : Nat) (h : 0x100 ≤ off) (hp : 0x3C ≤ page) (hq : page < 0x58) :
    s.writeReg page off pr v = s.wrCore page off pr v := by
  rw [State.writeReg]
  iterate 6 rw [if_neg (by omega)]

/-! ### Registers of a port, a lane, an array -/

theorem State.writeReg_bifurc (s : State) (st pr v : Nat) (h : st < 12) : s.writeReg (0x10 + st) 0x100 pr v = s.wrBifurc st v := by
  rw [State.writeReg_station _ _ _ _ _ (by omega) (by omega) (by omega), State.wrStation]
  simp
theorem State.writeReg_portRole (s : State) (p pr v : Nat) (h : p < 48) :
    s.writeReg (0x10 + p / 4) (0x110 + 8 * (p % 4)) pr v = s.wrPortRole p v := by
  rw [State.writeReg_station _ _ _ _ _ (by omega) (by omega) (by omega), State.wrStation]
  rw [if_neg (by omega), if_pos (by omega)]
  congr 1; omega
theorem State.writeReg_linkCtl (s : State) (p pr v : Nat) (h : p < 48) :
    s.writeReg (0x10 + p / 4) (0x130 + 8 * (p % 4)) pr v = s.wrLinkCtl p v := by
  rw [State.writeReg_station _ _ _ _ _ (by omega) (by omega) (by omega), State.wrStation]
  rw [if_neg (by omega), if_neg (by omega), if_pos (by omega)]
  congr 1; omega
theorem State.writeReg_tcvc (s : State) (p pr v : Nat) (h : p < 48) :
    s.writeReg (0x30 + p / 4) (0x100 + 8 * (p % 4)) pr v = s.wrTcvc p v := by
  rw [State.writeReg_egress _ _ _ _ _ (by omega) (by omega) (by omega), State.wrEgress]
  rw [if_pos (by omega)]
  congr 1; omega
theorem State.writeReg_gateAdmin (s : State) (p pr v : Nat) (h : p < 48) :
    s.writeReg (0x30 + p / 4) (0x120 + 8 * (p % 4)) pr v = s.wrGateAdmin p v := by
  rw [State.writeReg_egress _ _ _ _ _ (by omega) (by omega) (by omega), State.wrEgress]
  rw [if_neg (by omega), if_pos (by omega)]
  congr 1; omega
theorem State.writeReg_shadowCtl (s : State) (page pr v : Nat) : s.writeReg page 0x40 pr v = s.wrShadowCtl page v := rfl
theorem State.writeReg_evtForce (s : State) (page pr v : Nat) : s.writeReg page 0x30 pr v = s.wrEvtForce page v := rfl
theorem State.writeReg_pageCtl (s : State) (page pr v : Nat) : s.writeReg page 0x10 pr v = s.wrPageCtl page v := rfl
theorem State.writeReg_ropePair (s : State) (m pr v : Nat) (h : m < 24) : s.writeReg 0x41 (0x800 + 8 * m) pr v = s.wrRopePair m v := by
  rw [State.writeReg_core _ _ _ _ _ (by omega) (by omega) (by omega), State.wrCore]
  iterate 6 rw [if_neg (by omega)]
  rw [if_pos (by omega)]
  congr 1; omega
theorem State.writeReg_vhBind (s : State) (h pr v : Nat) (hh : h < 24) : s.writeReg 0x43 (0x200 + 8 * h) pr v = s.wrVhBind h v := by
  rw [State.writeReg_core _ _ _ _ _ (by omega) (by omega) (by omega), State.wrCore]
  iterate 9 rw [if_neg (by omega)]
  rw [if_pos (by omega)]
  congr 1; omega
theorem State.writeReg_vfMap (s : State) (i w pr v : Nat) (hi : i < 1024) (hw : w < 4) :
    s.writeReg 0x43 (0x8000 + 0x20 * i + 8 * w) pr v = s.wrVfMap i w v := by
  rw [State.writeReg_core _ _ _ _ _ (by omega) (by omega) (by omega), State.wrCore]
  iterate 10 rw [if_neg (by omega)]
  rw [if_pos (by omega)]
  congr 1 <;> omega
theorem State.writeReg_dlSlot (s : State) (j w pr v : Nat) (hj : j < 256) (hw : w < 2) :
    s.writeReg 0x45 (0x1000 + 0x10 * j + 8 * w) pr v = s.wrDlSlot j w v := by
  rw [State.writeReg_core _ _ _ _ _ (by omega) (by omega) (by omega), State.wrCore]
  iterate 14 rw [if_neg (by omega)]
  rw [if_pos (by omega)]
  congr 1 <;> omega
theorem State.writeReg_chain (s : State) (j pr v : Nat) (hj : j < 32) : s.writeReg 0x5A (0x200 + 8 * j) pr v = s.wrChain j v := by
  rw [State.writeReg_high _ _ _ _ _ (by omega) (by omega) (by omega), State.wrHigh]
  iterate 8 rw [if_neg (by omega)]
  rw [if_pos (by omega)]
  congr 1; omega
theorem State.writeReg_rpuSlot (s : State) (n pr v : Nat) (hn : n < 512) (hm : pageMapped n = true) :
    s.writeReg 0x08 (0x1000 + 8 * n) pr v =
      if bitOf v 63 then (s.writePlain 0x08 (0x1000 + 8 * n) pr v).set (F.RPU.SLOT.LOCK n) 1 else s.writePlain 0x08 (0x1000 + 8 * n) pr v := by
  have e : (0x1000 + 8 * n - 0x1000) / 8 = n := by omega
  rw [State.writeReg_low _ _ _ _ _ (by omega) (by omega), State.wrLow]
  iterate 10 rw [if_neg (by omega)]
  rw [if_pos (by omega)]
  simp only [e, hm, Bool.not_true, Bool.false_eq_true, if_false]

end Sys2Proof.Machine
end

