-- ==== Sys2Proof/Laws/Views.lean ====
section
/-! SUPPORT. Laws of what is read off the register fields (roles, lanes, links), of the words the commands build, and of the plain writing of a
register. -/
namespace Sys2Proof.Machine

/-! ### The word of an operation with GO -/

theorem goOp_go (v : Word) (op : Nat) (h : op < 8) : bitOf (goOp v op) 63 = true := by
  have := v.isLt
  simp only [bitOf, goOp, beq_iff_eq]; omega
theorem goOp_op (v : Word) (op : Nat) (h : op < 8) : bitsOf (goOp v op) 62 60 = op := by
  have := v.isLt
  simp only [bitsOf, goOp]; omega
theorem goOp_low (v : Word) (op i : Nat) (h : i < 60) : bitOf (goOp v op) i = bitOf v.toNat i := by
  have e : goOp v op = 2 ^ 60 * (8 + op) + v.toNat % 2 ^ 60 := by simp only [goOp]; omega
  rw [bitOf_eq_testBit, bitOf_eq_testBit, e, Nat.testBit_two_pow_mul_add _ (Nat.mod_lt _ (by decide)), if_pos h, Nat.testBit_mod_two_pow]
  simp [h]
theorem goOp_mod (v : Word) (op : Nat) (h : op < 8) : goOp v op % 2 ^ 64 = goOp v op := by
  apply Nat.mod_eq_of_lt
  simp only [goOp]; omega

/-! ### Roles, links and lanes -/

@[simp] theorem State.role_charged (s : State) (p : Path) (q : Nat) : (s.charged p).role q = s.role q := by simp [State.role]
theorem State.role_set (s : State) (f : Fld) (v q : Nat) (h : f.key ≠ (F.STN.PORT_ROLE.ROLE q).key) : (s.set f v).role q = s.role q := by
  unfold State.role; exact State.get_set_other _ _ _ _ (Ne.symm h)
@[simp] theorem State.linkUp_charged (s : State) (p : Path) (q : Nat) : (s.charged p).linkUp q = s.linkUp q := by
  unfold State.linkUp; simp
theorem State.linkUp_set (s : State) (f : Fld) (v n : Nat) : (s.set f v).linkUp n = s.linkUp n := rfl
theorem State.containFault_charged (s : State) (p : Path) (a b c : Nat) : (s.charged p).containFault a b c = s.containFault a b c := by
  simp [State.containFault, State.role, State.managerVh, State.vhBound, State.flag, State.contained]
theorem State.laneOff_flds {t s : State} (h : t.flds = s.flds) (n : Nat) : t.laneOff n = s.laneOff n := by
  unfold State.laneOff State.role State.portOfLane State.mode State.get; rw [h]
theorem State.laneFab_flds {t s : State} (h : t.flds = s.flds) (n : Nat) : t.laneFab n = s.laneFab n := by
  unfold State.laneFab State.role State.portOfLane State.mode State.get; rw [h]
theorem State.portOfLane_flds {t s : State} (h : t.flds = s.flds) (n : Nat) : t.portOfLane n = s.portOfLane n := by
  unfold State.portOfLane State.mode State.get; rw [h]
theorem State.portOfLane_get {t s : State} (n : Nat) (h : t.get (F.STN.BIFURC.MODE (n / 16)) = s.get (F.STN.BIFURC.MODE (n / 16))) : t.portOfLane n = s.portOfLane n := by
  unfold State.portOfLane State.mode; dsimp only; rw [h]
@[simp] theorem State.laneOff_charged (s : State) (p : Path) (n : Nat) : (s.charged p).laneOff n = s.laneOff n := State.laneOff_flds (by simp) n
@[simp] theorem State.setLane_same (s : State) (n : Nat) (l : LaneSt) : (s.setLane n l).lane n = l := by
  simp [State.setLane, State.lane, Tab.getD_setD]
theorem State.lane_of_lanes {t s : State} (h : t.lanes = s.lanes) (n : Nat) : t.lane n = s.lane n := by simp only [State.lane, h]
@[simp] theorem State.setHll_hll (s : State) (p : Nat) (x : Hll) : (s.setHll p x).hll p = x := by
  simp [State.setHll, State.hll, State.setPort, State.port, Tab.getD_setD]
theorem State.sawSnr_get (s : State) (n x : Nat) (f : Fld) (hf : f.key ≠ (F.LANE.RXSTS.SNR n).key) (hg : f.key ≠ (F.LANE.RXSTS.SNR_MIN n).key) : (s.sawSnr n x).get f = s.get f := by
  simp only [State.sawSnr, State.sets_cons, State.sets_nil]
  rw [State.get_set_other _ _ _ _ hg, State.get_set_other _ _ _ _ hf]
@[simp] theorem State.sawSnr_lane (s : State) (n x m : Nat) : (s.sawSnr n x).lane m = s.lane m := rfl

/-! ### The schedule of the acclimatisation passes -/

@[simp] theorem State.setDue_get (s : State) (m : Nat) (f : Fld) (h : f.key ≠ (F.AGE.ACCL_STS.NEXT_DUE).key) : (s.setDue m).get f = s.get f := by
  unfold State.setDue State.free
  dsimp only
  split
  · dsimp only; rw [State.get_set_other _ _ _ _ h]; rfl
  · dsimp only; rw [State.get_set_other _ _ _ _ h]; rfl
theorem State.setDue_same (s : State) (m : Nat) (h : m < 4096) : (s.setDue m).get F.AGE.ACCL_STS.NEXT_DUE = m := by
  unfold State.setDue
  simp only [h, if_true, State.get_set_same]
  exact Nat.mod_eq_of_lt h
@[simp] theorem State.setDue_boot (s : State) (m : Nat) : (s.setDue m).boot = s.boot := by
  unfold State.setDue State.free; dsimp only; split <;> rfl
theorem State.setDue_age (s : State) (m : Nat) : (s.setDue m).age = { s.age with due := m } := by
  unfold State.setDue State.free; dsimp only; split <;> rfl

/-! ### A plain write of a register changes that register's fields and its page's header, and no other field (R470, R475) -/

/-- Every field of these registers begins inside its word. -/
def loOk (l : List RDesc) : Bool := l.all fun r => r.fields.all fun d => decide (d.lo < 64)
theorem ite_lo (c : Prop) [Decidable c] (a b : Option (List RDesc)) (ha : loOk (a.getD []) = true) (hb : loOk (b.getD []) = true) :
    loOk ((if c then a else b).getD []) = true := by split <;> assumption
theorem pageRegs_lo (page : Nat) : loOk ((pageRegs page).getD []) = true := by
  unfold pageRegs
  repeat' (apply ite_lo)
  all_goals decide +kernel
theorem regAt_lo (page off : Nat) (r : RDesc) (h : regAt page off = some r) : ∀ d ∈ r.fields, d.lo < 64 := by
  have m := List.mem_of_find?_eq_some h
  have a := pageRegs_lo page
  simp only [loOk, List.all_eq_true, decide_eq_true_eq] at a
  exact a r m
theorem State.writePlain_get (s : State) (page off pr v : Nat) (f : Fld) (h : f.key / 64 ≠ page * 65536 + off) (hh : 0x100 ≤ f.key / 64 % 65536)
    (hp : page < 512) (hl : ∀ r, regAt page off = some r → ∀ d ∈ r.fields, d.lo < 64) : (s.writePlain page off pr v).get f = s.get f := by
  have e (s : State) (d : FDesc) (hd : d.lo < 64) : (s.writeField page off pr v d).get f = s.get f := by
    have k : f.key ≠ (d.toFld page off).key := by
      simp only [FDesc.toFld, fld]; omega
    have q (g : Fld) (hg : g.key / 64 % 65536 < 0x100) : f.key ≠ g.key := by
      intro e; rw [e] at hh; omega
    unfold State.writeField State.stage
    dsimp only
    have a1 : f.key ≠ (F.HDR.SHADOW_CTL.DIRTY page).key := q _ (by simp only [F.HDR.SHADOW_CTL.DIRTY, fld]; omega)
    have a2 : f.key ≠ (F.HDR.PAGE_STS.DIRTY page).key := q _ (by simp only [F.HDR.PAGE_STS.DIRTY, fld]; omega)
    have a3 : f.key ≠ (F.HDR.SHADOW_CTL.STAGERS page).key := q _ (by simp only [F.HDR.SHADOW_CTL.STAGERS, fld]; omega)
    split
    · rw [State.get_set_other _ _ _ _ k]
    · rw [State.get_set_other _ _ _ _ k]
    · split
      · rfl
      · rw [State.get_set_other _ _ _ _ k]
    · rw [State.get_set_other _ _ _ _ k]
    · simp only [State.sets_cons, State.sets_nil]
      rw [State.get_set_other _ _ _ _ a3, State.get_set_other _ _ _ _ a2, State.get_set_other _ _ _ _ a1]
      rfl
    · rfl
  have g (l : List FDesc) (hl : ∀ d ∈ l, d.lo < 64) (s : State) : (l.foldl (fun s d => s.writeField page off pr v d) s).get f = s.get f := by
    induction l generalizing s with
    | nil => rfl
    | cons a l ih => rw [List.foldl_cons, ih (fun d hd => hl d (List.mem_cons_of_mem _ hd)), e _ _ (hl a (List.mem_cons_self ..))]
  unfold State.writePlain
  cases hr : regAt page off with
  | none => rfl
  | some r =>
    simp only
    split
    · exact g _ (hl r hr) _
    · exact g _ (hl r hr) _
theorem State.writePlain_get_other (s : State) (page off pr v : Nat) (f : Fld) (h : f.key / 64 ≠ page * 65536 + off) (hh : 0x100 ≤ f.key / 64 % 65536)
    (hp : page < 512) : (s.writePlain page off pr v).get f = s.get f := State.writePlain_get s page off pr v f h hh hp (regAt_lo page off)

end Sys2Proof.Machine
end

