-- ==== Sys2Proof/WellFormed.lean ====
section
/-! DEFINITION. Which terms of `Instr` are commands: bounds of the operands the types do not already give (lengths of flits, packets, payloads
and measurement lists). -/
namespace Sys2Proof

/-- A TLP's payload is no longer than its length, and neither exceeds 4,096 bytes. -/
def Tlp.wf (t : Tlp) : Bool := decide (t.data.length ≤ 4096 ∧ t.len ≤ 4096)

/-- A Hut access has at most 4,096 bytes, and as many byte enables as data bytes. -/
def HutReq.wf (r : HutReq) : Bool := decide (r.len ≤ 4096) && r.be.length == r.data.length

/-- Well-formed commands. -/
def Instr.wf : Instr → Bool
  | .pwrOkRise => true
  | .pwrOkFall => true
  | .sysRstNAssert => true
  | .internalResetRelease _ _ => true
  | .bistDone _ => true
  | .imageVerifyDone _ _ _ _ => true
  | .ascentRecordApply => true
  | .ascentRecordTimeout => true
  | .summitEnter => true
  | .ascentLateTimeout => true
  | .guidePair1Verified _ => true
  | .autoConfirmTimeout => true
  | .imageConfirm _ _ => true
  | .raiseSvn _ _ => true
  | .updateGo _ _ => true
  | .updateAbort _ _ => true
  | .updatePhaseDone _ => true
  | .historyWrite => true
  | .resetCtlWarm _ _ => true
  | .softResetStart => true
  | .refClockLoss _ _ => true
  | .registerWrite _ _ len _ => decide (1 ≤ len ∧ len ≤ 8)
  | .txeqWrite _ _ _ => true
  | .trainEqRx _ _ => true
  | .adaptUpdate _ grad => grad.length == 20
  | .vgaCtleUpdate _ _ _ _ => true
  | .laneConverged _ _ => true
  | .cdrLockLoss _ => true
  | .laneSnapshot _ _ => true
  | .laneDivergence _ _ => true
  | .laneRestart _ _ _ => true
  | .rxadaptFreeze _ _ _ => true
  | .historyFallbackTimeout _ => true
  | .sweepPresetTimeout _ _ => true
  | .patgenEnable _ _ _ => true
  | .patchkEnable _ _ _ => true
  | .patchkClear _ _ _ => true
  | .checkerLock _ => true
  | .checkerRelock _ _ _ _ => true
  | .patchkSaturate _ _ _ => true
  | .errinjGo _ _ _ => true
  | .errinjInterval _ => true
  | .loopbackModeWrite _ _ _ => true
  | .eyescanGo _ _ _ => true
  | .eyescanDone _ pts _ _ => decide (pts.length ≤ 64)
  | .laneMarginingCmd _ _ => true
  | .bifurcWrite _ _ _ => true
  | .portRoleWrite _ _ _ => true
  | .linkDisableCmd _ _ _ => true
  | .prstAssertCmd _ _ _ => true
  | .prstHoldExpiry _ => true
  | .hotResetCmd _ _ _ => true
  | .retrainCmd _ _ _ => true
  | .widthGo _ _ _ => true
  | .partnerWidthRequest _ _ => true
  | .widthRetry _ => true
  | .widthChangeDone _ _ => true
  | .pcieTrainingStep _ _ => true
  | .rxDetectRepeat _ _ => true
  | .trainAlignRx _ _ _ => true
  | .alignTimeout _ => true
  | .trainParamRx _ _ => true
  | .fabLinkActive _ => true
  | .convFailAtRate _ _ _ => true
  | .lockLossRetrain _ => true
  | .hostPrstAssert _ => true
  | .hostPrstRelease _ => true
  | .hotResetRx _ => true
  | .vhResetDone _ => true
  | .devPrstRelease _ => true
  | .hotplugPoll reads => decide (reads.map (·.addr)).Nodup
  | .slotPowerCtrl _ _ _ => true
  | .ptmRequestRx _ _ => true
  | .flitRx _ _ bytes => bytes.length == 256
  | .nakRepeatTimeout _ => true
  | .ackCoalesceTimeout _ => true
  | .ackFsnRx _ _ => true
  | .nakRx _ _ => true
  | .replayTimerExpiry _ => true
  | .mgtOffRx _ _ => true
  | .creditRx _ _ _ _ => true
  | .initCreditRx _ _ _ _ => true
  | .initDoneRx _ _ _ => true
  | .llInitTimeout _ => true
  | .llHoldExpiry _ => true
  | .widthReqRx _ _ _ => true
  | .widthAckRx _ _ _ => true
  | .widthSwitchRx _ _ _ => true
  | .retrainReqRx _ => true
  | .transmitSlot _ => true
  | .ropePairWrite _ _ _ => true
  | .rxSilenceTimeout _ => true
  | .ropeRejoinSwitch _ _ => true
  | .ropeHoldRelease _ _ => true
  | .tlpRx _ t _ _ => t.wf
  | .trainLookup _ => true
  | .xlatMissFill _ _ => true
  | .ctxMissFill _ _ => true
  | .xlatInvAll _ _ => true
  | .xlatInvDone => true
  | .winUpdateWrite _ _ => true
  | .winUpdateClear _ _ => true
  | .winUpdateDiscard _ _ => true
  | .winCommitGo _ _ => true
  | .winCommitCheck _ _ => true
  | .winCommitApply => true
  | .winWritebackDone => true
  | .couplingOffer _ => true
  | .planeArbitration _ _ _ => true
  | .couplingYardArrival _ _ _ => true
  | .yardRelease _ => true
  | .yardMissingTimeout _ => true
  | .ingressNoticeTimeout _ => true
  | .planeUe _ => true
  | .suspectExpiry _ => true
  | .sharedMove _ => true
  | .censusPassStart => true
  | .censusRun _ _ => true
  | .censusPassEnd _ => true
  | .bankErrorWindow _ ce ue => decide (ce < 4294967296 ∧ ue < 4294967296)
  | .bankRetireCmd _ _ => true
  | .bankCopyDone _ _ => true
  | .bankSwitchDone _ => true
  | .bankDrainDone => true
  | .mcOffer _ => true
  | .sidingDeliver => true
  | .sidingTimeout _ => true
  | .shaperWheelSlot _ _ => true
  | .gateCommitGo _ _ _ => true
  | .gateCheckDone _ => true
  | .gateCancel _ _ _ => true
  | .gateSwap _ => true
  | .gateCopyDone _ => true
  | .gateEntryBoundary _ => true
  | .tcvcWrite _ _ _ => true
  | .nodeIdWrite _ _ => true
  | .ortAllocate _ => true
  | .ortTimeout _ => true
  | .quarantineEnd _ => true
  | .pfnPop _ _ => true
  | .stallTimeout _ _ => true
  | .vhBindWrite _ _ _ => true
  | .vdspAttach _ _ => true
  | .vdspDetach _ _ => true
  | .vdspForceDetach _ _ => true
  | .vdspPowerOff _ _ => true
  | .detachWaitTimeout _ _ => true
  | .vdspFlrWaitExpiry _ _ => true
  | .vdspDrainDone _ _ => true
  | .vfMapWrite _ _ _ _ => true
  | .virtualConfigAccess _ _ => true
  | .vfConfigAccess _ _ => true
  | .vfCfgCompletion _ _ _ _ _ => true
  | .vfCfgTimeout _ => true
  | .mediatedFlr _ _ _ => true
  | .mediatedFlrDone _ _ => true
  | .dpcTrigger _ _ _ => true
  | .dpcRelease _ _ => true
  | .ctxRead _ _ => true
  | .ctxWrite _ _ => true
  | .ctxInsert _ _ => true
  | .ctxDelete _ _ => true
  | .ctxFind _ _ => true
  | .dlSlotEnable _ _ _ => true
  | .dlZeroDone _ => true
  | .dlLineWriteback _ _ _ => true
  | .harvestGo _ _ => true
  | .harvestAbort _ _ => true
  | .harvestDoneCmd _ _ => true
  | .harvestFlushDone => true
  | .harvestDrainDone => true
  | .harvestDeliverDone => true
  | .harvestClearDone => true
  | .harvestMergeDone => true
  | .hutDeviceRead r => r.wf
  | .hutDeviceWrite r => r.wf
  | .hutNormalRead r => r.wf
  | .hutNormalWrite r => r.wf
  | .normalWriteDeadline _ => true
  | .hutReserveRead r => r.wf
  | .hutConditionalWrite r => r.wf
  | .hutAtomic _ r => r.wf
  | .rsvTimeout _ => true
  | .fence _ _ => true
  | .fenceArrival _ => true
  | .fenceDone _ => true
  | .fenceTimeout _ => true
  | .dbRing _ _ _ _ _ => true
  | .dbPendRead _ => true
  | .hutZero _ _ => true
  | .hutZeroDone => true
  | .contain _ _ => true
  | .release _ _ => true
  | .linkDown _ => true
  | .removalDetectDone _ _ => true
  | .escWindowExpiry _ inst => decide (inst < 65536)
  | .guideMismatch _ => true
  | .guidePairReady _ _ => true
  | .guideCheckpoint => true
  | .sramRowRepair _ _ _ => true
  | .dramRowRepair _ _ _ _ => true
  | .scrubRead _ _ _ => true
  | .acclPassStart => true
  | .acclRun _ _ => true
  | .marginMeasureDone ms osc => ms.length == 6 && osc.length == 24
  | .acclPassEnd => true
  | .fastGuardStep => true
  | .eqHoursTick _ => true
  | .pitchStart => true
  | .chainWrite _ _ _ => true
  | .tagEnable _ _ => true
  | .cairnFinish _ => true
  | .cairnWrite => true
  | .coalWindowExpiry _ _ _ => true
  | .logDropSummary => true
  | .alarmFifoWrite => true
  | .freezeRearm _ _ => true
  | .logIrqGapExpiry => true
  | .logDmaBatch => true
  | .logMark _ _ => true
  | .rpuSlotWrite _ _ _ => true
  | .rpuSlotLock _ _ _ => true
  | .hostLockedRead _ _ _ _ _ len => decide (1 ≤ len ∧ len ≤ 4096)
  | .hostUnlock _ => true
  | .lockBreak _ _ => true
  | .mctpPacketRx bytes _ => decide (bytes.length ≤ 256)
  | .i3cDynamicAddress _ => true
  | .write32 _ _ _ => true
  | .read32 _ _ => true
  | .lockRead32 _ _ => true
  | .writeUnlock32 _ _ _ => true
  | .unlock _ => true
  | .getStatus _ => true
  | .alarmRead _ => true
  | .alarmAck _ _ => true
  | .recordRead _ => true
  | .recordAck _ _ => true
  | .sbPrivateRead => true
  | .sbWritePerform => true
  | .sbFetchDone => true
  | .sbResultExpiry => true
  | .tapReset => true
  | .bypass => true
  | .idcode => true
  | .samplePreload _ _ => true
  | .extest _ _ => true
  | .extestPulse _ _ => true
  | .extestTrain _ _ => true
  | .highz => true
  | .dapRead _ _ => true
  | .dapWrite _ _ _ => true
  | .getVersion => true
  | .getCapabilities => true
  | .negotiateAlgorithms _ _ => true
  | .getDigests => true
  | .getCertificate _ _ _ => true
  | .challenge _ => true
  | .getMeasurements _ _ => true
  | .keyExchange _ _ => true
  | .finish _ _ => true
  | .endSession _ => true
  | .dbgNonce _ => true
  | .dbgNonceExpiry => true
  | .dbgUnlock _ _ _ => true
  | .dbgRelock _ _ => true
  | .shadowGo _ _ _ => true
  | .shadowCheckDone _ => true
  | .shadowDiscard _ _ _ => true
  | .evtForce _ _ _ => true
  | .stsHold _ _ _ => true
  | .thermalTrip => true
  | .tempWarn _ _ => true
  | .railToleranceTimeout _ => true
  | .avsTransactionDone _ _ _ => true
  | .avsSettleDone => true
  | .ptmExchange _ _ => true
  | .ppsEdge => true
  | .syncLossTimeout => true
  | .timeSet _ _ => true
  | .timeSrcWrite _ _ => true
  | .ppsOutPulse => true
  | .pcieDllpRx _ _ => true
  | .pcieReplayTimerExpiry _ => true
  | .registerRead _ _ len => decide (1 ≤ len ∧ len ≤ 4096)
  | .sramScrub _ _ _ _ => true
  | .tempWarnRearm _ _ => true
  | .railToleranceChange _ _ => true
  | .refClockReturn => true
  | .cdrLockGain _ => true
  | .meTagHoldExpiry _ => true
  | .containDone => true
  | .historyWriteDone _ => true

end Sys2Proof
end

