-- ==== Sys2Proof/Tests/Slice0.lean ====
section
/-! SUPPORT. Tests: ill-formed commands, and for each statement with hypotheses states and operands that meet them together. -/
namespace Sys2Proof.Tests
open Sys2Proof.Machine

/-- A flit of three bytes. -/
theorem test_wf_flit : (Instr.flitRx 0 0 (List.replicate 3 0)).wf = false := by decide
/-- Nineteen gradients for twenty coefficients. -/
theorem test_wf_grad : (Instr.adaptUpdate 0 (List.replicate 19 0)).wf = false := by decide

/-- Two inputs of one expander in a poll. -/
theorem test_wf_poll : (Instr.hotplugPoll [⟨0x20, 0⟩, ⟨0x20, 1⟩]).wf = false := by decide
/-- A register access of nine bytes, and locked or plain reads of none. -/
theorem test_wf_access : (Instr.registerWrite .guide 0 9 0).wf = false ∧ (Instr.registerRead .guide 0 0).wf = false ∧
    (Instr.hostLockedRead 0 0 true 0 0 0).wf = false := by decide
/-- A TLP with a length above 4,096 bytes, an SMBus packet above 256, and an eye scan of 65 points. -/
theorem test_wf_packets : (Instr.tlpRx 0 { len := 4097 } .good 0).wf = false ∧ (Instr.mctpPacketRx (List.replicate 257 0) true).wf = false ∧
    (Instr.eyescanDone 0 (List.replicate 65 ⟨0, 0⟩) 0 0).wf = false := by
  unfold Instr.wf
  simp only [List.length_replicate]
  decide
/-- Counts and instances that their registers could not hold, and a measurement of no corners. -/
theorem test_wf_counts : (Instr.bankErrorWindow 0 4294967296 0).wf = false ∧ (Instr.escWindowExpiry 0 65536).wf = false ∧
    (Instr.marginMeasureDone [] []).wf = false := by decide
/-- Hut accesses whose byte enables do not match their data. -/
theorem test_wf_hut :
    let r : HutReq := { vh := 0, src := 0, rid := 0, tag := 0, addr := 0, len := 1, data := [0] }
    (Instr.hutDeviceRead r).wf = false ∧ (Instr.hutDeviceWrite r).wf = false ∧ (Instr.hutNormalRead r).wf = false ∧
      (Instr.hutNormalWrite r).wf = false ∧ (Instr.hutReserveRead r).wf = false ∧ (Instr.hutConditionalWrite r).wf = false ∧
      (Instr.hutAtomic .swap r).wf = false := by decide

/-! ### Witnesses -/

/-- The block in service, in BASECAMP. -/
def base : State := { State.reset with pins := { pwrOk := true, rstHeld := false, coldRst := false, bistDone := true, txIdle := false } }

theorem wit_IdleStepIsOneTick : (State.reset.pending = []) := by decide
theorem wit_QueueIsFirstInFirstOut : (exec .pwrOkRise State.reset = .next { State.reset with pins := { State.reset.pins with pwrOk := true } }) ∧
    (step { State.reset with pending := [.pwrOkRise, .sysRstNAssert] } = .next { State.reset with pending := [.sysRstNAssert], pins := { State.reset.pins with pwrOk := true } }) ∧
    (State.reset.pending = [] ∧ step State.reset = .next State.reset.tick) := by repeat' first | exact List.length_replicate | decide | rfl | apply And.intro
theorem wit_MemoriesStayCanonical : (Memory.wf State.reset.boot.flash 0xFF = true ∧ Memory.wf State.reset.boot.staging 0 = true ∧ Memory.wf State.reset.hut.mem 0 = true ∧ step State.reset = .next State.reset.tick) := by repeat' first | exact List.length_replicate | decide | rfl | apply And.intro
theorem wit_OnlyResetRowsMoveTheSupply : (exec .summitEnter State.reset = .next State.reset ∧ Instr.summitEnter ≠ .pwrOkRise) := by repeat' first | exact List.length_replicate | decide | rfl | apply And.intro
theorem wit_HaludHeaderRoundTrip : ((Hdr.ofBytes []).op < 64 ∧ (Hdr.ofBytes []).addr % 4 = 0 ∧ (Hdr.ofBytes []).mc = false ∧ (Hdr.ofBytes []).group = 0 ∧ (Hdr.ofBytes []).lowerAddr = 0) := by decide
theorem wit_LinkCommandRoundTrip : ((List.replicate 238 (0 : Byte)).length = 238) := by exact List.length_replicate
theorem wit_SealedFlitIsGood : ((List.replicate 244 (0 : Byte)).length = 244) := by exact List.length_replicate
theorem wit_HutStoreFrame : (State.reset.hut.ue = []) := by decide
theorem wit_WriteBytesReadBack : (Memory.wf ([] : Memory) 0xFF = true) := by decide
theorem wit_PrivilegeByPath : ((State.reset.set (F.VH.VH_BIND.PRIV 0) 1).flag (F.VH.VH_BIND.PRIV 0) = true ∧ State.reset.flag (F.VH.VH_BIND.PRIV 1) = false) := by decide
theorem wit_BelayShares : ((11 : Nat) < 12 ∧ (3 : Nat) < 4 ∧ State.reset.get (F.STN.BIFURC.MODE 11) = 0) := by decide
theorem wit_ResetControl : (State.reset.mgmt.held = []) ∧
    (base.Admits .guide 0x00 0x110 (withBit 0x5AFE 63 true) ∧ base.Admits .guide 0x00 0x110 (withBit 0x5AFF 63 true)) ∧
    ({ base with pins := { base.pins with softPending := true } }.live = true) := by decide
theorem wit_ResetRows_1 : (base.pins.pwrOk = true ∧ fusedFld F.CHIP.STATE.STATE.key = false) ∧
    (base.pins.pwrOk = true ∧ base.pins.rstHeld = false ∧ base.pins.thermTrip = false) ∧
    ({ base with pins := { base.pins with rstHeld := true } }.pins.rstHeld = true ∧ base.pins.pwrOk = true ∧ base.pins.thermTrip = false) ∧
    (base.Admits .guide 0x00 0x110 (withBit 0x5AFE 63 true)) ∧
    ({ base with pins := { base.pins with softPending := true } }.live = true) ∧
    (base.pins.pwrOk = true) := by decide
theorem wit_ResetRows_2 : (base.live = true) ∧
    ({ base with pins := { base.pins with clkLost := true } }.pins.clkLost = true) := by decide

/-! ### Witnesses of the statements that commands complete: one state and operands for each clause -/
set_option maxRecDepth 20000 in
theorem wit_BootRowsComplete :
    (let rep : BistReport := {}
     let s : State := { base with pins := { base.pins with bistDone := false } }
     s.live = true ∧ s.pins.bistDone = false ∧ s.phase = 0) ∧
    (let s := ({ base with boot := { base.boot with cands := [0] } } : State).set F.CHIP.STATE.STATE 1
     s.up = true ∧ s.boot.cands = [0] ∧ s.phase = 1 ∧ s.guideOn = true ∧ s.boot.booted = none ∧ s.get F.FLASH.IMG_CTL.MIN_SVN ≤ (s.slotHdr 0).svn) ∧
    (let s := (({ base with boot := { base.boot with ascPages := [0x28] } } : State).set F.CHIP.STATE.STATE 2).set F.CHIP.ASCENT_STS.PHASE 3
     s.up = true ∧ s.phase = 2 ∧ s.guideOn = true ∧ s.boot.ascWait = none ∧ s.get F.CHIP.ASCENT_STS.PHASE = 3 ∧ s.boot.ascPages = [0x28] ∧
       s.get (F.HDR.SHADOW_CTL.STATE 0x28) = 0) ∧
    (let s := (({ base with boot := { base.boot with ascWait := some (0, 0x28, 0x110) } } : State).set F.CHIP.STATE.STATE 2).set F.BUF.CENSUS_STS.BUSY 1
     s.up = true ∧ s.boot.ascWait = some (0, 0x28, 0x110) ∧ s.phase = 2 ∧ s.guideOn = true ∧ s.opState 0x28 0x110 = 0 ∧ s.get F.CHIP.ASCENT_STS.FAILED = 0) ∧
    (let s : State := base.sets [(F.CHIP.STATE.STATE, 2), (F.CHIP.ASCENT_STS.PHASE, 5)]
     s.up = true ∧ s.phase = 2 ∧ s.get F.CHIP.ASCENT_STS.PHASE = 5 ∧ s.boot.upAtAscent.all s.settledPort = true) ∧
    (let s := base.set F.CHIP.STATE.STATE 2
     s.up = true ∧ s.phase = 2) ∧
    (let s := ({ base with boot := { base.boot with booted := some 0 } } : State).set F.ERR.GUIDE_STS.PAIR1 2
     s.up = true ∧ s.get F.ERR.GUIDE_STS.PAIR1 = 2 ∧ s.boot.booted.isSome = true ∧ s.get F.ERR.GUIDE_STS.PAIR0 = 0) ∧
    (let s := ({ base with boot := { base.boot with booted := some 0, confirmTimer := true } } : State).sets [(F.CHIP.STATE.STATE, 3), (F.FLASH.IMG_CTL.AUTO_CONFIRM, 1)]
     s.up = true ∧ s.boot.confirmTimer = true ∧ s.flag F.FLASH.IMG_CTL.AUTO_CONFIRM = true ∧ s.boot.booted = some 0 ∧ s.phase = 3 ∧ s.guideOn = true) := by refine ⟨?_, ?_, ?_, ?_, ?_, ?_, ?_, ?_⟩ <;> decide
set_option maxRecDepth 20000 in
theorem wit_ImageRowsComplete :
    (let s := ({ base with boot := { base.boot with booted := some 0 } } : State).set F.CHIP.STATE.STATE 3
     s.Admits .guide 0x05 0x110 (withBit (withBit (0#64).toNat 63 true) 61 false) ∧ s.boot.booted = some 0 ∧ s.phase = 3 ∧ s.guideOn = true) ∧
    (let s := ({ base with boot := { base.boot with booted := some 0, flash := [(10, 2), (269, 0)] } } : State)
     s.Admits .guide 0x05 0x110 (withBit (withBit (0#64).toNat 63 false) 61 true) ∧ s.boot.booted = some 0 ∧ (s.slotHdr 0).confirm = 0 ∧ (s.slotHdr 0).svn < 64 ∧ s.get F.FLASH.IMG_CTL.MIN_SVN < (s.slotHdr 0).svn) ∧
    (let s := ({ base with boot := { base.boot with booted := some 0 } } : State)
     s.Admits .guide 0x05 0x118 (withBit (withBit (4096#64).toNat 63 true) 62 false) ∧ s.get F.FLASH.UPD_STS.STATE = 0 ∧ s.boot.histBusy = false ∧ s.boot.booted = some 0) ∧
    (let s := base.set F.FLASH.UPD_STS.STATE 3
     s.Admits .guide 0x05 0x118 (withBit (withBit (0#64).toNat 63 false) 62 true) ∧ s.updRunning = true) ∧
    (let s := base.set F.FLASH.UPD_STS.STATE 3
     s.up = true ∧ s.guideOn = true ∧ s.get F.FLASH.UPD_STS.STATE = 3 ∧ ({ keyOk := true, sigOk := true, opOk := true, readbackOk := true } : PhaseReport).opOk = true) ∧
    (let s := ({ base with boot := { base.boot with booted := some 0, ageDirty := true } } : State).sets [(F.CHIP.STATE.STATE, 3), (F.CHIP.BOOT_STS.BOARD_OK, 1), (F.FLASH.HIST_STS.NEXT_MIN, 0)]
     s.up = true ∧ s.boot.booted = some 0 ∧ s.phase = 3 ∧ s.guideOn = true ∧ s.boot.histBusy = false ∧ s.updRunning = false ∧ s.get F.FLASH.HIST_STS.NEXT_MIN = 0 ∧
       s.boot.ageDirty = true ∧ s.flag F.CHIP.BOOT_STS.BOARD_OK = true ∧ s.newestHist 0 = none) ∧
    (let s := ({ base with boot := { base.boot with booted := some 0, histBusy := true } } : State)
     s.up = true ∧ s.boot.booted = some 0 ∧ s.boot.histBusy = true ∧ s.guideOn = true ∧ s.boot.updWaits = false) := by refine ⟨?_, ?_, ?_, ?_, ?_, ?_, ?_⟩ <;> decide
set_option maxRecDepth 20000 in
theorem wit_RegisterRowsComplete_1 :
    (base.up = true ∧ base.barOpen .guide = true ∧ base.gate .guide 0x30110 8 true (placed 0x30110 8 5) = .go ∧ base.heldBack .guide = false ∧ base.canSpend 6 1 0 = true) ∧
    (base.up = true ∧ base.barOpen .guide = true ∧ base.gate .guide 0x30110 8 false (placed 0x30110 8 0) = .go ∧ base.heldBack .guide = false ∧ base.canSpend 6 1 0 = true) ∧
    (let s := base.set (F.HDR.SHADOW_CTL.DIRTY 0x41) 1
     s.Admits .guide 0x41 0x40 (withBit (withBit (0#64).toNat 63 true) 62 false) ∧ hasShadow 0x41 = true ∧ s.get (F.HDR.SHADOW_CTL.STATE 0x41) = 0) ∧
    (let s := base.set (F.HDR.SHADOW_CTL.DIRTY 0x41) 1
     s.Admits .guide 0x41 0x40 (withBit (withBit (0#64).toNat 63 false) 62 true) ∧ hasShadow 0x41 = true ∧ s.get (F.HDR.SHADOW_CTL.STATE 0x41) = 0) ∧
    (let s := base.set (F.HDR.SHADOW_CTL.STATE 0x41) 1
     s.up = true ∧ s.get (F.HDR.SHADOW_CTL.STATE 0x41) = 1 ∧ s.reservedAt 0x41 = none ∧ s.get (F.HDR.COMMIT_GEN.GEN 0x41) < 65535 ∧ s.canPay 2 (Tab.getD s.mgmt.atGo 0x41 []).length 0 = true) ∧
    (base.Admits .guide 0x41 0x30 1) ∧
    (base.Admits .guide 0x30 0x10 1 ∧ base.flag (F.HDR.PAGE_CTL.STS_HOLD 0x30) = false) ∧
    (base.Admits .guide 0x08 (0x1000 + 8 * 0x41) 7 ∧ pageMapped 0x41 = true ∧ bitOf 7 63 = false) := by refine ⟨?_, ?_, ?_, ?_, ?_, ?_, ?_, ?_⟩ <;> decide
set_option maxRecDepth 20000 in
theorem wit_RegisterRowsComplete_2 :
    (base.Admits .guide 0x08 (0x1000 + 8 * 0x41) (withBit (7#64).toNat 63 true) ∧ pageMapped 0x41 = true) := by decide
set_option maxRecDepth 20000 in
theorem wit_TimeRowsComplete_1 :
    (base.up = true ∧ base.get F.PWR.THERM_CFG.WARN < 4000 ∧ base.pins.tempHeld = false) ∧
    (base.up = true ∧ (0#12).toNat + 20 ≤ base.get F.PWR.THERM_CFG.WARN) ∧
    (base.up = true) ∧
    (let s := base.set F.PWR.RAIL_STS.NOW 4
     s.up = true ∧ bitOf (s.get F.PWR.RAIL_STS.NOW) 2 = true) ∧
    (let s := base.sets [(F.TIME.SRC_CTL.SRC, 1), (F.TIME.SRC_CTL.PTM_PORT, 1), (F.STN.PORT_ROLE.ROLE 1, 1), (F.STN.PORT_ROLE.PTM_EN 1, 1)]
     let s := s.setPort 1 { s.port 1 with under := 6 }
     s.up = true ∧ s.ptmOn 1 = true ∧ ((5000 : Nat) : Int) - 10 * (s.time.now : Int) > 1000) ∧
    (let s := base.set F.TIME.SRC_CTL.SRC 2
     s.up = true ∧ s.get F.TIME.SRC_CTL.SRC = 2) ∧
    (let s := base.sets [(F.TIME.SRC_CTL.SRC, 2), (F.TIME.STS.SYNCED, 1)]
     s.up = true ∧ s.get F.TIME.SRC_CTL.SRC ≠ 0 ∧ s.flag F.TIME.STS.SYNCED = true) ∧
    (base.Admits .guide 3 0x110 5 ∧ base.get F.TIME.SRC_CTL.SRC = 0 ∧ base.flag F.TIME.STS.SYNCED = false) := by refine ⟨?_, ?_, ?_, ?_, ?_, ?_, ?_, ?_⟩ <;> decide
set_option maxRecDepth 20000 in
theorem wit_TimeRowsComplete_2 :
    (let s := base.set F.TIME.SRC_CTL.SRC 2
     s.Admits .guide 3 0x100 0x200 ∧ bitsOf 0x200 9 8 = 2 ∧ s.get F.TIME.SRC_CTL.SRC = 2) ∧
    (let s := base.set F.TIME.PPS_OUT.EN 1
     s.up = true ∧ s.flag F.TIME.PPS_OUT.EN = true ∧ s.time.now % 100000000 = 0) := by refine ⟨?_, ?_⟩ <;> decide
set_option maxRecDepth 20000 in
theorem wit_SidebandRowsComplete_1 :
    (base.sbAlive = true) ∧
    (base.sbAlive = true ∧ base.up = true) ∧
    (base.sbAlive = true ∧ base.pins.clkLost = false ∧ base.mgmt.wq.length < 16) ∧
    (base.sbAlive = true ∧ base.pins.clkLost = false ∧ base.mgmt.fetch = none) ∧
    (base.sbAlive = true ∧ base.pins.clkLost = false ∧ base.mgmt.fetch = none) ∧
    (base.sbAlive = true ∧ base.pins.clkLost = false ∧ base.mgmt.wq.length < 16) ∧
    (base.sbAlive = true ∧ base.pins.clkLost = false ∧ base.sbBroken = false) ∧
    (base.sbAlive = true) := by refine ⟨?_, ?_, ?_, ?_, ?_, ?_, ?_, ?_⟩ <;> decide
set_option maxRecDepth 20000 in
theorem wit_SidebandRowsComplete_2 :
    (let s : State := { base with tele := { base.tele with fifo := [{ r := { code := 1, lclass := 3, eclass := 1 } }] } }
     s.sbAlive = true ∧ s.unreadAlarms = [{ r := { code := 1, lclass := 3, eclass := 1 } }]) ∧
    (let s : State := { base with tele := { base.tele with fifo := [{ r := { code := 1, lclass := 3, eclass := 1, seq := 7 } }] } }
     s.sbAlive = true ∧ s.unreadAlarms = [{ r := { code := 1, lclass := 3, eclass := 1, seq := 7 } }] ∧ 7 % 2 ^ 32 = (7#32).toNat) ∧
    (let s : State := { base with tele := { base.tele with sbRecs := [{ code := 1, lclass := 2, eclass := 1 }] } }
     s.sbAlive = true ∧ s.tele.sbRecs = [{ code := 1, lclass := 2, eclass := 1 }]) ∧
    (let s : State := { base with tele := { base.tele with sbRecs := [{ code := 1, lclass := 2, eclass := 1, seq := 7 }] } }
     s.sbAlive = true ∧ s.tele.sbRecs = [{ code := 1, lclass := 2, eclass := 1, seq := 7 }] ∧ 7 % 2 ^ 32 = (7#32).toNat) := by refine ⟨?_, ?_, ?_, ?_⟩ <;> decide
set_option maxRecDepth 20000 in
theorem wit_SidebandEventsComplete_1 :
    (let s : State := { base with mgmt := { base.mgmt with result := some [0] } }
     s.sbAlive = true ∧ s.mgmt.pecBad = false ∧ s.mgmt.fetch = none ∧ s.mgmt.wulWait = false ∧ s.mgmt.result = some [0]) ∧
    (let s : State := ({ base with mgmt := { base.mgmt with wq := [(0x30110, 5, false)] } } : State).set F.CHIP.STATE.STATE 1
     s.sbAlive = true ∧ s.mgmt.wq = [(0x30110, 5, false)] ∧ s.mgmt.fetch = none ∧ s.pins.clkLost = false ∧ s.phase ≠ 0 ∧ s.gateAcc (writeAcc .sideband 0x30110 4 5) = .go) ∧
    (let s : State := ({ base with mgmt := { base.mgmt with fetch := some { addr := 0x30110, lock := false, ahead := 0 } } } : State).set F.CHIP.STATE.STATE 1
     s.sbAlive = true ∧ s.mgmt.fetch = some { addr := 0x30110, lock := false, ahead := 0 } ∧ s.pins.clkLost = false ∧ s.phase ≠ 0 ∧
       s.gateAcc { src := .sideband, who := 1, addr := 0x30110, len := 4, write := false, value := 0 } = .go) ∧
    (let s : State := { base with mgmt := { base.mgmt with result := some [0], resultExpires := true } }
     s.sbAlive = true ∧ s.mgmt.resultExpires = true) ∧
    (let s : State := (base.sets [(F.CHIP.STATE.STATE, 1), (F.VH.VH_BIND.EN 0, 1)]).setCfg 0 32 1 6
     s.up = true ∧ s.barOpen (.host 0 0 true false) = true ∧ s.gateAcc { src := .host 0 0 true false, who := 8, addr := 0x30110, len := 4, write := false, value := 0, lock := true } = .go ∧ s.heldBack (.host 0 0 true false) = false) ∧
    (base.up = true ∧ (base.mgmt.broken.find? fun b => b.1 == 8) = none) ∧
    (let s : State := { base with mgmt := { base.mgmt with locks := [⟨3, 1, 1⟩] } }
     s.up = true ∧ (s.mgmt.locks.find? fun l => l.page == 3 && l.seg == 1) = some ⟨3, 1, 1⟩) ∧
    (let s : State := base.sets [(F.CHIP.STATE.STATE, 1), (F.ATTEST.DBG_STS.UNLOCKED, 1)]
     s.pins.pwrOk = true ∧ s.up = true ∧ s.flag F.ATTEST.DBG_STS.UNLOCKED = true ∧ s.gate .debug 0x30110 8 false (placed 0x30110 8 0) = .go) := by refine ⟨?_, ?_, ?_, ?_, ?_, ?_, ?_, ?_⟩ <;> decide
set_option maxRecDepth 20000 in
theorem wit_SidebandEventsComplete_2 :
    (let s : State := base.sets [(F.CHIP.STATE.STATE, 1), (F.ATTEST.DBG_STS.UNLOCKED, 1)]
     s.pins.pwrOk = true ∧ s.up = true ∧ s.flag F.ATTEST.DBG_STS.UNLOCKED = true ∧ s.gate .debug 0x30110 8 true (placed 0x30110 8 5) = .go) := by decide
set_option maxRecDepth 20000 in
theorem wit_SpdmRowsComplete_1 :
    (let s : State := ({ base with mgmt := { base.mgmt with spdmAt := [(base.mgmt.spdmVia, 3)] } } : State).set F.CHIP.STATE.STATE 3
     s.up = true ∧ s.viaOpen s.mgmt.spdmVia = true ∧ s.guideOn = true ∧ 1 < s.phase) ∧
    (let s : State := ({ base with mgmt := { base.mgmt with spdmAt := [(base.mgmt.spdmVia, 3)] } } : State).set F.CHIP.STATE.STATE 3
     s.up = true ∧ s.viaOpen s.mgmt.spdmVia = true ∧ s.guideOn = true ∧ 1 < s.phase ∧ 1 ≤ s.spdmStage) ∧
    (let s : State := ({ base with mgmt := { base.mgmt with spdmAt := [(base.mgmt.spdmVia, 3)] } } : State).set F.CHIP.STATE.STATE 3
     s.up = true ∧ s.viaOpen s.mgmt.spdmVia = true ∧ s.guideOn = true ∧ 1 < s.phase ∧ 2 ≤ s.spdmStage) ∧
    (let s : State := ({ base with mgmt := { base.mgmt with spdmAt := [(base.mgmt.spdmVia, 3)] } } : State).set F.CHIP.STATE.STATE 3
     s.up = true ∧ s.viaOpen s.mgmt.spdmVia = true ∧ s.guideOn = true ∧ 1 < s.phase ∧ s.spdmReady = true) ∧
    (let s : State := ({ base with mgmt := { base.mgmt with spdmAt := [(base.mgmt.spdmVia, 3)] } } : State).set F.CHIP.STATE.STATE 3
     s.up = true ∧ s.viaOpen s.mgmt.spdmVia = true ∧ s.guideOn = true ∧ 1 < s.phase ∧ s.spdmReady = true ∧ (1#4).toNat ≤ 1) ∧
    (let s : State := ({ base with mgmt := { base.mgmt with spdmAt := [(base.mgmt.spdmVia, 3)] } } : State).set F.CHIP.STATE.STATE 3
     s.up = true ∧ s.viaOpen s.mgmt.spdmVia = true ∧ s.guideOn = true ∧ 1 < s.phase ∧ s.spdmReady = true ∧ (1#4).toNat ≤ 1) ∧
    (let s : State := ({ base with mgmt := { base.mgmt with spdmAt := [(base.mgmt.spdmVia, 3)] } } : State).set F.CHIP.STATE.STATE 3
     s.up = true ∧ s.viaOpen s.mgmt.spdmVia = true ∧ s.guideOn = true ∧ 1 < s.phase ∧ s.spdmReady = true) ∧
    (let s : State := ({ base with mgmt := { base.mgmt with spdmAt := [(base.mgmt.spdmVia, 3)] } } : State).set F.CHIP.STATE.STATE 3
     s.up = true ∧ s.viaOpen s.mgmt.spdmVia = true ∧ s.guideOn = true ∧ 1 < s.phase ∧ s.spdmReady = true ∧ (1#4).toNat ≤ 1 ∧ s.mgmt.sessions.length < 4) := by refine ⟨?_, ?_, ?_, ?_, ?_, ?_, ?_, ?_⟩ <;> decide
set_option maxRecDepth 20000 in
theorem wit_SpdmRowsComplete_2 :
    (let s : State := ({ base with mgmt := { base.mgmt with spdmAt := [(base.mgmt.spdmVia, 3)], sessions := [(5, false, base.mgmt.spdmVia)] } } : State).set F.CHIP.STATE.STATE 3
     s.up = true ∧ s.viaOpen s.mgmt.spdmVia = true ∧ s.guideOn = true ∧ 1 < s.phase ∧ s.spdmReady = true ∧ s.mgmt.sessions.contains (5, false, s.mgmt.spdmVia) = true) ∧
    (let s : State := ({ base with mgmt := { base.mgmt with spdmAt := [(base.mgmt.spdmVia, 3)], sessions := [(5, true, base.mgmt.spdmVia)] } } : State).set F.CHIP.STATE.STATE 3
     s.up = true ∧ s.viaOpen s.mgmt.spdmVia = true ∧ s.guideOn = true ∧ 1 < s.phase ∧ s.spdmReady = true ∧ s.established 5 = true) ∧
    (let s : State := ({ base with mgmt := { base.mgmt with spdmAt := [(base.mgmt.spdmVia, 3)], sessions := [(5, true, base.mgmt.spdmVia)] } } : State).set F.CHIP.STATE.STATE 3
     s.up = true ∧ s.viaOpen s.mgmt.spdmVia = true ∧ s.guideOn = true ∧ 1 < s.phase ∧ s.spdmReady = true ∧ s.established 5 = true) := by refine ⟨?_, ?_, ?_⟩ <;> decide
set_option maxRecDepth 20000 in
theorem wit_TapRowsComplete_1 :
    (base.up = true) ∧
    (let s : State := ({ base with mgmt := { base.mgmt with spdmAt := [(base.mgmt.spdmVia, 3)], sessions := [(5, true, base.mgmt.spdmVia)], nonce := some (0, 5) } } : State).set F.CHIP.STATE.STATE 3
     s.up = true ∧ s.viaOpen s.mgmt.spdmVia = true ∧ s.guideOn = true ∧ 1 < s.phase ∧ s.spdmReady = true ∧ s.established 5 = true ∧ s.get F.ATTEST.DBG_STS.FAILS < 3 ∧ s.mgmt.nonce = some (0, 5)) ∧
    (base.Admits .guide 0x09 0x108 (withBit (0#64).toNat 63 true)) ∧
    (base.pins.pwrOk = true) ∧
    (base.pins.pwrOk = true) ∧
    (base.pins.pwrOk = true) ∧
    (base.pins.pwrOk = true) ∧
    (let s := base.set F.ATTEST.DBG_STS.UNLOCKED 1
     s.pins.pwrOk = true ∧ s.testOk = true) := by refine ⟨?_, ?_, ?_, ?_, ?_, ?_, ?_, ?_⟩ <;> decide
set_option maxRecDepth 20000 in
theorem wit_TapRowsComplete_2 :
    (let s := base.set F.ATTEST.DBG_STS.UNLOCKED 1
     s.pins.pwrOk = true ∧ s.testOk = true) ∧
    (let s := base.set F.ATTEST.DBG_STS.UNLOCKED 1
     s.pins.pwrOk = true ∧ s.testOk = true) ∧
    (let s := base.set F.ATTEST.DBG_STS.UNLOCKED 1
     s.pins.pwrOk = true ∧ s.testOk = true) := by refine ⟨?_, ?_, ?_⟩ <;> decide
set_option maxRecDepth 20000 in
theorem wit_TelemetryRowsComplete_1 :
    (base.Admits .guide 0x5A 0x200 5) ∧
    (base.Admits .guide 0x5B 0x100 (withBit (0#64).toNat 63 true) ∧ base.flag F.TRACE.TAG_CTL.EN = false) ∧
    (let c : Cairn := { train := 3, inPort := 0, done := true }
     let s : State := { base with tele := { base.tele with cairns := [(3, c)] } }
     s.up = true ∧ Tab.get? s.tele.cairns 3 = some c ∧ c.done = true ∧ s.tele.cairnQ.length < 512) ∧
    (let c : Cairn := { train := 3, inPort := 0, done := true }
     let s : State := { base with tele := { base.tele with cairnQ := [c] } }
     s.up = true ∧ s.tele.cairnQ = c :: [] ∧ s.flag F.TRACE.TAG_CTL.STOP = false ∧ s.canPay 4 0 1 = true) ∧
    (let r : LogRec := { code := 1, lclass := 2, eclass := 1 }
     let e : CoalEnt := { code := 1, inst := 2, key := 3, rep := some r }
     let s : State := ({ base with tele := { base.tele with coal := [e] } } : State).set F.LOG.LOG_CTL.EN 1
     s.up = true ∧ s.tele.coal.find? (fun e => e.code == (1#16).toNat && e.inst == (2#16).toNat && e.key == (3#16).toNat) = some e ∧ e.rep = some r ∧
       s.flag F.LOG.LOG_CTL.EN = true ∧ s.tele.queue.length < 512) ∧
    (let s : State := ({ base with tele := { base.tele with msDrops := (1, 0, 0), wrote := (64, 6400, 6400) } } : State).set F.LOG.LOG_CTL.EN 1
     s.up = true ∧ s.tele.msDrops ≠ (0, 0, 0) ∧ s.flag F.LOG.LOG_CTL.EN = true ∧ s.tele.freezing = false) ∧
    (let e : AlarmEnt := { r := { code := 1, lclass := 3, eclass := 3 } }
     let s : State := ({ base with tele := { base.tele with fifo := [e] } } : State).set F.LOG.LOG_CTL.EN 1
     s.up = true ∧ s.flag F.LOG.LOG_CTL.EN = true ∧ s.get F.ERR.SAFE_STS.CODE ≠ Ev.DRAM_FAIL ∧ s.tele.fifo.find? (fun e => !e.written) = some e ∧
       s.canPay 3 0 1 = true ∧ s.tele.fifoWait = []) ∧
    (base.Admits .guide 0x59 0x138 (withBit (0#64).toNat 63 true) ∧ base.tele.freezing = false) := by refine ⟨?_, ?_, ?_, ?_, ?_, ?_, ?_, ?_⟩ <;> decide
set_option maxRecDepth 20000 in
theorem wit_TelemetryRowsComplete_2 :
    (let s : State := { base with tele := { base.tele with irqGap := true, irqWant := [2] } }
     s.up = true ∧ s.tele.irqGap = true ∧ s.tele.irqWant ≠ []) ∧
    (let r : LogRec := { code := 1, lclass := 2, eclass := 1 }
     let l : List LogRec := [r]
     let n : Nat := 0
     let s : State := ((({ base with tele := { base.tele with dmaPend := [r] } } : State).sets [(F.LOG.DMA_CTL.EN, 1), (F.VH.VH_BIND.EN 0, 1), (F.STN.PORT_ROLE.ROLE 0, 1)]).setPort 0 { under := 6 }).setCfg 0 32 1 4
     s.up = true ∧ s.flag F.LOG.DMA_CTL.EN = true ∧ s.dmaReach = true ∧ l = s.tele.dmaPend.filter (fun r => s.tele.queue.contains r || !s.overwritten r) ∧ n = (s.tele.dmaIdx + 2 ^ 32 - s.get F.LOG.DMA_HEAD.HEAD) % 2 ^ 32 ∧
       n < s.dmaRing / 64 ∧ s.canPay 3 0 1 = true ∧ l = ((l.takeWhile fun r => !s.tele.queue.contains r).take (min 64 (s.dmaRing / 64 - n))).take ((s.classUse 3).limDram - (s.classUse 3).usedDram) ∧ l ≠ [] ∧ (∀ r ∈ l, s.err.dramUe.contains (s.recBlock r) = false)) ∧
    (let s : State := ((base.sets [(F.LOG.DMA_CTL.EN, 1), (F.VH.VH_BIND.EN 0, 1), (F.STN.PORT_ROLE.ROLE 0, 1)]).setPort 0 { under := 6 }).setCfg 0 32 1 4
     s.up = true ∧ s.flag F.LOG.DMA_CTL.EN = true ∧ s.dmaReach = true ∧ s.tele.dmaPend = []) ∧
    ((base.set F.LOG.LOG_CTL.EN 1).Admits .guide 0x59 0x168 (withBit (0#64).toNat 63 true) ∧ (base.set F.LOG.LOG_CTL.EN 1).flag F.LOG.LOG_CTL.EN = true) := by refine ⟨?_, ?_, ?_, ?_⟩ <;> decide
set_option maxRecDepth 20000 in
theorem wit_AgeingRowsComplete_1 :
    (let m : BitVec 16 := 0
     let row : BitVec 24 := 0
     let ue : Bool := false
     let s : State := base.set F.REPAIR.REPAIR_CFG.SRAM_EN 1
     s.up = true ∧ s.flag F.REPAIR.REPAIR_CFG.SRAM_EN = true ∧ Tab.getD s.age.rowsUsed m.toNat 0 < 4 ∧ s.canPay 0 1 0 = true ∧ s.get F.REPAIR.MAP_STS.ENTRIES < 1024) ∧
    (let ch : Fin 4 := 0
     let bank : BitVec 4 := 0
     let row : BitVec 24 := 0
     let ue : Bool := false
     let s : State := base.set (F.MEMC.RESERVE_STS.FREE 0) 2047
     s.up = true ∧ s.get (F.MEMC.RESERVE_STS.FREE ch.val) ≠ 0 ∧ s.canPay 0 0 rowBlocks = true ∧ s.get (F.MEMC.RESERVE_STS.FREE ch.val) < 2048) ∧
    (let addr : BitVec 32 := 0x40
     let pos : BitVec 6 := 0
     let s : State := base.set F.MEMC.SCRUB_CFG.EN 1
     s.up = true ∧ s.flag F.MEMC.SCRUB_CFG.EN = true ∧ s.canPay 0 0 1 = true) ∧
    (let m : BitVec 16 := 1
     let row : BitVec 24 := 2
     let s : State := base
     s.up = true ∧ s.canPay 0 1 0 = true ∧ Tab.get? s.age.rowErr (m.toNat * 2 ^ 24 + row.toNat) = none) ∧
    (let s : State := (base.sets [(F.CHIP.STATE.STATE, 3), (F.ERR.GUIDE_STS.PAIR0, 0), (F.AGE.ACCL_CFG.EN, 1)])
     s.up = true ∧ s.phase = 3 ∧ s.guideOn = true ∧ s.flag F.AGE.ACCL_CFG.EN = true ∧ s.get F.AGE.ACCL_STS.STATE = 0) ∧
    (let v : Word := 0#64
     let src : Path := Path.guide
     let s : State := (base.sets [(F.CHIP.STATE.STATE, 3), (F.ERR.GUIDE_STS.PAIR0, 0), (F.AGE.ACCL_CFG.EN, 1)])
     s.Admits src 0x61 0x100 (withBit v.toNat 62 true) ∧ s.phase = 3 ∧ s.guideOn = true ∧ s.get F.AGE.ACCL_STS.STATE = 0) ∧
    (let ms : List (BitVec 3) := [0#3]
     let osc : List (BitVec 16) := []
     let s : State := (base.sets [(F.AGE.ACCL_STS.STATE, 2), (F.ERR.GUIDE_STS.PAIR0, 0), (F.AGE.ACCL_CFG.MAX_STEPS, 3)])
     s.up = true ∧ ((s.get F.AGE.ACCL_STS.STATE = 2 ∨ s.get F.AGE.ACCL_STS.STATE = 1 ∧ s.age.sensed = true)) ∧ s.guideOn = true ∧ s.avsFree = true ∧ s.age.lowered = false ∧ s.age.steps < s.get F.AGE.ACCL_CFG.MAX_STEPS ∧ s.avsCode < 60 ∧ 0#3 ∈ ms.take 6 ∧ s.canPay 6 30 0 = true) ∧
    (let s : State := base.set F.AGE.ACCL_STS.STATE 4
     s.up = true ∧ s.get F.AGE.ACCL_STS.STATE = 4 ∧ s.guideOn = true ∧ s.canPay 6 3 0 = true) := by refine ⟨?_, ?_, ?_, ?_, ?_, ?_, ?_, ?_⟩ <;> decide
set_option maxRecDepth 20000 in
theorem wit_AgeingRowsComplete_2 :
    (let s : State := base
     s.up = true ∧ s.age.lastFast = none ∧ s.avsCode + s.avs.fastDue < 60 ∧ s.flag F.PWR.AVS_CTL.FIXED = false) ∧
    (let tj : BitVec 12 := 5
     let s : State := base
     s.up = true) ∧
    (let s : State := base
     s.up = true ∧ s.jobs = [] ∧ s.tele.queue = [] ∧ s.core.censusLeft = 0 ∧ s.tele.freezeQ = []) ∧
    (let c : Nat := 5
     let mv : BitVec 16 := 0
     let ca : BitVec 16 := 0
     let s : State := { base with avs := { base.avs with busy := some 5 } }
     s.up = true ∧ s.avs.busy = some c ∧ s.avs.isStatus = false) ∧
    (let s : State := { base with avs := { base.avs with settling := true } }
     s.up = true ∧ s.avs.settling = true ∧ s.avs.busy = none ∧ s.avs.fixedDue = false ∧ s.avs.fastDue = 0 ∧ s.flag F.PWR.AVS_STS.BUS_ERR = false) := by refine ⟨?_, ?_, ?_, ?_, ?_⟩ <;> decide
set_option maxRecDepth 20000 in
theorem wit_ErrorRowsComplete_1 :
    (let src : Path := .guide
     let k : Nat := bitsOf (goOp 0x0003000000000000#64 1) 59 58
     let i : Nat := 3
     let v : Word := 0x0003000000000000#64
     let s : State := base.set (F.STN.PORT_ROLE.ROLE 3) 2
     s.Admits src 0x58 0x100 (goOp v 1) ∧ bitsOf (goOp v 1) 59 58 = k ∧ bitsOf (goOp v 1) 57 48 = i ∧ s.containFault 1 k i = 0) ∧
    (let src : Path := .guide
     let k : Nat := 0
     let i : Nat := 3
     let v : Word := 0x0003000000000000#64
     let s : State := (base.set (F.STN.PORT_ROLE.ROLE 3) 2).set (byFld 2 3) 1
     s.Admits src 0x58 0x100 (goOp v 2) ∧ bitsOf (goOp v 2) 59 58 = k ∧ bitsOf (goOp v 2) 57 48 = i ∧ s.containFault 2 k i = 0) ∧
    (let k : Nat := 0
     let i : Nat := 3
     let s : State := { base with err := { base.err with cmd := some (0 + 1, 0, 3) } }
     s.up = true ∧ s.err.cmd = some (1, k, i)) ∧
    (let p : PortId := 0
     let s : State := (base.set (F.STN.PORT_ROLE.ROLE 0) 3).setPort 0 { under := 6 }
     s.up = true ∧ s.role p.val ≠ 0 ∧ (s.port p.val).under = 6) ∧
    (let found : Bool := true
     let p : PortId := 0
     let s : State := base.setPort 0 { detecting := true }
     s.up = true ∧ (s.port p.val).detecting = true ∧ s.flag (F.STN.PORT_ROLE.HP_SLOT p.val) = false) ∧
    (let inst : Nat := 0
     let j : Fin 128 := 0
     let s : State := base
     s.up = true) ∧
    (let pair : Fin 2 := 0
     let s : State := base.set (pairFld 0) 1
     s.up = true ∧ s.get (pairFld pair.val) = 1 ∧ Tab.get? s.err.mism pair.val = none) ∧
    (let pair : Fin 2 := 1
     let s : State := { (base.set (pairFld 1) 2) with err := { base.err with mism := [(1, 0)] } }
     s.up = true ∧ s.get (pairFld pair.val) = 2 ∧ s.guideOn = true ∧ (Tab.get? s.err.mism pair.val).isSome = true) := by refine ⟨?_, ?_, ?_, ?_, ?_, ?_, ?_, ?_⟩ <;> decide
set_option maxRecDepth 20000 in
theorem wit_ErrorRowsComplete_2 :
    (let s : State := base
     s.up = true ∧ s.guideOn = true ∧ s.canPay 6 0 16 = true) := by decide
set_option maxRecDepth 20000 in
theorem wit_LaneRowsComplete_1 :
    (let src : Path := .guide
     let n : LaneId := 0
     let v : Word := 0x80340C0000#64
     let s : State := base.set (F.STN.PORT_ROLE.ROLE 0) 0
     s.Admits src (0x100 + n.val) 0x100 v.toNat ∧ s.laneOff n.val = true ∧ listOk [bitsOf v.toNat 5 0, bitsOf v.toNat 13 8, bitsOf v.toNat 30 24, bitsOf v.toNat 21 16] = true) ∧
    (let n : LaneId := 0
     let m : EqMsg := { req := 0x10 }
     let s : State := base
     s.up = true) ∧
    (let grad : List Int := []
     let n : LaneId := 0
     let s : State := base.set (F.LANE.RXSTS.STATE 0) 2
     s.up = true ∧ s.get (F.LANE.RXSTS.STATE n.val) = 2) ∧
    (let slow : Bool := true
     let ctle : BitVec 5 := 0
     let vga : BitVec 7 := 0
     let n : LaneId := 0
     let s : State := base.set (F.LANE.RXSTS.STATE 0) 1
     s.up = true ∧ s.get (F.LANE.RXSTS.STATE n.val) = 1 ∧ s.flag (F.LANE.RXADAPT.CTLE_HOLD n.val) = false) ∧
    (let n : LaneId := 0
     let snr : BitVec 8 := 100
     let s : State := base.set (F.LANE.RXSTS.STATE 0) 1
     s.up = true ∧ s.get (F.LANE.RXSTS.STATE n.val) = 1 ∧ s.convSnr n.val ≤ snr.toNat) ∧
    (let n : LaneId := 0
     let s : State := base.sets [(F.LANE.RXSTS.CDR_LOCK 0, 1), (F.LANE.RXSTS.RATE 0, 2)]
     s.up = true ∧ s.flag (F.LANE.RXSTS.CDR_LOCK n.val) = true ∧ s.get (F.LANE.RXSTS.RATE n.val) ≠ 0xF) ∧
    (let n : LaneId := 0
     let s : State := base.sets [(F.LANE.RXSTS.RATE 0, 2)]
     s.up = true ∧ s.get (F.LANE.RXSTS.RATE n.val) ≠ 0xF) ∧
    (let snr : BitVec 8 := 0
     let n : LaneId := 0
     let s : State := base.sets [(F.LANE.RXSTS.STATE 0, 2)]
     s.up = true ∧ s.get (F.LANE.RXSTS.STATE n.val) = 2 ∧ (s.lane n.val).snrDelta = none) := by refine ⟨?_, ?_, ?_, ?_, ?_, ?_, ?_, ?_⟩ <;> decide
set_option maxRecDepth 20000 in
theorem wit_LaneRowsComplete_2 :
    (let n : LaneId := 0
     let snr : BitVec 8 := 10
     let s : State := base.sets [(F.LANE.RXSTS.STATE 0, 2), (F.LANE.RXADAPT.DIV_GUARD 0, 1)]
     s.up = true ∧ s.get (F.LANE.RXSTS.STATE n.val) = 2 ∧ s.flag (F.LANE.RXADAPT.DIV_GUARD n.val) = true ∧ snr.toNat + 12 < s.convSnr n.val) ∧
    (let v : Word := 0#64
     let src : Path := .guide
     let n : LaneId := 0
     let s : State := base
     s.Admits src (0x100 + n.val) 0x108 (withBit v.toNat 1 true) ∧ s.flag (F.LANE.RXADAPT.FREEZE n.val) = false ∧ bitOf v.toNat 0 = false) ∧
    (let src : Path := .guide
     let n : LaneId := 0
     let v : Word := 1#64
     let s : State := base
     s.Admits src (0x100 + n.val) 0x108 (withBit v.toNat 1 false) ∧ s.flag (F.LANE.RXADAPT.FREEZE n.val) = false ∧ bitOf v.toNat 0 = true) ∧
    (let n : LaneId := 0
     let s : State := (base.setLane 0 { tryRec := true }).set (F.LANE.RXSTS.STATE 0) 1
     s.up = true ∧ (s.lane n.val).tryRec = true ∧ s.laneState n.val = 1) ∧
    (let n : LaneId := 0
     let snr : BitVec 8 := 10
     let i : Nat := 0
     let s : State := (base.setLane 0 { sweep := some 0 }).set (F.LANE.RXSTS.STATE 0) 1
     s.up = true ∧ (s.lane n.val).sweep = some i ∧ s.laneState n.val = 1 ∧ i + 1 < (s.sawSnr n.val snr.toNat).tryCount n.val ∧ (s.lane n.val).rejected = false ∧ (s.lane n.val).bestSnr < snr.toNat) ∧
    (let n : LaneId := 0
     let s : State := (base.setLane 0 { relock := true }).setPort 0 { under := 6 }
     s.up = true ∧ (s.lane n.val).relock = true ∧ (s.port (s.portOfLane n.val)).under = 6) := by refine ⟨?_, ?_, ?_, ?_, ?_, ?_⟩ <;> decide
set_option maxRecDepth 20000 in
theorem wit_LaneTestRowsComplete_1 :
    (let src : Path := .guide
     let n : LaneId := 0
     let v : Word := 1#64
     let s : State := base.set (F.STN.PORT_ROLE.ROLE 0) 0
     s.Admits src (0x100 + n.val) 0x118 v.toNat ∧ bitOf v.toNat 0 = true ∧ s.laneOff n.val = true ∧ bitsOf v.toNat 7 4 ≠ 5 ∧ bitsOf v.toNat 7 4 ≠ 6) ∧
    (let v : Word := 0#64
     let src : Path := .guide
     let n : LaneId := 0
     let s : State := base
     s.Admits src (0x100 + n.val) 0x130 (withBit v.toNat 1 false)) ∧
    (let v : Word := 0#64
     let src : Path := .guide
     let n : LaneId := 0
     let s : State := base
     s.Admits src (0x100 + n.val) 0x130 (withBit v.toNat 1 true)) ∧
    (let n : LaneId := 0
     let s : State := base.sets [(F.STN.PORT_ROLE.ROLE 0, 0), (F.LANE.PATCHK.EN 0, 1)]
     s.up = true ∧ s.flag (F.LANE.PATCHK.EN n.val) = true ∧ s.laneOff n.val = true) ∧
    (let syms : BitVec 48 := 0
     let errs : BitVec 48 := 0
     let bits : BitVec 48 := 0
     let n : LaneId := 0
     let s : State := base.sets [(F.LANE.PATCHK.LOCKED 0, 1)]
     s.up = true ∧ s.flag (F.LANE.PATCHK.LOCKED n.val) = true) ∧
    (let syms : BitVec 48 := 0
     let errs : BitVec 48 := 0
     let n : LaneId := 0
     let s : State := base.sets [(F.LANE.PATCHK.LOCKED 0, 1)]
     s.up = true ∧ s.flag (F.LANE.PATCHK.LOCKED n.val) = true ∧ s.flag (F.LANE.PATCHK_BITS.SAT n.val) = false) ∧
    (let v : Word := 0#64
     let src : Path := .guide
     let n : LaneId := 0
     let s : State := base
     s.Admits src (0x100 + n.val) 0x150 (withBit v.toNat 0 true) ∧ bitOf v.toNat 1 = false) ∧
    (let n : LaneId := 0
     let s : State := base.sets [(F.LANE.ERRINJ.GO 0, 1), (F.LANE.ERRINJ.PERIODIC 0, 1)]
     s.up = true ∧ s.flag (F.LANE.ERRINJ.GO n.val) = true ∧ s.flag (F.LANE.ERRINJ.PERIODIC n.val) = true) := by refine ⟨?_, ?_, ?_, ?_, ?_, ?_, ?_, ?_⟩ <;> decide
set_option maxRecDepth 20000 in
theorem wit_LaneTestRowsComplete_2 :
    (let src : Path := .guide
     let n : LaneId := 0
     let v : Word := 1#64
     let s : State := base.set (F.STN.PORT_ROLE.ROLE 0) 0
     s.Admits src (0x100 + n.val) 0x158 v.toNat ∧ s.laneOff n.val = true) ∧
    (let v : Word := 0#64
     let src : Path := .guide
     let n : LaneId := 0
     let s : State := base
     s.Admits src (0x100 + n.val) 0x160 (withBit v.toNat 0 true) ∧ s.flag (F.LANE.EYESCAN_STS.BUSY n.val) = false ∧ (s.lane n.val).margining = false) ∧
    (let uv : BitVec 16 := 0
     let errs : BitVec 24 := 0
     let pts : List EyePoint := []
     let n : LaneId := 0
     let s : State := base.sets [(F.LANE.EYESCAN_STS.BUSY 0, 1), (F.LANE.EYESCAN.MODE 0, 1)]
     s.up = true ∧ s.flag (F.LANE.EYESCAN_STS.BUSY n.val) = true ∧ (s.lane n.val).scanWaits = false ∧ s.get (F.LANE.EYESCAN.MODE n.val) = 1) ∧
    (let n : LaneId := 0
     let c : MarginMsg := { receiver := 0, cmd := .report }
     let s : State := (base.set (F.STN.PORT_ROLE.ROLE 0) 1).set (F.STN.LINK_STS.STATE 0) 6
     s.up = true ∧ ((s.role (s.portOfLane n.val) = 1 ∨ s.role (s.portOfLane n.val) = 2)) ∧ s.get (F.STN.LINK_STS.STATE (s.portOfLane n.val)) = 6 ∧ c.receiver = 0) := by refine ⟨?_, ?_, ?_, ?_⟩ <;> decide
set_option maxRecDepth 20000 in
theorem wit_PortRowsComplete_1 :
    (let v : Word := 0#64
     let src : Path := .guide
     let st : StnId := 0
     let s : State := (base.set (F.STN.PORT_ROLE.ROLE 0) 0)
     s.Admits src (0x10 + st.val) 0x100 v.toNat ∧ ((List.range 4).any fun k => s.role (4 * st.val + k) != 0) = false) ∧
    (let src : Path := .guide
     let p : PortId := 0
     let v : Word := 0x42#64
     let s : State := base.set (F.STN.PORT_ROLE.ROLE 0) 0
     s.Admits src (0x10 + p.val / 4) (0x110 + 8 * (p.val % 4)) v.toNat ∧ (s.charged src).roleRefusal p.val v.toNat = 0 ∧ s.role p.val = 0 ∧ bitsOf v.toNat 1 0 ≠ 0) ∧
    (let src : Path := .guide
     let p : PortId := 0
     let v : Word := 0x10#64
     let s : State := base
     s.Admits src (0x10 + p.val / 4) (0x130 + 8 * (p.val % 4)) v.toNat ∧ bitOf v.toNat 4 = true ∧ bitOf v.toNat 8 = false ∧ bitOf v.toNat 2 = false ∧ s.flag (F.STN.LINK_CTL.DISABLE p.val) = false) ∧
    (let src : Path := .guide
     let p : PortId := 0
     let v : Word := 0x100#64
     let s : State := base.set (F.STN.PORT_ROLE.ROLE 0) 2
     s.Admits src (0x10 + p.val / 4) (0x130 + 8 * (p.val % 4)) v.toNat ∧ bitOf v.toNat 4 = false ∧ bitOf v.toNat 8 = true ∧ bitOf v.toNat 2 = false ∧ s.flag (F.STN.LINK_CTL.DISABLE p.val) = false ∧ s.flag (F.STN.LINK_CTL.PRST_ASSERT p.val) = false ∧ s.role p.val = 2 ∧ s.linkUp p.val = false) ∧
    (let v : Word := 0#64
     let src : Path := .guide
     let p : PortId := 0
     let s : State := (base.set (F.STN.PORT_ROLE.ROLE 0) 2).setPort 0 { under := 6 }
     s.Admits src (0x10 + p.val / 4) (0x130 + 8 * (p.val % 4)) (withBit v.toNat 3 true) ∧ bitOf v.toNat 4 = false ∧ bitOf v.toNat 8 = false ∧ bitOf v.toNat 2 = false ∧ s.flag (F.STN.LINK_CTL.DISABLE p.val) = false ∧ s.role p.val = 2 ∧ s.linkUp p.val = true) ∧
    (let v : Word := 0#64
     let src : Path := .guide
     let p : PortId := 0
     let s : State := base.set (F.STN.PORT_ROLE.ROLE 0) 2
     s.Admits src (0x10 + p.val / 4) (0x130 + 8 * (p.val % 4)) (withBit v.toNat 3 true) ∧ bitOf v.toNat 4 = false ∧ bitOf v.toNat 8 = false ∧ bitOf v.toNat 2 = false ∧ s.flag (F.STN.LINK_CTL.DISABLE p.val) = false ∧ s.linkUp p.val = false) ∧
    (let v : Word := 0#64
     let src : Path := .guide
     let p : PortId := 0
     let s : State := base
     s.Admits src (0x10 + p.val / 4) (0x130 + 8 * (p.val % 4)) (withBit v.toNat 1 true) ∧ bitOf v.toNat 4 = false ∧ bitOf v.toNat 8 = false ∧ bitOf v.toNat 3 = false ∧ bitOf v.toNat 2 = false ∧ s.flag (F.STN.LINK_CTL.DISABLE p.val) = false) ∧
    (let v : Word := 0#64
     let src : Path := .guide
     let p : PortId := 0
     let s : State := base
     s.Admits src (0x10 + p.val / 4) (0x130 + 8 * (p.val % 4)) (withBit v.toNat 2 true) ∧ bitOf v.toNat 4 = false ∧ bitOf v.toNat 8 = false ∧ bitOf v.toNat 3 = false ∧ bitOf v.toNat 1 = false ∧ s.flag (F.STN.LINK_CTL.DISABLE p.val) = false) := by refine ⟨?_, ?_, ?_, ?_, ?_, ?_, ?_, ?_⟩ <;> decide
set_option maxRecDepth 20000 in
theorem wit_PortRowsComplete_2 :
    (let p : PortId := 0
     let s : State := (base.setPrst 0 { minTimer := true })
     s.up = true ∧ (s.prst p.val).minTimer = true ∧ s.vdspOfPort p.val = none) ∧
    (let p : PortId := 0
     let h : Nat := 2
     let s : State := base.sets [(F.STN.PORT_ROLE.ROLE 0, 1), (F.VH.VH_BIND.EN 2, 1), (F.VH.VH_BIND.HOST_PORT 2, 0)]
     s.up = true ∧ s.role p.val = 1 ∧ (s.port p.val).hostRst = false ∧ ((s.setPort p.val { s.port p.val with hostRst := true }).takeDown p.val 1 Ev.VH_RESET).vhOfHost p.val = some h) ∧
    (let p : PortId := 0
     let s : State := (base.set (F.STN.PORT_ROLE.ROLE 0) 1).setPort 0 { hostRst := true }
     s.up = true ∧ s.role p.val = 1 ∧ (s.port p.val).hostRst = true) ∧
    (let p : PortId := 0
     let h : Nat := 2
     let s : State := (base.sets [(F.STN.PORT_ROLE.ROLE 0, 1), (F.VH.VH_BIND.EN 2, 1), (F.VH.VH_BIND.HOST_PORT 2, 0), (F.STN.LINK_STS.LINK_UP 0, 1)]).setPort 0 { under := 6 }
     s.up = true ∧ s.role p.val = 1 ∧ s.linkUp p.val = true ∧ (s.takeDown p.val 9 Ev.VH_RESET).vhOfHost p.val = some h) ∧
    (let vh : VhId := 0
     let s : State := { base with share := { base.share with vhReset := [(0, false)] } }
     s.up = true ∧ (s.share.vhReset.any fun e => e.1 == vh.val) = true ∧ s.vhResetOver vh.val = true) ∧
    (let p : PortId := 0
     let s : State := base
     s.up = true) ∧
    (let reads : List ExpRead := []
     let s : State := base
     s.up = true) ∧
    (let vh : VhId := 0
     let d : VdspId := 1
     let on : Bool := false
     let s : State := base.set (F.VH.VDSP.STATE 0 1) 2
     s.up = true ∧ d.val ≠ 0 ∧ s.get (F.VH.VDSP.STATE vh.val d.val) ≠ 0 ∧ bitOf (s.cfg vh.val d.val 0x22) 10 = on) := by refine ⟨?_, ?_, ?_, ?_, ?_, ?_, ?_, ?_⟩ <;> decide
set_option maxRecDepth 20000 in
theorem wit_PortRowsComplete_3 :
    (let reqId : BitVec 16 := 0
     let p : PortId := 0
     let s : State := (base.sets [(F.STN.PORT_ROLE.ROLE 0, 2), (F.STN.LINK_STS.LINK_UP 0, 1), (F.STN.PORT_ROLE.PTM_EN 0, 1), (F.TIME.STS.SYNCED, 1)]).setPort 0 { under := 6 }
     s.up = true ∧ s.role p.val = 2 ∧ s.linkUp p.val = true ∧ s.flag (F.STN.PORT_ROLE.PTM_EN p.val) = true ∧ s.flag F.TIME.STS.SYNCED = true) := by decide
set_option maxRecDepth 20000 in
theorem wit_TrainingRowsComplete_1 :
    (let p : PortId := 0
     let width : BitVec 5 := 2
     let s : State := (base.sets [(F.STN.PORT_ROLE.ROLE 0, 2), (F.STN.LINK_STS.FLIT 0, 1), (F.STN.LINK_STS.NEG_WIDTH 0, 4)]).setPort 0 { under := 6 }
     s.up = true ∧ ((s.role p.val = 1 ∨ s.role p.val = 2)) ∧ (s.port p.val).under = 6 ∧ s.heldPort p.val = false ∧ s.flag (F.STN.LINK_STS.FLIT p.val) = true ∧ [1, 2, 4, 8, 16].contains width.toNat = true ∧ width.toNat ≤ s.get (F.STN.LINK_STS.NEG_WIDTH p.val) ∧ (s.port p.val).widthOwn = none) ∧
    (let p : PortId := 0
     let s : State := (base.sets [(F.STN.PORT_ROLE.ROLE 0, 2), (F.STN.LINK_STS.FLIT 0, 1), (F.STN.LINK_STS.NEG_WIDTH 0, 4), (F.STN.LINK_CTL.WIDTH_REQ 0, 2)]).setPort 0 { under := 6, widthRetry := true }
     s.up = true ∧ (s.port p.val).widthRetry = true ∧ (s.port p.val).widthNew = none ∧ s.get (F.STN.LINK_STS.ACTIVE_WIDTH p.val) ≠ s.get (F.STN.LINK_CTL.WIDTH_REQ p.val) ∧ (s.setPort p.val { s.port p.val with widthRetry := false, widthTried := true }).widthOk p.val (s.get (F.STN.LINK_CTL.WIDTH_REQ p.val)) = true) ∧
    (let p : PortId := 0
     let w : Nat := 2
     let s : State := (base.sets [(F.STN.PORT_ROLE.ROLE 0, 2), (F.STN.LINK_STS.NEG_WIDTH 0, 4), (F.LANE.RXSTS.STATE 0, 2), (F.LANE.RXSTS.STATE 1, 2)]).setPort 0 { under := 6, widthNew := some 2 }
     s.up = true ∧ (s.port p.val).widthNew = some w ∧ s.widthReady p.val w = true ∧ s.role p.val ≠ 3 ∧ (s.port p.val).widthOwn = none) ∧
    (let p : PortId := 0
     let t : TrainStep := { state := 6, rate := 0, width := 1 }
     let s : State := (base.sets [(F.STN.PORT_ROLE.ROLE 0, 2), (F.LANE.RXSTS.STATE 0, 2), (F.LANE.RXSTS.RATE 0, 0)]).setPort 0 { under := 4 }
     s.up = true ∧ ((s.role p.val = 1 ∨ s.role p.val = 2)) ∧ s.linkHeld p.val = false ∧ (s.port p.val).hostRst = false ∧ (s.port p.val).under = 4 ∧ t.state = 6 ∧ t.width ≠ 0 ∧ s.lanesOk p.val t = true) ∧
    (let p : PortId := 0
     let s : State := (base.set (F.STN.PORT_ROLE.ROLE 0) 3).setPort 0 { under := 1 }
     s.up = true ∧ s.role p.val = 3 ∧ (s.port p.val).under = 1) ∧
    (let pol : BitVec 16 := 0
     let rev : Bool := true
     let p : PortId := 0
     let s : State := (base.set (F.STN.PORT_ROLE.ROLE 0) 3).setPort 0 { under := 2 }
     s.up = true ∧ s.role p.val = 3 ∧ (s.port p.val).under = 2) ∧
    (let p : PortId := 0
     let s : State := (base.set (F.STN.PORT_ROLE.ROLE 0) 3).setPort 0 { under := 2 }
     s.up = true ∧ s.role p.val = 3 ∧ (s.port p.val).under = 2) ∧
    (let p : PortId := 0
     let m : ParamMsg := { node := 1, rate := 5, width := 1, ownPort := 0 }
     let s : State := (base.set (F.STN.PORT_ROLE.ROLE 0) 3).setPort 0 { under := 3, paramSent := true }
     s.up = true ∧ s.role p.val = 3 ∧ (s.port p.val).under = 3 ∧ (s.port p.val).partner = none ∧ (s.port p.val).paramSent = true) := by refine ⟨?_, ?_, ?_, ?_, ?_, ?_, ?_, ?_⟩ <;> decide
set_option maxRecDepth 20000 in
theorem wit_TrainingRowsComplete_2 :
    (let p : PortId := 0
     let m : ParamMsg := { node := 1, rate := 5, width := 1, ownPort := 0 }
     let r : Nat := 5
     let s : State := (base.sets [(F.STN.PORT_ROLE.ROLE 0, 3), (F.STN.LINK_STS.NEG_WIDTH 0, 1), (F.LANE.RXSTS.STATE 0, 2), (F.LANE.RXSTS.RATE 0, 5)]).setPort 0 { under := 4, paramSent := true, trainRate := 6, partner := some { node := 1, rate := 5, width := 1, ownPort := 0 } }
     s.up = true ∧ s.role p.val = 3 ∧ (s.port p.val).under = 4 ∧ s.heldPort p.val = false ∧ (s.port p.val).paramSent = true ∧ (s.port p.val).partner = some m ∧ s.flag (F.STN.LINK_STS.CAP_CONV p.val) = false ∧ r = min (min (s.port p.val).trainRate m.rate.toNat) 6 ∧ (s.trainedLanes p.val).isEmpty = false ∧ ((s.trainedLanes p.val).all fun n => s.laneState n == 2 && s.get (F.LANE.RXSTS.RATE n) == r) = true) ∧
    (let p : PortId := 0
     let rate : BitVec 4 := 3
     let lanes : BitVec 16 := 1
     let bad : List Nat := [0]
     let s : State := (base.sets [(F.STN.PORT_ROLE.ROLE 0, 2), (F.LANE.RXSTS.STATE 0, 1), (F.LANE.RXSTS.RATE 0, 3)]).setPort 0 { under := 4 }
     s.up = true ∧ ((s.role p.val = 1 ∨ s.role p.val = 2)) ∧ (s.port p.val).under = 4 ∧ bad = ((s.lanesOf p.val).filter fun n => bitOf lanes.toNat (n % 16) && s.laneState n == 1 && s.get (F.LANE.RXSTS.RATE n) == rate.toNat) ∧ bad.isEmpty = false) := by refine ⟨?_, ?_⟩ <;> decide
set_option maxRecDepth 20000 in
theorem wit_LinkLayerRowsComplete_1 :
    (let lane : Fin 16 := 0
     let p : PortId := 0
     let bytes : List Byte := List.replicate 256 0
     let s : State := (base.sets [(F.STN.PORT_ROLE.ROLE 0, 3), (F.STN.HLL_STS.STATE 0, 2)]).setPort 0 { under := 6, hll := {} }
     s.up = true ∧ s.flitsRun p.val = true ∧ bytes.length = 256) ∧
    (let p : PortId := 0
     let s : State := ((base.sets [(F.STN.PORT_ROLE.ROLE 0, 3), (F.STN.HLL_STS.STATE 0, 2)]).setPort 0 { under := 6, hll := {} }).set (F.STN.HLL_STS.NAK_PEND 0) 1
     s.up = true ∧ s.flitsRun p.val = true ∧ s.flag (F.STN.HLL_STS.NAK_PEND p.val) = true) ∧
    (let p : PortId := 0
     let s : State := (base.sets [(F.STN.PORT_ROLE.ROLE 0, 3), (F.STN.HLL_STS.STATE 0, 2)]).setPort 0 { under := 6, hll := { since := 1 } }
     s.up = true ∧ s.flitsRun p.val = true ∧ (s.hll p.val).since ≠ 0) ∧
    (let fsn : BitVec 12 := 0
     let p : PortId := 0
     let s : State := (base.sets [(F.STN.PORT_ROLE.ROLE 0, 3), (F.STN.HLL_STS.STATE 0, 2)]).setPort 0 { under := 6, hll := {} }
     s.up = true ∧ s.flitsRun p.val = true) ∧
    (let fsn : BitVec 12 := 0
     let p : PortId := 0
     let s : State := (base.sets [(F.STN.PORT_ROLE.ROLE 0, 3), (F.STN.HLL_STS.STATE 0, 2)]).setPort 0 { under := 6, hll := {} }
     s.up = true ∧ s.flitsRun p.val = true ∧ ((s.ackRx p.val fsn.toNat).hll p.val).replay = none) ∧
    (let p : PortId := 0
     let b : BFlit := { fsn := 3, bytes := [] }
     let l : List BFlit := []
     let s : State := (base.sets [(F.STN.PORT_ROLE.ROLE 0, 3), (F.STN.HLL_STS.STATE 0, 2)]).setPort 0 { under := 6, hll := { belay := [{ fsn := 3, bytes := [] }], limit := 4 } }
     s.up = true ∧ s.flitsRun p.val = true ∧ (s.hll p.val).belay = b :: l ∧ (s.hll p.val).runFsn ≠ some b.fsn ∧ s.ropeOf p.val = none ∧ 1 < (s.hll p.val).limit) ∧
    (let on : Bool := true
     let p : PortId := 0
     let s : State := (base.sets [(F.STN.PORT_ROLE.ROLE 0, 3), (F.STN.HLL_STS.STATE 0, 2)]).setPort 0 { under := 6, hll := {} }
     s.up = true ∧ s.flitsRun p.val = true) ∧
    (let data : BitVec 16 := 0
     let hdr : BitVec 12 := 0
     let vc : HvcId := 0
     let p : PortId := 0
     let s : State := (base.sets [(F.STN.PORT_ROLE.ROLE 0, 3), (F.STN.HLL_STS.STATE 0, 2)]).setPort 0 { under := 6, hll := {} }
     s.up = true ∧ s.flitsRun p.val = true ∧ s.get (F.STN.HLL_STS.STATE p.val) = 2 ∧ vc.val < 3) := by refine ⟨?_, ?_, ?_, ?_, ?_, ?_, ?_, ?_⟩ <;> decide
set_option maxRecDepth 20000 in
theorem wit_LinkLayerRowsComplete_2 :
    (let data : BitVec 16 := 0
     let hdr : BitVec 12 := 0
     let vc : HvcId := 0
     let p : PortId := 0
     let s : State := (base.sets [(F.STN.PORT_ROLE.ROLE 0, 3), (F.STN.HLL_STS.STATE 0, 1)]).setPort 0 { under := 6, hll := { cycle := true } }
     s.up = true ∧ s.flitsRun p.val = true ∧ s.get (F.STN.HLL_STS.STATE p.val) = 1 ∧ (s.hll p.val).cycle = true ∧ vc.val < 3) ∧
    (let g : Bool := true
     let p : PortId := 0
     let s : State := (base.sets [(F.STN.PORT_ROLE.ROLE 0, 3), (F.STN.HLL_STS.STATE 0, 1)]).setPort 0 { under := 6, hll := { cycle := true } }
     s.up = true ∧ s.flitsRun p.val = true ∧ s.get (F.STN.HLL_STS.STATE p.val) = 1 ∧ (s.hll p.val).resuming = false ∧ (s.hll p.val).cycle = true) ∧
    (let p : PortId := 0
     let s : State := (base.sets [(F.STN.PORT_ROLE.ROLE 0, 3), (F.STN.HLL_STS.STATE 0, 1)]).setPort 0 { under := 6, hll := { cycle := true } }
     s.up = true ∧ s.flitsRun p.val = true ∧ s.get (F.STN.HLL_STS.STATE p.val) = 1) ∧
    (let p : PortId := 0
     let s : State := (base.sets [(F.STN.PORT_ROLE.ROLE 0, 3), (F.STN.HLL_STS.STATE 0, 3)]).setPort 0 { under := 1 }
     s.up = true ∧ s.role p.val = 3 ∧ s.get (F.STN.HLL_STS.STATE p.val) = 3 ∧ (s.port p.val).under ≠ 6) ∧
    (let tok : BitVec 8 := 0
     let p : PortId := 0
     let width : BitVec 5 := 1
     let s : State := ((base.sets [(F.STN.PORT_ROLE.ROLE 0, 3), (F.STN.HLL_STS.STATE 0, 2)]).setPort 0 { under := 6, hll := {} }).set (F.STN.LINK_STS.NEG_WIDTH 0) 1
     s.up = true ∧ s.flitsRun p.val = true ∧ (s.port p.val).under = 6 ∧ width.toNat ≤ s.get (F.STN.LINK_STS.NEG_WIDTH p.val) ∧ (s.port p.val).widthOwn = none) ∧
    (let tok : BitVec 8 := 0
     let p : PortId := 0
     let s : State := (base.sets [(F.STN.PORT_ROLE.ROLE 0, 3), (F.STN.HLL_STS.STATE 0, 2)]).setPort 0 { under := 6, widthNew := some 1, hll := { widthTok := 0 } }
     s.up = true ∧ s.flitsRun p.val = true ∧ (s.port p.val).under = 6 ∧ tok.toNat % 16 = (s.port p.val).hll.widthTok ∧ (s.port p.val).widthNew.isSome = true ∧ (s.port p.val).hll.ackGot = false ∧ (s.port p.val).hll.ackSent = false) ∧
    (let tok : BitVec 8 := 0
     let p : PortId := 0
     let s : State := (base.sets [(F.STN.PORT_ROLE.ROLE 0, 3), (F.STN.HLL_STS.STATE 0, 2)]).setPort 0 { under := 6, widthNew := some 1, hll := { widthTok := 0, ackSent := true } }
     s.up = true ∧ s.flitsRun p.val = true ∧ (s.port p.val).under = 6 ∧ tok.toNat % 16 = (s.port p.val).hll.widthTok ∧ (s.port p.val).widthNew.isSome = true ∧ (s.port p.val).hll.ackGot = false ∧ (s.port p.val).hll.ackSent = true) ∧
    (let left : BitVec 8 := 0
     let tok : BitVec 8 := 0
     let p : PortId := 0
     let s : State := (base.sets [(F.STN.PORT_ROLE.ROLE 0, 3), (F.STN.HLL_STS.STATE 0, 2)]).setPort 0 { under := 6, widthNew := some 1, hll := { widthTok := 0 } }
     s.up = true ∧ s.flitsRun p.val = true ∧ (s.port p.val).under = 6 ∧ tok.toNat % 16 = (s.port p.val).hll.widthTok ∧ (s.port p.val).widthNew.isSome = true ∧ (s.port p.val).hll.rxSwitch = none) := by refine ⟨?_, ?_, ?_, ?_, ?_, ?_, ?_, ?_⟩ <;> decide
set_option maxRecDepth 20000 in
theorem wit_LinkLayerRowsComplete_3 :
    (let p : PortId := 0
     let s : State := (base.sets [(F.STN.PORT_ROLE.ROLE 0, 3), (F.STN.HLL_STS.STATE 0, 2)]).setPort 0 { under := 6, hll := {} }
     s.up = true ∧ s.flitsRun p.val = true ∧ (s.port p.val).under = 6) := by decide
set_option maxRecDepth 20000 in
theorem wit_RopeRowsComplete :
    (let p : PortId := 0
     let s : State := (base.sets [(F.STN.PORT_ROLE.ROLE 0, 3), (F.STN.HLL_STS.STATE 0, 2)]).setPort 0 { under := 6, hll := {} }
     s.up = true ∧ ((s.role p.val = 3 ∧ s.flitsRun p.val = true) ∨ ((s.role p.val = 1 ∨ s.role p.val = 2) ∧ s.get (F.STN.LINK_STS.STATE p.val) = 6))) ∧
    (let src : Path := .guide
     let r : VhId := 0
     let v : Word := 0x8001000000000000#64
     let s : State := base.sets [(F.STN.PORT_ROLE.ROLE 0, 0), (F.STN.PORT_ROLE.ROLE 1, 0)]
     s.Admits src 0x41 (0x800 + 8 * r.val) v.toNat ∧ (bitsOf v.toNat 61 56 < 48 ∧ bitsOf v.toNat 53 48 < 48 ∧ bitsOf v.toNat 61 56 ≠ bitsOf v.toNat 53 48) ∧ (s.role (bitsOf v.toNat 61 56) = 0 ∧ s.role (bitsOf v.toNat 53 48) = 0) ∧ ((∀ k < 24, k ≠ r.val → s.flag (F.ROUTE.ROPE_PAIR.EN k) = true → s.get (F.ROUTE.ROPE_PAIR.PORT_A k) ≠ bitsOf v.toNat 61 56 ∧ s.get (F.ROUTE.ROPE_PAIR.PORT_B k) ≠ bitsOf v.toNat 61 56 ∧ s.get (F.ROUTE.ROPE_PAIR.PORT_A k) ≠ bitsOf v.toNat 53 48 ∧ s.get (F.ROUTE.ROPE_PAIR.PORT_B k) ≠ bitsOf v.toNat 53 48))) ∧
    (let p : PortId := 0
     let s : State := ((base.sets [(F.STN.PORT_ROLE.ROLE 0, 3), (F.STN.HLL_STS.STATE 0, 2)]).setPort 0 { under := 6, hll := {} }).sets [(F.ROUTE.ROPE_PAIR.EN 0, 1), (F.ROUTE.ROPE_PAIR.PORT_A 0, 0)]
     s.up = true ∧ s.flitsRun p.val = true ∧ (s.ropeOf p.val).isSome = true ∧ s.memberUp p.val = true) ∧
    (let vc : Fin 4 := 0
     let r : VhId := 0
     let s : State := base
     s.up = true) ∧
    (let vc : Fin 4 := 0
     let r : VhId := 0
     let s : State := base
     s.up = true) := by refine ⟨?_, ?_, ?_, ?_, ?_⟩ <;> decide
set_option maxRecDepth 20000 in
theorem wit_LookupRowsComplete :
    (let vc : Fin 4 := 0
     let p : PortId := 0
     let t : Tlp := {}
     let tail : Tail := .good
     let s : State := (base.set (F.STN.PORT_ROLE.ROLE 0) 1).setPort 0 { under := 6 }
     s.up = true ∧ ((s.role p.val = 1 ∨ s.role p.val = 2)) ∧ (s.port p.val).under = 6 ∧ s.vcOfTc p.val t.tc.toNat = vc.val ∧ (s.tlpAck p.val tail).closed p.val = false ∧ (s.tlpAck p.val tail).pcieOver p.val vc.val t = false ∧ tail ≠ .badLcrc) ∧
    (let vc : Fin 4 := 0
     let p : PortId := 0
     let t : Tlp := {}
     let s : State := (base.set (F.STN.PORT_ROLE.ROLE 0) 1).setPort 0 { under := 6 }
     s.up = true ∧ ((s.role p.val = 1 ∨ s.role p.val = 2)) ∧ (s.port p.val).under = 6 ∧ s.vcOfTc p.val t.tc.toNat = vc.val) ∧
    (let p : SrcId := 0
     let it : InTrain := { id := 1, src := 0, t := {} }
     let s : State := { base with core := { base.core with inq := [(0, [{ id := 1, src := 0, t := {} }])] } }
     s.up = true ∧ ((s.drainMiss p.val 33).missLane p.val).length < 32 ∧ (Tab.getD (s.drainMiss p.val 33).core.gwWait p.val []).length < 32 ∧ (s.drainMiss p.val 33).nextHead p.val = some it ∧ it.hal = none ∧ it.vh = none ∧ (s.drainMiss p.val 33).closed p.val = false) ∧
    (let p : SrcId := 0
     let i : Nat := 5
     let x : Pend := { it := { id := 1, src := 0, t := {} }, vh := 0, t := {}, gen := 0, idx := some 5 }
     let s : State := { base with core := { base.core with miss := [(0, [{ it := { id := 1, src := 0, t := {} }, vh := 0, t := {}, gen := 0, idx := some 5 }])] } }
     s.up = true ∧ ((s.missLane p.val).find? fun y => y.idx.isSome) = some x ∧ s.oldestRead x.winRead = true ∧ x.idx = some i ∧ s.xlat.wrtUe.contains i = false) ∧
    (let p : SrcId := 0
     let i : Nat := 5
     let x : Pend := { it := { id := 1, src := 0, t := {} }, vh := 0, t := {}, gen := 0, ctxWait := true }
     let s : State := { base with core := { base.core with miss := [(0, [{ it := { id := 1, src := 0, t := {} }, vh := 0, t := {}, gen := 0, ctxWait := true }])] }, ctxs := { base.ctxs with dram := [(5, [2 ^ 63])] } }
     s.up = true ∧ ((s.missLane p.val).find? fun y => y.ctxWait) = some x ∧ s.oldestRead x.ctxRead = true ∧ s.ctxFor x.vh x.t = some i ∧ s.ctxs.ue.contains i = false) := by refine ⟨?_, ?_, ?_, ?_, ?_⟩ <;> decide
set_option maxRecDepth 20000 in
theorem wit_WindowRowsComplete_1 :
    (let v : Word := 0#64
     let src : Path := .guide
     let s : State := base
     s.Admits src 0x40 0x118 (withBit v.toNat 1 true)) ∧
    (let s : State := { base with xlat := { base.xlat with invWalk := true } }
     s.up = true ∧ s.xlat.invWalk = true) ∧
    (let v : Word := 0#64
     let src : Path := .guide
     let s : State := base
     s.Admits src 0x40 0x100 (winOp v 1) ∧ s.xlat.updates.length < 256) ∧
    (let v : Word := 0#64
     let src : Path := .guide
     let s : State := base
     s.Admits src 0x40 0x100 (winOp v 2) ∧ s.xlat.updates.length < 256) ∧
    (let v : Word := 0#64
     let src : Path := .guide
     let s : State := base
     s.Admits src 0x40 0x100 (winOp v 3)) ∧
    (let v : Word := 0#64
     let src : Path := .guide
     let s : State := base.set F.CHIP.STATE.STATE 2
     s.Admits src 0x40 0x108 (withBit (withBit v.toNat 1 false) 0 true) ∧ s.get F.XLAT.WIN_STATUS.STATE = 0 ∧ ((s.charged src).set (F.HDR.SHADOW_CTL.STATE 0x40) 1).winCheck = none) ∧
    (let v : Word := 0#64
     let src : Path := .guide
     let s : State := base.set F.CHIP.STATE.STATE 2
     s.Admits src 0x40 0x108 (withBit v.toNat 1 true) ∧ s.get F.XLAT.WIN_STATUS.STATE = 0 ∧ (s.charged src).winCheck = none) ∧
    (let s : State := base.set F.XLAT.WIN_STATUS.STATE 2
     s.up = true ∧ s.winChecked.get F.XLAT.WIN_STATUS.STATE = 2 ∧ s.winChecked.stampCount ((s.winChecked.get (F.HDR.COMMIT_GEN.GEN 0x40) + 1) % 2 ^ 32 % 16) = 0 ∧ s.winChecked.xlat.overlay = []) := by refine ⟨?_, ?_, ?_, ?_, ?_, ?_, ?_, ?_⟩ <;> decide
set_option maxRecDepth 20000 in
theorem wit_WindowRowsComplete_2 :
    (let s : State := base.set F.XLAT.WIN_STATUS.STATE 3
     s.up = true ∧ s.get F.XLAT.WIN_STATUS.STATE = 3 ∧ (s.core.miss.any fun e => e.2.any fun p => p.idx.isSome && p.gen != s.get (F.HDR.COMMIT_GEN.GEN 0x40)) = false ∧ s.canPay 2 0 s.xlat.overlay.length = true) := by decide
set_option maxRecDepth 20000 in
theorem wit_SwitchRowsComplete_1 :
    (let x : XportId := 0
     let t : Train := { id := 1, src := 0, x := 0, vh := 0, rx := {}, t := {}, cls := 0, tc := 0, dst := 4, hsz := 1, dsz := 0, acct := .shared, legs := [{ y := 1, ports := [4], cpls := [{ plane := 0, st := 0 }], numbered := true }] }
     let t' : Train := { id := 1, src := 0, x := 0, vh := 0, rx := {}, t := {}, cls := 0, tc := 0, dst := 4, hsz := 1, dsz := 0, acct := .shared, legs := [{ y := 1, ports := [4], cpls := [{ plane := 0, st := 0 }], numbered := true }] }
     let i : Nat := 0
     let s : State := ({ base with core := { base.core with trains := [(1, { id := 1, src := 0, x := 0, vh := 0, rx := {}, t := {}, cls := 0, tc := 0, dst := 4, hsz := 1, dsz := 0, acct := .shared, legs := [{ y := 1, ports := [4], cpls := [{ plane := 0, st := 0 }], numbered := true }] })] } } : State)
     let a : State := s
     let b : State := s
     s.up = true ∧ s.pick (s.offerers x.val) = (some t, a) ∧ a.nextCpl t = some i ∧ t.bad = none ∧ b = (if t.begun then a else a.numberTrain t) ∧ b.train? t.id = some t') ∧
    (let x : XportId := 0
     let t : Train := { id := 1, src := 0, x := 0, vh := 0, rx := {}, t := {}, cls := 0, tc := 0, dst := 4, hsz := 1, dsz := 0, acct := .shared, legs := [{ y := 1, ports := [4], cpls := [{ plane := 0, st := 0 }], numbered := true }], bad := some 1 }
     let i : Nat := 0
     let code : Nat := 1
     let s : State := ({ base with core := { base.core with trains := [(1, { id := 1, src := 0, x := 0, vh := 0, rx := {}, t := {}, cls := 0, tc := 0, dst := 4, hsz := 1, dsz := 0, acct := .shared, legs := [{ y := 1, ports := [4], cpls := [{ plane := 0, st := 0 }], numbered := true }], bad := some 1 })] } } : State)
     let a : State := s
     s.up = true ∧ s.pick (s.offerers x.val) = (some t, a) ∧ a.nextCpl t = some i ∧ t.bad = some code ∧ t.ct = false) ∧
    (let n : PlaneId := 0
     let o : XportId := 1
     let t : Train := { id := 1, src := 0, x := 0, vh := 0, rx := {}, t := {}, cls := 0, tc := 0, dst := 4, hsz := 1, dsz := 0, acct := .shared, legs := [{ y := 1, ports := [4], cpls := [{ plane := 0, st := 1 }], numbered := true }] }
     let t' : Train := { id := 1, src := 0, x := 0, vh := 0, rx := {}, t := {}, cls := 0, tc := 0, dst := 4, hsz := 1, dsz := 0, acct := .shared, legs := [{ y := 1, ports := [4], cpls := [{ plane := 0, st := 2 }], numbered := true }] }
     let l : Leg := { y := 1, ports := [4], cpls := [{ plane := 0, st := 1 }], numbered := true }
     let i : Nat := 0
     let c : Cpl := { plane := 0, st := 1 }
     let s : State := (({ base with core := { base.core with trains := [(1, { id := 1, src := 0, x := 0, vh := 0, rx := {}, t := {}, cls := 0, tc := 0, dst := 4, hsz := 1, dsz := 0, acct := .shared, legs := [{ y := 1, ports := [4], cpls := [{ plane := 0, st := 1 }], numbered := true }] })] } } : State)).set (F.STN.PORT_ROLE.ROLE 0) 2
     let a : State := { s with core := { s.core with first := Tab.put s.core.first 0 1 } }
     let b : State := (a.bookGrant 0 1 [] t 0 true).putTrain (t.setCpl 1 0 fun c => { c with st := 2 })
     s.up = true ∧ s.outBusy n.val o.val = false ∧ s.targets n.val [o.val] = [] ∧ a = { s with core := { s.core with first := Tab.put s.core.first n.val o.val } } ∧ a.winner n.val o.val [] = some (t, l, i, c) ∧ b = (a.bookGrant n.val o.val [] t i true).putTrain (t.setCpl o.val i fun c => { c with st := 2 }) ∧ b.train? t.id = some t' ∧ t'.mcast = false) ∧
    (let n : PlaneId := 0
     let also : BitVec 14 := 4
     let m : List Nat := [1, 2]
     let w : List Nat := [1, 2]
     let o : XportId := 1
     let s : State := (({ base with core := { base.core with trains := [(1, { id := 1, src := 0, x := 0, vh := 0, rx := {}, t := {}, cls := 0, tc := 0, dst := 4, hsz := 1, dsz := 0, acct := .shared, legs := [{ y := 1, ports := [4], cpls := [{ plane := 0, st := 1 }], numbered := true }] })] } } : State)).set (F.STN.PORT_ROLE.ROLE 0) 2
     let a : State := { s with core := { s.core with first := Tab.put s.core.first 0 1 } }
     s.up = true ∧ m = ((List.range 14).filter fun y => y == o.val || bitOf also.toNat y) ∧ (m.any fun y => s.outBusy n.val y) = false ∧ w = ((List.range 14).map fun k => (Tab.getD s.core.first n.val 13 + 1 + k) % 14).filter (m ++ s.targets n.val m).contains ∧ a = { s with core := { s.core with first := Tab.put s.core.first n.val (w.headD 0) } }) ∧
    (let r : List (Train × Leg × Nat × Cpl) := []
     let n : PlaneId := 0
     let o : XportId := 1
     let e : List BitErr := []
     let t : Train := { id := 1, src := 0, x := 0, vh := 0, rx := {}, t := {}, cls := 0, tc := 0, dst := 4, hsz := 1, dsz := 0, acct := .shared, legs := [{ y := 1, ports := [4], cpls := [{ plane := 0, st := 2 }], numbered := true }] }
     let t' : Train := { id := 1, src := 0, x := 0, vh := 0, rx := {}, t := {}, cls := 0, tc := 0, dst := 4, hsz := 1, dsz := 0, acct := .shared, legs := [{ y := 1, ports := [4], cpls := [{ plane := 0, st := 2 }], numbered := true }] }
     let l : Leg := { y := 1, ports := [4], cpls := [{ plane := 0, st := 2 }], numbered := true }
     let i : Nat := 0
     let c : Cpl := { plane := 0, st := 2 }
     let s : State := ({ base with core := { base.core with trains := [(1, { id := 1, src := 0, x := 0, vh := 0, rx := {}, t := {}, cls := 0, tc := 0, dst := 4, hsz := 1, dsz := 0, acct := .shared, legs := [{ y := 1, ports := [4], cpls := [{ plane := 0, st := 2 }], numbered := true }] })] } } : State)
     let b : State := s
     s.up = true ∧ (s.cplsAt o.val fun _ c => c.plane == n.val && c.st == 2) = (t, l, i, c) :: r ∧ b = e.foldl (fun a x => a.bitErr n.val o.val t.id i x) (s.readCpl t.id i) ∧ b.train? t.id = some t' ∧ t'.mcast = false) ∧
    (let y : XportId := 1
     let t : Train := { id := 1, src := 0, x := 0, vh := 0, rx := {}, t := {}, cls := 0, tc := 0, dst := 4, hsz := 1, dsz := 0, acct := .shared, legs := [{ y := 1, ports := [4], cpls := [{ plane := 0, st := 3 }], numbered := true }] }
     let l : Leg := { y := 1, ports := [4], cpls := [{ plane := 0, st := 3 }], numbered := true }
     let i : Nat := 0
     let c : Cpl := { plane := 0, st := 3 }
     let s : State := ({ base with core := { base.core with trains := [(1, { id := 1, src := 0, x := 0, vh := 0, rx := {}, t := {}, cls := 0, tc := 0, dst := 4, hsz := 1, dsz := 0, acct := .shared, legs := [{ y := 1, ports := [4], cpls := [{ plane := 0, st := 3 }], numbered := true }] })] } } : State)
     let a : State := s
     s.up = true ∧ s.pick (s.releasable y.val State.deliverRoom) = (some (t, l, i, c), a) ∧ t.mcast = false ∧ t.dst < 48) ∧
    (let y : XportId := 1
     let m : Train × Leg × Nat × Cpl := ({ id := 1, src := 0, x := 0, vh := 0, rx := {}, t := {}, cls := 0, tc := 0, dst := 4, hsz := 1, dsz := 0, acct := .shared, legs := [{ y := 1, ports := [4], cpls := [{ plane := 0, st := 2 }, { plane := 1, csn := 1, st := 3 }], numbered := true }] }, { y := 1, ports := [4], cpls := [{ plane := 0, st := 2 }, { plane := 1, csn := 1, st := 3 }], numbered := true }, 0, { plane := 0, st := 2 })
     let g : List (Train × Leg × Nat × Cpl) := [({ id := 1, src := 0, x := 0, vh := 0, rx := {}, t := {}, cls := 0, tc := 0, dst := 4, hsz := 1, dsz := 0, acct := .shared, legs := [{ y := 1, ports := [4], cpls := [{ plane := 0, st := 2 }, { plane := 1, csn := 1, st := 3 }], numbered := true }] }, { y := 1, ports := [4], cpls := [{ plane := 0, st := 2 }, { plane := 1, csn := 1, st := 3 }], numbered := true }, 0, { plane := 0, st := 2 })]
     let s : State := ({ base with core := { base.core with trains := [(1, { id := 1, src := 0, x := 0, vh := 0, rx := {}, t := {}, cls := 0, tc := 0, dst := 4, hsz := 1, dsz := 0, acct := .shared, legs := [{ y := 1, ports := [4], cpls := [{ plane := 0, st := 2 }, { plane := 1, csn := 1, st := 3 }], numbered := true }] })] } } : State)
     let a : State := s
     s.up = true ∧ g = ((((s.cplsAt y.val fun _ c => c.st == 3).map fun r => r.1.seqKey y.val).eraseDups).filterMap fun k =>
          match s.lacking k y.val with
          | [] => none
          | m :: _ => if (s.cplsAt y.val fun _ c => c.st == 3).any fun r => r.1.seqKey y.val == k && decide (s.csnDist r.1 y.val r.2.2.2 > s.csnDist m.1 y.val m.2.2.2) then some m else none) ∧ s.pick g = (some m, a)) ∧
    (let x : XportId := 0
     let y : Nat := 1
     let m : Train × Leg × Nat × Cpl := ({ id := 1, src := 0, x := 0, vh := 0, rx := {}, t := {}, cls := 0, tc := 0, dst := 4, hsz := 1, dsz := 0, acct := .shared, legs := [{ y := 1, ports := [4], cpls := [{ plane := 0, st := 2 }], numbered := true }] }, { y := 1, ports := [4], cpls := [{ plane := 0, st := 2 }], numbered := true }, 0, { plane := 0, st := 2 })
     let g : List (Nat × Train × Leg × Nat × Cpl) := [(1, { id := 1, src := 0, x := 0, vh := 0, rx := {}, t := {}, cls := 0, tc := 0, dst := 4, hsz := 1, dsz := 0, acct := .shared, legs := [{ y := 1, ports := [4], cpls := [{ plane := 0, st := 2 }], numbered := true }] }, { y := 1, ports := [4], cpls := [{ plane := 0, st := 2 }], numbered := true }, 0, { plane := 0, st := 2 })]
     let s : State := ({ base with core := { base.core with trains := [(1, { id := 1, src := 0, x := 0, vh := 0, rx := {}, t := {}, cls := 0, tc := 0, dst := 4, hsz := 1, dsz := 0, acct := .shared, legs := [{ y := 1, ports := [4], cpls := [{ plane := 0, st := 2 }], numbered := true }] })] } } : State)
     let a : State := s
     s.up = true ∧ g = (((List.range 14).flatMap fun y => (s.cplsAt y fun t c => t.x == x.val && (c.st == 2 || c.st == 3)).map fun r => (y, r)).filterMap fun e =>
          if e.2.2.2.2.st = 2 then some e
          else ((s.lacking (e.2.1.seqKey e.1) e.1).head?.map fun m => (e.1, m)).bind fun m =>
            if s.csnDist m.2.1 e.1 m.2.2.2.2 < s.csnDist e.2.1 e.1 e.2.2.2.2 then some m else none) ∧ s.pick g = (some (y, m), a)) := ⟨by decide, by decide, by decide, by decide, by decide, by decide +kernel, by decide +kernel, by decide⟩
set_option maxRecDepth 20000 in
theorem wit_SwitchRowsComplete_2 :
    (let n : PlaneId := 0
     let s : State := base
     s.up = true ∧ s.get (F.PLANE.STS.STATE n.val) ≠ 2) ∧
    (let n : PlaneId := 0
     let s : State := base.set (F.PLANE.STS.STATE 0) 1
     s.up = true ∧ s.get (F.PLANE.STS.STATE n.val) = 1) ∧
    (let x : XportId := 0
     let t : Train := { id := 1, src := 0, x := 0, vh := 0, rx := {}, t := {}, cls := 0, tc := 0, dst := 63, hsz := 1, dsz := 0, acct := .shared, legs := [{ y := 1, ports := [4], cpls := [{ plane := 0, st := 0 }], numbered := true }] }
     let t' : Train := { id := 1, src := 0, x := 0, vh := 0, rx := {}, t := {}, cls := 0, tc := 0, dst := 63, hsz := 1, dsz := 0, acct := .shared, legs := [{ y := 1, ports := [4], cpls := [{ plane := 0, st := 0 }], numbered := true }] }
     let i : Nat := 0
     let l : List Train := [{ id := 1, src := 0, x := 0, vh := 0, rx := {}, t := {}, cls := 0, tc := 0, dst := 63, hsz := 1, dsz := 0, acct := .shared, legs := [{ y := 1, ports := [4], cpls := [{ plane := 0, st := 0 }], numbered := true }] }]
     let s : State := ({ base with core := { base.core with trains := [(1, { id := 1, src := 0, x := 0, vh := 0, rx := {}, t := {}, cls := 0, tc := 0, dst := 63, hsz := 1, dsz := 0, acct := .shared, legs := [{ y := 1, ports := [4], cpls := [{ plane := 0, st := 0 }], numbered := true }] })] } } : State)
     let a : State := s
     s.up = true ∧ l = (s.trainList.filter fun t => t.x == x.val && t.mcast && t.inBuffer && (s.mcNext t).isSome && (t.begun || (!s.mcHeld t && s.sidingRoom t))) ∧ s.pick (l.filter Train.begun) = (some t, a) ∧ a.mcNext t = some i ∧ t.begun = true ∧ a.train? t.id = some t') ∧
    (let r : List (Train × Leg × Nat × Cpl) := []
     let t0 : Train := { id := 1, src := 0, x := 0, vh := 0, rx := {}, t := {}, cls := 0, tc := 0, dst := 63, hsz := 1, dsz := 0, acct := .shared, legs := [{ y := 1, ports := [4], cpls := [{ plane := 0, st := 5 }], numbered := true }] }
     let t : Train := { id := 1, src := 0, x := 0, vh := 0, rx := {}, t := {}, cls := 0, tc := 0, dst := 63, hsz := 1, dsz := 0, acct := .shared, legs := [{ y := 1, ports := [4], cpls := [{ plane := 0, st := 5 }], numbered := true }] }
     let l : Leg := { y := 1, ports := [4], cpls := [{ plane := 0, st := 5 }], numbered := true }
     let i : Nat := 0
     let c : Cpl := { plane := 0, st := 5 }
     let s : State := { ({ base with core := { base.core with trains := [(1, { id := 1, src := 0, x := 0, vh := 0, rx := {}, t := {}, cls := 0, tc := 0, dst := 63, hsz := 1, dsz := 0, acct := .shared, legs := [{ y := 1, ports := [4], cpls := [{ plane := 0, st := 5 }], numbered := true }] })] } } : State) with core := { base.core with trains := [(1, { id := 1, src := 0, x := 0, vh := 0, rx := {}, t := {}, cls := 0, tc := 0, dst := 63, hsz := 1, dsz := 0, acct := .shared, legs := [{ y := 1, ports := [4], cpls := [{ plane := 0, st := 5 }], numbered := true }] })], residue := [(1, 1, 0)] } }
     let a : State := State.readCpl { s with core := { s.core with residue := s.core.residue.erase (1, 1, 0) } } 1 0
     s.up = true ∧ s.sidingNext = (t0, l, i, c) :: r ∧ a = State.readCpl { s with core := { s.core with residue := s.core.residue.erase (t0.id, l.y, i) } } t0.id i ∧ a.train? t0.id = some t) ∧
    (let r : List (Train × Leg) := []
     let y : XportId := 1
     let t : Train := { id := 1, src := 0, x := 0, vh := 0, rx := {}, t := {}, cls := 0, tc := 0, dst := 63, hsz := 1, dsz := 0, acct := .shared, legs := [{ y := 1, ports := [4], cpls := [{ plane := 0, st := 5 }], numbered := true }] }
     let l : Leg := { y := 1, ports := [4], cpls := [{ plane := 0, st := 5 }], numbered := true }
     let s : State := ({ base with core := { base.core with trains := [(1, { id := 1, src := 0, x := 0, vh := 0, rx := {}, t := {}, cls := 0, tc := 0, dst := 63, hsz := 1, dsz := 0, acct := .shared, legs := [{ y := 1, ports := [4], cpls := [{ plane := 0, st := 5 }], numbered := true }] })] } } : State)
     s.up = true ∧ ((s.trainList.filter fun t => t.mcast && t.inBuffer).flatMap fun t =>
          (t.legs.filter fun l => l.y == y.val && l.numbered && l.cpls.any fun c => decide (c.st < 3) || c.st == 5).map fun l => (t, l)) = (t, l) :: r) := by refine ⟨?_, ?_, ?_, ?_, ?_⟩ <;> decide
set_option maxRecDepth 20000 in
theorem wit_BufferRowsComplete_1 :
    (let p : SrcId := 0
     let s : State := base
     s.up = true) ∧
    (let s : State := base.set F.BUF.CENSUS_CFG.EN 1
     s.up = true ∧ s.flag F.BUF.CENSUS_CFG.EN = true ∧ s.flag F.BUF.CENSUS_STS.BUSY = false) ∧
    (let v : Word := 0#64
     let src : Path := .guide
     let s : State := base
     s.Admits src 0x28 0x110 (withBit v.toNat 1 true) ∧ s.flag F.BUF.CENSUS_STS.BUSY = false) ∧
    (let f : CensusFindings := {}
     let s : State := base.set F.BUF.CENSUS_STS.BUSY 1
     s.up = true ∧ s.flag F.BUF.CENSUS_STS.BUSY = true ∧ s.core.censusLeft = 0 ∧ s.core.censusDue = false) ∧
    (let ue : Nat := 0
     let ce : Nat := 0
     let b : Fin 128 := 0
     let t : State := base
     let a : State := { base with core := { base.core with bankErrs := Tab.put base.core.bankErrs 0 (base.time.run, 0, 0) } }
     let s : State := base
     s.up = true ∧ t = (s.bankCes b.val ce).bankUes b.val (min ue (s.liveIn b.val).length) ∧ Tab.get? t.core.bankErrs b.val = none ∧ a = { t with core := { t.core with bankErrs := Tab.put t.core.bankErrs b.val (t.time.run, ce, ue) } }) ∧
    (let v : Word := 0#64
     let src : Path := .guide
     let s : State := base
     s.Admits src 0x28 0x120 (withBit v.toNat 0 true)) ∧
    (let bad : List (BitVec 13) := []
     let copied : BitVec 14 := 0
     let b : Nat := 3
     let s : State := ({ base with core := { base.core with copying := some 3 } } : State).set F.BUF.BANK_STS.STATE 1
     s.up = true ∧ s.core.copying = some b ∧ s.get F.BUF.BANK_STS.STATE = 1 ∧ (s.liveIn b).length ≤ 8192) ∧
    (let r : List Nat := []
     let t : BitVec 16 := 0
     let b : Nat := 3
     let sp : Nat := 128
     let s : State := ({ base with core := { base.core with copying := some 3, spares := [128] } } : State).set F.BUF.BANK_STS.STATE 2
     s.up = true ∧ s.core.copying = some b ∧ s.core.spares = sp :: r ∧ s.get F.BUF.BANK_STS.STATE = 2) := by refine ⟨?_, ?_, ?_, ?_, ?_, ?_, ?_, ?_⟩ <;> decide
set_option maxRecDepth 20000 in
theorem wit_BufferRowsComplete_2 :
    (let b : Nat := 3
     let c : Nat := 1
     let s : State := { base with core := { base.core with draining := [(3, 1)] } }
     s.up = true ∧ s.core.draining = [(b, c)] ∧ (s.trainList.any fun t => t.heldCars.any fun c => c / 8192 == b) = false) := by decide
set_option maxRecDepth 20000 in
theorem wit_EgressRowsComplete_1 :
    (let q : Fin 64 := 0
     let p : PortId := 0
     let w : Nat := 0
     let s : State := { base with core := { base.core with wheel := [(0, 0)] } }
     s.up = true ∧ Tab.get? s.core.wheel (64 * p.val + q.val) = some w ∧ w / 2 ≤ s.time.run / 2) ∧
    (let v : Word := 0#64
     let src : Path := .guide
     let p : PortId := 0
     let s : State := base
     s.Admits src (0x30 + p.val / 4) (0x120 + 8 * (p.val % 4)) (withBit (withBit v.toNat 2 false) 1 true) ∧ s.gateHeld p.val = false) ∧
    (let p : PortId := 0
     let go : Nat := 0
     let s : State := { base with core := { base.core with gateChk := [(0, 0)] } }
     s.up = true ∧ Tab.get? s.core.gateChk p.val = some go) ∧
    (let v : Word := 0#64
     let src : Path := .guide
     let p : PortId := 0
     let s : State := { base with core := { base.core with gateChk := [(0, 0)] } }
     s.Admits src (0x30 + p.val / 4) (0x120 + 8 * (p.val % 4)) (withBit v.toNat 2 true) ∧ (Tab.get? s.core.gateChk p.val).isSome = true) ∧
    (let p : PortId := 0
     let s : State := base.set (F.EGR.GATE_STS.PENDING 0) 1
     s.up = true ∧ s.gatePend p.val = true ∧ s.get (F.EGR.GATE_STS.ACTIVE_LEN p.val) = 0 ∧ s.get (F.EGR.GATE_BASE_TIME.BASE p.val) ≤ s.time.now) ∧
    (let p : PortId := 0
     let s : State := { base with core := { base.core with gateCopy := [0] } }
     s.up = true ∧ s.core.gateCopy.contains p.val = true) ∧
    (let p : PortId := 0
     let s : State := base.set (F.EGR.GATE_STS.ACTIVE_LEN 0) 1
     s.up = true ∧ s.get (F.EGR.GATE_STS.ACTIVE_LEN p.val) ≠ 0 ∧ Tab.getD s.core.gateTill p.val 0 ≤ s.time.now ∧ s.gatePend p.val = false) ∧
    (let v : Word := 0#64
     let src : Path := .guide
     let p : PortId := 0
     let s : State := base.set (F.STN.PORT_ROLE.ROLE 0) 0
     s.Admits src (0x30 + p.val / 4) (0x100 + 8 * (p.val % 4)) v.toNat ∧ s.role p.val = 0 ∧ ((List.range 8).any fun t => decide (bitsOf v.toNat (2 * t + 1) (2 * t) > bitsOf v.toNat 17 16)) = false) := by refine ⟨?_, ?_, ?_, ?_, ?_, ?_, ?_, ?_⟩ <;> decide
set_option maxRecDepth 20000 in
theorem wit_EgressRowsComplete_2 :
    (let p : PortId := 0
     let x : Dllp := .ack 0
     let s : State := (base.set (F.STN.PORT_ROLE.ROLE 0) 1).setPort 0 { under := 6 }
     s.up = true ∧ ((s.role p.val = 1 ∨ s.role p.val = 2)) ∧ s.linkUp p.val = true) ∧
    (let p : PortId := 0
     let s : State := (base.set (F.STN.PORT_ROLE.ROLE 0) 1).setPort 0 { under := 6, dll := { unacked := [(0, {}, 0)] } }
     s.up = true ∧ ((s.role p.val = 1 ∨ s.role p.val = 2)) ∧ s.linkUp p.val = true ∧ ((s.dll p.val).unacked.isEmpty = false)) := by refine ⟨?_, ?_⟩ <;> decide
set_option maxRecDepth 20000 in
theorem wit_FabricRowsComplete :
    (let v : Word := 0#64
     let src : Path := .guide
     let s : State := base
     s.Admits src 0x41 0x100 v.toNat ∧ ((List.range 48).any fun p => s.role p == 3) = false) ∧
    (let p : SrcId := 0
     let g : GwWait := { tr := { it := { id := 1, src := 0, t := {} }, vh := 0, t := {}, cls := 1, dst := 0 }, kind := 0, target := 0 }
     let s : State := ({ base with core := { base.core with gwWait := [(0, [{ tr := { it := { id := 1, src := 0, t := {} }, vh := 0, t := {}, cls := 1, dst := 0 }, kind := 0, target := 0 }])] } } : State).sets [(F.BUF.SHARED_STS.SHARED_SIZE, 1000), (F.GW.ORT_CFG.RSV_MAX, 1000), (F.GW.ORT_CFG.VH_MAX, 100)]
     s.up = true ∧ s.gwReady (Tab.getD s.core.gwWait p.val []) [] = some g) ∧
    (let e : Fin 16384 := 0
     let o : Ort := { kind := 0, vh := 0, src := 0, req := {} }
     let s : State := { base with fab := { base.fab with ort := [(0, { kind := 0, vh := 0, src := 0, req := {} })] } }
     s.up = true ∧ s.ort? e.val = some o ∧ o.quar = false) ∧
    (let e : Fin 16384 := 0
     let o : Ort := { kind := 0, vh := 0, src := 0, req := {}, quar := true }
     let s : State := { base with fab := { base.fab with ort := [(0, { kind := 0, vh := 0, src := 0, req := {}, quar := true })] } }
     s.up = true ∧ s.ort? e.val = some o ∧ o.quar = true) ∧
    (let v : Word := 0#64
     let src : Path := .guide
     let s : State := base
     s.Admits src 0x42 0x140 v.toNat ∧ bitsOf v.toNat 8 0 ≤ s.get F.GW.PFN_STS.COUNT ∧ s.get F.GW.PFN_STS.COUNT ≤ 256) ∧
    (let vc : Fin 4 := 0
     let p : PortId := 0
     let t : Train := { id := 1, src := 0, x := 0, vh := 0, rx := {}, t := {}, cls := 3, tc := 0, dst := 0, hsz := 1, dsz := 0, acct := .shared, copies := [{ port := 0, queue := 0, rel := 1 }], legs := [{ y := 1, ports := [4], cpls := [{ plane := 0, st := 4 }], numbered := true }] }
     let c : Copy := { port := 0, queue := 0, rel := 1 }
     let r : List (Train × Copy) := []
     let s : State := (({ base with core := { base.core with trains := [(1, { id := 1, src := 0, x := 0, vh := 0, rx := {}, t := {}, cls := 3, tc := 0, dst := 0, hsz := 1, dsz := 0, acct := .shared, copies := [{ port := 0, queue := 0, rel := 1 }], legs := [{ y := 1, ports := [4], cpls := [{ plane := 0, st := 4 }], numbered := true }] })] } } : State)).sets [(F.STN.PORT_ROLE.ROLE 0, 3), (F.STN.HLL_STS.STATE 0, 2)]
     s.up = true ∧ s.role p.val = 3 ∧ s.get (F.STN.HLL_STS.STATE p.val) = 2 ∧ (((List.range 8).flatMap fun k => s.queued p.val (8 * vc.val + k)).mergeSort fun a b => decide (a.2.rel ≤ b.2.rel)) = (t, c) :: r ∧ (((t, c) :: r).any fun x => !s.credit p.val x.2.queue x.1) = true ∧ t.mcast = false) := ⟨by decide, by decide +kernel, by decide, by decide, by decide, by decide +kernel⟩
set_option maxRecDepth 20000 in
theorem wit_SharingRowsComplete_1 :
    (let src : Path := .guide
     let vh : VhId := 1
     let v : Word := 0x8000000000000000#64
     let s : State := base.set (F.STN.PORT_ROLE.ROLE 0) 1
     s.Admits src 0x43 (0x200 + 8 * vh.val) v.toNat ∧ (s.charged src).bindRefusal vh.val v.toNat = 0 ∧ s.vhBound vh.val = false ∧ bitOf v.toNat 62 = false) ∧
    (let v : Word := 0x0401000000000000#64
     let s : State := base.sets [(F.CHIP.STATE.STATE, 2), (F.STN.PORT_ROLE.ROLE 0, 2), (F.VH.VH_BIND.EN 0, 1)]
     let src : Path := Path.guide
     let a : State := (s.charged src).sets [(F.VH.VDSP_CMD.OP, bitsOf (goOp v 1) 62 60), (F.VH.VDSP_CMD.KIND, bitsOf (goOp v 1) 59 58), (F.VH.VDSP_CMD.VH, bitsOf (goOp v 1) 57 53),
          (F.VH.VDSP_CMD.DEV, bitsOf (goOp v 1) 52 48), (F.VH.VDSP_CMD.PORT, bitsOf (goOp v 1) 47 42), (F.VH.VDSP_CMD.VFI, bitsOf (goOp v 1) 41 32)]
     s.Admits src 0x43 0x110 (goOp v 1) ∧ a = (s.charged src).sets [(F.VH.VDSP_CMD.OP, bitsOf (goOp v 1) 62 60), (F.VH.VDSP_CMD.KIND, bitsOf (goOp v 1) 59 58), (F.VH.VDSP_CMD.VH, bitsOf (goOp v 1) 57 53),
          (F.VH.VDSP_CMD.DEV, bitsOf (goOp v 1) 52 48), (F.VH.VDSP_CMD.PORT, bitsOf (goOp v 1) 47 42), (F.VH.VDSP_CMD.VFI, bitsOf (goOp v 1) 41 32)] ∧ a.vdspFault = 0) ∧
    (let v : Word := 0x0401000000000000#64
     let s : State := base.sets [(F.CHIP.STATE.STATE, 2), (F.STN.PORT_ROLE.ROLE 0, 2), (F.VH.VH_BIND.EN 0, 1), (F.VH.VDSP.STATE 0 1, 1)]
     let src : Path := Path.guide
     let a : State := (s.charged src).sets [(F.VH.VDSP_CMD.OP, bitsOf (goOp v 2) 62 60), (F.VH.VDSP_CMD.KIND, bitsOf (goOp v 2) 59 58), (F.VH.VDSP_CMD.VH, bitsOf (goOp v 2) 57 53),
          (F.VH.VDSP_CMD.DEV, bitsOf (goOp v 2) 52 48), (F.VH.VDSP_CMD.PORT, bitsOf (goOp v 2) 47 42), (F.VH.VDSP_CMD.VFI, bitsOf (goOp v 2) 41 32)]
     s.Admits src 0x43 0x110 (goOp v 2) ∧ a = (s.charged src).sets [(F.VH.VDSP_CMD.OP, bitsOf (goOp v 2) 62 60), (F.VH.VDSP_CMD.KIND, bitsOf (goOp v 2) 59 58), (F.VH.VDSP_CMD.VH, bitsOf (goOp v 2) 57 53),
          (F.VH.VDSP_CMD.DEV, bitsOf (goOp v 2) 52 48), (F.VH.VDSP_CMD.PORT, bitsOf (goOp v 2) 47 42), (F.VH.VDSP_CMD.VFI, bitsOf (goOp v 2) 41 32)] ∧ a.vdspFault = 0 ∧ a.get (F.VH.VDSP.STATE (a.get F.VH.VDSP_CMD.VH) (a.get F.VH.VDSP_CMD.DEV)) ≠ 4) ∧
    (let v : Word := 0x0401000000000000#64
     let s : State := base.sets [(F.CHIP.STATE.STATE, 2), (F.STN.PORT_ROLE.ROLE 0, 2), (F.VH.VH_BIND.EN 0, 1), (F.VH.VDSP.STATE 0 1, 1)]
     let src : Path := Path.guide
     let a : State := (s.charged src).sets [(F.VH.VDSP_CMD.OP, bitsOf (goOp v 3) 62 60), (F.VH.VDSP_CMD.KIND, bitsOf (goOp v 3) 59 58), (F.VH.VDSP_CMD.VH, bitsOf (goOp v 3) 57 53),
          (F.VH.VDSP_CMD.DEV, bitsOf (goOp v 3) 52 48), (F.VH.VDSP_CMD.PORT, bitsOf (goOp v 3) 47 42), (F.VH.VDSP_CMD.VFI, bitsOf (goOp v 3) 41 32)]
     s.Admits src 0x43 0x110 (goOp v 3) ∧ a = (s.charged src).sets [(F.VH.VDSP_CMD.OP, bitsOf (goOp v 3) 62 60), (F.VH.VDSP_CMD.KIND, bitsOf (goOp v 3) 59 58), (F.VH.VDSP_CMD.VH, bitsOf (goOp v 3) 57 53),
          (F.VH.VDSP_CMD.DEV, bitsOf (goOp v 3) 52 48), (F.VH.VDSP_CMD.PORT, bitsOf (goOp v 3) 47 42), (F.VH.VDSP_CMD.VFI, bitsOf (goOp v 3) 41 32)] ∧ a.vdspFault = 0) ∧
    (let vh : VhId := 0
     let d : VdspId := 1
     let s : State := base.set (F.VH.VDSP.STATE 0 1) 2
     s.up = true ∧ s.get (F.VH.VDSP.STATE vh.val d.val) = 2) ∧
    (let vh : VhId := 0
     let d : VdspId := 1
     let s : State := base.set (F.VH.VDSP.STATE 0 1) 2
     s.up = true ∧ s.get (F.VH.VDSP.STATE vh.val d.val) = 2) ∧
    (let vh : VhId := 0
     let d : VdspId := 1
     let s : State := ({ base with share := { base.share with resetting := [(0, 1)] } } : State).set (F.VH.VDSP.KIND 0 1) 3
     s.up = true ∧ s.get (F.VH.VDSP.KIND vh.val d.val) = 3 ∧ s.share.resetting.contains (vh.val, d.val) = true) ∧
    (let vh : VhId := 0
     let d : VdspId := 1
     let s : State := ({ base with share := { base.share with drains := [(0, 1)] } } : State)
     s.up = true ∧ s.share.drains.contains (vh.val, d.val) = true ∧ s.routedUnder vh.val d.val = false ∧ s.get (F.VH.VDSP.KIND vh.val d.val) ≠ 3 ∧ s.share.cmd = none) := by refine ⟨?_, ?_, ?_, ?_, ?_, ?_, ?_, ?_⟩ <;> decide
set_option maxRecDepth 20000 in
theorem wit_SharingRowsComplete_2 :
    (let v : Word := 0#64
     let src : Path := .guide
     let w : Fin 4 := 0
     let j : Fin 1024 := 0
     let s : State := base
     s.Admits src 0x43 (0x8000 + 0x20 * j.val + 8 * w.val) v.toNat ∧ s.get (F.VH.VF_MAP0.STATE j.val) = 0) := by decide
set_option maxRecDepth 20000 in
theorem wit_ConfigRowsComplete_1 :
    (let vh : VhId := 0
     let r : CfgReq := { type1 := false, bdf := 0, dword := 0, write := false, be := 15, data := 0, tag := 0, reqId := 0 }
     let s : State := base.set (F.VH.VH_BIND.EN 0) 1
     s.up = true ∧ s.vhBound vh.val = true) ∧
    (let vh : VhId := 0
     let r : CfgReq := { type1 := true, bdf := 0x0200, dword := 0, write := false, be := 15, data := 0, tag := 0, reqId := 0 }
     let fn : Nat := 65
     let s : State := ((base.sets [(F.VH.VH_BIND.EN 0, 1), (F.VH.VDSP.KIND 0 1, 3), (F.VH.VDSP.STATE 0 1, 1)]).setCfg 0 0 6 0x020100).setCfg 0 1 6 0x020201
     s.up = true ∧ s.vhBound vh.val = true ∧ s.cfgTarget vh.val r = some fn ∧ 64 ≤ fn) ∧
    (let ep : Bool := true
     let data : BitVec 32 := 0
     let id : BitVec 16 := 0
     let st : CplSt := .sc
     let tag : Fin 256 := 0
     let f : FwdCfg := { vh := 0, d := 1, vfi := 0, req := { type1 := true, bdf := 0x0200, dword := 0, write := false, be := 15, data := 0, tag := 0, reqId := 0 }, dword := 0 }
     let s : State := { base with share := { base.share with tags := [(0, { vh := 0, d := 1, vfi := 0, req := { type1 := true, bdf := 0x0200, dword := 0, write := false, be := 15, data := 0, tag := 0, reqId := 0 }, dword := 0 })] } }
     s.up = true ∧ Tab.get? s.share.tags tag.val = some f ∧ f.held = false) ∧
    (let tag : Fin 256 := 0
     let f : FwdCfg := { vh := 0, d := 1, vfi := 0, req := { type1 := true, bdf := 0x0200, dword := 0, write := false, be := 15, data := 0, tag := 0, reqId := 0 }, dword := 0 }
     let s : State := { base with share := { base.share with tags := [(0, { vh := 0, d := 1, vfi := 0, req := { type1 := true, bdf := 0x0200, dword := 0, write := false, be := 15, data := 0, tag := 0, reqId := 0 }, dword := 0 })] } }
     s.up = true ∧ Tab.get? s.share.tags tag.val = some f ∧ f.held = false) ∧
    (let tag : Fin 256 := 0
     let f : FwdCfg := { vh := 0, d := 1, vfi := 0, req := { type1 := true, bdf := 0x0200, dword := 0, write := false, be := 15, data := 0, tag := 0, reqId := 0 }, dword := 0, held := true }
     let s : State := { base with share := { base.share with tags := [(0, { vh := 0, d := 1, vfi := 0, req := { type1 := true, bdf := 0x0200, dword := 0, write := false, be := 15, data := 0, tag := 0, reqId := 0 }, dword := 0, held := true })] } }
     s.up = true ∧ Tab.get? s.share.tags tag.val = some f ∧ f.held = true) ∧
    (let vh : VhId := 0
     let d : VdspId := 1
     let s : State := base.sets [(F.VH.VDSP.KIND 0 1, 3), (F.VH.VDSP.STATE 0 1, 1)]
     s.up = true ∧ s.get (F.VH.VDSP.KIND vh.val d.val) = 3 ∧ s.vdspLive vh.val d.val = true) ∧
    (let vh : VhId := 0
     let d : VdspId := 1
     let s : State := base.sets [(F.VH.VDSP.KIND 0 1, 3)]
     s.up = true ∧ s.get (F.VH.VDSP.KIND vh.val d.val) = 3) ∧
    (let reason : BitVec 4 := 0
     let vh : VhId := 0
     let d : VdspId := 1
     let s : State := base.setCfg 0 1 0x55 (2 ^ 16)
     s.up = true ∧ s.dpcReady vh.val d.val (reason.toNat % 4) = true) := by refine ⟨?_, ?_, ?_, ?_, ?_, ?_, ?_, ?_⟩ <;> decide
set_option maxRecDepth 20000 in
theorem wit_ConfigRowsComplete_2 :
    (let vh : VhId := 0
     let d : VdspId := 1
     let s : State := base.setCfg 0 1 0x56 1
     s.up = true ∧ bitOf (s.cfg vh.val d.val 0x56) 0 = true ∧ s.get (F.VH.VDSP.KIND vh.val d.val) ≠ 3) := by decide
set_option maxRecDepth 20000 in
theorem wit_ContextRowsComplete :
    (let v : Word := 5#64
     let src : Path := Path.guide
     let s : State := base
     let a : State := (s.charged src).sets [(F.CTX.CTX_ACCESS.OP, 1), (F.CTX.CTX_ACCESS.KEEP_CNT, bitsOf (goOp v 1) 59 59), (F.CTX.CTX_ACCESS.INDEX, bitsOf (goOp v 1) 17 0)]
     s.Admits src 0x44 0x108 (goOp v 1) ∧ s.ctxs.wait = false ∧ a = (s.charged src).sets [(F.CTX.CTX_ACCESS.OP, 1), (F.CTX.CTX_ACCESS.KEEP_CNT, bitsOf (goOp v 1) 59 59), (F.CTX.CTX_ACCESS.INDEX, bitsOf (goOp v 1) 17 0)] ∧ a.canPay 2 0 4 true = true) ∧
    (let v : Word := 5#64
     let src : Path := Path.guide
     let s : State := base
     let a : State := (s.charged src).sets [(F.CTX.CTX_ACCESS.OP, 2), (F.CTX.CTX_ACCESS.KEEP_CNT, bitsOf (goOp v 2) 59 59), (F.CTX.CTX_ACCESS.INDEX, bitsOf (goOp v 2) 17 0)]
     s.Admits src 0x44 0x108 (goOp v 2) ∧ s.ctxs.wait = false ∧ a = (s.charged src).sets [(F.CTX.CTX_ACCESS.OP, 2), (F.CTX.CTX_ACCESS.KEEP_CNT, bitsOf (goOp v 2) 59 59), (F.CTX.CTX_ACCESS.INDEX, bitsOf (goOp v 2) 17 0)] ∧ a.canPay 2 0 4 true = true) ∧
    (let v : Word := 5#64
     let src : Path := Path.guide
     let s : State := base
     let a : State := (s.charged src).sets [(F.CTX.CTX_ACCESS.OP, 3), (F.CTX.CTX_ACCESS.KEEP_CNT, bitsOf (goOp v 3) 59 59), (F.CTX.CTX_ACCESS.INDEX, bitsOf (goOp v 3) 17 0)]
     s.Admits src 0x44 0x108 (goOp v 3) ∧ s.ctxs.wait = false ∧ a = (s.charged src).sets [(F.CTX.CTX_ACCESS.OP, 3), (F.CTX.CTX_ACCESS.KEEP_CNT, bitsOf (goOp v 3) 59 59), (F.CTX.CTX_ACCESS.INDEX, bitsOf (goOp v 3) 17 0)] ∧ a.canPay 2 0 4 true = true) ∧
    (let v : Word := 5#64
     let src : Path := Path.guide
     let s : State := base
     let a : State := (s.charged src).sets [(F.CTX.CTX_ACCESS.OP, 4), (F.CTX.CTX_ACCESS.KEEP_CNT, bitsOf (goOp v 4) 59 59), (F.CTX.CTX_ACCESS.INDEX, bitsOf (goOp v 4) 17 0)]
     s.Admits src 0x44 0x108 (goOp v 4) ∧ s.ctxs.wait = false ∧ a = (s.charged src).sets [(F.CTX.CTX_ACCESS.OP, 4), (F.CTX.CTX_ACCESS.KEEP_CNT, bitsOf (goOp v 4) 59 59), (F.CTX.CTX_ACCESS.INDEX, bitsOf (goOp v 4) 17 0)] ∧ a.canPay 2 0 4 true = true) ∧
    (let v : Word := 5#64
     let src : Path := Path.guide
     let s : State := base
     let a : State := (s.charged src).sets [(F.CTX.CTX_ACCESS.OP, 5), (F.CTX.CTX_ACCESS.KEEP_CNT, bitsOf (goOp v 5) 59 59), (F.CTX.CTX_ACCESS.INDEX, bitsOf (goOp v 5) 17 0)]
     s.Admits src 0x44 0x108 (goOp v 5) ∧ s.ctxs.wait = false ∧ a = (s.charged src).sets [(F.CTX.CTX_ACCESS.OP, 5), (F.CTX.CTX_ACCESS.KEEP_CNT, bitsOf (goOp v 5) 59 59), (F.CTX.CTX_ACCESS.INDEX, bitsOf (goOp v 5) 17 0)] ∧ a.canPay 2 0 4 true = true) := by refine ⟨?_, ?_, ?_, ?_, ?_⟩ <;> decide
set_option maxRecDepth 20000 in
theorem wit_DirtyRowsComplete_1 :
    (let j : Fin 256 := 0
     let v : Word := 0#64
     let src : Path := Path.guide
     let s : State := base
     let a : State := (s.charged src).sets [(F.DIRTY.DL_SLOT0.BASE j.val, bitsOf (withBit v.toNat 11 true) 63 12), (F.DIRTY.DL_SLOT0.GRAN j.val, bitsOf (withBit v.toNat 11 true) 10 10), (F.DIRTY.DL_SLOT0.AT_SEL j.val, bitsOf (withBit v.toNat 11 true) 9 8)]
     s.Admits src 0x45 (0x1000 + 0x10 * j.val) (withBit v.toNat 11 true) ∧ s.get (F.DIRTY.DL_SLOT0.EN j.val) = 0 ∧ a = (s.charged src).sets [(F.DIRTY.DL_SLOT0.BASE j.val, bitsOf (withBit v.toNat 11 true) 63 12), (F.DIRTY.DL_SLOT0.GRAN j.val, bitsOf (withBit v.toNat 11 true) 10 10), (F.DIRTY.DL_SLOT0.AT_SEL j.val, bitsOf (withBit v.toNat 11 true) 9 8)] ∧ a.dlFits j.val = true) ∧
    (let j : Fin 256 := 0
     let n : Nat := 0
     let s : State := { base with dirty := { base.dirty with zeroing := [0] } }
     s.up = true ∧ s.dirty.zeroing.contains j.val = true ∧ n = 2 * (dlBytes (s.get (F.DIRTY.DL_SLOT1.BITS j.val)) / 64) ∧ s.canPay 2 0 n = true) ∧
    (let j : Fin 256 := 0
     let n : Nat := 0
     let s : State := { base with dirty := { base.dirty with zeroing := [0] }, jobs := [{ cls := 2, reg := 0, dram := 1, page := 0x45, act := .zero 1 }] }
     s.up = true ∧ s.dirty.zeroing.contains j.val = true ∧ n = 2 * (dlBytes (s.get (F.DIRTY.DL_SLOT1.BITS j.val)) / 64) ∧ s.canPay 2 0 n = false) ∧
    (let j : Fin 256 := 0
     let x : Nat := 3
     let k : Nat := 5
     let line : BitVec 32 := 5
     let s : State := { base with dirty := { base.dirty with cache := [(5, 3)] } }
     let b : State := s.wbAsk [5]
     s.up = true ∧ k = j.val * 2 ^ 24 + line.toNat % 2 ^ 24 ∧ Tab.get? s.dirty.cache k = some x ∧ s.dirty.zeroing.contains j.val = false ∧ b = s.wbAsk [k] ∧ b.oldestRead (Tab.getD b.dirty.wb k 0) = true) ∧
    (let j : Fin 256 := 0
     let x : Nat := 3
     let k : Nat := 5
     let line : BitVec 32 := 5
     let s : State := { base with dirty := { base.dirty with cache := [(5, 3)] } }
     s.up = true ∧ k = j.val * 2 ^ 24 + line.toNat % 2 ^ 24 ∧ Tab.get? s.dirty.cache k = some x ∧ s.dirty.zeroing.contains j.val = false ∧ s.wbDue k = true) ∧
    (let j : Fin 256 := 0
     let r : DramRes := .ok
     let x : Nat := 3
     let k : Nat := 5
     let line : BitVec 32 := 5
     let s : State := { base with core := { base.core with nextRead := 1 }, dirty := { base.dirty with cache := [(5, 3), (6, 1)], wb := [(6, 0)] } }
     s.up = true ∧ k = j.val * 2 ^ 24 + line.toNat % 2 ^ 24 ∧ Tab.get? s.dirty.cache k = some x ∧ s.dirty.zeroing.contains j.val = false ∧ (s.wbAsk [k]).oldestRead (Tab.getD (s.wbAsk [k]).dirty.wb k 0) = false) ∧
    (let v : Word := 0#64
     let src : Path := Path.guide
     let s : State := base.sets [(F.DIRTY.DL_SLOT0.EN 0, 1), (F.VH.VH_BIND.STATE 0, 2), (F.GW.GW_RID.VALID 0, 1)]
     let a : State := (s.charged src).sets [(F.DIRTY.DL_HARVEST.MODE, bitsOf (2 ^ 63 + v.toNat % 2 ^ 61) 60 60), (F.DIRTY.DL_HARVEST.TC, bitsOf (2 ^ 63 + v.toNat % 2 ^ 61) 59 57), (F.DIRTY.DL_HARVEST.DEST_VH, bitsOf (2 ^ 63 + v.toNat % 2 ^ 61) 56 52),
          (F.DIRTY.DL_HARVEST.SLOT, bitsOf (2 ^ 63 + v.toNat % 2 ^ 61) 51 44), (F.DIRTY.DL_HARVEST.IRQ_EN, bitsOf (2 ^ 63 + v.toNat % 2 ^ 61) 32 32)]
     s.Admits src 0x45 0x108 (2 ^ 63 + v.toNat % 2 ^ 61) ∧ s.get F.DIRTY.DL_HARVEST.STATE = 0 ∧ a = (s.charged src).sets [(F.DIRTY.DL_HARVEST.MODE, bitsOf (2 ^ 63 + v.toNat % 2 ^ 61) 60 60), (F.DIRTY.DL_HARVEST.TC, bitsOf (2 ^ 63 + v.toNat % 2 ^ 61) 59 57), (F.DIRTY.DL_HARVEST.DEST_VH, bitsOf (2 ^ 63 + v.toNat % 2 ^ 61) 56 52),
          (F.DIRTY.DL_HARVEST.SLOT, bitsOf (2 ^ 63 + v.toNat % 2 ^ 61) 51 44), (F.DIRTY.DL_HARVEST.IRQ_EN, bitsOf (2 ^ 63 + v.toNat % 2 ^ 61) 32 32)] ∧ a.get (F.DIRTY.DL_SLOT0.EN a.hvSlot) = 1 ∧ a.get F.DIRTY.DL_HARVEST.DEST_VH < 24 ∧ a.get (F.VH.VH_BIND.STATE (a.get F.DIRTY.DL_HARVEST.DEST_VH)) = 2 ∧ a.get (F.GW.GW_RID.VALID (a.get F.DIRTY.DL_HARVEST.DEST_VH)) = 1) ∧
    (let v : Word := 0#64
     let src : Path := Path.guide
     let s : State := base.set F.DIRTY.DL_HARVEST.STATE 2
     s.Admits src 0x45 0x108 (2 ^ 62 + v.toNat % 2 ^ 61) ∧ 1 ≤ s.get F.DIRTY.DL_HARVEST.STATE ∧ s.get F.DIRTY.DL_HARVEST.STATE ≤ 4) := by refine ⟨?_, ?_, ?_, ?_, ?_, ?_, ?_, ?_⟩ <;> decide
set_option maxRecDepth 20000 in
theorem wit_DirtyRowsComplete_2 :
    (let v : Word := 0#64
     let src : Path := Path.guide
     let s : State := base.set F.DIRTY.DL_HARVEST.STATE 4
     s.Admits src 0x45 0x108 (2 ^ 61 + v.toNat % 2 ^ 61) ∧ s.get F.DIRTY.DL_HARVEST.STATE = 4) ∧
    (let s : State := base.set F.DIRTY.DL_HARVEST.STATE 1
     s.up = true ∧ s.get F.DIRTY.DL_HARVEST.STATE = 1 ∧ s.dirty.zeroing.contains s.hvSlot = false ∧ (s.dirty.cache.any fun e => e.1 / 2 ^ 23 == 2 * s.hvSlot + s.hvEpoch) = false) ∧
    (let s : State := base.set F.DIRTY.DL_HARVEST.STATE 2
     s.up = true ∧ s.get F.DIRTY.DL_HARVEST.STATE = 2 ∧ (s.trainList.any fun t => t.inBuffer && t.dl == some (s.hvSlot, s.hvEpoch)) = false ∧ (s.core.gwWait.any fun e => e.2.any fun g => g.tr.dl == some (s.hvSlot, s.hvEpoch)) = false) ∧
    (let s : State := (((base.sets [(F.DIRTY.DL_HARVEST.STATE, 3), (F.VH.VH_BIND.EN 0, 1), (F.STN.PORT_ROLE.ROLE 0, 1)]).setCfg 0 32 1 4)).setPort 0 { under := 6 }
     s.up = true ∧ s.get F.DIRTY.DL_HARVEST.STATE = 3 ∧ s.hvReach = true ∧ s.hvSent = true) ∧
    (let s : State := base.set F.DIRTY.DL_HARVEST.STATE 5
     s.up = true ∧ s.get F.DIRTY.DL_HARVEST.STATE = 5 ∧ s.canPay 2 0 (s.dlBlocks s.hvSlot) = true) ∧
    (let s : State := base.set F.DIRTY.DL_HARVEST.STATE 6
     s.up = true ∧ s.get F.DIRTY.DL_HARVEST.STATE = 6 ∧ s.dirty.zeroing.contains s.hvSlot = false ∧ s.canPay 2 0 (4 * s.dlBlocks s.hvSlot) = true) := by refine ⟨?_, ?_, ?_, ?_, ?_, ?_⟩ <;> decide
set_option maxRecDepth 20000 in
theorem wit_HutRowsComplete_1 :
    (let r : HutReq := { vh := 0, src := 0, rid := 0, tag := 0, addr := 64, len := 8 }
     let s : State := base
     s.up = true ∧ s.hutRoom r.vh.val = true) ∧
    (let r : HutReq := { vh := 0, src := 0, rid := 0, tag := 0, addr := 64, len := 8 }
     let s : State := base
     s.up = true ∧ s.hutRoom r.vh.val = true) ∧
    (let r : HutReq := { vh := 0, src := 0, rid := 0, tag := 0, addr := 64, len := 8 }
     let s : State := base
     s.up = true ∧ s.hutRoom r.vh.val = true) ∧
    (let r : HutReq := { vh := 0, src := 0, rid := 0, tag := 0, addr := 64, len := 8 }
     let s : State := base
     s.up = true ∧ s.hutRoom r.vh.val = true) ∧
    (let r : HutReq := { vh := 0, src := 0, rid := 0, tag := 0, addr := 64, len := 8 }
     let s : State := base
     s.up = true ∧ s.hutRoom r.vh.val = true) ∧
    (let r : HutReq := { vh := 0, src := 0, rid := 0, tag := 0, addr := 64, len := 8 }
     let s : State := base
     s.up = true ∧ s.hutRoom r.vh.val = true) ∧
    (let k : AtomKind := .swap
     let r : HutReq := { vh := 0, src := 0, rid := 0, tag := 0, addr := 64, len := 8 }
     let s : State := base
     s.up = true ∧ s.hutRoom r.vh.val = true) ∧
    (let bank : Fin 32 := 0
     let w : HutWr := { vh := 0, rid := 0, addr := 0, data := [1], be := [], train := 0 }
     let l : List HutWr := []
     let s : State := base.setHutBuf 0 [{ vh := 0, rid := 0, addr := 0, data := [1], be := [], train := 0 }]
     s.up = true ∧ s.hutBuf bank.val = w :: l) := by refine ⟨?_, ?_, ?_, ?_, ?_, ?_, ?_, ?_⟩ <;> decide
set_option maxRecDepth 20000 in
theorem wit_HutRowsComplete_2 :
    (let m : Fin 2048 := 0
     let x : Monitor := { vh := 0, rid := 0, held := true }
     let s : State := { base with hut := { base.hut with mons := [{ vh := 0, rid := 0, held := true }] } }
     s.up = true ∧ s.hut.mons[m.val]? = some x ∧ x.held = true) ∧
    (let v : Word := 0#64
     let src : Path := .guide
     let s : State := base
     s.Admits src 0x48 0x120 (withBit v.toNat 63 true) ∧ s.hut.zero = none) ∧
    (let b : Nat := 0
     let n : Nat := 4096
     let s : State := { base with hut := { base.hut with zero := some (0, 4096) } }
     s.up = true ∧ s.hut.zero = some (b, n) ∧ s.canPay 2 (n / 64) 0 = true) := by refine ⟨?_, ?_, ?_⟩ <;> decide
set_option maxRecDepth 20000 in
theorem wit_FenceRowsComplete :
    (let vh : VhId := 0
     let s : State := base.set F.CHIP.STATE.STATE 2
     let v : Word := 1#64
     s.up = true ∧ s.phase ≠ 1 ∧ (s.vctl vh.val).st ≠ 1 ∧ s.trainList.any (fun t => t.stamp == some (vh.val, ((s.vctl vh.val).stamp + 1) % 8)) = false ∧ (s.core.miss.any fun e => e.2.any fun p => p.stamp == some (vh.val, ((s.vctl vh.val).stamp + 1) % 8)) = false) ∧
    (let vh : VhId := 0
     let s : State := base.setVctl 0 { st := 1 }
     s.up = true ∧ (s.vctl vh.val).st = 1) ∧
    (let vh : VhId := 0
     let s : State := base.setVctl 0 { st := 1 }
     s.up = true ∧ (s.vctl vh.val).st = 1 ∧ s.openWrites vh.val = [] ∧ s.openPend vh.val = 0 ∧ (s.hut.buf.any fun e => e.2.any fun w => w.vh == vh.val && !(s.vctl vh.val).holding) = false) ∧
    (let vh : VhId := 0
     let s : State := base.setVctl 0 { st := 1 }
     s.up = true ∧ (s.vctl vh.val).st = 1) ∧
    (let data : BitVec 32 := 0
     let rid : BitVec 16 := 0
     let src : SrcId := 0
     let target : VhId := 0
     let vh : VhId := 0
     let s : State := base.sets [(F.CHIP.STATE.STATE, 2), (F.HUT.DB_ALLOW.FROM 0, 1)]
     s.up = true ∧ s.phase ≠ 1 ∧ bitOf (s.get (F.HUT.DB_ALLOW.FROM target.val)) vh.val = true) ∧
    (let vh : VhId := 0
     let s : State := (base.set F.CHIP.STATE.STATE 2).setVctl 0 { dbPend := 5 }
     s.up = true ∧ s.phase ≠ 1) := by refine ⟨?_, ?_, ?_, ?_, ?_, ?_⟩ <;> decide
set_option maxRecDepth 20000 in
theorem wit_SpdmFrame_1 :
    (let s : State := base
     s.up = true) ∧
    (let s : State := base
     s.up = true) ∧
    (let s3 : Bool := true
     let p : Bool := true
     let s : State := base
     s.up = true) ∧
    (let s : State := base
     s.up = true) ∧
    (let len : BitVec 16 := 0
     let off : BitVec 16 := 0
     let slot : BitVec 4 := 0
     let s : State := base
     s.up = true) ∧
    (let slot : BitVec 4 := 0
     let s : State := base
     s.up = true) ∧
    (let sg : Bool := true
     let i : BitVec 8 := 0
     let s : State := base
     s.up = true) ∧
    (let rs : BitVec 16 := 0
     let slot : BitVec 4 := 0
     let s : State := base
     s.up = true) := by refine ⟨?_, ?_, ?_, ?_, ?_, ?_, ?_, ?_⟩ <;> decide
set_option maxRecDepth 20000 in
theorem wit_SpdmFrame_2 :
    (let id : BitVec 32 := 0
     let s : State := base
     s.up = true) ∧
    (let s : State := base
     s.up = true) := by refine ⟨?_, ?_⟩ <;> decide
set_option maxRecDepth 20000 in
theorem wit_TapFrame :
    (let s : State := base
     s.pins.pwrOk = true) ∧
    (let s : State := base
     s.pins.pwrOk = true) ∧
    (let s : State := base
     s.pins.pwrOk = true) ∧
    (let v : BitVec 512 := 0
     let x : BitVec 512 := 0
     let s : State := base
     s.pins.pwrOk = true) ∧
    (let v : BitVec 512 := 0
     let x : BitVec 512 := 0
     let s : State := base
     s.pins.pwrOk = true) ∧
    (let v : BitVec 512 := 0
     let x : BitVec 512 := 0
     let s : State := base
     s.pins.pwrOk = true) ∧
    (let v : BitVec 512 := 0
     let x : BitVec 512 := 0
     let s : State := base
     s.pins.pwrOk = true) ∧
    (let s : State := base
     s.pins.pwrOk = true) := by refine ⟨?_, ?_, ?_, ?_, ?_, ?_, ?_, ?_⟩ <;> decide
set_option maxRecDepth 20000 in
theorem wit_HutReadFrame :
    (let r : HutReq := { vh := 0, src := 0, rid := 0, tag := 0, addr := 64, len := 8 }
     let s : State := base
     s.up = true ∧ s.hut.buf = []) ∧
    (let r : HutReq := { vh := 0, src := 0, rid := 0, tag := 0, addr := 64, len := 8 }
     let s : State := base
     s.up = true ∧ s.hut.buf = []) ∧
    (let r : HutReq := { vh := 0, src := 0, rid := 0, tag := 0, addr := 64, len := 8 }
     let s : State := base
     s.up = true ∧ s.hut.buf = []) := by refine ⟨?_, ?_, ?_⟩ <;> decide
set_option maxRecDepth 20000 in
theorem wit_WindowUpdateFrame :
    (let v : Word := 0#64
     let src : Path := .guide
     let s : State := base
     s.Admits src 0x40 0x100 (winOp v 1)) ∧
    (let v : Word := 0#64
     let src : Path := .guide
     let s : State := base
     s.Admits src 0x40 0x100 (winOp v 2)) ∧
    (let v : Word := 0#64
     let src : Path := .guide
     let s : State := base
     s.Admits src 0x40 0x100 (winOp v 3)) := by refine ⟨?_, ?_, ?_⟩ <;> decide

end Sys2Proof.Tests
end

section
/-! The privilege an access carries: one equation for each path, and for a host access what decides between MANAGER and TENANT (R2, R450). -/
namespace Sys2Proof.Machine

section
variable (s : State) (vh : VhId) (rid : BitVec 16) (hostPort poisoned : Bool)

theorem State.priv_host : s.priv (.host vh rid hostPort poisoned) = if hostPort && s.flag (F.VH.VH_BIND.PRIV vh.val) then 1 else 3 := rfl

@[simp] theorem State.priv_sideband : s.priv .sideband = 2 := rfl

@[simp] theorem State.priv_debug : s.priv .debug = 4 := rfl

@[simp] theorem State.priv_guide : s.priv .guide = 0 := rfl

/-- MANAGER needs both the manager VH and its HOST port. -/
theorem State.priv_host_eq_manager_iff :
    s.priv (.host vh rid hostPort poisoned) = 1 ↔ hostPort = true ∧ s.flag (F.VH.VH_BIND.PRIV vh.val) = true := by
  rw [State.priv_host, ← Bool.and_eq_true]
  split <;> simp_all

/-- Every other host access is TENANT, a function on a DEV port of the manager VH included. -/
theorem State.priv_host_eq_tenant_iff :
    s.priv (.host vh rid hostPort poisoned) = 3 ↔ hostPort = false ∨ s.flag (F.VH.VH_BIND.PRIV vh.val) = false := by
  rw [State.priv_host, ← Bool.and_eq_false_iff]
  split <;> simp_all

end

/-- Settles O13: the two host clauses are the characterisations of MANAGER and TENANT, the other three the equations of their paths. -/
theorem privilegeByPath : Obligations.PrivilegeByPath := by
  intro s vh rid poisoned
  refine ⟨fun hManager => ?manager, fun hOther hostPort => ?tenant, s.priv_sideband, s.priv_debug, s.priv_guide⟩
  case manager => exact (s.priv_host_eq_manager_iff vh rid true poisoned).mpr ⟨rfl, hManager⟩
  case tenant => exact (s.priv_host_eq_tenant_iff vh rid hostPort poisoned).mpr (.inr hOther)

end Sys2Proof.Machine
end

section
/-! How a station's belay slots are divided: the width of each controller in a layout, and the share that follows from it (R116). -/
namespace Sys2Proof.Machine

section
variable (k : Nat)

@[simp] theorem bifWidth_zero : bifWidth 0 k = if k = 0 then 16 else 0 := rfl

@[simp] theorem bifWidth_one : bifWidth 1 k = if k = 0 ∨ k = 2 then 8 else 0 := rfl

@[simp] theorem bifWidth_two : bifWidth 2 k = 4 := rfl

theorem bifWidth_of_two_lt {m : Nat} (hm : 2 < m) : bifWidth m k = if k = 0 then 8 else if k = 1 then 0 else 4 := by
  rw [bifWidth, if_neg (by omega), if_neg (by omega), if_neg (by omega)]

end

section
variable {s : State} {st k : Nat}

theorem State.widthOf_controller (hk : k < 4) : s.widthOf (4 * st + k) = bifWidth (s.mode st) k := by
  have hst : (4 * st + k) / 4 = st := by omega
  have hctl : (4 * st + k) % 4 = k := by omega
  rw [State.widthOf, hst, hctl]

/-- Each lane of a controller's bifurcation width brings 128 of the 2,048 slots; the role of the port and the width it trained at do not enter. -/
theorem State.belayShare_controller (hk : k < 4) : s.belayShare (4 * st + k) = 128 * bifWidth (s.mode st) k := by
  rw [State.belayShare, State.widthOf_controller hk]

/-- One x16 port. -/
theorem State.belayShare_of_mode_eq_zero (hk : k < 4) (hmode : s.mode st = 0) :
    s.belayShare (4 * st + k) = if k = 0 then 2048 else 0 := by
  rw [State.belayShare_controller hk, hmode, bifWidth_zero, apply_ite (128 * ·)]

/-- Two x8 ports. -/
theorem State.belayShare_of_mode_eq_one (hk : k < 4) (hmode : s.mode st = 1) :
    s.belayShare (4 * st + k) = if k = 0 ∨ k = 2 then 1024 else 0 := by
  rw [State.belayShare_controller hk, hmode, bifWidth_one, apply_ite (128 * ·)]

/-- Four x4 ports. -/
theorem State.belayShare_of_mode_eq_two (hk : k < 4) (hmode : s.mode st = 2) : s.belayShare (4 * st + k) = 512 := by
  rw [State.belayShare_controller hk, hmode, bifWidth_two]

/-- One x8 port and two x4 ports. -/
theorem State.belayShare_of_two_lt_mode (hk : k < 4) (hmode : 2 < s.mode st) :
    s.belayShare (4 * st + k) = if k = 0 then 1024 else if k = 1 then 0 else 512 := by
  rw [State.belayShare_controller hk, bifWidth_of_two_lt k hmode, apply_ite (128 * ·), apply_ite (128 * ·)]

end

/-- Settles O14: the share of a controller in each of the four layouts. -/
theorem belayShares : Obligations.BelayShares := by
  intro s st k _ hk
  split
  case isTrue hzero => exact State.belayShare_of_mode_eq_zero hk hzero
  split
  case isTrue hone => exact State.belayShare_of_mode_eq_one hk hone
  split
  case isTrue htwo => exact State.belayShare_of_mode_eq_two hk htwo
  next hzero hone htwo =>
    have hmode : 2 < s.mode st := by rw [State.mode]; omega
    exact State.belayShare_of_two_lt_mode hk hmode

end Sys2Proof.Machine
end

section
/-! What no command but those of reset moves, and what every command keeps: the queue behind the front command, the supply conditions, and the
canonical form of the three byte memories. One lemma for each operation of the model, its proof the operation's own shape. -/
namespace Sys2Proof.Machine

/-- Whether power is good, the internal reset is held, the block has tripped, the reference is lost and self-test has ended. -/
def State.supply (s : State) : Bool × Bool × Bool × Bool × Bool :=
  (s.pins.pwrOk, s.pins.rstHeld, s.pins.thermTrip, s.pins.clkLost, s.pins.bistDone)

/-- The three byte memories. -/
def State.memories (s : State) : Memory × Memory × Memory := (s.boot.flash, s.boot.staging, s.hut.mem)

/-- The flash, the update staging buffer and the Hut memory are in canonical form. -/
def State.Canonical (s : State) : Prop :=
  Memory.wf s.boot.flash 0xFF = true ∧ Memory.wf s.boot.staging 0 = true ∧ Memory.wf s.hut.mem 0 = true

/-- Going from `s` to `t` leaves the queue as it is and the memories canonical. -/
structure Carried (s t : State) : Prop where
  queue : t.pending = s.pending
  canonical : s.Canonical → t.Canonical

/-- Going from `s` to `t` leaves the queue and the supply as they are, and the memories canonical. -/
structure Kept (s t : State) : Prop extends Carried s t where
  supply : t.supply = s.supply

/-- The outcome is a next state, which keeps the queue and the supply of `s`, and its memories canonical. -/
def Answers (s : State) (o : Res) : Prop := ∃ t, o = .next t ∧ Kept s t

section
variable {s t u : State}

theorem Carried.trans (h : Carried s t) (k : Carried t u) : Carried s u where
  queue := k.queue.trans h.queue
  canonical := k.canonical ∘ h.canonical

theorem Kept.refl (s : State) : Kept s s := { queue := rfl, canonical := id, supply := rfl }

/-- A state with the queue, the supply and the memories of `t` does as well as `t`. -/
theorem Kept.alike (h : Kept s t) (e : (u.pending, u.supply, u.memories) = (t.pending, t.supply, t.memories)) : Kept s u := by
  obtain ⟨hqueue, hsupply, hmem⟩ : u.pending = t.pending ∧ u.supply = t.supply ∧ u.memories = t.memories := by
    simpa only [Prod.mk.injEq] using e
  obtain ⟨hflash, hstaging, hhut⟩ : u.boot.flash = t.boot.flash ∧ u.boot.staging = t.boot.staging ∧ u.hut.mem = t.hut.mem := by
    simpa only [State.memories, Prod.mk.injEq] using hmem
  refine { queue := hqueue.trans h.queue, canonical := fun hs => ?_, supply := hsupply.trans h.supply }
  rw [State.Canonical, hflash, hstaging, hhut]
  exact h.canonical hs

/-- An update of other parts of the state, or of these without moving the queue, the supply or a memory. -/
theorem Kept.update {out freeCtr flds pins time avs boot tele mgmt budget jobs blockUse core ports xlat fab share ctxs dirty hut err age lanes}
    (h : Kept s t)
    (e : (pins.pwrOk, pins.rstHeld, pins.thermTrip, pins.clkLost, pins.bistDone, boot.flash, boot.staging, hut.mem) =
      (t.pins.pwrOk, t.pins.rstHeld, t.pins.thermTrip, t.pins.clkLost, t.pins.bistDone, t.boot.flash, t.boot.staging, t.hut.mem)) :
    Kept s ⟨t.pending, out, freeCtr, flds, pins, time, avs, boot, tele, mgmt, budget, jobs, blockUse, core, ports, xlat, fab, share, ctxs, dirty,
      hut, err, age, lanes⟩ := by
  simp only [Prod.mk.injEq] at e
  exact h.alike (by simp only [State.supply, State.memories, e])

/-- What leaves the parts that no report of an event touches leaves the queue, the supply and the memories. -/
theorem Kept.quiet (e : u.quiet = t.quiet) (h : Kept s t) : Kept s u := by
  have hqueue : u.pending = t.pending := congrArg (fun q => q.1) e
  have hpins : u.pins = t.pins := congrArg (fun q => q.2.2.2.1) e
  have hboot : u.boot = t.boot := congrArg (fun q => q.2.2.2.2.2.2.1) e
  have hhut : u.hut = t.hut := congrArg (fun q => q.2.2.2.2.2.2.2.2.2.2.2.2.1) e
  exact .alike h (by simp only [State.supply, State.memories, hqueue, hpins, hboot, hhut])

/-- A write of the flash or of the staging buffer that keeps them canonical. -/
theorem Kept.bootSt {x : Boot} (h : Kept s t) (hflash : Memory.wf t.boot.flash 0xFF = true → Memory.wf x.flash 0xFF = true)
    (hstaging : Memory.wf t.boot.staging 0 = true → Memory.wf x.staging 0 = true) : Kept s { t with boot := x } where
  queue := h.queue
  canonical hs := have ⟨hf, hst, hm⟩ := h.canonical hs; ⟨hflash hf, hstaging hst, hm⟩
  supply := h.supply

/-- A write of the Hut memory that keeps it canonical. -/
theorem Kept.hutSt {x : HutSt} (h : Kept s t) (hmem : Memory.wf t.hut.mem 0 = true → Memory.wf x.mem 0 = true) :
    Kept s { t with hut := x } where
  queue := h.queue
  canonical hs := have ⟨hf, hst, hm⟩ := h.canonical hs; ⟨hf, hst, hmem hm⟩
  supply := h.supply

section
variable {c : Prop} {_ : Decidable c} {α : Type}

theorem Kept.ite (ht : Kept s t) (hu : Kept s u) : Kept s (if c then t else u) := by
  split
  · exact ht
  · exact hu

theorem Kept.iteSnd {p q : α × State} (hp : Kept s p.2) (hq : Kept s q.2) : Kept s (if c then p else q).2 := by
  split
  · exact hp
  · exact hq

theorem Kept.iteFst {p q : State × α} (hp : Kept s p.1) (hq : Kept s q.1) : Kept s (if c then p else q).1 := by
  split
  · exact hp
  · exact hq

theorem Kept.ofSnd {p : α × State} {x : α} (e : p = (x, u)) (hp : Kept s p.2) : Kept s u := by rwa [e] at hp

/-- A loop keeps what each of its rounds keeps. -/
theorem Kept.foldl {f : State → α → State} {l : List α} (h : Kept s t) (hf : ∀ u x, Kept s u → Kept s (f u x)) : Kept s (l.foldl f t) := by
  induction l generalizing t with
  | nil => exact h
  | cons x l ih => exact ih (hf t x h)

theorem Kept.foldlFst {β : Type} {f : State × α → β → State × α} {l : List β} {p : State × α} (h : Kept s p.1)
    (hf : ∀ q x, Kept s q.1 → Kept s (f q x).1) : Kept s (l.foldl f p).1 := by
  induction l generalizing p with
  | nil => exact h
  | cons x l ih => exact ih (hf p x h)

theorem Kept.foldlSnd {β : Type} {f : α × State → β → α × State} {l : List β} {p : α × State} (h : Kept s p.2)
    (hf : ∀ q x, Kept s q.2 → Kept s (f q x).2) : Kept s (l.foldl f p).2 := by
  induction l generalizing p with
  | nil => exact h
  | cons x l ih => exact ih (hf p x h)

theorem Answers.next (h : Kept s t) : Answers s (.next t) := ⟨t, rfl, h⟩

end
end

section
variable {s t u : State}

/-! ### Ops -/

theorem Kept.set {f v} (h : Kept s t) : Kept s (t.set f v) := .update h rfl
theorem Kept.put {f b} (h : Kept s t) : Kept s (t.put f b) := .set h
theorem Kept.sets {l} (h : Kept s t) : Kept s (t.sets l) := .foldl h fun _ _ h => .set h
theorem Kept.addSat {f n} (h : Kept s t) : Kept s (t.addSat f n) := .quiet (State.quiet_addSat ..) h
theorem Kept.emit {o} (h : Kept s t) : Kept s (t.emit o) := .update h rfl
theorem Kept.setPort {p x} (h : Kept s t) : Kept s (t.setPort p x) := .update h rfl
theorem Kept.setHll {p h'} (h : Kept s t) : Kept s (t.setHll p h') := .setPort h
theorem Kept.free (h : Kept s t) : Kept s t.free.2 := .update h rfl
theorem Kept.setDue {m} (h : Kept s t) : Kept s (t.setDue m) := .set (.iteSnd (.update h rfl) (.free (.update h rfl)))
theorem Kept.pick {α : Type} {l : List α} (h : Kept s t) : Kept s (t.pick l).2 := by
  unfold State.pick
  split
  · exact h
  · exact h
  · exact .update h rfl
theorem Kept.setCtr {i n} (h : Kept s t) : Kept s (t.setCtr i n) := .quiet (State.quiet_setCtr ..) h
theorem Kept.count {i n} (h : Kept s t) : Kept s (t.count i n) := .quiet (State.quiet_count ..) h
theorem Kept.dramUse {i n} (h : Kept s t) : Kept s (t.dramUse i n) := .count (.update h rfl)
theorem Kept.spend {c reg dram page} (h : Kept s t) : Kept s (t.spend c reg dram page) := .quiet (State.quiet_spend ..) h
theorem Kept.turnedAway {c} (h : Kept s t) : Kept s (t.turnedAway c) := .update h rfl
theorem Kept.defer {j} (h : Kept s t) : Kept s (t.defer j) := .ite (.turnedAway h) (.update (.turnedAway (.ite h (.spend h))) rfl)
theorem Kept.budgeted {c reg dram act page whole} {f : State → State} (h : Kept s t) (hf : ∀ u, Kept s u → Kept s (f u)) :
    Kept s (t.budgeted c reg dram act f page whole) := .ite (hf _ (.spend h)) (.defer h)
theorem Kept.setCfg {v fn dw x} (h : Kept s t) : Kept s (t.setCfg v fn dw x) := .quiet (State.setCfg_quiet ..) h
theorem Kept.orCfg {v fn dw bit} (h : Kept s t) : Kept s (t.orCfg v fn dw bit) := .quiet (State.orCfg_quiet ..) h
theorem Kept.hotCfg {v} (h : Kept s t) : Kept s (t.hotCfg v) := .update h rfl
theorem Kept.resetCfg {v which} (h : Kept s t) : Kept s (t.resetCfg v which) := .update h rfl
theorem Kept.raiseMsix {v vec} (h : Kept s t) : Kept s (t.raiseMsix v vec) := .quiet (State.raiseMsix_quiet ..) h
theorem Kept.msixFlush {v} (h : Kept s t) : Kept s (t.msixFlush v) := .ite h (.foldl h fun _ _ h => .ite h (.raiseMsix (.update h rfl)))
theorem Kept.aer {v fn k ce hdr} (h : Kept s t) : Kept s (t.aer v fn k ce hdr) := .quiet (State.aer_quiet ..) h
theorem Kept.blockWritten {b} (h : Kept s t) : Kept s (t.blockWritten b) := .quiet (State.blockWritten_quiet ..) h
theorem Kept.freezeNext (h : Kept s t) : Kept s t.freezeNext := .quiet (State.freezeNext_quiet ..) h
theorem Kept.freezeCopy {r} (h : Kept s t) : Kept s (t.freezeCopy r) := .quiet (State.freezeCopy_quiet ..) h
theorem Kept.freezeDrain {n} (h : Kept s t) : Kept s (t.freezeDrain n) := by
  induction n generalizing t with
  | zero => exact h
  | succ n ih => exact .ite h (ih (.freezeNext h))
theorem Kept.offer {r} (h : Kept s t) : Kept s (t.offer r) := .quiet (State.offer_quiet ..) h
theorem Kept.writeMain {r} (h : Kept s t) : Kept s (t.writeMain r) := .quiet (State.writeMain_quiet ..) h
theorem Kept.addWrote {c} (h : Kept s t) : Kept s (t.addWrote c) := .quiet (State.addWrote_quiet ..) h
theorem Kept.setQueue {q} (h : Kept s t) : Kept s (t.setQueue q) := .quiet (State.setQueue_quiet ..) h
theorem Kept.admitRec {r} (h : Kept s t) : Kept s (t.admitRec r).2 := .quiet (State.admitRec_quiet ..) h
theorem Kept.setFifo {q} (h : Kept s t) : Kept s (t.setFifo q) := .quiet (State.setFifo_quiet ..) h
theorem Kept.enterAlarm {r} (h : Kept s t) : Kept s (t.enterAlarm r) := .quiet (State.enterAlarm_quiet ..) h
theorem Kept.showEvent {page code forced} (h : Kept s t) : Kept s (t.showEvent page code forced) := .quiet (State.showEvent_quiet ..) h
theorem Kept.countEvent {code page} (h : Kept s t) : Kept s (t.countEvent code page) := .quiet (State.countEvent_quiet ..) h
theorem Kept.log {r} (h : Kept s t) : Kept s (t.log r) := .quiet (State.log_quiet ..) h
theorem Kept.freezeEnd {u} (h : Kept s t) : Kept s (State.freezeEnd u t) := .quiet (State.freezeEnd_quiet ..) h
theorem Kept.freezeStart {code} (h : Kept s t) : Kept s (t.freezeStart code) := .quiet (State.freezeStart_quiet ..) h
theorem Kept.raise {code a} (h : Kept s t) : Kept s (t.raise code a) := .quiet (State.raise_quiet ..) h

/-! ### Flash -/

theorem Kept.programBytes {a l} (h : Kept s t) : Kept s (t.programBytes a l) := .bootSt h (Memory.wf_writeBytes _ _ _ _) id
theorem Kept.eraseFlash {a n} (h : Kept s t) : Kept s (t.eraseFlash a n) := .bootSt h (Memory.wf_filter _ _ _) id

/-! ### Operands -/

theorem Kept.deny {src addr write cause} (h : Kept s t) : Kept s (t.deny src addr write cause) := .raise (.sets h)
theorem Kept.waitFor {w} (h : Kept s t) : Kept s (t.waitFor w) := .update h rfl
theorem Kept.discardWrite {who} (h : Kept s t) : Kept s (t.discardWrite who) := .update h rfl
theorem Kept.charged {src} (h : Kept s t) : Kept s (t.charged src) := .quiet (State.quiet_charged ..) h
theorem Kept.denyWrite {src addr cause} (h : Kept s t) : Kept s (t.denyWrite src addr cause) := .ite (.emit (.deny h)) (.deny h)
theorem Kept.regCmd {src addr len v} {perform : State → Nat → Nat → State} (h : Kept s t)
    (hf : ∀ u a b, Kept s u → Kept s (perform u a b)) : Kept s (t.regCmd src addr len v perform) := by
  unfold State.regCmd
  refine .ite h ?_
  split
  · exact .denyWrite h
  · exact .discardWrite h
  · exact .waitFor h
  · exact .ite (.waitFor h) (.ite (.waitFor (.turnedAway h)) (hf _ _ _ (.charged h)))
theorem Kept.stage {page priv f v} (h : Kept s t) : Kept s (t.stage page priv f v) := .sets (.update h rfl)
theorem Kept.writeField {page off priv v d} (h : Kept s t) : Kept s (t.writeField page off priv v d) := by
  unfold State.writeField
  extract_lets
  split
  · exact .set h
  · exact .set h
  · exact .ite h (.set h)
  · exact .set h
  · exact .stage h
  · exact h
theorem Kept.writePlain {page off priv v} (h : Kept s t) : Kept s (t.writePlain page off priv v) := by
  unfold State.writePlain
  split
  · exact h
  · exact .ite (.update (.foldl h fun _ _ h => .writeField h) rfl) (.foldl h fun _ _ h => .writeField h)

/-! ### Lanes -/

theorem Kept.setLane {n l} (h : Kept s t) : Kept s (t.setLane n l) := .update h rfl
theorem Kept.setLaneState {n st} (h : Kept s t) : Kept s (t.setLaneState n st) := .ite (.set (.setLane h)) (.set h)
theorem Kept.sawSnr {n snr} (h : Kept s t) : Kept s (t.sawSnr n snr) := .sets h
theorem Kept.setCoefs {n pre2 pre1 main post1 preset} (h : Kept s t) : Kept s (t.setCoefs n pre2 pre1 main post1 preset) := .sets h
theorem Kept.setList {n l preset} (h : Kept s t) : Kept s (t.setList n l preset) := .setCoefs h
theorem Kept.useCoefs {n l preset} (h : Kept s t) : Kept s (t.useCoefs n l preset) := .ite h (.setList h)
theorem Kept.wrTxeq {n v} (h : Kept s t) : Kept s (t.wrTxeq n v) :=
  .ite (.raise h) (.ite (.ite (.setList (.sets (.setLane h))) (.sets (.setLane h))) (.set h))
theorem Kept.dirtyAge (h : Kept s t) : Kept s t.dirtyAge := .update h rfl
theorem Kept.sendTrain {n msg param eq} (h : Kept s t) : Kept s (t.sendTrain n msg param eq) := .emit (.ite h (.setHll h))
theorem Kept.sendEq {n req rsp} (h : Kept s t) : Kept s (t.sendEq n req rsp) := .sendTrain h
theorem Kept.applyAsked {n cs preset} (h : Kept s t) : Kept s (t.applyAsked n cs preset).1 := .iteFst h (.dirtyAge (.setList h))
theorem Kept.partnerCoefs {n req} (h : Kept s t) : Kept s (t.partnerCoefs n req) := by
  unfold State.partnerCoefs
  split
  · exact h
  · exact .sendEq (.applyAsked h)
theorem Kept.eqRx {n req rsp done} (h : Kept s t) : Kept s (t.eqRx n req rsp done) := .partnerCoefs (.setLane h)
theorem Kept.pcieCoefs {n q} (h : Kept s t) : Kept s (t.pcieCoefs n q) := .emit (.applyAsked h)
theorem Kept.endScan {n result} (h : Kept s t) : Kept s (t.endScan n result) := .ite h (.sets (.setLane h))
theorem Kept.abortScan {n} (h : Kept s t) : Kept s (t.abortScan n) := .endScan h
theorem Kept.clearEyeValid {n} (h : Kept s t) : Kept s (t.clearEyeValid n) := .foldl h fun _ _ h => .set h
theorem Kept.beginScan {n} (h : Kept s t) : Kept s (t.beginScan n) := .ite (.abortScan (.set h)) (.ite (.clearEyeValid (.set h)) (.set h))
theorem Kept.wrEyescan {n v} (h : Kept s t) : Kept s (t.wrEyescan n v) := by
  unfold State.wrEyescan
  extract_lets s1 s2
  have h1 : Kept s s1 := .writePlain h
  have h2 : Kept s s2 := .set h1
  exact .ite (.ite (.set h1) h1) (.ite (.set h1) (.ite (.set (.setLane h2)) (.beginScan h2)))
theorem Kept.clearChecker {n} (h : Kept s t) : Kept s (t.clearChecker n) := .sets h
theorem Kept.setRx {n cs ctle vga} (h : Kept s t) : Kept s (t.setRx n cs ctle vga) := .sets (.foldl h fun _ _ h => .set h)
theorem Kept.laneDefaults {n ctle} (h : Kept s t) : Kept s (t.laneDefaults n ctle) :=
  .setLane (.clearEyeValid (.set (.clearChecker (.ite (.free (.abortScan h)) (.setRx (.free (.abortScan h)))))))
theorem Kept.askPartner {n codes want} (h : Kept s t) : Kept s (t.askPartner n codes want) :=
  .ite (.foldl (.setLane h) fun _ _ h => .sendEq h) (.ite (.emit (.setLane h)) (.setLane h))
theorem Kept.laneSearch {n} (h : Kept s t) : Kept s (t.laneSearch n) := by
  unfold State.laneSearch
  extract_lets s1 s2
  have h1 : Kept s s1 := .setLaneState (.laneDefaults h)
  have h2 : Kept s s2 := .set h1
  exact .ite h2 (.askPartner (.setLane h2))
theorem Kept.laneStart {n rate} (h : Kept s t) : Kept s (t.laneStart n rate) := by
  unfold State.laneStart
  extract_lets s1 _ s2 s3
  have h1 : Kept s s1 := .set (.set h)
  have h2 : Kept s s2 := .setLane h1
  have h3 : Kept s s3 := .setLaneState (.laneDefaults h2)
  exact .ite (.update h3 rfl) (.laneSearch h2)
theorem Kept.histRead {n} (h : Kept s t) : Kept s (t.histRead n) := by
  unfold State.histRead
  extract_lets _ s1
  have h1 : Kept s s1 := .spend (.update h rfl)
  split
  · exact .laneSearch h1
  · exact .raise (.laneSearch h1)
  · exact .askPartner (.setLane (.set (.useCoefs (.setLaneState (.laneDefaults h1)))))
theorem Kept.noHistRead {n} (h : Kept s t) : Kept s (t.noHistRead n) := .update h rfl
theorem Kept.laneTest {n} (h : Kept s t) : Kept s (t.laneTest n) := .setLaneState (.setLane (.sets (.laneDefaults (.noHistRead h))))
theorem Kept.laneIdle {n} (h : Kept s t) : Kept s (t.laneIdle n) := .sets (.setLane (.setLaneState (.abortScan (.noHistRead h))))
theorem Kept.laneRestartNow {n} (h : Kept s t) : Kept s (t.laneRestartNow n) := .ite (.laneTest h) (.ite h (.laneStart h))
theorem Kept.laneRestore {n} (h : Kept s t) : Kept s (t.laneRestore n) := by
  unfold State.laneRestore
  split
  · exact .ite (.setLane (.set (.setLaneState (.abortScan h)))) (.setRx (.set (.setLaneState (.abortScan h))))
  · exact .laneRestartNow h
theorem Kept.laneThaw {n} (h : Kept s t) : Kept s (t.laneThaw n) := by
  unfold State.laneThaw
  extract_lets _ s1
  have h1 : Kept s s1 := .setLane h
  exact .ite (.ite (.laneSearch h1) (.laneRestartNow h1)) (.ite (.laneRestore h1) h1)
theorem Kept.wrRxadapt {n v} (h : Kept s t) : Kept s (t.wrRxadapt n v) := by
  unfold State.wrRxadapt
  extract_lets _ _ _ s1 s2 _ s3 _ s4
  have h1 : Kept s s1 := .writePlain h
  have h2 : Kept s s2 := .ite (.set h1) h1
  have h3 : Kept s s3 := .ite (.abortScan (.set (.setLane h2))) (.ite (.set h2) h2)
  have h4 : Kept s s4 := .ite (.setLane h3) h3
  exact .ite h4 (.laneThaw h4)
theorem Kept.drivePattern {n} (h : Kept s t) : Kept s (t.drivePattern n) := .ite (.emit h) h
theorem Kept.wrUserPat {n off v} (h : Kept s t) : Kept s (t.wrUserPat n off v) := .ite (.drivePattern (.writePlain h)) (.writePlain h)
theorem Kept.testLane {n} (h : Kept s t) : Kept s (t.testLane n) := .ite h (.ite (.ite h (.laneTest h)) (.ite (.laneIdle h) h))
theorem Kept.wrPatgen {n v} (h : Kept s t) : Kept s (t.wrPatgen n v) :=
  .ite (.set h) (.drivePattern (.testLane (.ite (.set (.writePlain h)) (.writePlain h))))
theorem Kept.addCounts {n bits errs syms} (h : Kept s t) : Kept s (t.addCounts n bits errs syms) :=
  .ite h (.ite (.sets (.addSat (.addSat (.addSat h)))) (.addSat (.addSat (.addSat h))))
theorem Kept.liveCounts {n} (h : Kept s t) : Kept s (t.liveCounts n) := .ite h (.addCounts (.free (.free (.free h))))
theorem Kept.wrPatchk {n v} (h : Kept s t) : Kept s (t.wrPatchk n v) := by
  unfold State.wrPatchk
  extract_lets s1 _ s2 s3 s4
  have h1 : Kept s s1 := .liveCounts h
  have h2 : Kept s s2 := .writePlain h1
  have h3 : Kept s s3 := .ite (.clearChecker h2) h2
  have h4 : Kept s s4 := .ite (.set h3) h3
  exact .testLane h4
theorem Kept.injectOne {n} (h : Kept s t) : Kept s (t.injectOne n) := .emit (.addSat h)
theorem Kept.wrErrinj {n v} (h : Kept s t) : Kept s (t.wrErrinj n v) := by
  unfold State.wrErrinj
  extract_lets _ s1
  have h1 : Kept s s1 := .writePlain h
  exact .ite h1 (.ite (.ite h1 (.injectOne h1)) (.set (.injectOne h1)))
theorem Kept.wrLoopback {n v} (h : Kept s t) : Kept s (t.wrLoopback n v) :=
  .ite (.set h) (.ite (.sets h) (.emit (.testLane (.set (.sets h)))))
theorem Kept.follow {p on} (h : Kept s t) : Kept s (t.follow p on) := .foldl h fun _ _ h => .emit (.set h)
theorem Kept.clearTests {n} (h : Kept s t) : Kept s (t.clearTests n) := .sets (.liveCounts h)
theorem Kept.margin {n c} (h : Kept s t) : Kept s (t.margin n c) := by
  unfold State.margin
  extract_lets s1 s2 _ s3
  have h1 : Kept s s1 := .count h
  have h2 : Kept s s2 := .ite h1 (.endScan h1)
  have h3 : Kept s s3 := .emit (.setLane h2)
  refine .ite ?_ ?_
  · exact .emit h2
  · split
    · exact .emit h2
    · exact .emit h2
    · exact .emit (.setLane h2)
    · exact .ite (.beginScan h3) h3
    · exact .ite (.beginScan (.setLane (.emit (.setLane (.free h2))))) (.emit (.setLane (.free h2)))

/-! ### Trains -/

theorem Kept.setDll {p d} (h : Kept s t) : Kept s (t.setDll p d) := .setPort h
theorem Kept.setVctl {v c} (h : Kept s t) : Kept s (t.setVctl v c) := .update h rfl
theorem Kept.putTrain {t'} (h : Kept s t) : Kept s (t.putTrain t') := .update h rfl
theorem Kept.delTrain {id} (h : Kept s t) : Kept s (t.delTrain id) := .update h rfl
theorem Kept.addF {f n} (h : Kept s t) : Kept s (t.addF f n) := .set h
theorem Kept.subF {f n} (h : Kept s t) : Kept s (t.subF f n) := .set h
theorem Kept.returnCredits {c} (h : Kept s t) : Kept s (t.returnCredits c) := by
  unfold State.returnCredits
  split
  · exact h
  · exact .ite h (.ite (.ite h (.setHll h)) (.ite h (.emit (.setDll h))))
theorem Kept.peakShared (h : Kept s t) : Kept s t.peakShared := .set h
theorem Kept.chargeN {t' a n} (h : Kept s t) : Kept s (t.chargeN t' a n) := by
  unfold State.chargeN
  split
  · exact .addF h
  · exact .peakShared (.addF (.addF (.addF h)))
  · exact h
  · exact .addF h
  · exact h
  · exact h
theorem Kept.dischargeN {t' n} (h : Kept s t) : Kept s (t.dischargeN t' n) := by
  unfold State.dischargeN
  split
  · exact .subF h
  · exact .subF (.subF (.subF h))
  · exact h
  · exact .subF h
  · exact .subF (.subF h)
  · exact h
theorem Kept.charge {t' a} (h : Kept s t) : Kept s (t.charge t' a) := .chargeN h
theorem Kept.discharge {t'} (h : Kept s t) : Kept s (t.discharge t') := .dischargeN h
theorem Kept.staleCredits {p} (h : Kept s t) : Kept s (t.staleCredits p) := .update h rfl
theorem Kept.pushMsg {p t'} (h : Kept s t) : Kept s (t.pushMsg p t') := .setPort h
theorem Kept.noteFull {p q} (h : Kept s t) : Kept s (t.noteFull p q) := .ite (.set h) h
theorem Kept.moveAcct {t' a} (h : Kept s t) : Kept s (t.moveAcct t' a) := by
  unfold State.moveAcct
  extract_lets s1 s2
  have h1 : Kept s s1 := .discharge h
  have h2 : Kept s s2 := by
    unfold s2
    split
    · exact .returnCredits h1
    · exact h1
  exact .putTrain (.charge h2)
theorem Kept.retainAt {p t'} (h : Kept s t) : Kept s (t.retainAt p t') := by
  unfold State.retainAt
  extract_lets _ s1 s2 s3
  have h1 : ∀ v0, Kept s v0 → Kept s (s1 v0) := fun _ hv => .putTrain (.addF hv)
  have h2 : Kept s s2 := .ite (.subF h) h
  have h3 : Kept s s3 := .ite (.subF h2) h2
  refine .ite ?_ ?_
  · exact h
  · refine .ite ?_ ?_
    · exact h1 _ h
    · split
      · exact .ite h (.ite (h1 _ h) (.moveAcct h))
      · exact .moveAcct h3
theorem Kept.unretain {t' p} (h : Kept s t) : Kept s (t.unretain t' p) := by
  unfold State.unretain
  extract_lets s1
  have h1 : ∀ v0 v1, Kept s v0 → Kept s (s1 v0 v1) := fun _ _ hv => .putTrain (.subF hv)
  refine .ite ?_ ?_
  · exact h1 _ _ h
  · split
    · exact .ite (h1 _ _ h) h
    · exact h
theorem Kept.unretainAll {t'} (h : Kept s t) : Kept s (t.unretainAll t') := .foldl h fun _ _ h => .subF h
theorem Kept.copied {t' n} (h : Kept s t) : Kept s (t.copied t' n) := .ite h (.putTrain (.dischargeN h))
theorem Kept.drainGen (h : Kept s t) : Kept s t.drainGen := .set h
theorem Kept.cairnStage {id k} (h : Kept s t) : Kept s (t.cairnStage id k) := .update h rfl
theorem Kept.endCairn {id null} (h : Kept s t) : Kept s (t.endCairn id null) := .update h rfl
theorem Kept.raiseTrain {code src vh t' dst addr wtag aerOn inst ckey w quiet} (h : Kept s t) : Kept s (t.raiseTrain code src vh t' dst addr wtag aerOn inst ckey w quiet) :=
  .raise h
theorem Kept.inject {it} (h : Kept s t) : Kept s (t.inject it) := .update h rfl
theorem Kept.answer {src vh t' st data} (h : Kept s t) : Kept s (t.answer src vh t' st data) := .ite h (.inject h)
theorem Kept.sendHal {src h' data} (h : Kept s t) : Kept s (t.sendHal src h' data) := .inject h
theorem Kept.pfnEnter {r} (h : Kept s t) : Kept s (t.pfnEnter r) := by
  unfold State.pfnEnter
  extract_lets _ _ _ _ _ s1 _ s2 s3 s4
  have h1 : Kept s s1 := .sets h
  have h2 : Kept s s2 := .update h1 rfl
  have h3 : Kept s s3 := .count (.raise h2)
  have h4 : Kept s s4 := .ite (.raiseMsix h3) h3
  split
  · exact .set (.addSat h)
  · exact .ite (.raise (.addSat h)) (.ite (.raiseMsix h4) h4)
theorem Kept.pfnTlp {vh tport tvh t' cause wtag src} (h : Kept s t) : Kept s (t.pfnTlp vh tport tvh t' cause wtag src) := .pfnEnter h
theorem Kept.pfnHal {src h' cause np} (h : Kept s t) : Kept s (t.pfnHal src h' cause np) := .ite (.pfnEnter h) (.sendHal h)
theorem Kept.putOrt {e o} (h : Kept s t) : Kept s (t.putOrt e o) := .update h rfl
theorem Kept.ortSts (h : Kept s t) : Kept s t.ortSts := .sets h
theorem Kept.freeRsv {o} (h : Kept s t) : Kept s (t.freeRsv o) := .subF (.subF h)
theorem Kept.ortFree {e} (h : Kept s t) : Kept s (t.ortFree e) := by
  unfold State.ortFree
  split
  · exact h
  · exact .ortSts (.update (.freeRsv h) rfl)
theorem Kept.ortUse {e n err} (h : Kept s t) : Kept s (t.ortUse e n err) := by
  unfold State.ortUse
  split
  · exact h
  · exact .ite (.ortFree h) (.putOrt h)
theorem Kept.ortSent {t'} (h : Kept s t) : Kept s (t.ortSent t') := by
  unfold State.ortSent
  split
  · exact .ite (.ortUse h) h
  · exact h
theorem Kept.ortAbort {e} (h : Kept s t) : Kept s (t.ortAbort e) := by
  unfold State.ortAbort
  split
  · exact h
  · refine .ite ?_ ?_
    · exact h
    · extract_lets s1
      have h1 : Kept s s1 := by
        unfold s1
        split
        · exact .sendHal h
        · exact .answer h
      exact .ortSts (.putOrt (.freeRsv h1))
theorem Kept.ortClosePort {p} (h : Kept s t) : Kept s (t.ortClosePort p) := by
  unfold State.ortClosePort
  refine .foldl h fun _ _ h1 => ?_
  split
  · exact h1
  · exact .ite (.raise (.ortAbort h1)) h1
theorem Kept.fenceLose {stamp toHut addr cause} (h : Kept s t) : Kept s (t.fenceLose stamp toHut addr cause) := by
  unfold State.fenceLose
  refine .ite ?_ ?_
  · exact h
  · split
    · exact h
    · exact .count (.setVctl h)
theorem Kept.unpark {t'} (h : Kept s t) : Kept s (t.unpark t') := .foldl h fun _ _ h => .foldl h fun _ _ h => .ite (.set h) h
theorem Kept.endTrain {t' null} (h : Kept s t) : Kept s (t.endTrain t' null) := by
  unfold State.endTrain
  extract_lets s1 s2 s3 s4
  have h1 : Kept s s1 := .unretainAll (.discharge h)
  have h2 : Kept s s2 := by
    unfold s2
    split
    · exact .returnCredits h1
    · exact h1
  have h3 : Kept s s3 := .ite (.subF h2) h2
  have h4 : Kept s s4 := .ite (.subF h3) h3
  exact .drainGen (.endCairn (.unpark (.delTrain h4)))
theorem Kept.releaseCarriages {t'} (h : Kept s t) : Kept s (t.releaseCarriages t') := by
  unfold State.releaseCarriages
  extract_lets s1 s2 s3 s4
  have h1 : Kept s s1 := .unretainAll (.discharge h)
  have h2 : Kept s s2 := by
    unfold s2
    split
    · exact .returnCredits h1
    · exact h1
  have h3 : Kept s s3 := .ite (.subF h2) h2
  have h4 : Kept s s4 := .ite (.subF h3) h3
  exact .drainGen (.putTrain h4)
theorem Kept.queueSts {p q} (h : Kept s t) : Kept s (t.queueSts p q) := .ite (.set (.sets h)) (.sets h)
theorem Kept.yardOcc {y} (h : Kept s t) : Kept s (t.yardOcc y) := .set (.set h)
theorem Kept.refreshQueues {t'} (h : Kept s t) : Kept s (t.refreshQueues t') :=
  .foldl (.foldl h fun _ _ h => .queueSts h) fun _ _ h => .yardOcc h
theorem Kept.slots {p e n} (h : Kept s t) : Kept s (t.slots p e n) := .count (.update h rfl)
theorem Kept.book {p e n} (h : Kept s t) : Kept s (t.book p e n) := .slots h
theorem Kept.fabDropNote {src h' cause} (h : Kept s t) : Kept s (t.fabDropNote src h' cause) := by
  unfold State.fabDropNote
  extract_lets _ s1 s2
  have h1 : Kept s s1 := .raise h
  have h2 : Kept s s2 := .sets h1
  exact .ite (.addSat h2) (.ite (.addSat h2) (.ite (.addSat h2) (.ite (.addSat h2) h2)))
theorem Kept.fabDrop {src h' cause} (h : Kept s t) : Kept s (t.fabDrop src h' cause) := by
  unfold State.fabDrop
  extract_lets _ s1
  have h1 : Kept s s1 := .fabDropNote h
  refine .ite ?_ ?_
  · exact .pfnHal h1
  · refine .ite ?_ ?_
    · refine .ite ?_ ?_
      · split
        · exact .ite (.ortFree (.answer h1)) h1
        · exact h1
      · exact .ite (.pfnHal h1) (.sendHal h1)
    · exact h1
theorem Kept.mcLost {g hal vh p cause w ingress} (h : Kept s t) : Kept s (t.mcLost g hal vh p cause w ingress) :=
  .ite (.raiseMsix (.raise (.count (.addSat (.sets h))))) (.raise (.count (.addSat (.sets h))))
theorem Kept.mcLoss {t' p cause} (h : Kept s t) : Kept s (t.mcLoss t' p cause) := .fenceLose (.mcLost h)
theorem Kept.nullReport {src vh rx hal dst code wtag stamp out outHal answered} (h : Kept s t) : Kept s
  (t.nullReport src vh rx hal dst code wtag stamp out outHal answered) := by
  unfold State.nullReport
  refine .ite ?_ ?_
  · exact .fenceLose (.raise h)
  · extract_lets _ _ s1 s2
    have h1 : Kept s s1 := .raiseTrain h
    have h2 : Kept s s2 := by
      unfold s2
      refine .ite ?_ ?_
      · refine .ite ?_ ?_
        · exact h1
        · split
          · exact .sendHal h1
          · exact .answer h1
      · refine .ite ?_ ?_
        · split
          · exact .pfnHal h1
          · exact .pfnTlp h1
        · exact h1
    exact .fenceLose h2
theorem Kept.uncharge {t' c} (h : Kept s t) : Kept s (t.uncharge t' c) := .setDll h
theorem Kept.nullify {t' code} (h : Kept s t) : Kept s (t.nullify t' code) := by
  unfold State.nullify
  extract_lets _ s1 s2 s3
  have h1 : Kept s s1 := .nullReport h
  have h2 : Kept s s2 := by
    unfold s2
    split
    · exact .ite h1 (.ortFree h1)
    · exact h1
  have h3 : Kept s s3 := .foldl h2 fun _ _ h => .ite (.setHll h) (.ite (.emit (.book (.uncharge h))) h)
  exact .refreshQueues (.endTrain h3)
theorem Kept.closedDrop {p src vh rx hal t' stamp wtag ort tvh} (h : Kept s t) : Kept s
  (t.closedDrop p src vh rx hal t' stamp wtag ort tvh) := by
  unfold State.closedDrop
  extract_lets s1 _ _ s2 s3
  have h1 : Kept s s1 := .count (.addSat h)
  have h2 : ∀ v0, Kept s v0 → Kept s (s2 v0) := by
    intro v0 hv
    unfold s2
    split
    · exact .ortFree hv
    · exact hv
  have h3 : ∀ v0, Kept s v0 → Kept s (s3 v0) := fun _ hv => .raiseTrain hv
  split
  · exact .ite (h3 _ h1) (.ite (h3 _ h1) (.fenceLose (h2 _ (.fabDrop h1))))
  · exact .ite (.ite (h3 _ h1) (h2 _ (.answer (h3 _ h1)))) (.ite (.fenceLose (h3 _ (.pfnTlp h1))) (h3 _ h1))
theorem Kept.setRope {m x} (h : Kept s t) : Kept s (t.setRope m x) := .update h rfl
theorem Kept.dropCopy {t' p cause} (h : Kept s t) : Kept s (t.dropCopy t' p cause) := by
  unfold State.dropCopy
  extract_lets s1 s2
  have h1 : Kept s s1 := .mcLoss h
  have h2 : Kept s s2 := .ite (.count (.addSat h1)) h1
  refine .ite ?_ ?_
  · exact .refreshQueues (.endTrain h2)
  · refine .ite ?_ ?_
    · exact .refreshQueues (.endTrain h2)
    · exact .ite (.refreshQueues (.releaseCarriages h2)) (.refreshQueues (.putTrain h2))
theorem Kept.dropHead {it} (h : Kept s t) : Kept s (t.dropHead it) := .returnCredits h
theorem Kept.toClosed {d} (h : Kept s t) : Kept s (t.toClosed d) := by
  unfold State.toClosed
  split
  · exact .dropHead (.answer (.fabDropNote (.count (.addSat h))))
  · exact .dropHead (.closedDrop h)
theorem Kept.gwClosed {p} (h : Kept s t) : Kept s (t.gwClosed p) :=
  .ite h (.drainGen (.ortSts (.foldl (.update h rfl) fun _ _ h => .toClosed h)))
theorem Kept.resolveQueued {p} (h : Kept s t) : Kept s (t.resolveQueued p) := by
  unfold State.resolveQueued
  extract_lets s1
  have h1 : Kept s s1 := .gwClosed h
  refine .foldl h1 fun _ _ h2 => ?_
  split
  · exact h2
  · exact .ite h2 (.ite (.ite (.dropCopy h2) h2) (.ite (.refreshQueues (.endTrain (.closedDrop h2))) h2))
theorem Kept.loseUnacked {p} (h : Kept s t) : Kept s (t.loseUnacked p) :=
  .foldl (.setDll h) fun _ _ h => .ite (.ite (.endTrain (.fenceLose h)) (.putTrain (.fenceLose h))) h

/-! ### Carriage -/

theorem Kept.carriageLost {t' c} (h : Kept s t) : Kept s (t.carriageLost t' c) := .ite (.raiseTrain (.putTrain h)) (.nullify h)
theorem Kept.bankUes {b n} (h : Kept s t) : Kept s (t.bankUes b n) := by
  induction n generalizing t with
  | zero => exact h
  | succ n ih =>
    unfold State.bankUes
    split
    · rename_i s1 e
      exact .ofSnd e (.pick h)
    · rename_i s1 e
      have h1 : Kept s s1 := .ofSnd e (.pick h)
      exact ih (.ite (.nullify h1) (.carriageLost h1))
theorem Kept.retireBank {b cause} (h : Kept s t) : Kept s (t.retireBank b cause) := by
  unfold State.retireBank
  refine .ite ?_ ?_
  · exact h
  · refine .ite ?_ ?_
    · exact .ite h (.update h rfl)
    · extract_lets s1
      have h1 : Kept s s1 := .sets h
      split
      · exact .update h1 rfl
      · exact .set (.update h1 rfl)
theorem Kept.bankErr {b ce ue} (h : Kept s t) : Kept s (t.bankErr b ce ue) :=
  .ite (.retireBank (.update h rfl)) (.ite (.retireBank (.update h rfl)) (.update h rfl))
theorem Kept.readCpl {id i} (h : Kept s t) : Kept s (t.readCpl id i) := by
  unfold State.readCpl
  split
  · exact h
  · refine .foldl h fun _ _ h1 => ?_
    extract_lets _ s2
    have h2 : Kept s s2 := .update h1 rfl
    split
    · exact .carriageLost h2
    · exact h2
theorem Kept.bitErr {n y id i e} (h : Kept s t) : Kept s (t.bitErr n y id i e) := by
  unfold State.bitErr
  split
  · exact h
  · refine .ite ?_ ?_
    · exact h
    · refine .ite ?_ ?_
      · extract_lets
        split
        · exact .ite (.nullify h) (.ite (.raise h) h)
        · exact .nullify h
      · extract_lets
        split
        · exact .ite (.bankErr (.raise h)) h
        · exact .bankErr (.carriageLost h)
theorem wf_foldl_write {m : Memory} {d : Byte} {a : Nat → Nat} {v : Nat → Byte} {l : List Nat} (h : Memory.wf m d = true) :
    Memory.wf (l.foldl (fun m i => Memory.write m d (a i) (v i)) m) d = true := by
  induction l generalizing m with
  | nil => exact h
  | cons i l ih => exact ih (Memory.wf_write m d _ _ h)

/-! ### Hut -/

theorem Kept.setMons {m} (h : Kept s t) : Kept s (t.setMons m) := .set (.update h rfl)
theorem Kept.clearRes {which cause} (h : Kept s t) : Kept s (t.clearRes which cause) := .setMons h
theorem Kept.hutUe {src vh rid off} (h : Kept s t) : Kept s (t.hutUe src vh rid off) := .raise (.addSat h)
theorem Kept.hutStore {src vh rid a data be} (h : Kept s t) : Kept s (t.hutStore src vh rid a data be) := by
  unfold State.hutStore
  extract_lets _ _ word
  refine .foldl h fun v _ h1 => ?_
  unfold word
  refine .ite h1 (.ite (.hutUe h1) ?_)
  exact .clearRes (.hutSt h1 wf_foldl_write)
theorem Kept.setHutBuf {b l} (h : Kept s t) : Kept s (t.setHutBuf b l) := .update h rfl
theorem Kept.hutResolve {id} (h : Kept s t) : Kept s (t.hutResolve id) := by
  unfold State.hutResolve
  refine .ite ?_ ?_
  · exact h
  · split
    · exact .endTrain h
    · exact h
theorem Kept.hutPerform {b} (h : Kept s t) : Kept s (t.hutPerform b) := by
  unfold State.hutPerform
  split
  · exact h
  · exact .hutResolve (.hutStore (.setHutBuf h))
theorem Kept.hutFlushN {b n} (h : Kept s t) : Kept s (t.hutFlushN b n) := by
  induction n generalizing t with
  | zero => exact h
  | succ n ih => exact ih (.hutPerform h)
theorem Kept.hutFlush {b which} (h : Kept s t) : Kept s (t.hutFlush b which) := .hutFlushN h
theorem Kept.hutFlushRange {a n which} (h : Kept s t) : Kept s (t.hutFlushRange a n which) := .foldl h fun _ _ h => .hutFlush h
theorem Kept.hutDrainVh {v} (h : Kept s t) : Kept s (t.hutDrainVh v) := .foldl h fun _ _ h => .hutFlush h
theorem Kept.hutEnter {w} (h : Kept s t) : Kept s (t.hutEnter w) := .ite (.hutPerform (.setHutBuf h)) (.setHutBuf h)
theorem Kept.hutReply {q data bad} (h : Kept s t) : Kept s (t.hutReply q data bad) := .foldl h fun _ _ h => .inject h
theorem Kept.hutStatus {q kind st} (h : Kept s t) : Kept s (t.hutStatus q kind st) := .answer h
theorem Kept.hutRefuse {q kind train code logged st} (h : Kept s t) : Kept s (t.hutRefuse q kind train code logged st) :=
  .hutResolve (.ite (.hutStatus (.count (.raise h))) (.fenceLose (.count (.raise h))))
theorem Kept.takeMon {q} (h : Kept s t) : Kept s (t.takeMon q).2 := by
  unfold State.takeMon
  split
  · exact .setMons h
  · extract_lets _ _ victim
    clear_value victim
    split
    · exact .addSat (.setMons h)
    · exact .setMons h
theorem Kept.putMon {m} (h : Kept s t) : Kept s (t.putMon m) := .setMons h
theorem Kept.hutDoRead {op q train} (h : Kept s t) : Kept s (t.hutDoRead op q train) := by
  unfold State.hutDoRead
  extract_lets _ _ s1 s2 _ s3 s4
  have h1 : Kept s s1 := .hutFlushRange h
  have h2 : Kept s s2 := .count h1
  have h3 : Kept s s3 := .ite (.hutUe h2) h2
  have h4 : Kept s s4 := .ite h3 (.ite (.clearRes h3) (.count (.putMon (.takeMon h3))))
  exact .hutResolve (.hutReply h4)
theorem Kept.hutDoWrite {q train} (h : Kept s t) : Kept s (t.hutDoWrite q train) := .hutResolve (.hutStore (.count (.hutFlushRange h)))
theorem Kept.hutDoNormal {q train} (h : Kept s t) : Kept s (t.hutDoNormal q train) :=
  .hutResolve (.foldl (.count h) fun _ _ h => .hutEnter h)
theorem Kept.hutDoCond {q train} (h : Kept s t) : Kept s (t.hutDoCond q train) := by
  unfold State.hutDoCond
  extract_lets _ _ _ s1
  have h1 : Kept s s1 := .hutFlushRange h
  split
  next _ s2 e =>
  have h2 : Kept s s2 := .ofSnd e (.takeMon h1)
  exact .ite (.hutResolve (.count (.count (.hutStore (.putMon h2))))) (.hutResolve (.count (.putMon h2)))
theorem Kept.hutDoAtomic {k q train} (h : Kept s t) : Kept s (t.hutDoAtomic k q train) := by
  unfold State.hutDoAtomic
  extract_lets _ _ _ s1 _ new s2
  have h1 : Kept s s1 := .count (.hutFlushRange h)
  have h2 : Kept s s2 := by
    unfold s2
    clear_value new
    split
    · exact .hutStore h1
    · exact h1
  refine .ite ?_ ?_
  · refine .hutResolve ?_
    split
    · exact .aer h
    · exact h
  · exact .ite (.hutResolve (.hutStatus (.hutUe h1))) (.hutResolve (.hutReply h2))
theorem Kept.hutDo {x} (h : Kept s t) : Kept s (t.hutDo x) := by
  unfold State.hutDo
  extract_lets
  refine .ite ?_ ?_
  · exact .hutRefuse h
  · split
    · exact .hutRefuse h
    · split
      · exact .hutRefuse h
      · refine .ite ?_ ?_
        · exact .hutDoWrite h
        · exact .ite (.hutDoNormal h) (.ite (.hutDoCond h) (.ite (.hutDoAtomic h) (.hutDoRead h)))
theorem Kept.hutHeldSts (h : Kept s t) : Kept s t.hutHeldSts := .set h
theorem Kept.hutArrive {x} (h : Kept s t) : Kept s (t.hutArrive x) := .ite (.hutHeldSts (.setVctl h)) (.hutDo h)
theorem Kept.fenceStart {v data} (h : Kept s t) : Kept s (t.fenceStart v data) :=
  .ite (.setVctl h) (.ite (.setVctl h) (.count (.setVctl h)))
theorem Kept.fenceArrive {v} (h : Kept s t) : Kept s (t.fenceArrive v) := .ite h (.setVctl (.hutDrainVh h))
theorem Kept.fenceEnd {v st} (h : Kept s t) : Kept s (t.fenceEnd v st) :=
  .foldl (.ite (.raiseMsix (.hutHeldSts (.setVctl h))) (.hutHeldSts (.setVctl h))) fun _ _ h => .hutDo h
theorem Kept.hutVhReset {v} (h : Kept s t) : Kept s (t.hutVhReset v) :=
  .clearRes (.foldl (.hutHeldSts (.foldl (.setVctl h) fun _ _ h => .hutResolve h)) fun _ _ h => .setVctl h)
theorem Kept.dbRing {src v rid target data stamp sent} (h : Kept s t) : Kept s (t.dbRing src v rid target data stamp sent) := by
  unfold State.dbRing
  refine .ite ?_ ?_
  · extract_lets s1 _ _ s2 s3
    have h1 : Kept s s1 := .hutDrainVh h
    have h2 : Kept s s2 := .setVctl h1
    have h3 : Kept s s3 := .count (.count h2)
    exact .ite (.raiseMsix h3) h3
  · exact .fenceLose (.count (.raise h))
theorem Kept.hutClosed {v len off} (h : Kept s t) : Kept s (t.hutClosed v len off) := .count (.raise h)
theorem Kept.dbPendTake {v} (h : Kept s t) : Kept s (t.dbPendTake v).2 := .setVctl h
theorem Kept.wrHutZero {v} (h : Kept s t) : Kept s (t.wrHutZero v) := .ite (.set (.update (.sets h) rfl)) (.sets h)
theorem Kept.hutZeroEnd (h : Kept s t) : Kept s t.hutZeroEnd := by
  unfold State.hutZeroEnd
  split
  · exact h
  · exact .set (.clearRes (.hutSt h (Memory.wf_filter _ _ _)))

/-! ### Closure -/

theorem Kept.bindState {v} (h : Kept s t) : Kept s (t.bindState v) := .set h
theorem Kept.showLink {p} (h : Kept s t) : Kept s (t.showLink p) := by
  unfold State.showLink
  extract_lets _ s1
  have h1 : Kept s s1 := .sets h
  split
  · exact .bindState h1
  · exact h1
theorem Kept.latchTraining {p} (h : Kept s t) : Kept s (t.latchTraining p) := .setPort h
theorem Kept.setLink {p st} (h : Kept s t) : Kept s (t.setLink p st) :=
  .showLink (.setPort (.ite (.follow (.ite (.latchTraining h) h)) (.ite (.latchTraining h) h)))
theorem Kept.supersedeWidth {p} (h : Kept s t) : Kept s (t.supersedeWidth p) := .ite (.set (.set (.setPort h))) (.set (.setPort h))
theorem Kept.clearLink {p} (h : Kept s t) : Kept s (t.clearLink p) := .sets (.foldl (.supersedeWidth h) fun _ _ h => .ite h (.laneIdle h))
theorem Kept.slotEvent {v d st en} (h : Kept s t) : Kept s (t.slotEvent v d st en) := .ite (.emit (.orCfg h)) (.orCfg h)
theorem Kept.dllsc {v d} (h : Kept s t) : Kept s (t.dllsc v d) := .slotEvent h
theorem Kept.attention {v d} (h : Kept s t) : Kept s (t.attention v d) := .slotEvent h
theorem Kept.setPresence {v d b} (h : Kept s t) : Kept s (t.setPresence v d b) := .ite h (.slotEvent (.setCfg h))
theorem Kept.clearResPort {p} (h : Kept s t) : Kept s (t.clearResPort p) := by
  unfold State.clearResPort
  extract_lets s1
  have h1 : Kept s s1 := by
    unfold s1
    split
    · exact .clearRes h
    · exact h
  exact .foldl h1 fun _ _ h => .clearRes h
theorem Kept.dpcStatus {v d reason} (h : Kept s t) : Kept s (t.dpcStatus v d reason) :=
  .ite (.emit (.orCfg (.count (.update (.setCfg (.free h)) rfl)))) (.count (.update (.setCfg (.free h)) rfl))
theorem Kept.holdVf {i} (h : Kept s t) : Kept s (t.holdVf i) := .ite h (.clearRes (.ite (.set h) h))
theorem Kept.dpcVf {i reason} (h : Kept s t) : Kept s (t.dpcVf i reason) := .dpcStatus (.holdVf h)
theorem Kept.containTenants {p} (h : Kept s t) : Kept s (t.containTenants p) := .foldl h fun _ _ h => .ite (.dpcVf (.orCfg h)) h
theorem Kept.devLinkLost {p} (h : Kept s t) : Kept s (t.devLinkLost p) := by
  unfold State.devLinkLost
  split
  · exact .ite (.containTenants (.dllsc h)) (.dllsc h)
  · exact h
theorem Kept.closePort {p c code} (h : Kept s t) : Kept s (t.closePort p c code) :=
  .ite h (.showLink (.ite (.addSat (.set h)) (.resolveQueued (.ortClosePort (.set (.set h))))))
theorem Kept.openPort {p c} (h : Kept s t) : Kept s (t.openPort p c) :=
  .ite h (.showLink (.ite (.ite (.set (.set h)) (.set h)) (.set (.ite (.set (.set h)) (.set h)))))
theorem Kept.takeDown {p st code} (h : Kept s t) : Kept s (t.takeDown p st code) := by
  unfold State.takeDown
  extract_lets _ s1 s2 _ s3
  have h1 : Kept s s1 := .clearLink (.setLink h)
  have h2 : Kept s s2 := .loseUnacked (.count h1)
  have h3 : Kept s s3 := .update h2 rfl
  exact .ite h1 (.ite h3 (.closePort h3))
theorem Kept.clearHll {p} (h : Kept s t) : Kept s (t.clearHll p) := .foldl (.sets (.setHll h)) fun _ _ h => .sets h
theorem Kept.mgtOff {p} (h : Kept s t) : Kept s (t.mgtOff p) := .ite h (.ite (.set h) (.ite (.set h) h))
theorem Kept.sealFlit {p w b kind arg} (h : Kept s t) : Kept s (t.sealFlit p w b kind arg) := .emit (.emit (.setHll (.ite (.count h) h)))
theorem Kept.sendRetrainReq {p} (h : Kept s t) : Kept s (t.sendRetrainReq p) := .ite (.sealFlit (.mgtOff h)) h
theorem Kept.coverTrain {id p} (h : Kept s t) : Kept s (t.coverTrain id p) := by
  unfold State.coverTrain
  split
  · exact h
  · extract_lets _ s1
    have h1 : Kept s s1 := .unretain (.putTrain h)
    refine .ite ?_ ?_
    · exact .endTrain h
    · split
      · exact .ite (.releaseCarriages h1) h1
      · exact h1
theorem Kept.lostPacket {p k} (h : Kept s t) : Kept s (t.lostPacket p k) := by
  unfold State.lostPacket
  extract_lets s1 s2 s3
  have h1 : Kept s s1 := .fenceLose h
  have h2 : Kept s s2 := by
    unfold s2
    refine .ite ?_ ?_
    · split
      · exact .mcLoss h1
      · exact h1
    · exact .fabDrop h1
  have h3 : Kept s s3 := by
    unfold s3
    split
    · exact .refreshQueues (.putTrain h2)
    · exact h2
  exact .coverTrain h3
theorem Kept.resendLost {m} (h : Kept s t) : Kept s (t.resendLost m) := by
  unfold State.resendLost
  extract_lets _ s1
  have h1 : Kept s s1 := .setRope h
  split
  · exact .foldl h1 fun _ _ h => .lostPacket h
  · exact h1
theorem Kept.ropeLeft {p} (h : Kept s t) : Kept s (t.ropeLeft p) := by
  unfold State.ropeLeft
  split
  · exact .set (.setRope h)
  · exact h
theorem Kept.cutPart {p x} (h : Kept s t) : Kept s (t.cutPart p x) := .ite h (.inject h)
theorem Kept.discardLL {p cause report} (h : Kept s t) : Kept s (t.discardLL p cause report) := by
  unfold State.discardLL
  refine .ite ?_ ?_
  · exact h
  · extract_lets _ _ _ s1 s2 s3 s4
    have h1 : Kept s s1 := .ite h (.foldl h fun _ _ h => .cutPart h)
    have h2 : Kept s s2 := .ropeLeft (.sets (.clearHll h1))
    have h3 : Kept s s3 := .foldl h2 fun _ _ h => .coverTrain (.lostPacket h)
    have h4 : Kept s s4 := .raise h3
    exact .ite (.foldl h2 fun _ _ h => .coverTrain (.coverTrain h)) (.closePort h4)
theorem Kept.failover {m p why cause} (h : Kept s t) : Kept s (t.failover m p why cause) := by
  unfold State.failover
  extract_lets _ _ _ _ s1 _ _ _ _ s2 s3 s4 s5 s6
  have h1 : Kept s s1 := .ite h (.sendRetrainReq h)
  have h2 : Kept s s2 := .sets (.clearHll h1)
  have h3 : Kept s s3 := .setRope h2
  have h4 : Kept s s4 := .foldl h3 fun _ _ h => .ite (.refreshQueues (.refreshQueues (.putTrain h))) h
  have h5 : Kept s s5 := .sets h4
  have h6 : Kept s s6 := .addSat h5
  exact .ite h (.ite (.discardLL h1) (.raise h6))
theorem Kept.fabOff {p} (h : Kept s t) : Kept s (t.fabOff p) := by
  unfold State.fabOff
  split
  · exact .ite (.discardLL h) (.failover h)
  · exact .discardLL h
theorem Kept.holdLL {p why} (h : Kept s t) : Kept s (t.holdLL p why) := by
  unfold State.holdLL
  split
  · exact .failover h
  · exact .ite (.set (.setHll h)) (.ite (.set (.setHll h)) (.ite (.set (.clearHll h)) h))
theorem Kept.retrain {p why} (h : Kept s t) : Kept s (t.retrain p why) :=
  .ite (.setLink (.holdLL (.count (.supersedeWidth h)))) (.setLink (.count (.supersedeWidth h)))
theorem Kept.setPrst {p x} (h : Kept s t) : Kept s (t.setPrst p x) := .update h rfl
theorem Kept.assertPrst {p} (h : Kept s t) : Kept s (t.assertPrst p) := .ite h (.takeDown (.setPrst h))
theorem Kept.startTrain {p} (h : Kept s t) : Kept s (t.startTrain p) := by
  unfold State.startTrain
  extract_lets _ _ s1
  have h1 : Kept s s1 := .setPort (.set h)
  refine .ite ?_ ?_
  · exact .setLink h1
  · exact .ite (.setLink h1) (.ite (.setLink h1) (.ite (.setLink h1) (.ite (.setLink h1) (.setLink h1))))
theorem Kept.releasePrst {p} (h : Kept s t) : Kept s (t.releasePrst p) := .ite (.startTrain (.setPrst h)) h
theorem Kept.hotReset {p} (h : Kept s t) : Kept s (t.hotReset p) := .ite (.takeDown (.emit (.supersedeWidth h))) h
theorem Kept.sendFlr {i} (h : Kept s t) : Kept s (t.sendFlr i) := .emit h
theorem Kept.toDrain {v d} (h : Kept s t) : Kept s (t.toDrain v d) := .ite (.update h rfl) h
theorem Kept.dpcEnd {v d} (h : Kept s t) : Kept s (t.dpcEnd v d) :=
  .ite h (.ite (.update (.setCfg h) rfl) (.openPort (.update (.setCfg h) rfl)))
theorem Kept.startEmpty {v d} (h : Kept s t) : Kept s (t.startEmpty v d) := by
  unfold State.startEmpty
  extract_lets _ _ _ s1 s2 s3 _ s4 s5 _ s6
  have h1 : Kept s s1 := .ite (.clearRes h) (.clearResPort h)
  have h2 : Kept s s2 := .dpcEnd (.setPresence (.set h1))
  have h3 : Kept s s3 := .dllsc h2
  have h4 : Kept s s4 := .update h3 rfl
  have h5 : Kept s s5 := .sendFlr (.set h4)
  have h6 : Kept s s6 := .containTenants h4
  exact .ite (.update h5 rfl) (.ite (.assertPrst h6) (.toDrain h6))
theorem Kept.forceDetach {v d} (h : Kept s t) : Kept s (t.forceDetach v d) := .ite (.startEmpty h) h
theorem Kept.startFlr {i back} (h : Kept s t) : Kept s (t.startFlr i back) := .ite h (.update (.clearRes (.sendFlr (.set h))) rfl)
theorem Kept.showLocks {pages} (h : Kept s t) : Kept s (t.showLocks pages) := .set (.set (.foldl h fun _ _ h => .set h))
theorem Kept.releaseLock {who} (h : Kept s t) : Kept s (t.releaseLock who) := .showLocks (.update h rfl)
theorem Kept.lockBreakNote {n} (h : Kept s t) : Kept s (t.lockBreakNote n) := .raise h
theorem Kept.breakLock {page seg} (h : Kept s t) : Kept s (t.breakLock page seg) := by
  unfold State.breakLock
  split
  · exact h
  · extract_lets s1 s2 s3
    have h1 : Kept s s1 := .releaseLock h
    have h2 : Kept s s2 := .addSat (.sets h1)
    have h3 : Kept s s3 := .lockBreakNote h2
    exact .ite (.emit h3) (.update h3 rfl)
theorem Kept.hostUnlock {v} (h : Kept s t) : Kept s (t.hostUnlock v) := by
  unfold State.hostUnlock
  extract_lets s1
  have h1 : Kept s s1 := .releaseLock h
  split
  · exact h1
  · exact .lockBreakNote (.update h1 rfl)
theorem Kept.vhDomain {v} (h : Kept s t) : Kept s (t.vhDomain v) := by
  unfold State.vhDomain
  extract_lets s1 s2 _ s3 s4 s5
  have h1 : Kept s s1 := .hotCfg h
  have h2 : Kept s s2 := .foldl h1 fun _ _ h => .ite (.set h) (.orCfg (.set h))
  have h3 : Kept s s3 := .update h2 rfl
  have h4 : Kept s s4 := .sets h3
  have h5 : Kept s s5 := .releaseLock (.hutVhReset h4)
  exact .ite (.set h5) h5
theorem Kept.vhReset {v prst} (h : Kept s t) : Kept s (t.vhReset v prst) := by
  unfold State.vhReset
  extract_lets _ s1 s2 _ s3 s4
  have h1 : Kept s s1 := .update h rfl
  have h2 : Kept s s2 := .raise (.count h1)
  have h3 : Kept s s3 :=
    .foldl h2 fun _ _ h => .ite (.assertPrst (.hotReset (.ite (.foldl h fun _ _ h => .forceDetach h) h))) (.hotReset (.ite
      (.foldl h fun _ _ h => .forceDetach h) h))
  have h4 : Kept s s4 := .ite h3 (.foldl h3 fun _ _ h => .startFlr h)
  exact .bindState (.vhDomain h4)
theorem Kept.cmdDone {op target idx} (h : Kept s t) : Kept s (t.cmdDone op target idx) := .ite (.set (.update h rfl)) h
theorem Kept.containPort {p ca} (h : Kept s t) : Kept s (t.containPort p ca) := by
  unfold State.containPort
  refine .ite ?_ ?_
  · exact h
  · extract_lets _ s1 s2
    have h1 : Kept s s1 := .setPort h
    have h2 : Kept s s2 := .raise (.closePort h1)
    exact .ite (.setLink (.clearLink (.discardLL h2))) (.devLinkLost (.takeDown (.clearResPort h2)))
theorem Kept.containVh {v ca} (h : Kept s t) : Kept s (t.containVh v ca) := by
  unfold State.containVh
  refine .ite ?_ ?_
  · exact h
  · extract_lets _ s1 _ s2 s3 s4 _ s5
    have h1 : Kept s s1 := .update h rfl
    have h2 : Kept s s2 := .foldl h1 fun _ _ h => .closePort (.setPort h)
    have h3 : Kept s s3 := .foldl h2 fun _ _ h => .holdVf h
    have h4 : Kept s s4 := .releaseLock (.clearRes h3)
    have h5 : Kept s s5 := .foldl (.hutHeldSts (.setVctl h4)) fun _ _ h => .hutResolve h
    exact .raise h5
theorem Kept.containVf {i} (h : Kept s t) : Kept s (t.containVf i) := .ite h (.raise (.holdVf (.update h rfl)))
theorem Kept.containTarget {k i ca} (h : Kept s t) : Kept s (t.containTarget k i ca) :=
  .ite (.containPort h) (.ite (.containVh h) (.containVf h))
theorem Kept.dpcTrig {v d reason} (h : Kept s t) : Kept s (t.dpcTrig v d reason) := by
  unfold State.dpcTrig
  extract_lets _ _ _ s1 _ _ s2 s3 s4
  have h1 : ∀ v0, Kept s v0 → Kept s (s1 v0) := fun _ hv => .raise hv
  have h2 : Kept s s2 := h1 _ (.closePort h)
  have h3 : Kept s s3 := .takeDown (.dpcStatus (.clearResPort h2))
  have h4 : Kept s s4 := .ite (.dllsc h3) h3
  exact .ite (.ite (h1 _ (.dpcVf h)) h) (.ite h (.ite (.containTenants h4) h4))
theorem Kept.dropAll (h : Kept s t) : Kept s t.dropAll := by
  unfold State.dropAll
  extract_lets s1 s2
  have h1 : Kept s s1 := .foldl h fun _ _ h => .refreshQueues (.endTrain (.fenceLose h))
  have h2 : Kept s s2 := .foldl h1 fun _ _ h => .fenceLose h
  exact .drainGen (.ortSts (.update h2 rfl))
theorem Kept.enterSafe {code} (h : Kept s t) : Kept s (t.enterSafe code) := by
  unfold State.enterSafe
  refine .ite ?_ ?_
  · exact h
  · extract_lets s1 _ s2 _ _ s3 s4
    have h1 : Kept s s1 := .sets h
    have h2 : Kept s s2 := .update h1 rfl
    have h3 : Kept s s3 := .dropAll h2
    have h4 : Kept s s4 :=
      .foldl h3 fun _ _ h => .ite (.setLink (.clearLink (.closePort (.discardLL h)))) (.ite (.devLinkLost (.takeDown (.closePort
        (.setPrst h)))) (.ite (.closePort h) h))
    exact .log h4
theorem Kept.settle {n} (h : Kept s t) : Kept s (t.settle n) := by
  induction n generalizing t with
  | zero => exact h
  | succ n ih =>
    unfold State.settle
    split
    · exact ih (.enterSafe (.update h rfl))
    · split
      · exact ih (.containTarget (.update h rfl))
      · split
        · exact ih (.dpcTrig (.update h rfl))
        · exact h

/-! ### Buffer -/

theorem Kept.refreshBuf (h : Kept s t) : Kept s t.refreshBuf :=
  .foldl (.foldl (.sets h) fun _ _ h => .ite (.sets h) (.sets h)) fun _ _ h => .sets h
theorem Kept.advertise {p} (h : Kept s t) : Kept s (t.advertise p) := .refreshBuf (.foldl h fun _ _ h => .update h rfl)
theorem Kept.bootLimits {p} (h : Kept s t) : Kept s (t.bootLimits p) := .sets (.foldl h fun _ _ h => .sets h)
theorem Kept.sharePool {l} (h : Kept s t) : Kept s (t.sharePool l) := by
  induction l generalizing t with
  | nil => exact h
  | cons x rest ih => exact .ite (ih (.moveAcct h)) h
theorem Kept.shareMove {p} (h : Kept s t) : Kept s (t.shareMove p) := .foldl h fun _ _ h => .sharePool h
theorem Kept.repairEnter {kind cause inst loc} (h : Kept s t) : Kept s (t.repairEnter kind cause inst loc) :=
  .ite (.set h) (.update (.sets h) rfl)
theorem Kept.retireNext {n} (h : Kept s t) : Kept s (t.retireNext n) := by
  induction n generalizing t with
  | zero => exact h
  | succ n ih =>
    unfold State.retireNext
    split
    · exact h
    · exact .ite h (ih (.retireBank (.update h rfl)))
theorem Kept.bankCopied {n bad} (h : Kept s t) : Kept s (t.bankCopied n bad) := by
  unfold State.bankCopied
  split
  · exact h
  · exact .ite h (.update (.sets h) rfl)
theorem Kept.bankSwitched {ticks} (h : Kept s t) : Kept s (t.bankSwitched ticks) := by
  unfold State.bankSwitched
  split
  · exact .ite (.retireNext (.raise (.addSat (.sets (.repairEnter (.update h rfl)))))) h
  · exact h
theorem Kept.bankGone {b cause} (h : Kept s t) : Kept s (t.bankGone b cause) := by
  unfold State.bankGone
  extract_lets _ s1 s2 s3 s4
  have h1 : Kept s s1 := .update h rfl
  have h2 : Kept s s2 := .repairEnter h1
  have h3 : Kept s s3 := .refreshBuf (.addSat (.subF (.set h2)))
  have h4 : Kept s s4 := .raise h3
  exact .ite (.raise h4) h4
theorem Kept.bankDrained (h : Kept s t) : Kept s t.bankDrained := .foldl h fun _ _ h => .bankGone h
theorem Kept.wrBankCfg {v} (h : Kept s t) : Kept s (t.wrBankCfg v) := .ite (.retireBank (.writePlain h)) (.writePlain h)
theorem Kept.censusWalk (h : Kept s t) : Kept s t.censusWalk := .ite h (.ite (.turnedAway h) (.spend (.update h rfl)))
theorem Kept.censusStart (h : Kept s t) : Kept s t.censusStart := .censusWalk (.set (.update h rfl))
theorem Kept.wrCensusCfg {v} (h : Kept s t) : Kept s (t.wrCensusCfg v) := .ite (.censusStart (.writePlain h)) (.writePlain h)
theorem Kept.reclaim {a} (h : Kept s t) : Kept s (t.reclaim a) := by
  unfold State.reclaim
  split
  · exact .returnCredits (.subF h)
  · exact .subF (.subF (.subF h))
  · exact .subF h
  · exact .subF h
theorem Kept.censusEnd {f} (h : Kept s t) : Kept s (t.censusEnd f) := by
  unfold State.censusEnd
  refine .ite ?_ ?_
  · exact h
  · extract_lets _ _ _ s1 s2 s3 s4 s5 cars s6 _ evs s7
    have h1 : Kept s s1 := .update h rfl
    have h2 : Kept s s2 := .foldl h1 fun _ _ h => .ite h (.putTrain h)
    have h3 : Kept s s3 := .foldl h2 fun _ _ h => .reclaim h
    have h4 : Kept s s4 := .addSat (.set h3)
    have h5 : Kept s s5 := .addSat (.addSat h4)
    have h6 : Kept s s6 := by
      unfold s6
      clear_value cars
      split
      · exact .set h5
      · exact h5
    have h7 : Kept s s7 := by
      unfold s7
      clear_value evs
      split
      · exact h6
      · exact .foldl (.raise h6) fun _ _ h => .countEvent h
    exact .ite (.censusStart h7) h7

/-! ### Ports -/

theorem Kept.setBase {i} (h : Kept s t) : Kept s (t.setBase i) := .update h rfl
theorem Kept.rebase {p} (h : Kept s t) : Kept s (t.rebase p) :=
  .foldl (.foldl h fun _ _ h => .setBase h) fun _ _ h => .foldl h fun _ _ h => .setBase h
theorem Kept.owning {ports} {f : State → State} (h : Kept s t) (hf : ∀ u, Kept s u → Kept s (f u)) : Kept s (t.owning ports f) :=
  .foldl (hf _ h) fun _ _ h => .ite h (.rebase h)
theorem Kept.ptmAsk (h : Kept s t) : Kept s t.ptmAsk := .ite h (.pushMsg h)
theorem Kept.ptmBegin {p} (h : Kept s t) : Kept s (t.ptmBegin p) := .ite (.ptmAsk h) h
theorem Kept.wrBifurc {st v} (h : Kept s t) : Kept s (t.wrBifurc st v) := .ite (.set h) (.refreshBuf (.sets h))
theorem Kept.leaveRole {p} (h : Kept s t) : Kept s (t.leaveRole p) := by
  unfold State.leaveRole
  refine .ite ?_ ?_
  · extract_lets _ _ s1 s2
    have h1 : Kept s s1 := .takeDown (.setPort h)
    have h2 : Kept s s2 := .ite (.raise h1) h1
    split
    · exact .ite (.vhReset h2) h2
    · exact h2
  · refine .ite ?_ ?_
    · exact .setPort (.ite (.devLinkLost (.takeDown (.setPrst h))) (.takeDown (.setPrst h)))
    · exact .ite (.clearLink (.fabOff h)) h
theorem Kept.enterRole {p} (h : Kept s t) : Kept s (t.enterRole p) := by
  unfold State.enterRole
  extract_lets s1 _ _ s2 s3 s4
  have h1 : Kept s s1 := .foldl h fun _ _ h => .laneIdle (.clearTests h)
  have h2 : Kept s s2 := .setPrst h1
  have h3 : Kept s s3 := by
    unfold s3
    refine .ite ?_ ?_
    · exact .setPrst h1
    · refine .ite ?_ ?_
      · split
        · exact .toDrain h2
        · exact h2
      · exact h2
  have h4 : Kept s s4 := .ite h3 (.closePort h3)
  exact .startTrain h4
theorem Kept.wrPortRole {p v} (h : Kept s t) : Kept s (t.wrPortRole p v) := by
  unfold State.wrPortRole
  extract_lets
  refine .ite ?_ ?_
  · exact .sets h
  · refine .owning h fun _ h1 => ?_
    extract_lets s2 s3 s4 _ s5
    have h2 : Kept s s2 := .ite (.leaveRole h1) h1
    have h3 : Kept s s3 := .sets h2
    have h4 : Kept s s4 := .sets h3
    have h5 : Kept s s5 := .set (.setPort h4)
    exact .ite (.ite h3 (.ptmBegin h3)) (.ite (.foldl (.setLink h5) fun _ _ h => .testLane h) (.enterRole h5))
theorem Kept.laneWake {n rate} (h : Kept s t) : Kept s (t.laneWake n rate) := .setLaneState (.setLane (.sets h))
theorem Kept.wakeLanes {p w} (h : Kept s t) : Kept s (t.wakeLanes p w) :=
  .foldl h fun _ _ h => .ite (.ite (.sendTrain (.laneWake h)) (.laneWake h)) h
theorem Kept.alignLanes {l} (h : Kept s t) : Kept s (t.alignLanes l) := .foldl h fun _ _ h => .setLane h
theorem Kept.applyWidth {p w} (h : Kept s t) : Kept s (t.applyWidth p w) := .count (.set (.foldl h fun _ _ h => .setLane (.laneIdle h)))
theorem Kept.startWidth {p w} (h : Kept s t) : Kept s (t.startWidth p w) :=
  .ite (.wakeLanes (.setPort (.sets h))) (.emit (.wakeLanes (.setPort (.sets h))))
theorem Kept.goWidth {p} (h : Kept s t) : Kept s (t.goWidth p) :=
  .ite h (.ite (.set h) (.ite (.ite (.set h) (.set (.setPort h))) (.startWidth (.setPort h))))
theorem Kept.capLift {p} (h : Kept s t) : Kept s (t.capLift p) := .set (.setPort h)
theorem Kept.goRetrain {p} (h : Kept s t) : Kept s (t.goRetrain p) := by
  unfold State.goRetrain
  extract_lets
  refine .ite ?_ ?_
  · exact h
  · refine .ite ?_ ?_
    · exact .ite (.retrain (.sendRetrainReq (.capLift h))) (.ite (.startTrain (.capLift h)) h)
    · exact .ite (.retrain (.emit (.capLift h))) h
theorem Kept.disable {p} (h : Kept s t) : Kept s (t.disable p) := by
  unfold State.disable
  extract_lets _ s1 s2 s3
  have h1 : Kept s s1 := .takeDown h
  have h2 : Kept s s2 := .ite (.raise h1) h1
  have h3 : Kept s s3 := .takeDown h
  refine .ite ?_ ?_
  · split
    · exact .ite (.vhReset h2) h2
    · exact h2
  · exact .ite (.ite (.devLinkLost h3) h3) (.ite (.setLink (.clearLink (.fabOff h))) h)
theorem Kept.wrLinkCtl {p v} (h : Kept s t) : Kept s (t.wrLinkCtl p v) := by
  unfold State.wrLinkCtl
  extract_lets _ _ s1 s2 _ s3 s4 _ s5 s6 s7
  have h1 : Kept s s1 := .sets h
  have h2 : Kept s s2 := .ite (.disable h1) (.ite (.startTrain h1) h1)
  have h3 : Kept s s3 := .assertPrst h2
  have h4 : Kept s s4 := .ite (.ite (.devLinkLost h3) h3) h2
  have h5 : Kept s s5 := .hotReset h4
  have h6 : Kept s s6 := .ite (.devLinkLost h5) h5
  have h7 : Kept s s7 := .goRetrain h4
  refine .ite ?_ ?_
  · exact .ite (.set h4) h4
  · exact .ite (.ite (.set h6) h6) (.ite (.ite (.set h7) h7) (.ite (.goWidth h4) h4))
theorem Kept.acquire {lanes rate} (h : Kept s t) : Kept s (t.acquire lanes rate) :=
  .foldl h fun _ _ h => .ite h (.ite (.laneWake h) (.laneStart h))
theorem Kept.trainFail {p reason} (h : Kept s t) : Kept s (t.trainFail p reason) := by
  unfold State.trainFail
  exact .raise (.setLink (.set (.clearLink (.discardLL h))))
theorem Kept.ropeCheck {p m} (h : Kept s t) : Kept s (t.ropeCheck p m) := by
  unfold State.ropeCheck
  split
  · exact h
  · exact .ite (.ite (.set h) h) (.ite h (.raise (.resendLost (.set h))))
theorem Kept.gotParam {p m} (h : Kept s t) : Kept s (t.gotParam p m) := by
  unfold State.gotParam
  extract_lets _ s1 _ s2
  have h1 : Kept s s1 := .set h
  have h2 : Kept s s2 := .set (.ropeCheck h1)
  refine .ite ?_ ?_
  · exact .trainFail h1
  · refine .ite ?_ ?_
    · exact .trainFail h1
    · exact .ite (.trainFail h1) (.ite (.trainFail h1) (.ite h2 (.acquire (.setLink h2))))
theorem Kept.sendAlign {l} (h : Kept s t) : Kept s (t.sendAlign l) := .foldl h fun _ _ h => .sendTrain h
theorem Kept.eqSettled {p} (h : Kept s t) : Kept s (t.eqSettled p) := by
  unfold State.eqSettled
  extract_lets _ _ _ _ s1 _ s2 s3
  have h1 : Kept s s1 := .ite (.set h) h
  have h2 : Kept s s2 := .setLink (.setPort h1)
  have h3 : Kept s s3 := .foldl h2 fun _ _ h => .ite (.sendTrain h) h
  refine .ite ?_ ?_
  · exact h
  · split
    · exact .gotParam h3
    · exact h3
theorem Kept.paramRx {p m} (h : Kept s t) : Kept s (t.paramRx p m) := .ite h (.ite (.gotParam (.setPort h)) (.setPort h))
theorem Kept.surprise {p} (h : Kept s t) : Kept s (t.surprise p) := by
  unfold State.surprise
  refine .ite ?_ ?_
  · exact h
  · extract_lets _ s1 s2 _ s3 s4 _ s5
    have h1 : Kept s s1 := .setPort h
    have h2 : Kept s s2 := .raise h1
    have h3 : Kept s s3 := .closePort h2
    have h4 : Kept s s4 := .ite (.set h3) h3
    have h5 : Kept s s5 := .assertPrst (.setPrst h4)
    split
    · exact .ite (.containTenants (.dllsc (.setPresence h5))) (.dllsc (.setPresence h5))
    · exact h5
theorem Kept.devLinkDown {p} (h : Kept s t) : Kept s (t.devLinkDown p) := .devLinkLost (.raise (.setPort h))
theorem Kept.dlDown {p} (h : Kept s t) : Kept s (t.dlDown p) := by
  unfold State.dlDown
  refine .ite ?_ ?_
  · exact h
  · refine .ite ?_ ?_
    · extract_lets s1 s2
      have h1 : Kept s s1 := .takeDown h
      have h2 : Kept s s2 := .raise h1
      split
      · exact .vhReset h2
      · exact h2
    · exact .ite (.setPort (.takeDown h)) h
theorem Kept.resetSeqs {p} (h : Kept s t) : Kept s (t.resetSeqs p) := .update h rfl
theorem Kept.pcieInit {p scaled} (h : Kept s t) : Kept s (t.pcieInit p scaled) :=
  .foldl (.advertise (.staleCredits (.setPort (.resetSeqs h)))) fun _ _ h => .emit (.setDll h)
theorem Kept.reachL0 {p t'} (h : Kept s t) : Kept s (t.reachL0 p t') := by
  unfold State.reachL0
  split
  extract_lets _ _ _ s1 s2 s3 s4 s5 s6 s7 s8
  have h1 : Kept s s1 := .sets h
  have h2 : Kept s s2 := .ite (.set (.capLift h1)) h1
  have h3 : Kept s s3 := .foldl h2 fun _ _ h => .set h
  have h4 : Kept s s4 := .foldl h3 fun _ _ h => .ite h (.laneIdle h)
  have h5 : Kept s s5 := .setLink h4
  have h6 : Kept s s6 := .ite h5 (.pcieInit h5)
  have h7 : Kept s s7 := .openPort h6
  have h8 : Kept s s8 := .ite h7 (.ptmBegin h7)
  exact .ite (.raise h8) h8
theorem Kept.idleLanes {l} (h : Kept s t) : Kept s (t.idleLanes l) := .foldl h fun _ _ h => .laneIdle h
theorem Kept.loopback {p} (h : Kept s t) : Kept s (t.loopback p) := .follow (.foldl (.setLink (.dlDown h)) fun _ _ h => .laneWake h)
theorem Kept.trainStep {p t'} (h : Kept s t) : Kept s (t.trainStep p t') := by
  unfold State.trainStep
  extract_lets _ _ _ s1
  have h1 : Kept s s1 := .setLink (.idleLanes h)
  refine .ite ?_ ?_
  · exact h
  · refine .ite ?_ ?_
    · refine .ite ?_ ?_
      · exact .wakeLanes (.setLink h)
      · refine .ite ?_ ?_
        · exact .ite (.acquire (.setLink h)) h
        · exact .ite (.ite (.reachL0 h) h) (.ite (.ite (.setPort h1) h) (.ite (.ite (.loopback h) h) h))
    · refine .ite ?_ ?_
      · exact .setLink (.idleLanes h)
      · refine .ite ?_ ?_
        · exact .setLink h
        · refine .ite ?_ ?_
          · exact .acquire (.setLink h)
          · exact .ite (.ite (.acquire (.setLink h)) h) (.ite (.follow (.setLink h)) (.ite (.ite (.reachL0 h) h) h))

/-! ### Hll -/

theorem Kept.showAvail {p v} (h : Kept s t) : Kept s (t.showAvail p v) := .sets h
theorem Kept.showBelay {p} (h : Kept s t) : Kept s (t.showBelay p) := .set h
theorem Kept.giveBack {p v h'} (h : Kept s t) : Kept s (t.giveBack p v h') := .ite h (.returnCredits h)
theorem Kept.hllInit {p} (h : Kept s t) : Kept s (t.hllInit p) := .advertise (.staleCredits (.sets (.setHll (.clearHll h))))
theorem Kept.hllStart {p} (h : Kept s t) : Kept s (t.hllStart p) := .ite (.sets (.setHll h)) (.hllInit h)
theorem Kept.seedScramblers {p} (h : Kept s t) : Kept s (t.seedScramblers p) := .setHll h
theorem Kept.hllUp {p} (h : Kept s t) : Kept s (t.hllUp p) := by
  unfold State.hllUp
  extract_lets _ s1 s2
  have h1 : Kept s s1 := .sets (.setHll h)
  have h2 : Kept s s2 := .openPort h1
  split
  · exact h2
  · exact .ite (.set (.setRope h2)) (.set (.setRope h2))
theorem Kept.linkError {p why} (h : Kept s t) : Kept s (t.linkError p why) := .ite h (.retrain (.raise h))
theorem Kept.protoError {p fault} (h : Kept s t) : Kept s (t.protoError p fault) := .ite (.retrain (.raise h)) (.raise h)
theorem Kept.startReplay {p} (h : Kept s t) : Kept s (t.startReplay p) := by
  unfold State.startReplay
  extract_lets
  split
  · exact h
  · exact .ite (.linkError (.set (.setHll h))) (.count (.setHll (.set (.setHll h))))
theorem Kept.ackRx {p a} (h : Kept s t) : Kept s (t.ackRx p a) := by
  unfold State.ackRx
  extract_lets _ _ _ _ s1 s2 s3
  have h1 : Kept s s1 := .setHll h
  have h2 : Kept s s2 := .showBelay (.set h1)
  have h3 : Kept s s3 := .ite h2 (.foldl h2 fun _ _ h => .cairnStage h)
  exact .ite h (.foldl h3 fun _ _ h => .coverTrain h)
theorem Kept.nakRx {p a} (h : Kept s t) : Kept s (t.nakRx p a) := .ite (.ackRx h) (.startReplay (.ackRx h))
theorem Kept.needNak {p} (h : Kept s t) : Kept s (t.needNak p) := .ite h (.set (.setHll h))
theorem Kept.creditRx {p v h' d} (h : Kept s t) : Kept s (t.creditRx p v h' d) :=
  .ite h (.showAvail (.foldl (.setHll h) fun _ _ h => .coverTrain h))
theorem Kept.initCheck {p} (h : Kept s t) : Kept s (t.initCheck p) := .ite (.hllUp h) h
theorem Kept.initCredit {p v h' d} (h : Kept s t) : Kept s (t.initCredit p v h' d) :=
  .ite (.setHll h) (.ite h (.initCheck (.showAvail (.setHll (.sets h)))))
theorem Kept.initDone {p got resume} (h : Kept s t) : Kept s (t.initDone p got resume) := by
  unfold State.initDone
  extract_lets _ _ s1 _ s2
  have h1 : Kept s s1 := .set (.hllUp h)
  have h2 : Kept s s2 := .setHll h1
  refine .ite ?_ ?_
  · exact .setHll h
  · refine .ite ?_ ?_
    · exact h
    · exact .ite (.ite (.ite h2 (.count h2)) (.hllInit (.discardLL h))) (.ite (.initCheck (.setHll h)) h)
theorem Kept.initTimeout {p} (h : Kept s t) : Kept s (t.initTimeout p) := .ite h (.ite (.retrain (.discardLL h)) (.discardLL h))
theorem Kept.widthReq {p tok w} (h : Kept s t) : Kept s (t.widthReq p tok w) := by
  unfold State.widthReq
  extract_lets _ _ s1 _ _ s2
  have h1 : Kept s s1 := .ite (.set h) h
  have h2 : Kept s s2 := .setPort h1
  exact .ite h (.ite (.ite (.set (.setPort h1)) (.setPort h1)) (.wakeLanes (.set h2)))
theorem Kept.widthAck {p tok accept} (h : Kept s t) : Kept s (t.widthAck p tok accept) :=
  .ite h (.ite (.ite (.sets (.setPort h)) h) (.ite h (.ite (.setPort h) (.setPort h))))
theorem Kept.widthSwitch {p tok left} (h : Kept s t) : Kept s (t.widthSwitch p tok left) := .ite h (.setPort h)
theorem Kept.rxCount {p} (h : Kept s t) : Kept s (t.rxCount p) := by
  unfold State.rxCount
  extract_lets
  split
  · exact .setPort h
  · exact .setPort h
  · exact h
theorem Kept.retrainReq {p} (h : Kept s t) : Kept s (t.retrainReq p) := .ite (.retrain h) h
theorem Kept.ropeHold {m p v} (h : Kept s t) : Kept s (t.ropeHold m p v) := .ite h (.setRope h)
theorem Kept.ropeStart {m p v resend} (h : Kept s t) : Kept s (t.ropeStart m p v resend) := by
  unfold State.ropeStart
  extract_lets _ _ _ s1 s2
  have h1 : Kept s s1 := .ite h (.setHll (.setRope h))
  have h2 : Kept s s2 := .setRope h
  exact .ite (.ite h1 (.ropeHold h1)) (.ite (.ropeHold h2) h2)
theorem Kept.packetRx {p part abort} (h : Kept s t) : Kept s (t.packetRx p part abort) := by
  unfold State.packetRx
  extract_lets _ _ rope
  refine .ite ?_ ?_
  · exact .raise (.count (.giveBack h))
  · split
    split
    extract_lets _ s1
    have h1 : Kept s s1 := by
      unfold s1
      clear_value rope
      split
      · exact .ite h (.setRope h)
      · exact h
    refine .ite ?_ ?_
    · exact .raise (.count (.giveBack h1))
    · exact .ite (.raise (.giveBack h1)) (.ite (.protoError (.raise h1)) (.noteFull (.inject h1)))
theorem Kept.segRx {p x} (h : Kept s t) : Kept s (t.segRx p x) := by
  unfold State.segRx
  extract_lets s1
  have h1 : Kept s s1 := by
    unfold s1
    split
    · exact .ite (.ropeStart h) h
    · exact h
  exact .ite (.packetRx (.setHll h1)) (.setHll h1)
theorem Kept.acceptFlit {p fsn segs} (h : Kept s t) : Kept s (t.acceptFlit p fsn segs) := .foldl (.sets (.setHll h)) fun _ _ h => .segRx h
theorem Kept.seqRx {p type fsn l} (h : Kept s t) : Kept s (t.seqRx p type fsn l) := by
  unfold State.seqRx
  extract_lets
  refine .ite ?_ ?_
  · exact .ite (.set h) (.needNak h)
  · refine .ite ?_ ?_
    · refine .ite ?_ ?_
      · exact h
      · split
        · exact .protoError h
        · exact .ite (.acceptFlit h) (.protoError h)
    · exact .ite (.needNak h) h
theorem Kept.cmdRx {p c} (h : Kept s t) : Kept s (t.cmdRx p c) := by
  unfold State.cmdRx
  extract_lets s1 s2
  have h1 : Kept s s1 := .ite (.nakRx h) (.ackRx h)
  have h2 : Kept s s2 := .set h1
  refine .ite ?_ ?_
  · exact h2
  · refine .ite ?_ ?_
    · exact .creditRx h2
    · refine .ite ?_ ?_
      · exact .initCredit h2
      · refine .ite ?_ ?_
        · exact .initDone h2
        · refine .ite ?_ ?_
          · exact .widthReq h2
          · exact .ite (.widthAck h2) (.ite (.widthSwitch h2) (.ite (.retrainReq h2) (.protoError h2)))
theorem Kept.badFlit {p} (h : Kept s t) : Kept s (t.badFlit p) := .ite (.linkError (.setHll h)) (.setHll h)
theorem Kept.crcFail {p} (h : Kept s t) : Kept s (t.crcFail p) := .ite (.raise (.count h)) (.needNak (.raise (.count h)))
theorem Kept.fecFixed {p} (h : Kept s t) : Kept s (t.fecFixed p) := .raise (.count h)
theorem Kept.trainRx {p lane raw} (h : Kept s t) : Kept s (t.trainRx p lane raw) := by
  unfold State.trainRx
  extract_lets
  refine .ite ?_ ?_
  · exact h
  · refine .ite ?_ ?_
    · exact .setHll h
    · refine .ite ?_ ?_
      · exact h
      · split
        extract_lets s1
        have h1 : Kept s s1 := .setHll h
        split
        · exact .crcFail h1
        · extract_lets s2
          have h2 : Kept s s2 := .ite (.fecFixed h1) h1
          split
          · exact .ite h2 (.protoError h2)
          · extract_lets
            refine .ite ?_ ?_
            · split
              · exact .eqRx h2
              · exact h2
            · exact .ite (.paramRx h2) h2
theorem Kept.flitRx {p raw} (h : Kept s t) : Kept s (t.flitRx p raw) := by
  unfold State.flitRx
  extract_lets _ s1
  have h1 : ∀ v0, Kept s v0 → Kept s (s1 v0) := fun _ hv => .badFlit (.crcFail hv)
  split
  extract_lets s2 s3
  have h2 : Kept s s2 := .setHll h
  have h3 : Kept s s3 := by
    unfold s3
    split
    · exact h1 _ h2
    · extract_lets s4 _ _ _ s5
      have h4 : Kept s s4 := .ite (.fecFixed h2) h2
      have h5 : Kept s s5 := .cmdRx (.setHll h4)
      exact .ite (h1 _ h4) (.ite h4 (.ite (.protoError h4) (.ite (.seqRx h5) h5)))
  exact .rxCount h3
theorem Kept.plainCmd {p} (h : Kept s t) : Kept s (t.plainCmd p).2 :=
  .iteSnd (.setHll h) (.iteSnd (.setHll h) (.iteSnd (.setHll h) (.iteSnd (.setHll h) (.setHll h))))
theorem Kept.nextCmd {p} (h : Kept s t) : Kept s (t.nextCmd p).2 := by
  unfold State.nextCmd
  extract_lets
  split
  · exact .iteSnd (.plainCmd h) (.setPort h)
  · exact .iteSnd (.plainCmd h) (.setPort h)
  · exact .iteSnd (.setPort h) (.plainCmd h)
theorem Kept.putFlit {p b} (h : Kept s t) : Kept s (t.putFlit p b) := .sealFlit (.nextCmd (.mgtOff h))
theorem Kept.putNull {p} (h : Kept s t) : Kept s (t.putNull p) := .putFlit h
theorem Kept.putReplay {p} (h : Kept s t)  (e : t.putReplay p = some u) : Kept s u := by
  unfold State.putReplay at e
  extract_lets at e
  split at e
  · cases e
  · split at e
    · cases e
    · cases e
      exact .putFlit (.count (.setHll h))
theorem Kept.putSeq {p segs} (h : Kept s t) : Kept s (t.putSeq p segs) := by
  unfold State.putSeq
  exact .putFlit (.showBelay (.set (.setHll h)))
theorem Kept.wrRopePair {m v} (h : Kept s t) : Kept s (t.wrRopePair m v) := .ite (.set h) (.setRope (.sets h))
theorem Kept.ropeRelease {m v} (h : Kept s t) : Kept s (t.ropeRelease m v) := .setRope h

/-! ### Windows -/

theorem Kept.setWays {set x} (h : Kept s t) : Kept s (t.setWays set x) := .update h rfl
theorem Kept.cacheHit {i l} (h : Kept s t)  (e : t.cacheHit i = some (l, u)) : Kept s u := by
  unfold State.cacheHit at e
  split at e
  split at e
  · split at e
    · cases e
      exact .setWays h
    · cases e
  · cases e
theorem Kept.cachePut {i w} (h : Kept s t) : Kept s (t.cachePut i w) := .setWays h
theorem Kept.cacheForget {i} (h : Kept s t) : Kept s (t.cacheForget i) := .setWays h
theorem Kept.cacheInval {which} (h : Kept s t) : Kept s (t.cacheInval which) := .update h rfl
theorem Kept.missSts (h : Kept s t) : Kept s t.missSts := .set h
theorem Kept.invAll (h : Kept s t) : Kept s t.invAll := .set (.update (.cacheInval h) rfl)
theorem Kept.invDone (h : Kept s t) : Kept s t.invDone := .ite (.set (.update h rfl)) h
theorem Kept.wrTcCtl {v} (h : Kept s t) : Kept s (t.wrTcCtl v) := .ite (.invAll (.set h)) (.set h)
theorem Kept.winDiscard (h : Kept s t) : Kept s t.winDiscard := .sets (.update h rfl)
theorem Kept.wrWinUpdate {v} (h : Kept s t) : Kept s (t.wrWinUpdate v) := .ite h (.ite (.winDiscard h) (.ite (.set h) (.update h rfl)))
theorem Kept.winResult {r f} (h : Kept s t) : Kept s (t.winResult r f) := .sets h
theorem Kept.winChecking {go r f} (h : Kept s t) : Kept s (t.winChecking go r f) := .set (.update h rfl)
theorem Kept.winGo (h : Kept s t) : Kept s t.winGo := by
  unfold State.winGo
  refine .ite ?_ ?_
  · exact .sets h
  · extract_lets s1
    have h1 : Kept s s1 := .set h
    split
    · exact .winChecking h1
    · exact .winChecking (.update h1 rfl)
theorem Kept.winCheckCmd (h : Kept s t) : Kept s t.winCheckCmd := by
  unfold State.winCheckCmd
  refine .ite ?_ ?_
  · exact .set h
  · split
    · exact .winChecking h
    · exact .winChecking h
theorem Kept.winChecked (h : Kept s t) : Kept s t.winChecked := by
  unfold State.winChecked
  split
  · exact h
  · extract_lets _ _ s1
    have h1 : Kept s s1 := .set (.update h rfl)
    exact .ite h1 (.ite (.winResult h1) (.sets (.winResult h1)))
theorem Kept.wrWinCommit {v} (h : Kept s t) : Kept s (t.wrWinCommit v) := .ite (.winCheckCmd h) (.ite (.winGo h) h)
theorem Kept.winApply (h : Kept s t) : Kept s t.winApply := by
  unfold State.winApply
  extract_lets s1 _ _ _ s2 _ s3 _ s4 _ _ _ _ s5 _ s6 _ _ s7 s8
  have h1 : Kept s s1 := .winChecked h
  have h2 : Kept s s2 := .update h1 rfl
  have h3 : Kept s s3 := .update h2 rfl
  have h4 : Kept s s4 := .ite h3 (.sets h3)
  have h5 : Kept s s5 := .cacheInval h4
  have h6 : Kept s s6 := .update h5 rfl
  have h7 : Kept s s7 := .update h6 rfl
  have h8 : Kept s s8 := .sets (.winResult h7)
  exact .ite h1 (.drainGen (.count h8))
theorem Kept.overlayDone (h : Kept s t) : Kept s t.overlayDone := .ite h (.set (.update h rfl))
theorem Kept.winWriteback (h : Kept s t) : Kept s t.winWriteback := .ite h (.ite (.overlayDone h) (.budgeted h (fun _ h => .overlayDone h)))
theorem Kept.checkOvl {v fn dw ranges} (h : Kept s t) : Kept s (t.checkOvl v fn dw ranges) := by
  unfold State.checkOvl
  split
  · exact .raise (.set h)
  · exact h

/-! ### Context -/

theorem Kept.setCtx {i w} (h : Kept s t) : Kept s (t.setCtx i w) := .update h rfl
theorem Kept.ctxCount {i adds} (h : Kept s t) : Kept s (t.ctxCount i adds) := .setCtx h
theorem Kept.ctxCountReq {i t'} (h : Kept s t) : Kept s (t.ctxCountReq i t') := .ite (.ctxCount h) (.ite (.ctxCount h) (.ctxCount h))
theorem Kept.ctxCache {i} (h : Kept s t) : Kept s (t.ctxCache i) := .update h rfl
theorem Kept.ctxUse (h : Kept s t) : Kept s t.ctxUse := .set h
theorem Kept.ctxRun (h : Kept s t) : Kept s t.ctxRun := by
  unfold State.ctxRun
  extract_lets _ _ _ s1 s2
  have h1 : ∀ v0 v1, Kept s v0 → Kept s (s1 v0 v1) := fun _ _ hv => .set hv
  have h2 : ∀ v0 v1, Kept s v0 → Kept s (s2 v0 v1) := fun _ _ hv => .update hv rfl
  refine .ite ?_ ?_
  · exact .ite (h1 _ _ (.raise h)) (h1 _ _ (.sets h))
  · refine .ite ?_ ?_
    · exact .ite (h1 _ _ h) (h1 _ _ (h2 _ _ (.setCtx h)))
    · refine .ite ?_ ?_
      · refine .ite ?_ ?_
        · exact h1 _ _ h
        · refine .ite ?_ ?_
          · exact h1 _ _ h
          · split
            · exact h1 _ _ (.set (.ctxUse (h2 _ _ (.setCtx h))))
            · exact h1 _ _ h
      · refine .ite ?_ ?_
        · exact .ite (h1 _ _ (.ctxUse (h2 _ _ (.setCtx h)))) (h1 _ _ h)
        · refine .ite ?_ ?_
          · split
            · exact h1 _ _ (.set h)
            · exact h1 _ _ h
          · exact h
theorem Kept.ctxPaid (h : Kept s t) : Kept s t.ctxPaid := .ctxRun (.update h rfl)
theorem Kept.ctxGo (h : Kept s t) : Kept s t.ctxGo := .ite (.ctxPaid (.spend h)) (.set (.update (.defer h) rfl))
theorem Kept.wrCtxAccess {v} (h : Kept s t) : Kept s (t.wrCtxAccess v) := .ite h (.ite (.ctxGo (.sets h)) (.sets h))
theorem Kept.linesPend (h : Kept s t) : Kept s t.linesPend := .set h
theorem Kept.issueRead (h : Kept s t) : Kept s t.issueRead := .update h rfl
theorem Kept.wbAsk {ks} (h : Kept s t) : Kept s (t.wbAsk ks) := .update h rfl
theorem Kept.dlMark {v i m} (h : Kept s t) : Kept s (t.dlMark v i m) := .ctxCount (.count (.update h rfl))
theorem Kept.dlWriteback {k bad} (h : Kept s t) : Kept s (t.dlWriteback k bad) := by
  unfold State.dlWriteback
  split
  · exact h
  · extract_lets _ s1 s2 _ _ s3
    have h1 : Kept s s1 := .wbAsk h
    have h2 : Kept s s2 := .ite (.raise h1) h1
    have h3 : Kept s s3 := .update h2 rfl
    exact .ite h (.ite h1 (.linesPend (.dramUse (.count h3))))
theorem Kept.wrDlSlot {j w v} (h : Kept s t) : Kept s (t.wrDlSlot j w v) := by
  unfold State.wrDlSlot
  extract_lets _ s1 s2
  have h1 : Kept s s1 := .sets h
  have h2 : Kept s s2 := .sets h1
  exact .ite (.ite h (.sets h)) (.ite (.ite h (.set h)) (.ite h1 (.ite (.set h1) (.update h2 rfl))))
theorem Kept.dlZeroEnd {j} (h : Kept s t) : Kept s (t.dlZeroEnd j) := .ite h (.update h rfl)
theorem Kept.dlZeroed {j} (h : Kept s t) : Kept s (t.dlZeroed j) := .ite h (.budgeted h (fun _ h => .dlZeroEnd h))
theorem Kept.wrDlCtl {v} (h : Kept s t) : Kept s (t.wrDlCtl v) := .set (.ite (.set h) h)
theorem Kept.hvState {x} (h : Kept s t) : Kept s (t.hvState x) := .linesPend (.set h)
theorem Kept.hvGo (h : Kept s t) : Kept s t.hvGo := .ite (.sets h) (.ite (.sets h) (.ite (.sets h) (.wbAsk (.hvState (.sets h)))))
theorem Kept.hvMerge {abort} (h : Kept s t) : Kept s (t.hvMerge abort) := .hvState (.update h rfl)
theorem Kept.wrDlHarvest {v} (h : Kept s t) : Kept s (t.wrDlHarvest v) := by
  unfold State.wrDlHarvest
  extract_lets _ s1
  have h1 : Kept s s1 := .ite h (.sets h)
  exact .ite (.hvMerge h1) (.ite (.hvState h1) (.ite (.hvGo h1) h1))
theorem Kept.hvPiece {c} (h : Kept s t) : Kept s (t.hvPiece c) := .inject (.update h rfl)
theorem Kept.hvSend {l} (h : Kept s t) : Kept s (t.hvSend l) := by
  induction l generalizing t with
  | nil => exact h
  | cons c rest ih => exact .ite (ih (.hvPiece (.spend h))) (.defer h)
theorem Kept.hvMore (h : Kept s t) : Kept s t.hvMore := by
  unfold State.hvMore
  refine .ite ?_ ?_
  · split
    · exact h
    · exact .hvSend (.hvPiece h)
  · exact h
theorem Kept.hvFlushed (h : Kept s t) : Kept s t.hvFlushed := .ite h (.hvState h)
theorem Kept.hvDeliver (h : Kept s t) : Kept s t.hvDeliver := .hvSend h
theorem Kept.hvDrained (h : Kept s t) : Kept s t.hvDrained :=
  .ite h (.ite (.hvState h) (.ite (.hvMerge h) (.hvDeliver (.hvState (.update h rfl)))))
theorem Kept.hvIrq (h : Kept s t) : Kept s t.hvIrq := .ite (.raiseMsix h) h
theorem Kept.hvDelivered (h : Kept s t) : Kept s t.hvDelivered := .ite h (.ite (.hvMerge h) (.ite (.hvState (.hvIrq h)) h))
theorem Kept.dlErase {j ep} (h : Kept s t) : Kept s (t.dlErase j ep) := .update h rfl
theorem Kept.hvClearEnd (h : Kept s t) : Kept s t.hvClearEnd := .ite h (.hvState (.set (.ite (.hvIrq (.dlErase h)) (.dlErase h))))
theorem Kept.hvCleared (h : Kept s t) : Kept s t.hvCleared := .ite h (.budgeted h (fun _ h => .hvClearEnd h))
theorem Kept.hvMergeEnd (h : Kept s t) : Kept s t.hvMergeEnd := .ite h (.hvState (.set (.hvIrq (.raise (.dlErase (.update h rfl))))))
theorem Kept.hvMerged (h : Kept s t) : Kept s t.hvMerged := .ite h (.budgeted h (fun _ h => .hvMergeEnd h))

/-! ### Fabric -/

theorem Kept.noteFlow {h' p} (h : Kept s t) : Kept s (t.noteFlow h' p) := by
  unfold State.noteFlow
  extract_lets _ old _ s1
  have h1 : Kept s s1 := .update h rfl
  clear_value old
  split
  · exact h1
  · exact .ite h1 (.ite h1 (.raise (.count (.addSat h1))))
theorem Kept.ortTake {kind p o} (h : Kept s t) : Kept s (t.ortTake kind p o).2 :=
  .count (.ortSts (.putOrt (.peakShared (.addF (.addF (.free h))))))
theorem Kept.ortExpire {e} (h : Kept s t) : Kept s (t.ortExpire e) := by
  unfold State.ortExpire
  split
  · exact h
  · exact .ite h (.raise (.count (.addSat (.ortAbort h))))
theorem Kept.ortUnquar {e} (h : Kept s t) : Kept s (t.ortUnquar e) := by
  unfold State.ortUnquar
  split
  · exact h
  · exact .ite h (.ortSts (.update h rfl))
theorem Kept.wrNodeId {v} (h : Kept s t) : Kept s (t.wrNodeId v) := .ite (.set h) (.sets h)
theorem Kept.wrPfnPop {v} (h : Kept s t) : Kept s (t.wrPfnPop v) := .sets (.foldl h fun _ _ h => .set h)
theorem Kept.pfnRx {h'} (h : Kept s t) : Kept s (t.pfnRx h') := .pfnEnter h

/-! ### Admit -/

theorem Kept.cairnSts (h : Kept s t) : Kept s t.cairnSts := .set h
theorem Kept.tagTrain {t' time} (h : Kept s t) : Kept s (t.tagTrain t' time) :=
  .ite (.update h rfl) (.ite (.count (.update h rfl)) (.count (.cairnSts (.update (.update h rfl) rfl))))
theorem Kept.takeCar {x mine} (h : Kept s t) : Kept s (t.takeCar x mine).2 := by
  unfold State.takeCar
  split
  extract_lets
  split
  · exact h
  · exact .update h rfl
theorem Kept.takeCars {x n mine} (h : Kept s t) : Kept s (t.takeCars x n mine).2 := by
  induction n generalizing t mine with
  | zero => exact h
  | succ n ih =>
    unfold State.takeCars
    split
    · rename_i s1 e
      exact ih (.ofSnd e (.takeCar h))
    · rename_i s1 e
      exact ih (.ofSnd e (.takeCar h))
theorem Kept.shareOne {p q} (h : Kept s t) : Kept s (t.shareOne p q) := .sharePool h
theorem Kept.enterCore {d id} (h : Kept s t) : Kept s (t.enterCore d id) := by
  unfold State.enterCore
  extract_lets
  split
  next _ s1 e =>
  have h1 : Kept s s1 := .ofSnd e (.takeCars h)
  extract_lets _ _ s2 _ s3 s4 s7 s8 s9 s10 s11 s12
  have h2 : Kept s s2 := .ite h1 (.update h1 rfl)
  have h3 : Kept s s3 := .update h2 rfl
  have h4 : Kept s s4 := by
    unfold s4
    split
    · extract_lets _ s5 s6
      have h5 : Kept s s5 := by
        unfold s5
        split
        · exact .putOrt h3
        · exact h3
      have h6 : Kept s s6 := .peakShared (.addF (.addF h5))
      exact .ite (.returnCredits h6) h6
    · exact h3
  have h7 : Kept s s7 := .putTrain (.charge h4)
  have h8 : Kept s s8 := .ite (.count (.ite (.count h7) h7)) h7
  have h9 : Kept s s9 := .ite (.count h8) h8
  have h10 : Kept s s10 := .ite (.count h9) h9
  have h11 : Kept s s11 := .tagTrain h10
  have h12 : Kept s s12 := by
    unfold s12
    split
    · exact .shareOne (.noteFull h11)
    · exact h11
  exact .drainGen (.refreshQueues h12)
theorem Kept.newId (h : Kept s t) : Kept s t.newId.2 := .update h rfl
theorem Kept.admitAll {d l first} (h : Kept s t) : Kept s (t.admitAll d l first) := by
  induction l generalizing t first with
  | nil => exact h
  | cons x rest ih =>
    unfold State.admitAll
    split
    next id s1 e =>
    have h1 : Kept s s1 := .ofSnd e (.iteSnd h (.newId h))
    exact ih (.enterCore h1)

/-! ### VConfig -/

theorem Kept.unbindDone {v} (h : Kept s t) : Kept s (t.unbindDone v) := .ite (.bindState (.update h rfl)) h
theorem Kept.wrVhBind {v val} (h : Kept s t) : Kept s (t.wrVhBind v val) := by
  unfold State.wrVhBind
  extract_lets
  refine .ite ?_ ?_
  · exact .sets h
  · refine .owning h fun _ h1 => ?_
    extract_lets _ s2 s3 s4 s5 _ s6
    have h2 : Kept s s2 := .ite (.sets h1) h1
    have h3 : Kept s s3 := .set h2
    have h4 : Kept s s4 := .vhReset h3
    have h5 : Kept s s5 := .set h4
    have h6 : Kept s s6 := .update h5 rfl
    exact .ite (.unbindDone (.foldl h6 fun _ _ h => .forceDetach h)) (.bindState (.sets h3))
theorem Kept.freshEndpoint {v d} (h : Kept s t) : Kept s (t.freshEndpoint v d) := .setCfg (.setCfg (.free (.free (.resetCfg h))))
theorem Kept.attach {v d k p i} (h : Kept s t) : Kept s (t.attach v d k p i) := by
  unfold State.attach
  exact .owning h (fun _ h => .setPresence (.ite (.freshEndpoint (.sets (.sets h))) (.sets h)))
theorem Kept.wrVdspCmd {val} (h : Kept s t) : Kept s (t.wrVdspCmd val) := by
  unfold State.wrVdspCmd
  extract_lets s1 _ _ _ _ _ s2 s3
  have h1 : Kept s s1 := .sets h
  have h2 : Kept s s2 := .update h1 rfl
  have h3 : Kept s s3 := .set h2
  refine .ite ?_ ?_
  · exact h1
  · refine .ite ?_ ?_
    · exact .set h1
    · exact .ite (.sets h1) (.ite (.set (.attach h1)) (.ite (.forceDetach h3) (.attention (.set h3))))
theorem Kept.detachGo {v d} (h : Kept s t) : Kept s (t.detachGo v d) := .ite (.startEmpty h) h
theorem Kept.drainDone {v d} (h : Kept s t) : Kept s (t.drainDone v d) := by
  unfold State.drainDone
  refine .ite ?_ ?_
  · exact h
  · extract_lets
    refine .owning h fun _ h1 => ?_
    extract_lets _ s2 s3 _ s4 s5 s6 _ s7
    have h2 : Kept s s2 := .update h1 rfl
    have h3 : Kept s s3 := .sets h2
    have h4 : Kept s s4 := .update h3 rfl
    have h5 : Kept s s5 := .ite (.resetCfg h4) h2
    have h6 : Kept s s6 := .sets h5
    have h7 : Kept s s7 := .ite (.set (.update h6 rfl)) h6
    exact .unbindDone h7
theorem Kept.wrVfMap {i w val} (h : Kept s t) : Kept s (t.wrVfMap i w val) :=
  .ite (.set (.ite (.set h) h)) (.ite (.sets (.ite (.set h) h)) (.sets (.ite (.set h) h)))
theorem Kept.flrDone {i} (h : Kept s t) : Kept s (t.flrDone i) := by
  unfold State.flrDone
  refine .ite ?_ ?_
  · exact h
  · split
    extract_lets _ _ s1 s2 _ _ s3 s4
    have h1 : Kept s s1 := .setCfg (.setCfg (.resetCfg h))
    have h2 : Kept s s2 := .set h1
    have h3 : Kept s s3 := .update h2 rfl
    have h4 : Kept s s4 := .ite (.set h3) h3
    exact .cmdDone h4
theorem Kept.dpcFree {v d} (h : Kept s t) : Kept s (t.dpcFree v d) := by
  unfold State.dpcFree
  refine .ite ?_ ?_
  · exact h
  · extract_lets s1 _ s2
    have h1 : Kept s s1 := .setCfg h
    have h2 : Kept s s2 := .update h1 rfl
    exact .ite (.ite (.startFlr h2) h2) (.ite (.startTrain (.openPort h2)) h2)
theorem Kept.cfgPut {v fn dw be data} (h : Kept s t) : Kept s (t.cfgPut v fn dw be data) := .setCfg h
theorem Kept.removalOver {v d p} (h : Kept s t) : Kept s (t.removalOver v d p) := .ite (.setPresence (.setPrst h)) h
theorem Kept.expWrite {a} (h : Kept s t) : Kept s (t.expWrite a) := .ite h (.emit (.emit (.update h rfl)))
theorem Kept.expSync (h : Kept s t) : Kept s t.expSync := .foldl h fun _ _ h => .expWrite h
theorem Kept.marginCtl {v fn i} (h : Kept s t) : Kept s (t.marginCtl v fn i) := by
  unfold State.marginCtl
  split
  · exact h
  · extract_lets
    split
    · exact h
    · exact .ite h (.setCfg (.free (.ite (.margin h) (.emit h))))
theorem Kept.slotPower {v d on} (h : Kept s t) : Kept s (t.slotPower v d on) :=
  .ite (.detachGo (.ite (.emit h) h)) (.ite (.removalOver (.ite (.emit h) h)) (.ite (.emit h) h))
theorem Kept.vfBusy {v i t'} (h : Kept s t) : Kept s (t.vfBusy v i t') := .raiseTrain h
theorem Kept.detachVfs {p} (h : Kept s t) : Kept s (t.detachVfs p) := .foldl h fun _ _ h => .forceDetach h
theorem Kept.vdspWrote {v d dw old new data} (h : Kept s t) : Kept s (t.vdspWrote v d dw old new data) := by
  unfold State.vdspWrote
  extract_lets _ _ _ _ _ s1 _ s2 s3
  have h1 : Kept s s1 := .ite (.detachVfs h) h
  have h2 : Kept s s2 := .hotReset h1
  have h3 : Kept s s3 := .takeDown h1
  refine .ite ?_ ?_
  · exact .set h
  · refine .ite ?_ ?_
    · exact .ite (.startFlr h) (.ite (.devLinkLost h2) h2)
    · refine .ite ?_ ?_
      · exact .ite (.devLinkLost h3) h3
      · refine .ite ?_ ?_
        · exact .startTrain h
        · refine .ite ?_ ?_
          · exact .goRetrain h
          · exact .ite (.expSync (.slotPower h)) (.ite (.expSync (.slotPower h)) (.ite (.expSync h) h))
theorem Kept.meFlr {v} (h : Kept s t) : Kept s (t.meFlr v) := .resetCfg (.update h rfl)
theorem Kept.cfgWrite {v fn dw be data rid} (h : Kept s t) : Kept s (t.cfgWrite v fn dw be data rid) := by
  unfold State.cfgWrite
  extract_lets _ s1 s2 _ _ s3
  have h1 : Kept s s1 := .ite (.sets h) h
  have h2 : Kept s s2 := .cfgPut h1
  have h3 : Kept s s3 := .ite (.checkOvl h2) (.ite (.checkOvl h2) (.ite (.checkOvl h2) h2))
  refine .ite ?_ ?_
  · exact .ite (.marginCtl h3) (.ite h3 (.ite (.dpcTrig h3) (.ite (.dpcFree h3) (.vdspWrote h3))))
  · exact .ite (.meFlr h2) (.ite (.checkOvl h2) (.ite (.msixFlush h2) h2))
theorem Kept.cfgReply {v r st data ep} (h : Kept s t) : Kept s (t.cfgReply v r st data ep) := .inject h
theorem Kept.cfgAccess {v fn r} (h : Kept s t) : Kept s (t.cfgAccess v fn r) :=
  .ite (.cfgReply (.count h)) (.ite (.cfgReply (.vfBusy (.count h))) (.cfgReply (.cfgWrite (.count h))))
theorem Kept.fwdSend {k f} (h : Kept s t) : Kept s (t.fwdSend k f) := .emit (.update h rfl)
theorem Kept.fwdNext (h : Kept s t) : Kept s t.fwdNext := by
  unfold State.fwdNext
  split
  · exact .fwdSend (.update h rfl)
  · exact h
theorem Kept.fwdAbort {f tag} (h : Kept s t) : Kept s (t.fwdAbort f tag) := .cfgReply (.raise h)
theorem Kept.fwd {f} (h : Kept s t) : Kept s (t.fwd f) := by
  unfold State.fwd
  split
  · exact .fwdSend h
  · exact .ite (.fwdAbort h) (.update h rfl)
theorem Kept.fwdCpl {k st cplId data ep} (h : Kept s t) : Kept s (t.fwdCpl k st cplId data ep) := by
  unfold State.fwdCpl
  extract_lets _ _ _ s1
  have h1 : Kept s s1 := .update h rfl
  split
  · exact .ite (.raise (.count h)) (.fwdNext (.cfgReply h1))
  · split
    · exact .raise (.count h)
    · exact .raise h
theorem Kept.fwdExpire {k} (h : Kept s t) : Kept s (t.fwdExpire k) := by
  unfold State.fwdExpire
  split
  · exact h
  · refine .ite ?_ ?_
    · exact .fwdAbort (.update h rfl)
    · split
      · exact .fwdAbort (.update h rfl)
      · exact h
theorem Kept.fwdRelease {k} (h : Kept s t) : Kept s (t.fwdRelease k) := by
  unfold State.fwdRelease
  split
  · exact .ite (.fwdNext (.update h rfl)) h
  · exact h
theorem Kept.vfAccess {v d r} (h : Kept s t) : Kept s (t.vfAccess v d r) := by
  unfold State.vfAccess
  extract_lets _ _ _ s1 s2 _ _ s3 s4
  have h1 : Kept s s1 := .count h
  have h2 : Kept s s2 := .cfgPut h1
  have h3 : Kept s s3 := .ite (.ite h2 (.checkOvl h2)) h2
  have h4 : Kept s s4 := .cfgReply h3
  exact .ite (.cfgReply h) (.ite (.fwd h) (.ite (.cfgReply h1) (.ite (.startFlr h4) h4)))
theorem Kept.cfgDeliver {v r} (h : Kept s t) : Kept s (t.cfgDeliver v r) := by
  unfold State.cfgDeliver
  split
  · exact .ite (.vfAccess h) (.cfgAccess h)
  · exact .cfgReply h

/-! ### Lookup -/

theorem Kept.plainRefuse {it o stamp st toHut} (h : Kept s t) : Kept s (t.plainRefuse it o stamp st toHut) :=
  .dropHead (.fenceLose (.answer (.ite (.aer h) h)))
theorem Kept.refuse {it o stamp code st logged tag quiet idx toHut} (h : Kept s t) : Kept s
  (t.refuse it o stamp code st logged tag quiet idx toHut) := by
  unfold State.refuse
  extract_lets _ s1 s2
  have h1 : Kept s s1 := .raiseTrain h
  have h2 : Kept s s2 := .ite (.count h1) (.ite (.count h1) h1)
  exact .dropHead (.fenceLose (.answer h2))
theorem Kept.detachDrop {it} (h : Kept s t) : Kept s (t.detachDrop it) := .dropHead (.answer (.ite (.raise h) h))
theorem Kept.poisonTlp {it vh x} (h : Kept s t) : Kept s (t.poisonTlp it vh x).2 := by
  unfold State.poisonTlp
  split
  · dsimp only
    exact .raiseTrain h
  · exact h
theorem Kept.poison {d} (h : Kept s t) : Kept s (t.poison d).2 := by
  unfold State.poison
  split
  · dsimp only
    exact .raiseTrain h
  · exact h
theorem Kept.pfWrote {p rid dw be data} (h : Kept s t) : Kept s (t.pfWrote p rid dw be data) := by
  unfold State.pfWrote
  split
  · exact .ite (.update h rfl) h
  · exact .update h rfl
  · exact .update h rfl
  · exact h
theorem Kept.gwPush {d kind target} (h : Kept s t) : Kept s (t.gwPush d kind target) := .drainGen (.ortSts (.update h rfl))
theorem Kept.gwIssue {d kind target} (h : Kept s t) : Kept s (t.gwIssue d kind target) := by
  unfold State.gwIssue
  extract_lets
  refine .ite ?_ ?_
  · split
    · exact h
    · exact .ite (.dropHead (.sendHal (.ortTake h))) (.enterCore (.ortTake h))
  · exact .enterCore (.ortTake h)
theorem Kept.gwTry {d kind target} (h : Kept s t) : Kept s (t.gwTry d kind target) := .ite (.gwPush h) (.gwIssue h)
theorem Kept.goOne {d pieces} (h : Kept s t) : Kept s (t.goOne d pieces) := .ite (.toClosed h) (.ite (.gwPush h) (.admitAll h))
theorem Kept.goCross {d tvh} (h : Kept s t) : Kept s (t.goCross d tvh) := by
  unfold State.goCross
  refine .ite ?_ ?_
  · exact .toClosed h
  · refine .ite ?_ ?_
    · exact .dropHead (.fenceLose (.ite (.answer (.fabDropNote h)) (.pfnTlp (.fabDropNote h))))
    · exact .ite (.gwTry h) (.admitAll h)
theorem Kept.fabRefuse {d h' c} (h : Kept s t) : Kept s (t.fabRefuse d h' c) :=
  .dropHead (.fenceLose (.ite (.fabDrop h) (.answer (.fabDropNote h))))
theorem Kept.goOwn {d h'} (h : Kept s t) : Kept s (t.goOwn d h') := by
  unfold State.goOwn
  refine .ite ?_ ?_
  · exact .gwTry h
  · split
    · exact .fabRefuse h
    · exact .admitAll h
theorem Kept.goFabric {d h'} (h : Kept s t) : Kept s (t.goFabric d h') := by
  unfold State.goFabric
  refine .ite ?_ ?_
  · exact .goOwn (.count h)
  · split
    · exact .fabRefuse h
    · exact .ite (.enterCore (.count (.noteFlow h))) (.gwTry (.count (.noteFlow h)))
theorem Kept.cplBack {o t'} (h : Kept s t) : Kept s (t.cplBack o t').2 := .free h
theorem Kept.sendBack {it e o t'} (h : Kept s t) : Kept s (t.sendBack it e o t') := by
  unfold State.sendBack
  split
  next _ s1 e =>
  have h1 : Kept s s1 := .ofSnd e (.cplBack h)
  exact .ite (.toClosed h1) (.admitAll h1)
theorem Kept.unmatched {it vh late w pcie} (h : Kept s t) : Kept s (t.unmatched it vh late w pcie) :=
  .dropHead (.raise (.ite (.count (.addSat h)) (.addSat h)))
theorem Kept.rspHere {it h'} (h : Kept s t) : Kept s (t.rspHere it h') := by
  unfold State.rspHere
  extract_lets
  split
  · exact .unmatched h
  · exact .ite (.unmatched h) (.ite (.unmatched h) (.ite (.unmatched h) (.sendBack (.poisonTlp h))))
theorem Kept.gateCpl {it v} (h : Kept s t) : Kept s (t.gateCpl it v) := by
  unfold State.gateCpl
  extract_lets
  refine .ite ?_ ?_
  · exact .dropHead (.fwdCpl h)
  · split
    · exact .unmatched h
    · refine .ite ?_ ?_
      · exact .unmatched h
      · refine .ite ?_ ?_
        · exact .unmatched h
        · refine .ite ?_ ?_
          · exact .sendBack (.poisonTlp h)
          · split
            · exact .unmatched h
            · split
              next _ s1 e =>
              have h1 : Kept s s1 := .ofSnd e (.poisonTlp h)
              extract_lets
              refine .ite ?_ ?_
              · exact .rspHere (.ortUse h1)
              · split
                · exact .dropHead (.fabDrop h1)
                · exact .enterCore (.noteFlow h1)
theorem Kept.closedCopies {id ports} (h : Kept s t) : Kept s (t.closedCopies id ports) := by
  unfold State.closedCopies
  refine .foldl h fun _ _ h1 => ?_
  split
  · exact .ite (.dropCopy h1) h1
  · exact h1
theorem Kept.goMulti {d id g ports} (h : Kept s t) : Kept s (t.goMulti d id g ports) :=
  .ite (.ite (.dropHead (.raise h)) (.raise h)) (.closedCopies (.enterCore h))
theorem Kept.goGroup {d o g} (h : Kept s t) : Kept s (t.goGroup d o g) :=
  .ite (.goMulti (.aer h)) (.ite (.goMulti h) (.ite (.goMulti h) (.goMulti (.newId (.goMulti h)))))
theorem Kept.vfAer {v d sev} (h : Kept s t) : Kept s (t.vfAer v d sev) := .setCfg (.ite (.orCfg (.orCfg (.free h))) (.orCfg (.free h)))
theorem Kept.heed {it o t'} (h : Kept s t) : Kept s (t.heed it o t').2 := by
  unfold State.heed
  refine .iteSnd ?_ ?_
  · exact h
  · split
    · exact h
    · extract_lets s1 s2 s3
      have h1 : Kept s s1 := .ite (.vfAer h) h
      have h2 : Kept s s2 := .ite (.containTenants h1) h1
      have h3 : Kept s s3 := .dpcTrig h2
      exact .iteSnd (.setCfg h3) h2
theorem Kept.goBroadcast {p mark} (h : Kept s t) : Kept s (t.goBroadcast p mark) := by
  unfold State.goBroadcast
  extract_lets _ s1
  have h1 : Kept s s1 := .ite (.hostUnlock h) h
  split
  next _ s2 e =>
  have h2 : Kept s s2 := .ofSnd e (.poisonTlp h1)
  exact .dropHead (.foldl h2 fun _ _ h => .ite (.closedDrop (.newId h)) (.enterCore (.newId h)))
theorem Kept.pfWrite {p t'} (h : Kept s t) : Kept s (t.pfWrite p t') := by
  unfold State.pfWrite
  exact .ite h (.pfWrote (.ite (.detachVfs h) h))
theorem Kept.goNative {p mark dst t' xtag} (h : Kept s t) : Kept s (t.goNative p mark dst t' xtag) := by
  unfold State.goNative
  extract_lets
  split
  next _ s1 e =>
  have h1 : Kept s s1 := .ofSnd e (.heed h)
  refine .ite ?_ ?_
  · exact .dropHead h1
  · split
    next _ s2 e =>
    have h2 : Kept s s2 := .ofSnd e (.poison h1)
    extract_lets s3 s4
    have h3 : Kept s s3 := .ite (.count h2) h2
    have h4 : Kept s s4 := .ite (.pfWrite h3) h3
    exact .ite (.dropHead h3) (.goOne h4)
theorem Kept.goRoute {p mark r} (h : Kept s t) : Kept s (t.goRoute p mark r) := by
  unfold State.goRoute
  extract_lets
  refine .ite ?_ ?_
  · exact .plainRefuse h
  · split
    · exact .refuse h
    · exact .plainRefuse h
    · exact .plainRefuse h
    · exact .refuse h
    · exact .dropHead h
    · exact .gateCpl h
    · exact .goBroadcast h
    · exact .goNative h
    · exact .goCross (.count (.poison h))
    · exact .goFabric (.poison h)
    · exact .goGroup (.poison h)
theorem Kept.finish {p} (h : Kept s t) (e : t.finish p = some u) : Kept s u := by
  revert e
  unfold State.finish
  extract_lets _ _ _ tail
  split
  extract_lets null go
  have hnull : ∀ v code, Kept s v → Kept s (null v code) := fun _ _ hv => .dropHead (.nullReport hv)
  have hgo : ∀ v mark, Kept s v → Kept s (go v mark) := by
    intro v mark hv
    unfold go
    clear_value tail
    split
    · exact .goRoute hv
    · exact .ite (.goRoute hv) (hnull _ _ hv)
  clear_value tail
  intro e
  split at e
  · split at e
    · cases e
      exact hnull _ _ h
    · cases e
      exact .refuse (.ctxCount h)
    · cases e
      exact h
  · split at e
    · cases e
      exact hgo _ _ h
    · dsimp only at e
      split at e
      · cases e
      · cases e
        exact hgo _ _ (.foldl (.ctxCountReq h) fun _ _ h => .dlMark h)
theorem Kept.windowStep {p} (h : Kept s t) : Kept s (t.windowStep p).2 := by
  unfold State.windowStep
  refine .iteSnd h ?_
  split
  · exact h
  · extract_lets _ _ hit
    split
    · exact .count h
    · split
      · rename_i s1 e
        split at e
        · exact .count (.cacheHit h e)
        · cases e
      · exact .dramUse (.count (.count (.issueRead h)))
theorem Kept.contextStep {p} (h : Kept s t) : Kept s (t.contextStep p).2 := by
  unfold State.contextStep
  refine .iteSnd ?_ ?_
  · exact h
  · split
    · exact .iteSnd (.count h) (.dramUse (.count (.count (.issueRead h))))
    · exact .dramUse (.count (.count (.issueRead h)))
theorem Kept.setMiss {p l} (h : Kept s t) : Kept s (t.setMiss p l) := .drainGen (.missSts (.update h rfl))
theorem Kept.drainMiss {p n} (h : Kept s t) : Kept s (t.drainMiss p n) := by
  induction n generalizing t with
  | zero => exact h
  | succ n ih =>
    unfold State.drainMiss
    refine .ite h ?_
    split
    · exact h
    · split
      · rename_i s1 e
        exact ih (.finish (.setMiss h) e)
      · exact .ite h (.addSat (.setMiss h))
theorem Kept.fenceLookup {p} (h : Kept s t) : Kept s (t.fenceLookup p).2 := .fenceStart h
theorem Kept.lookupTlp {s0} (h : Kept s t) (h0 : Kept s s0) {it} : Kept s (t.lookupTlp s0 it) := by
  unfold State.lookupTlp
  split
  · exact .detachDrop h
  · extract_lets _ _ _ _
    refine .ite (.refuse h) (.ite (.refuse h) ?_)
    split
    next _ s1 e1 =>
    have h1 : Kept s s1 := .ofSnd e1 (.contextStep h)
    split
    next _ s2 e2 =>
    have h2 : Kept s s2 := .ofSnd e2 (.windowStep h1)
    extract_lets _
    split
    next _ s3 e3 =>
    have h3 : Kept s s3 := .ofSnd e3 (.iteSnd (.fenceLookup h2) h2)
    refine .ite h0 (.ite (.setMiss h3) ?_)
    split
    · rename_i s4 e4
      exact .finish h3 e4
    · exact .addSat (.setMiss h3)
theorem Kept.lookupBuilt {it v e} (h : Kept s t) : Kept s (t.lookupBuilt it v e) := .goOne h
theorem Kept.noticeRx {data} (h : Kept s t) : Kept s (t.noticeRx data) :=
  .ite (.count h) (.ite (.admitRec (.count h)) (.countEvent (.admitRec (.count h))))
theorem Kept.haludHere {it h'} (h : Kept s t) : Kept s (t.haludHere it h') := by
  unfold State.haludHere
  split
  · exact .dropHead (.fabDrop h)
  · exact .ite (.admitAll (.poison h)) (.gwTry (.poison h))
theorem Kept.lookupHal {it h'} (h : Kept s t) : Kept s (t.lookupHal it h') := by
  unfold State.lookupHal
  extract_lets
  split
  · exact .dropHead (.nullReport h)
  · refine .ite ?_ ?_
    · exact .dropHead (.ite (.mcLost (.fabDropNote h)) (.fabDrop h))
    · refine .ite ?_ ?_
      · exact .goMulti (.poison h)
      · refine .ite ?_ ?_
        · exact .ite (.rspHere h) (.ite (.pfnRx h) (.ite (.noticeRx h) (.haludHere h)))
        · split
          · exact .dropHead (.fabDrop h)
          · exact .enterCore (.noteFlow (.poison h))
theorem Kept.lookup {p} (h : Kept s t) : Kept s (t.lookup p) := by
  unfold State.lookup
  extract_lets s1
  have h1 : Kept s s1 := .drainMiss h
  refine .ite h1 ?_
  split
  · exact h1
  · extract_lets s2
    have h2 : Kept s s2 := .update h1 rfl
    refine .ite (.dropHead h2) ?_
    split
    · exact .lookupHal h2
    · exact .lookupBuilt h2
    · exact .lookupTlp h2 h1
theorem Kept.missFill {p bad} (h : Kept s t) : Kept s (t.missFill p bad) := by
  unfold State.missFill
  split
  · exact h
  · refine .ite ?_ ?_
    · exact h
    · extract_lets _ _ s1 _ _ s2 s3
      have h1 : Kept s s1 := .setMiss (.cacheForget h)
      have h2 : Kept s s2 := .update h1 rfl
      have h3 : Kept s s3 := .ite (.cachePut h) h
      exact .ite (.drainMiss (.refuse h2)) (.drainMiss (.setMiss h3))
theorem Kept.ctxFill {p bad} (h : Kept s t) : Kept s (t.ctxFill p bad) := by
  unfold State.ctxFill
  split
  · exact h
  · refine .ite ?_ ?_
    · exact h
    · split
      · exact .ite (.drainMiss (.refuse (.update (.setMiss h) rfl))) (.drainMiss (.setMiss (.ctxCache h)))
      · exact .drainMiss (.setMiss h)
theorem Kept.ortAllocate {p} (h : Kept s t) : Kept s (t.ortAllocate p) := by
  unfold State.ortAllocate
  extract_lets
  split
  · exact h
  · extract_lets _ _ _ s1 s2
    have h1 : Kept s s1 := .update h rfl
    have h2 : Kept s s2 := .ite (.toClosed h1) (.ite (.enterCore h1) (.gwIssue h1))
    exact .drainGen (.ortSts (.foldl h2 fun _ _ h => .ite (.toClosed h) (.enterCore h)))

/-! ### Gates -/

theorem Kept.wrGateList {p page off priv v} (h : Kept s t) : Kept s (t.wrGateList p page off priv v) := .ite (.set h) (.writePlain h)
theorem Kept.wrGateAdmin {p v} (h : Kept s t) : Kept s (t.wrGateAdmin p v) := by
  unfold State.wrGateAdmin
  extract_lets _ _ _ s1 s2
  have h1 : Kept s s1 := .ite (.sets h) (.ite (.set h) h)
  have h2 : Kept s s2 := .set h1
  exact .ite (.ite (.set (.update h2 rfl)) (.ite (.sets h2) h2)) (.ite (.ite (.set h2) (.update h2 rfl)) h2)
theorem Kept.gateChecked {p} (h : Kept s t) : Kept s (t.gateChecked p) := by
  unfold State.gateChecked
  split
  · exact h
  · exact .ite (.sets (.update h rfl)) (.sets (.update h rfl))
theorem Kept.gateSwapAt {p at'} (h : Kept s t) : Kept s (t.gateSwapAt p at') :=
  .count (.sets (.update (.foldl (.foldl h fun _ _ h => .sets h) fun _ _ h => .sets h) rfl))
theorem Kept.gateSwap {p} (h : Kept s t) : Kept s (t.gateSwap p) := by
  unfold State.gateSwap
  refine .ite ?_ ?_
  · exact h
  · extract_lets
    split
    · exact h
    · exact .ite h (.ite (.gateSwapAt h) (.ite (.gateSwapAt h) h))
theorem Kept.gateCopied {p} (h : Kept s t) : Kept s (t.gateCopied p) := .ite (.set (.update h rfl)) h
theorem Kept.gateBoundary {p} (h : Kept s t) : Kept s (t.gateBoundary p) := by
  unfold State.gateBoundary
  split
  · exact .ite h (.ite (.gateSwapAt h) (.sets (.update h rfl)))
  · exact h
theorem Kept.gateResync {p} (h : Kept s t) : Kept s (t.gateResync p) := .ite h (.addSat (.sets (.update h rfl)))
theorem Kept.park {p q tok} (h : Kept s t) : Kept s (t.park p q tok) := .set (.update h rfl)
theorem Kept.shape {p q charge} (h : Kept s t) : Kept s (t.shape p q charge) :=
  .ite h (.ite (.park (.set (.update h rfl))) (.set (.update h rfl)))
theorem Kept.wheelSlot {p q} (h : Kept s t) : Kept s (t.wheelSlot p q) := by
  unfold State.wheelSlot
  split
  · exact h
  · exact .ite h (.ite (.shape (.set (.update h rfl))) (.set (.update h rfl)))

/-! ### Switch -/

theorem Kept.numberTrain {t'} (h : Kept s t) : Kept s (t.numberTrain t') := .putTrain (.foldlFst h fun _ _ h => .iteFst h (.update h rfl))
theorem Kept.offerCpl {x} (h : Kept s t) : Kept s (t.offerCpl x) := by
  unfold State.offerCpl
  split
  · rename_i s1 e
    have h1 : Kept s s1 := .ofSnd e (.pick h)
    exact h1
  · rename_i s2 e
    have h2 : Kept s s2 := .ofSnd e (.pick h)
    split
    · exact h2
    · extract_lets _ s3
      have h3 : Kept s s3 := .ite h2 (.numberTrain h2)
      split
      · exact .nullify h2
      · split
        · exact .putTrain h3
        · exact h3
theorem Kept.mcCrossed {id} (h : Kept s t) : Kept s (t.mcCrossed id) := by
  unfold State.mcCrossed
  split
  · exact h
  · refine .ite ?_ ?_
    · exact h
    · extract_lets _ kept s1
      have h1 : Kept s s1 := .ite (.subF h) h
      refine .ite ?_ ?_
      · split
        · exact h
        · exact .moveAcct h
      · clear_value kept
        split
        · exact h1
        · exact .retainAt h1
        · exact .putTrain h1
        · exact .putTrain (.ite (.subF h1) h1)
theorem Kept.arriveDup {n y} (h : Kept s t) : Kept s (t.arriveDup n y) := by
  unfold State.arriveDup
  split
  · exact h
  · exact .raise (.count (.addSat (.update h rfl)))
theorem Kept.toResidue {t' y l} (h : Kept s t) : Kept s (t.toResidue t' y l) := .update (.putTrain h) rfl
theorem Kept.arrive {n y errs} (h : Kept s t) : Kept s (t.arrive n y errs) := by
  unfold State.arrive
  split
  · exact .arriveDup h
  · extract_lets s1
    have h1 : Kept s s1 := .foldl (.readCpl h) fun _ _ h => .bitErr h
    split
    · exact h1
    · exact .yardOcc (.mcCrossed (.ite (.count (.toResidue h1)) (.putTrain h1)))
theorem Kept.bookGrant {n y g w i idle} (h : Kept s t) : Kept s (t.bookGrant n y g w i idle) :=
  .count (.count (.count (.count (.count (.count (.count (.count (.sets (.update h rfl)))))))))
theorem Kept.decideAt {n y idle g} (h : Kept s t) : Kept s (t.decideAt n y idle g).1 := by
  unfold State.decideAt
  split
  · exact h
  · exact .putTrain (.bookGrant h)
theorem Kept.decideAll {n busy g l} (h : Kept s t) : Kept s (t.decideAll n busy g l).1 := by
  induction l generalizing t g with
  | nil => exact h
  | cons y rest ih => exact ih (.decideAt h)
theorem Kept.granted {n e} (h : Kept s t) : Kept s (t.granted n e) := by
  unfold State.granted
  extract_lets s1
  have h1 : Kept s s1 := .ite (.cairnStage h) h
  split
  · exact h1
  · refine .ite ?_ ?_
    · exact h1
    · refine .foldl h1 fun _ _ h2 => ?_
      split
      · exact h2
      · exact .set (.count (.toResidue h2))
theorem Kept.arbitrate {n named} (h : Kept s t) : Kept s (t.arbitrate n named) :=
  .foldl (.decideAll (.update (.foldl h fun _ _ h => .arrive h) rfl)) fun _ _ h => .granted h
theorem Kept.respray {n t'} (h : Kept s t) : Kept s (t.respray n t') := .ite h (.count (.putTrain (.update h rfl)))
theorem Kept.retirePlane {n cause} (h : Kept s t) : Kept s (t.retirePlane n cause) := by
  unfold State.retirePlane
  refine .ite ?_ ?_
  · exact h
  · extract_lets s1 _ s2 s3 s4 s5
    have h1 : Kept s s1 := .sets h
    have h2 : Kept s s2 := .foldl h1 fun _ _ h => .set h
    have h3 : Kept s s3 := .foldl h2 fun _ _ h => .set h
    have h4 : Kept s s4 := .repairEnter h3
    have h5 : Kept s s5 := .raise h4
    exact .ite (.raise h5) (.foldl h5 fun _ _ h => .respray h)
theorem Kept.markPlane {n y} (h : Kept s t) : Kept s (t.markPlane n y) := by
  unfold State.markPlane
  extract_lets _ s1 s2
  have h1 : Kept s s1 := .count (.set (.addSat h))
  have h2 : Kept s s2 := .raise h1
  exact .ite h1 (.ite (.retirePlane h2) (.set h2))
theorem Kept.planeUe {n} (h : Kept s t) : Kept s (t.planeUe n) := .ite h (.retirePlane (.count h))
theorem Kept.missing {y r} (h : Kept s t) : Kept s (t.missing y r) := .markPlane (.nullify (.sets (.count (.addSat h))))
theorem Kept.yardMissing {y} (h : Kept s t) : Kept s (t.yardMissing y) := by
  unfold State.yardMissing
  extract_lets
  split
  · rename_i s1 e
    have h1 : Kept s s1 := .ofSnd e (.pick h)
    exact h1
  · rename_i s2 e
    have h2 : Kept s s2 := .ofSnd e (.pick h)
    exact .missing h2
theorem Kept.noticeMissing {x} (h : Kept s t) : Kept s (t.noticeMissing x) := by
  unfold State.noticeMissing
  extract_lets
  split
  · rename_i s1 e
    have h1 : Kept s s1 := .ofSnd e (.pick h)
    exact h1
  · rename_i s2 e
    have h2 : Kept s s2 := .ofSnd e (.pick h)
    exact .missing h2
theorem Kept.enqueue {t' p} (h : Kept s t) : Kept s (t.enqueue t' p) := by
  unfold State.enqueue
  extract_lets
  split
  extract_lets s1 _ _ s2 _ s3 s4
  have h1 : Kept s s1 := .ite (.raise (.addSat h)) h
  have h2 : Kept s s2 := .update h1 rfl
  have h3 : Kept s s3 := .putTrain h2
  have h4 : Kept s s4 := .queueSts h3
  exact .ite (.shape h4) h4
theorem Kept.releaseCopies {id ports} (h : Kept s t) : Kept s (t.releaseCopies id ports) := by
  unfold State.releaseCopies
  refine .foldl h fun _ _ h1 => ?_
  split
  · exact h1
  · refine .ite ?_ ?_
    · split
      · exact .enqueue h1
      · refine .dropCopy ?_
        split
        · exact .fabDropNote h1
        · exact h1
    · exact .ite (.dropCopy (.fabDropNote h1)) (.enqueue h1)
theorem Kept.yardRelease {y room} {deliver : State → Train → State} (h : Kept s t) (hf : ∀ u x, Kept s u → Kept s (deliver u x)) :
    Kept s (t.yardRelease y room deliver) := by
  unfold State.yardRelease
  split
  · rename_i s1 e
    exact .ofSnd e (.pick h)
  · rename_i s1 e
    have h1 : Kept s s1 := .ofSnd e (.pick h)
    extract_lets _ _ s2 s3 s4
    have h2 : Kept s s2 := .update h1 rfl
    have h3 : Kept s s3 := .count h2
    have h4 : Kept s s4 := .ite (.cairnStage h3) h3
    exact .ite (.yardOcc (.releaseCopies (.putTrain h4)))
      (.ite (.ite (.yardOcc (hf _ _ h4)) (.yardOcc (.putTrain h4))) (.ite (.yardOcc (.enqueue h4)) (.yardOcc (.putTrain h4))))
theorem Kept.mcOffer {x} (h : Kept s t) : Kept s (t.mcOffer x) := by
  unfold State.mcOffer
  extract_lets
  split
  · rename_i s1 e
    have h1 : Kept s s1 := .ofSnd e (.pick h)
    exact h1
  · rename_i s2 e
    have h2 : Kept s s2 := .ofSnd e (.pick h)
    split
    · exact h2
    · extract_lets s3
      have h3 : Kept s s3 := .ite h2 (.numberTrain (.addF (.addF (.putTrain h2))))
      split
      · exact h3
      · exact .putTrain h3
theorem Kept.sidingDeliver (h : Kept s t) : Kept s t.sidingDeliver := by
  unfold State.sidingDeliver
  split
  · exact h
  · extract_lets _ s1 s2
    have h1 : Kept s s1 := .update h rfl
    have h2 : Kept s s2 := .readCpl h1
    split
    · exact h2
    · exact .yardOcc (.ite (.putTrain h2) (.subF (.putTrain (.putTrain h2))))
theorem Kept.sidingTimeout {y} (h : Kept s t) : Kept s (t.sidingTimeout y) := by
  unfold State.sidingTimeout
  extract_lets l
  clear_value l
  split
  · exact h
  · extract_lets s1
    have h1 : Kept s s1 := by
      unfold s1
      refine .foldl h fun _ _ h2 => ?_
      split
      · exact .dropCopy h2
      · exact h2
    exact .yardOcc (.mcCrossed h1)

/-! ### Egress -/

theorem Kept.starve {p n} (h : Kept s t) : Kept s (t.starve p n) := by
  unfold State.starve
  extract_lets
  refine .ite ?_ ?_
  · exact .book h
  · split
    · exact .book h
    · exact .book h
theorem Kept.ptrNext {p lane q qs} (h : Kept s t) : Kept s (t.ptrNext p lane q qs) := .update h rfl
theorem Kept.drr {p lane qs n} (h : Kept s t) : Kept s (t.drr p lane qs n).2 := by
  induction n generalizing t with
  | zero => exact h
  | succ n ih =>
    unfold State.drr
    extract_lets q _ s1
    have h1 : Kept s s1 := .ite h (.addF (.update h rfl))
    split
    · exact ih (.ptrNext h)
    · extract_lets s2
      have h2 : Kept s s2 := .subF h1
      exact .iteSnd (.iteSnd (.ptrNext (.set h2)) h2) (ih (.ptrNext h1))
theorem Kept.nextOf {p lane} (h : Kept s t) : Kept s (t.nextOf p lane).2 := .drr h
theorem Kept.cairnAt {t' p k} (h : Kept s t) : Kept s (t.cairnAt t' p k) := .ite (.cairnStage h) h
theorem Kept.begin' {t' c n} (h : Kept s t) : Kept s (t.begin' t' c n) := .queueSts (.cairnAt (.putTrain (.ite (.raise (.addSat h)) h)))
theorem Kept.underrun {t' c} (h : Kept s t) : Kept s (t.underrun t' c) := .yardOcc (.putTrain (.raise (.count (.count (.addSat h)))))
theorem Kept.sentCopy {t' p q retain} (h : Kept s t) : Kept s (t.sentCopy t' p q retain) := by
  unfold State.sentCopy
  extract_lets _ s1 _ s2 s3
  have h1 : Kept s s1 := .count (.count (.book h))
  have h2 : Kept s s2 := .ite (.releaseCarriages h1) (.putTrain h1)
  have h3 : Kept s s3 := .shape (.ortSent h2)
  exact .yardOcc (.queueSts h3)
theorem Kept.pcieSend {p t' c} (h : Kept s t) : Kept s (t.pcieSend p t' c) := by
  unfold State.pcieSend
  extract_lets _ _ _ _ _ _ _ _ s1
  have h1 : Kept s s1 := .ite (.putTrain h) (.ite (.begin' (.setDll h)) (.setDll h))
  refine .ite ?_ ?_
  · exact .book h
  · refine .ite ?_ ?_
    · exact .book h
    · refine .ite ?_ ?_
      · exact .ite (.emit (.underrun (.book (.uncharge h)))) (.book h)
      · refine .ite ?_ ?_
        · exact .book (.count h)
        · refine .ite ?_ ?_
          · exact .book h
          · split
            · exact h1
            · refine .ite ?_ ?_
              · exact .yardOcc (.copied h1)
              · exact .ite (.putTrain (.book (.emit (.setDll h1)))) (.sentCopy (.book (.emit (.setDll h1))))
theorem Kept.arbAsk {p v} (h : Kept s t) : Kept s (t.arbAsk p v).2 := by
  unfold State.arbAsk
  refine .iteSnd ?_ ?_
  · exact h
  · refine .iteSnd ?_ ?_
    · exact .nextOf h
    · split
      · exact h
      · exact .book (.emit (.setPort h))
theorem Kept.arbServed {p v} (h : Kept s t) : Kept s (t.arbServed p v) := .update h rfl
theorem Kept.noteAsks {p} (h : Kept s t) : Kept s (t.noteAsks p) := .update h rfl
theorem Kept.grantSlot {p l} (h : Kept s t) : Kept s (t.grantSlot p l).2 := by
  induction l generalizing t with
  | nil => exact h
  | cons v rest ih =>
    unfold State.grantSlot
    split
    · rename_i s1 e
      exact .arbServed (.ofSnd e (.arbAsk h))
    · rename_i s1 e
      have h1 : Kept s s1 := .ofSnd e (.arbAsk h)
      exact .iteSnd (.arbServed (.book h1)) (ih h1)
theorem Kept.pcieTake {p} (h : Kept s t) : Kept s (t.pcieTake p) := by
  unfold State.pcieTake
  extract_lets
  split
  · exact .book (.count (.emit (.setDll h)))
  · split
    · exact .pcieSend h
    · split
      · rename_i s1 e
        have h1 : Kept s s1 := .ofSnd e (.grantSlot h)
        exact .pcieSend h1
      · rename_i s2 e
        have h2 : Kept s s2 := .ofSnd e (.grantSlot h)
        exact h2
      · rename_i s3 e
        have h3 : Kept s s3 := .ofSnd e (.grantSlot h)
        exact .starve (.ite (.count h3) h3)
theorem Kept.pcieSlot {p} (h : Kept s t) : Kept s (t.pcieSlot p) := .noteAsks (.pcieTake h)
theorem Kept.dllAck {p a} (h : Kept s t) : Kept s (t.dllAck p a) := by
  unfold State.dllAck
  extract_lets _ _ s1
  have h1 : Kept s s1 := .setDll h
  refine .ite ?_ ?_
  · exact h
  · refine .foldl h1 fun _ _ h2 => ?_
    split
    · exact .ite h2 (.coverTrain (.cairnAt h2))
    · exact h2
theorem Kept.dllReplay {p} (h : Kept s t) : Kept s (t.dllReplay p) :=
  .ite h (.ite (.ite (.retrain (.raise (.setDll h))) (.raise (.setDll h))) (.count (.setDll h)))
theorem Kept.dllpRx {p x} (h : Kept s t) : Kept s (t.dllpRx p x) := by
  unfold State.dllpRx
  refine .ite ?_ ?_
  · exact h
  · split
    · exact .dllAck h
    · exact .dllReplay (.dllAck h)
    · exact .setDll h
    · exact .raise h
    · exact .raise h
    · exact .raise h
theorem Kept.dllTimeout {p} (h : Kept s t) : Kept s (t.dllTimeout p) := .ite h (.dllReplay (.raise h))
theorem Kept.startPacket {p v t' psn} (h : Kept s t) : Kept s (t.startPacket p v t' psn) := .ite (.showAvail (.setHll h)) (.setHll h)
theorem Kept.ropeSwitch {m v} (h : Kept s t) : Kept s (t.ropeSwitch m v) := .ite (.ite (.set (.setRope (.setRope h))) (.setRope h)) h
theorem Kept.ropePacket {m p v t'} (h : Kept s t) : Kept s (t.ropePacket m p v t').2 := by
  unfold State.ropePacket
  extract_lets _ _ _ s1 s2
  have h1 : Kept s s1 := .setRope h
  have h2 : Kept s s2 := by
    unfold s2
    split
    · exact .ite (.set h1) h1
    · exact h1
  exact .retainAt h2
theorem Kept.endPacket {p v t'} (h : Kept s t) : Kept s (t.endPacket p v t') := by
  unfold State.endPacket
  extract_lets _ _ s1
  have h1 : Kept s s1 := .setHll h
  split
  · exact .sentCopy h1
  · exact .putTrain (.book h1)
theorem Kept.fillGo {f : Fill} (h : Kept s f.s) {p v t a resend psn} : Kept s (f.go p v t a resend psn).s := by
  unfold Fill.go
  extract_lets _ _ _ _ f1
  split
  · exact .endPacket h
  · exact .yardOcc (.ite (.putTrain (.setHll h)) (.copied (.putTrain (.setHll h))))
theorem Kept.fillAbort {f : Fill} (h : Kept s f.s) {p v sent} : Kept s (f.abort p v sent).s := .book (.setHll h)
theorem Kept.fillStart {f : Fill} (h : Kept s f.s) {p v t c} : Kept s (f.start p v t c).s := by
  unfold Fill.start
  extract_lets s1 _
  have h1 : Kept s s1 := .begin' h
  split
  next _ s2 e =>
  have h2 : Kept s s2 := by
    split at e
    · exact .ofSnd e (.ropePacket h1)
    · exact .ofSnd e h1
  exact .fillGo (.startPacket h2)
theorem Kept.fabNext {p v} (h : Kept s t) : Kept s (t.fabNext p v).2 := by
  unfold State.fabNext
  extract_lets siding
  clear_value siding
  split
  · exact .ite (.arbServed (.nextOf h)) (.nextOf h)
  · refine .iteSnd ?_ ?_
    · exact .arbServed h
    · split
      · rename_i s1 e
        have h1 : Kept s s1 := .ofSnd e (.nextOf h)
        exact .arbServed h1
      · rename_i s2 e
        have h2 : Kept s s2 := .ofSnd e (.nextOf h)
        exact .arbServed h2
theorem Kept.fillVc {f : Fill} (h : Kept s f.s) {p v n} : Kept s (f.vc p v n).s := by
  induction n generalizing f with
  | zero => exact h
  | succ n ih =>
    unfold Fill.vc
    split
    · exact h
    · extract_lets s1 again
      have h1 : Kept s s1 := h
      clear_value again
      split
      · exact ih (.fillAbort h)
      · split
        · exact h
        · split
          · exact ih (.fillAbort h)
          · split
            · exact ih (.fillGo h)
            · split
              · split
                · exact .fillAbort (.setHll (.underrun h1))
                · exact h
              · exact h
      · split
        · exact h
        · split
          · split
            · extract_lets _ s2
              have h2 : Kept s s2 := .setRope h1
              split
              · exact ih (.foldl h2 fun _ _ h => .readCpl h)
              · exact ih (.fillGo (.retainAt (.putTrain (.startPacket h2))))
            · exact h
          · split
            · dsimp only
              split
              · exact ih (.fillStart h)
              · exact h
            · split
              · rename_i s2 e
                exact ih (.fillStart (.ofSnd e (.fabNext h1)))
              · rename_i s2 e
                exact .ofSnd e (.fabNext h1)
theorem Kept.mgtCount {p mgt} (h : Kept s t) : Kept s (t.mgtCount p mgt) := .setHll h
theorem Kept.fillFlit {p} (h : Kept s t) : Kept s (t.fillFlit p).s := by
  unfold State.fillFlit
  extract_lets _ f1 f2
  have h1 : Kept s f1.s := .fillVc h
  have h2 : Kept s f2.s := by
    unfold f2
    split
    · exact .fillVc h1
    · exact h1
  exact .fillVc (.fillVc h2)
theorem Kept.fabTake {p} (h : Kept s t) : Kept s (t.fabTake p) := by
  unfold State.fabTake
  extract_lets _ _ s1 s2 f s3 gone s4
  have h2 : Kept s s2 := .putNull (.ite (.count h) h)
  have h3 : Kept s s3 := .fillFlit h
  have h4 : Kept s s4 := by
    unfold s4
    clear_value gone
    split
    · exact .arbServed h3
    · exact h3
  split
  · rename_i s5 e
    exact .mgtCount (.book (.putReplay h e))
  · refine .ite (.mgtCount (.starve (.putNull h))) (.ite ?_ ?_)
    · exact .mgtCount (.ite (.book h2) (.starve h2))
    · exact .ite (.mgtCount (.putNull (.ite (.starve (.book h4)) (.starve h4)))) (.mgtCount (.book (.putSeq h3)))
theorem Kept.fabSlot {p} (h : Kept s t) : Kept s (t.fabSlot p) := .noteAsks (.fabTake h)
theorem Kept.transmit {p} (h : Kept s t) : Kept s (t.transmit p) := .ite (.ite (.fabSlot h) h) (.ite (.pcieSlot h) h)
theorem Kept.stall {p v} (h : Kept s t) : Kept s (t.stall p v) := by
  unfold State.stall
  refine .ite ?_ ?_
  · exact h
  · extract_lets l s1
    have h1 : Kept s s1 := .addSat h
    clear_value l
    split
    · exact h
    · refine .ite ?_ ?_
      · exact h
      · refine .ite ?_ ?_
        · exact .raise (.addSat h)
        · extract_lets _ s2
          have h2 : Kept s s2 := .fenceLose (.fabDrop h1)
          exact .ite (.dropCopy (.fabDropNote h1)) (.queueSts (.refreshQueues (.endTrain h2)))
theorem Kept.wrTcvc {p v} (h : Kept s t) : Kept s (t.wrTcvc p v) := .ite (.set h) (.refreshBuf (.sets h))
theorem Kept.wrDrr {p q v} (h : Kept s t) : Kept s (t.wrDrr p q v) := .ite (.set (.set h)) (.set h)

/-! ### Telemetry -/

theorem Kept.wrChain {j v} (h : Kept s t) : Kept s (t.wrChain j v) := .set (.foldl h fun _ _ h => .ite h (.update (.setCtr h) rfl))
theorem Kept.wrTagCtl {v} (h : Kept s t) : Kept s (t.wrTagCtl v) :=
  .ite (.update (.ite (.sets h) (.set (.sets h))) rfl) (.ite (.sets h) (.set (.sets h)))
theorem Kept.wrRing {v} (h : Kept s t) : Kept s (t.wrRing v) := .ite (.set h) (.sets h)
theorem Kept.cairnFinish {id} (h : Kept s t) : Kept s (t.cairnFinish id) := by
  unfold State.cairnFinish
  split
  · exact h
  · refine .ite ?_ ?_
    · exact h
    · exact .ite (.raise (.count (.cairnSts (.update h rfl)))) (.update (.cairnSts (.update h rfl)) rfl)
theorem Kept.cairnPut (h : Kept s t) : Kept s t.cairnPut := by
  unfold State.cairnPut
  split
  · exact h
  · extract_lets _ _ _ s1 s2
    have h1 : Kept s s1 := .update h rfl
    have h2 : Kept s s2 := .count (.set (.blockWritten h1))
    exact .ite (.set h) (.ite (.set h2) h2)
theorem Kept.cairnWrite (h : Kept s t) : Kept s t.cairnWrite := by
  unfold State.cairnWrite
  split
  · exact h
  · exact .ite (.set h) (.budgeted h (fun _ h => .cairnPut h))
theorem Kept.coalExpire {code inst key} (h : Kept s t) : Kept s (t.coalExpire code inst key) := by
  unfold State.coalExpire
  split
  · exact h
  · extract_lets _ s1
    have h1 : Kept s s1 := .update h rfl
    split
    · exact h1
    · exact .ite h1 (.freezeEnd (.ite (.admitRec h1) (.countEvent (.admitRec h1))))
theorem Kept.drainQueue {n} (h : Kept s t) : Kept s (t.drainQueue n) := by
  induction n generalizing t with
  | zero => exact h
  | succ n ih =>
    unfold State.drainQueue
    split
    · exact h
    · exact ih (.setQueue (.writeMain (.addWrote (.spend h))))
theorem Kept.dropSummary (h : Kept s t) : Kept s t.dropSummary := by
  unfold State.dropSummary
  split
  extract_lets _ s1 _ s2
  have h1 : Kept s s1 := .update h rfl
  have h2 : Kept s s2 := .offer (.freezeCopy (.count h1))
  exact .ite h1 (.freezeEnd (.ite (.writeMain (.addWrote (.spend h2))) (.setQueue h2)))
theorem Kept.fifoRefill {l} (h : Kept s t) : Kept s (t.fifoRefill l) := by
  induction l generalizing t with
  | nil => exact h
  | cons r rest ih => exact .ite h (ih (.freezeEnd (.enterAlarm (.update h rfl))))
theorem Kept.fifoFree (h : Kept s t) : Kept s t.fifoFree := .fifoRefill (.setFifo h)
theorem Kept.alarmPut (h : Kept s t) : Kept s t.alarmPut := by
  unfold State.alarmPut
  split
  · exact h
  · exact .fifoFree (.setFifo (.blockWritten (.update h rfl)))
theorem Kept.alarmWrite (h : Kept s t) : Kept s t.alarmWrite := by
  unfold State.alarmWrite
  split
  · exact h
  · exact .ite (.alarmPut (.count (.spend h))) (.budgeted h (fun _ h => .alarmPut h))
theorem Kept.rearm (h : Kept s t) : Kept s t.rearm := .ite h (.sets (.update h rfl))
theorem Kept.wrLogCtl {v} (h : Kept s t) : Kept s (t.wrLogCtl v) := .ite (.update (.sets h) rfl) (.sets h)
theorem Kept.wrLogPlace {b n} (h : Kept s t) : Kept s (t.wrLogPlace b n) := .ite (.set h) (.sets (.update h rfl))
theorem Kept.mark (h : Kept s t) : Kept s t.mark := .ite h (.freezeEnd (.ite (.admitRec h) (.countEvent (.admitRec h))))
theorem Kept.gapExpire (h : Kept s t) : Kept s t.gapExpire := .ite h (.ite (.update h rfl) (.update (.raiseMsix h) rfl))
theorem Kept.wrDmaCtl {v} (h : Kept s t) : Kept s (t.wrDmaCtl v) :=
  .ite (.set (.update (.sets h) rfl)) (.ite (.set (.update (.sets h) rfl)) (.sets h))
theorem Kept.dmaWrite {a data} (h : Kept s t) : Kept s (t.dmaWrite a data) := .inject h
theorem Kept.blockLost {blk} (h : Kept s t) : Kept s (t.blockLost blk) := .raise (.count (.set (.addSat h)))
theorem Kept.dmaRead {l} (h : Kept s t) : Kept s (t.dmaRead l).2 := by
  induction l generalizing t with
  | nil => exact h
  | cons r rest ih => exact .iteSnd (ih (.blockLost h)) (ih h)
theorem Kept.dmaSend {asked} (h : Kept s t) : Kept s (t.dmaSend asked) := by
  unfold State.dmaSend
  split
  next _ s1 e =>
  have h1 : Kept s s1 := .ofSnd e (.dmaRead (.update h rfl))
  refine .ite ?_ ?_
  · exact h1
  · extract_lets _ _ s2 s3 _ _ s4 s5
    have h2 : Kept s s2 := .count h1
    have h3 : Kept s s3 := .foldl h2 fun _ _ h => .dmaWrite h
    have h4 : Kept s s4 := .update h3 rfl
    have h5 : Kept s s5 := .dmaWrite (.set h4)
    exact .ite (.raiseMsix h5) h5
theorem Kept.dmaKeep (h : Kept s t) : Kept s t.dmaKeep := .count (.update h rfl)
theorem Kept.dmaBatch {paid} (h : Kept s t) : Kept s (t.dmaBatch paid) := by
  unfold State.dmaBatch
  refine .ite ?_ ?_
  · exact h
  · refine .ite ?_ ?_
    · exact .set h
    · extract_lets s1
      have h1 : Kept s s1 := .dmaKeep h
      exact .ite (.set h1) (.ite (.set h1) (.ite (.defer h1) (.dmaSend (.spend h1))))

/-! ### Errors -/

theorem Kept.trainBegan {p} (h : Kept s t) : Kept s (t.trainBegan p) := .ite (.cmdDone h) h
theorem Kept.releasePort {p} (h : Kept s t) : Kept s (t.releasePort p) :=
  .ite (.assertPrst (.openPort h)) (.trainBegan (.startTrain (.openPort h)))
theorem Kept.releaseVh {v} (h : Kept s t) : Kept s (t.releaseVh v) := .vhReset (.update h rfl)
theorem Kept.vhReleased {v} (h : Kept s t) : Kept s (t.vhReleased v) :=
  .ite h (.cmdDone (.ite h (.foldl h fun _ _ h => .ite (.openPort h) h)))
theorem Kept.releaseVf {i} (h : Kept s t) : Kept s (t.releaseVf i) := .startFlr (.update h rfl)
theorem Kept.wrContainCtl {v} (h : Kept s t) : Kept s (t.wrContainCtl v) := by
  unfold State.wrContainCtl
  extract_lets _ _ _ _ s1 _ s2 s3
  have h1 : Kept s s1 := .sets h
  have h2 : Kept s s2 := .update h1 rfl
  have h3 : Kept s s3 := .sets h2
  refine .ite ?_ ?_
  · exact h1
  · refine .ite ?_ ?_
    · exact .set h1
    · refine .ite ?_ ?_
      · exact .sets h1
      · exact .ite (.containTarget h3) (.ite (.releasePort h3) (.ite (.releaseVh h3) (.releaseVf h3)))
theorem Kept.containDone (h : Kept s t) : Kept s t.containDone := by
  unfold State.containDone
  split
  · exact .cmdDone h
  · exact h
theorem Kept.escExpire {j inst} (h : Kept s t) : Kept s (t.escExpire j inst) := .update h rfl
theorem Kept.relock (h : Kept s t) : Kept s t.relock := .set (.update h rfl)
theorem Kept.endSessions (h : Kept s t) : Kept s t.endSessions := .relock (.update h rfl)
theorem Kept.senseDone (h : Kept s t) : Kept s t.senseDone := .ite (.update h rfl) h
theorem Kept.senseStart (h : Kept s t) : Kept s t.senseStart := .budgeted (.set (.update h rfl)) (fun _ h => .senseDone h)
theorem Kept.passRestart (h : Kept s t) : Kept s t.passRestart := .ite h (.set (.senseStart h))
theorem Kept.ascentStart {again} (h : Kept s t) : Kept s (t.ascentStart again) := .sets (.update h rfl)
theorem Kept.raisePorts (h : Kept s t) : Kept s t.raisePorts :=
  .foldl h fun _ _ h => .ite (.emit (.wakeLanes (.setLink (.supersedeWidth h)))) h
theorem Kept.clkFreeze (h : Kept s t) : Kept s t.clkFreeze := by
  unfold State.clkFreeze
  split
  · exact .ite h (.freezeCopy (.freezeStart (.update h rfl)))
  · exact h
theorem Kept.histAbandon (h : Kept s t) : Kept s t.histAbandon := .ite (.set (.update h rfl)) h
theorem Kept.guideTakes {i} (h : Kept s t) : Kept s (t.guideTakes i) := by
  unfold State.guideTakes
  extract_lets s1 s2
  have h1 : Kept s s1 := .sets h
  have h2 : Kept s s2 := .clkFreeze (.histAbandon (.endSessions (.passRestart h1)))
  exact .ite (.ascentStart h2) h2
theorem Kept.guideMismatch {i} (h : Kept s t) : Kept s (t.guideMismatch i) := by
  unfold State.guideMismatch
  extract_lets _ _ s1 s2 _ _ s3 s4 s5 s6 _ s7
  have h1 : Kept s s1 := .update h rfl
  have h2 : Kept s s2 := .ite (.releaseLock h1) h1
  have h3 : Kept s s3 := .update h2 rfl
  have h4 : Kept s s4 := .set (.addSat h3)
  have h5 : Kept s s5 := .raise h4
  have h6 : Kept s s6 := .ite (.repairEnter h5) h5
  have h7 : Kept s s7 := .ite (.guideTakes h6) h6
  exact .ite h (.ite (.raise h7) h7)
theorem Kept.guideReady {i ok} (h : Kept s t) : Kept s (t.guideReady i ok) := .ite h (.ite (.set h) (.guideTakes h))
theorem Kept.guideCheckpoint (h : Kept s t) : Kept s t.guideCheckpoint := .ite (.budgeted h fun _ h => h) h
theorem Kept.rootLost {ref lock} (h : Kept s t) : Kept s (t.rootLost ref lock) :=
  .ite (.sets (.free (.ite (.set (.sets h)) (.sets h)))) (.ite (.set (.sets h)) (.sets h))

/-! ### Ageing -/

theorem Kept.avsSend {c} (h : Kept s t) : Kept s (t.avsSend c) := .emit (.update h rfl)
theorem Kept.avsNext (h : Kept s t) : Kept s t.avsNext :=
  .ite h (.ite (.avsSend (.update h rfl)) (.ite h (.ite (.count (.avsSend (.update h rfl))) (.update h rfl))))
theorem Kept.avsDone {ok mv ca} (h : Kept s t) : Kept s (t.avsDone ok mv ca) := by
  unfold State.avsDone
  split
  · exact .ite (.sets h) (.addSat h)
  · refine .ite ?_ ?_
    · exact .ite (.avsNext (.set (.update h rfl))) (.set (.update h rfl))
    · extract_lets s1 _ s2
      have h1 : Kept s s1 := .addSat h
      have h2 : Kept s s2 := .update h1 rfl
      exact .ite (.emit h1) (.ite (.emit (.update h1 rfl)) (.emit (.raise (.set h2))))
theorem Kept.avsSettled (h : Kept s t) : Kept s t.avsSettled := .ite h (.avsNext (.set (.update h rfl)))
theorem Kept.wrAvsCtl {v} (h : Kept s t) : Kept s (t.wrAvsCtl v) :=
  .ite (.avsNext (.update (.sets h) rfl)) (.ite (.update (.sets h) rfl) (.sets h))
theorem Kept.marginLow {inst} (h : Kept s t) : Kept s (t.marginLow inst) := .raise (.update h rfl)
theorem Kept.rowInval {m row} (h : Kept s t) : Kept s (t.rowInval m row) := .update (.cacheInval h) rfl
theorem Kept.sramMove {m row cause} (h : Kept s t) : Kept s (t.sramMove m row cause) :=
  .ite h (.raise (.repairEnter (.rowInval (.update h rfl))))
theorem Kept.sramRepair {m row cause} (h : Kept s t) : Kept s (t.sramRepair m row cause) :=
  .ite h (.ite (.ite h (.marginLow (.update h rfl))) (.budgeted (.wbAsk h) (fun _ h => .sramMove h)))
theorem Kept.dramMove {ch bank row cause} (h : Kept s t) : Kept s (t.dramMove ch bank row cause) :=
  .ite (.raise h) (.raise (.repairEnter (.addSat (.subF (.update h rfl)))))
theorem Kept.dramRepair {ch bank row cause} (h : Kept s t) : Kept s (t.dramRepair ch bank row cause) :=
  .ite (.raise h) (.budgeted h (fun _ h => .dramMove h))
theorem Kept.writeBack (h : Kept s t) : Kept s t.writeBack := .budgeted h fun _ h => h
theorem Kept.eccSeen {addr r} (h : Kept s t) : Kept s (t.eccSeen addr r) := by
  unfold State.eccSeen
  split
  · exact h
  · exact .writeBack (.raise (.count (.addSat h)))
  · exact .count (.set (.addSat h))
theorem Kept.eccClient {r} (h : Kept s t) : Kept s (t.eccClient r) := by
  unfold State.eccClient
  split
  · exact h
  · exact .eccSeen (.free h)
theorem Kept.rowCorrected {place pos} (h : Kept s t) : Kept s (t.rowCorrected place pos) :=
  .ite (.dramRepair (.update h rfl)) (.update h rfl)
theorem Kept.scrubSeen {addr r pos} (h : Kept s t) : Kept s (t.scrubSeen addr r pos) := by
  unfold State.scrubSeen
  extract_lets _ s1 _ s2
  have h1 : Kept s s1 := .eccSeen h
  have h2 : Kept s s2 := .update h1 rfl
  split
  · exact h
  · exact .rowCorrected (.eccSeen h)
  · exact .dramRepair h2
theorem Kept.scrubRead {addr r pos} (h : Kept s t) : Kept s (t.scrubRead addr r pos) := .ite h (.budgeted h (fun _ h => .scrubSeen h))
theorem Kept.hutScrub {r words} (h : Kept s t) : Kept s (t.hutScrub r words) := by
  unfold State.hutScrub
  split
  · exact h
  · exact .update h rfl
  · exact .foldl h fun _ _ h => .raise h
theorem Kept.rowSeen {m row r words} (h : Kept s t) : Kept s (t.rowSeen m row r words) := by
  unfold State.rowSeen
  extract_lets s1 _ _ s2
  have h1 : Kept s s1 := .hutScrub h
  have h2 : Kept s s2 := .update h1 rfl
  split
  · exact h1
  · exact .sramRepair h1
  · exact .ite (.sramRepair h2) h2
theorem Kept.sramScrub {m row r words} (h : Kept s t) : Kept s (t.sramScrub m row r words) := .budgeted h (fun _ h => .rowSeen h)
theorem Kept.passStart (h : Kept s t) : Kept s t.passStart := .setDue (.senseStart (.update h rfl))
theorem Kept.passDue (h : Kept s t) : Kept s t.passDue := .ite h (.ite (.passStart h) (.update h rfl))
theorem Kept.passWaited (h : Kept s t) : Kept s t.passWaited := .ite (.passStart h) h
theorem Kept.wrAcclCfg {v} (h : Kept s t) : Kept s (t.wrAcclCfg v) :=
  .ite (.writePlain h) (.ite (.set (.writePlain h)) (.ite (.passStart (.writePlain h)) (.writePlain h)))
theorem Kept.scanStation {st} (h : Kept s t) : Kept s (t.scanStation st) := .update h rfl
theorem Kept.scanLane {n} (h : Kept s t) : Kept s (t.scanLane n) := .wrEyescan (.spend (.update h rfl))
theorem Kept.passRows (h : Kept s t) : Kept s t.passRows := .foldl (.foldl h fun _ _ h => .sramRepair h) fun _ _ h => .dramRepair h
theorem Kept.scanNext {l} (h : Kept s t) : Kept s (t.scanNext l) := by
  induction l generalizing t with
  | nil => exact .passRows (.set (.update h rfl))
  | cons st rest ih =>
    have h1 : Kept s (({ t with age := { t.age with stations := rest } } : State).scanStation st) := .scanStation (.update h rfl)
    exact .ite (ih h1) h1
theorem Kept.scanLeave {n} (h : Kept s t) : Kept s (t.scanLeave n) := .ite (.scanNext (.update h rfl)) (.update h rfl)
theorem Kept.judgeLane {n} (h : Kept s t) : Kept s (t.judgeLane n) := by
  unfold State.judgeLane
  extract_lets _ s1
  have h1 : Kept s s1 := .ite (.marginLow (.spend (.setLane h))) h
  exact .ite (.goRetrain (.spend h1)) h1
theorem Kept.scanDone {n pts errs uv} (h : Kept s t) : Kept s (t.scanDone n pts errs uv) :=
  .ite h (.ite (.set (.set (.endScan h))) (.foldl (.set (.endScan h)) fun _ _ h => .sets h))
theorem Kept.intGo {a} (h : Kept s t) : Kept s (t.intGo a) := by
  unfold State.intGo
  split
  · exact .histRead h
  · exact .scanLane h
  · exact .ite (.update (.spend h) rfl) (.scanLeave (.judgeLane (.update (.spend h) rfl)))
theorem Kept.intNote (h : Kept s t) : Kept s t.intNote := by
  unfold State.intNote
  split
  · exact h
  · exact .ite (.ite h (.turnedAway h)) (.turnedAway (.ite h (.turnedAway h)))
theorem Kept.passScans (h : Kept s t) : Kept s t.passScans := .ite h (.foldl h fun _ _ h => .ite h (.ite (.update h rfl) (.scanLeave h)))
theorem Kept.planDone {plan low} (h : Kept s t) : Kept s (t.planDone plan low) := by
  unfold State.planDone
  extract_lets _ s1 s2
  have h1 : Kept s s1 := by
    unfold s1
    split
    · exact .sets (.update h rfl)
    · exact h
  have h2 : Kept s s2 := .ite (.marginLow h1) h1
  exact .scanNext (.set h2)
theorem Kept.planStep {m} (h : Kept s t) : Kept s (t.planStep m) := by
  unfold State.planStep
  extract_lets _ _ s1
  have h1 : ∀ v0 v1 v2, Kept s v0 → Kept s (s1 v0 v1 v2) := fun _ _ _ hv => .count (.avsSend (.update hv rfl))
  refine .ite ?_ ?_
  · exact .planDone h
  · refine .ite ?_ ?_
    · exact h1 _ _ _ h
    · exact .ite (.planDone (.count (.avsSend (.update h rfl)))) (.ite (h1 _ _ _ h) (.planDone h))
theorem Kept.showMargin {d m} (h : Kept s t) : Kept s (t.showMargin d m) :=
  .ite (.set h) (.ite (.addSat (.set (.free (.set h)))) (.set (.free (.set h))))
theorem Kept.measureSeen {ms osc} (h : Kept s t) : Kept s (t.measureSeen ms osc) :=
  .ite h (.planStep (.foldl (.foldl h fun _ _ h => .showMargin h) fun _ _ h => .sets (.free h)))
theorem Kept.marginStart (h : Kept s t) : Kept s t.marginStart := .ite (.set h) h
theorem Kept.measured {ms osc} (h : Kept s t) : Kept s (t.measured ms osc) :=
  .ite (.marginStart h) (.budgeted (.marginStart h) (fun _ h => .measureSeen h))
theorem Kept.passBank {b ce} (h : Kept s t) : Kept s (t.passBank b ce) := .ite (.retireBank (.update h rfl)) h
theorem Kept.lifeEnd (h : Kept s t) : Kept s t.lifeEnd := .ite (.marginLow (.set h)) h
theorem Kept.project (h : Kept s t) : Kept s t.project := .lifeEnd (.sets (.free h))
theorem Kept.publish (h : Kept s t) : Kept s t.publish := .ite h (.sets (.update (.log (.free (.project (.set h)))) rfl))
theorem Kept.passEnd (h : Kept s t) : Kept s t.passEnd := .ite h (.budgeted h (fun _ h => .publish h))
theorem Kept.fastStep (h : Kept s t) : Kept s t.fastStep :=
  .ite h (.avsNext (.update (.marginLow (.addSat (.set (.addSat (.update (.free h) rfl))))) rfl))
theorem Kept.minute {tj} (h : Kept s t) : Kept s (t.minute tj) := by
  unfold State.minute
  extract_lets _ _ _ s1 s2 s3 s4
  have h1 : Kept s s1 := .update h rfl
  have h2 : Kept s s2 := .addSat h1
  have h3 : Kept s s3 := .lifeEnd (.ite (.subF h2) (.set h2))
  have h4 : Kept s s4 := .setDue h3
  exact .ite (.subF h4) h4
theorem Kept.reload {c} (h : Kept s t) : Kept s (t.reload c) := .update (.ite (.addSat (.sets h)) (.sets h)) rfl
theorem Kept.selfTests (h : Kept s t) : Kept s t.selfTests := .ite (.free h) (.spend (.free h))
theorem Kept.firstPitch (h : Kept s t) : Kept s t.firstPitch := .foldl h fun _ _ h => .update h rfl

/-! ### Boot -/

theorem Kept.wrResetCtl {v} (h : Kept s t) : Kept s (t.wrResetCtl v) := .ite (.update h rfl) h
theorem Kept.strapLayout (h : Kept s t) : Kept s t.strapLayout := by
  unfold State.strapLayout
  extract_lets _ s1 s2 s3 s4 _ _ s5 s6
  have h1 : Kept s s1 := .foldl h fun _ _ h => .set h
  have h2 : Kept s s2 := .foldl h1 fun _ _ h => .ite h (.wrPortRole h)
  have h3 : Kept s s3 := .foldl h2 fun _ _ h => .ite (.bootLimits h) h
  have h4 : Kept s s4 := .refreshBuf (.set h3)
  have h5 : Kept s s5 := .foldl h4 fun _ _ h => .wrVhBind h
  have h6 : Kept s s6 := .foldl h5 fun _ _ h => .attach h
  exact .foldl h6 fun _ _ h => .releasePrst h
theorem Kept.retested {i} (h : Kept s t) : Kept s (t.retested i) := .addSat h
theorem Kept.loadMap {l n i} (h : Kept s t) : Kept s (t.loadMap l n i) := by
  induction n generalizing t l i with
  | zero => exact h
  | succ n ih => exact ih (.ite (.sets h) h)
theorem Kept.badHistory {slot} (h : Kept s t) : Kept s (t.badHistory slot) := by
  unfold State.badHistory
  refine .foldl h fun _ _ h1 => ?_
  split
  · exact h1
  · refine .ite ?_ ?_
    · extract_lets
      refine .foldl h1 fun _ _ h2 => ?_
      split
      · exact .ite h2 (.raise h2)
      · exact h2
    · exact h1
theorem Kept.dramRow {cold made i} (h : Kept s t) : Kept s (t.dramRow cold made i).1 := .iteFst h (.iteFst (.update h rfl) (.subF h))
theorem Kept.showHardLeft (h : Kept s t) : Kept s t.showHardLeft := .sets h
theorem Kept.useSpare {col m} (h : Kept s t) : Kept s (t.useSpare col m) := .ite (.update h rfl) (.update h rfl)
theorem Kept.startArrays {rep} (h : Kept s t) : Kept s (t.startArrays rep) := by
  unfold State.startArrays
  extract_lets s1
  have h1 : ∀ v0 v1 v2, Kept s v1 → Kept s (s1 v0 v1 v2) := fun _ _ _ hv => .ite hv (.repairEnter (.useSpare hv))
  exact .foldl (.foldl h fun _ _ h => h1 _ _ _ h) fun _ _ h => h1 _ _ _ h
theorem Kept.applyMap {rep} (h : Kept s t) : Kept s (t.applyMap rep) := by
  refine .foldlFst h fun ⟨s1, made⟩ _ h => ?_
  have h1 : Kept s s1 := h
  refine .iteFst (.ite (.retested h1) h1) (.iteFst (.ite (.retested h1) h1) (.iteFst (.ite h1 (.retested h1)) ?_))
  exact .iteFst (.ite (.useSpare h1) (.retested (.useSpare h1))) (.iteFst (.dramRow (.retested h1)) (.retested h1))
theorem Kept.startPlanes {rep} (h : Kept s t) : Kept s (t.startPlanes rep) := by
  unfold State.startPlanes
  extract_lets _ s1 _ s2
  have h1 : Kept s s1 := .foldl h fun _ _ h => .ite (.sets h) (.ite (.repairEnter (.sets h)) h)
  have h2 : Kept s s2 := .foldl h1 fun _ _ h => .set h
  exact .ite (.raise h2) h2
theorem Kept.startBanks {rep} (h : Kept s t) : Kept s (t.startBanks rep) := by
  unfold State.startBanks
  extract_lets _ _ s1 _ _ s2 s3 s5
  have h1 : Kept s s1 := .foldl h fun _ _ h => .ite h (.repairEnter h)
  have h2 : Kept s s2 := .update h1 rfl
  have h3 : Kept s s3 := by
    unfold s3
    refine .foldl h2 fun _ _ h4 => ?_
    refine .ite ?_ ?_
    · exact .set h4
    · split
      · exact .subF (.set (.update h4 rfl))
      · exact .set (.update h4 rfl)
  have h5 : Kept s s5 := .set h3
  split
  · exact .sets h5
  · exact h5
theorem Kept.startPairs {rep} (h : Kept s t) : Kept s (t.startPairs rep) := by
  unfold State.startPairs
  extract_lets _ _ _ s1 s2 s3
  have h1 : Kept s s1 := .ite h (.repairEnter h)
  have h2 : Kept s s2 := .ite h1 (.repairEnter h1)
  have h3 : Kept s s3 := .sets h2
  exact .ite (.raise h3) h3
theorem Kept.readBoard (h : Kept s t) : Kept s t.readBoard := by
  unfold State.readBoard
  extract_lets good
  clear_value good
  split
  · exact .set (.update h rfl)
  · exact h
theorem Kept.startAge (h : Kept s t) : Kept s t.startAge := by
  unfold State.startAge
  extract_lets _ r
  clear_value r
  split
  · exact .avsSend (.project (.sets (.update h rfl)))
  · exact .avsSend h
theorem Kept.showSlot {i verified active} (h : Kept s t) : Kept s (t.showSlot i verified active) := .sets h
theorem Kept.setAside {i} (h : Kept s t) : Kept s (t.setAside i) := by
  unfold State.setAside
  split
  next _ s1 e =>
  have h1 : Kept s s1 := .ofSnd e (.free h)
  exact .raise h1
theorem Kept.bootNext {l} (h : Kept s t) : Kept s (t.bootNext l) := by
  induction l generalizing t with
  | nil => exact .set (.update h rfl)
  | cons i rest ih => exact .ite (.update h rfl) (.ite (ih (.setAside h)) (.programBytes (.update h rfl)))
theorem Kept.verified {keyOk sigOk digestOk ms} (h : Kept s t) : Kept s (t.verified keyOk sigOk digestOk ms) := by
  unfold State.verified
  split
  · exact h
  · exact .ite h (.ite (.raisePorts (.ascentStart (.sets (.update h rfl)))) (.bootNext (.setAside h)))
theorem Kept.pair1Verified {ok} (h : Kept s t) : Kept s (t.pair1Verified ok) :=
  .ite h (.ite (.ite (.set h) (.guideTakes h)) (.ite (.raise (.set h)) (.set h)))
theorem Kept.toSummit (h : Kept s t) : Kept s t.toSummit := .setDue (.sets (.update h rfl))
theorem Kept.summit (h : Kept s t) : Kept s t.summit := .ite (.toSummit h) h
theorem Kept.summitLate (h : Kept s t) : Kept s t.summitLate := .ite (.toSummit (.set h)) h
theorem Kept.confirm (h : Kept s t) : Kept s t.confirm := by
  unfold State.confirm
  split
  · exact .ite (.sets (.programBytes h)) h
  · exact h
theorem Kept.autoConfirm (h : Kept s t) : Kept s t.autoConfirm := .ite h (.ite (.confirm (.update h rfl)) (.update h rfl))
theorem Kept.raiseSvn (h : Kept s t) : Kept s t.raiseSvn := by
  unfold State.raiseSvn
  split
  · exact .ite (.set h) h
  · exact h
theorem Kept.wrImgCtl {v} (h : Kept s t) : Kept s (t.wrImgCtl v) :=
  .ite (.raiseSvn (.ite (.confirm (.set h)) (.set h))) (.ite (.confirm (.set h)) (.set h))
theorem Kept.updStart (h : Kept s t) : Kept s t.updStart := by
  unfold State.updStart
  split
  next _ s1 e =>
  have h1 : Kept s s1 := by
    split at e
    · exact .ofSnd e h
    · exact .ofSnd e (.pick h)
  exact .sets (.update h1 rfl)
theorem Kept.updFail {fault} (h : Kept s t) : Kept s (t.updFail fault) := .sets h
theorem Kept.updGo (h : Kept s t) : Kept s t.updGo := .ite (.set h) (.ite (.update h rfl) (.updStart h))
theorem Kept.updAbort (h : Kept s t) : Kept s t.updAbort := .ite (.updFail h) (.ite (.updFail (.update h rfl)) h)
theorem Kept.wrUpdCtl {v} (h : Kept s t) : Kept s (t.wrUpdCtl v) :=
  .ite (.updAbort (.ite (.updGo (.set h)) (.set h))) (.ite (.updGo (.set h)) (.set h))
theorem Kept.wrUpdSts {v} (h : Kept s t) : Kept s (t.wrUpdSts v) := .ite (.set (.sets h)) (.sets h)
theorem Kept.updCopy (h : Kept s t) : Kept s t.updCopy := by
  unfold State.updCopy
  split
  · exact h
  · split
    · exact h
    · exact .bootSt h id (Memory.wf_writeBytes _ _ _ _)
theorem Kept.updProgram (h : Kept s t) : Kept s t.updProgram := .set (.programBytes (.programBytes h))
theorem Kept.updHeader (h : Kept s t) : Kept s t.updHeader := .set (.showSlot (.programBytes h))
theorem Kept.updPhase {rep} (h : Kept s t) : Kept s (t.updPhase rep) := by
  unfold State.updPhase
  extract_lets
  refine .ite ?_ ?_
  · exact h
  · refine .ite ?_ ?_
    · exact .ite (.set h) (.updFail h)
    · refine .ite ?_ ?_
      · exact .set (.updCopy h)
      · refine .ite ?_ ?_
        · exact .ite (.set (.eraseFlash h)) (.updFail h)
        · refine .ite ?_ ?_
          · exact .ite (.set (.updProgram h)) (.updFail h)
          · exact .ite (.ite (.set h) (.updFail h)) (.ite (.ite (.updHeader h) (.updFail h)) h)
theorem Kept.histWrite (h : Kept s t) : Kept s t.histWrite := by
  unfold State.histWrite
  split
  · exact h
  · exact .ite h (.set (.update (.programBytes (.eraseFlash h)) rfl))
theorem Kept.histDone {ok} (h : Kept s t) : Kept s (t.histDone ok) := by
  unfold State.histDone
  split
  · exact h
  · refine .ite ?_ ?_
    · exact .ite (.updStart h) h
    · extract_lets _ s1 s2 _ s3
      have h1 : Kept s s1 := .programBytes h
      have h2 : Kept s s2 := .ite (.sets h1) (.dirtyAge h)
      have h3 : Kept s s3 := .update h2 rfl
      exact .ite (.updStart h3) h3

/-! ### Shadow -/

theorem Kept.shadowDrop {page} (h : Kept s t) : Kept s (t.shadowDrop page) := .sets (.update h rfl)
theorem Kept.shadowStart {page} (h : Kept s t) : Kept s (t.shadowStart page) := .set (.update h rfl)
theorem Kept.withCommit {page} (h : Kept s t) : Kept s (t.withCommit page) := by
  unfold State.withCommit
  refine .foldl h fun _ _ h1 => ?_
  refine .ite ?_ ?_
  · exact h1
  · split
    · exact .set h1
    · exact h1
theorem Kept.partClear (h : Kept s t) : Kept s t.partClear := .clearRes h
theorem Kept.shadowRefuse {page fault off} (h : Kept s t) : Kept s (t.shadowRefuse page fault off) := .sets (.update h rfl)
theorem Kept.shadowApply {page} (h : Kept s t) : Kept s (t.shadowApply page) := by
  unfold State.shadowApply
  extract_lets s1 _ _ s2 _ _ s3
  have h1 : Kept s s1 := .withCommit h
  have h2 : Kept s s2 := .update h1 rfl
  have h3 : Kept s s3 := .sets h2
  exact .ite (.refreshBuf h3) (.ite (.partClear (.sets h3)) h3)
theorem Kept.shadowPass {page} (h : Kept s t) : Kept s (t.shadowPass page) := .budgeted (.set h) (fun _ h => .shadowApply h)
theorem Kept.shadowCheck {page} (h : Kept s t) : Kept s (t.shadowCheck page) := by
  unfold State.shadowCheck
  refine .ite ?_ ?_
  · exact h
  · split
    · exact .ite (.sets (.shadowRefuse h)) (.shadowRefuse h)
    · refine .ite ?_ ?_
      · exact .sets (.shadowRefuse h)
      · refine .ite ?_ ?_
        · split
          · exact .sets (.shadowRefuse h)
          · exact .shadowPass h
        · exact .ite (.set (.shadowRefuse h)) (.shadowPass h)
theorem Kept.wrShadowCtl {page v} (h : Kept s t) : Kept s (t.wrShadowCtl page v) := by
  unfold State.wrShadowCtl
  refine .ite ?_ ?_
  · exact h
  · extract_lets s1 s2 s3 s4
    have h1 : Kept s s1 := .set h
    have h2 : Kept s s2 := .ite (.set h1) h1
    have h3 : Kept s s3 := .ite (.winDiscard h2) h2
    have h4 : Kept s s4 := .ite (.shadowDrop h2) h2
    exact .ite h2 (.ite (.ite (.winGo h3) h3) (.ite (.set h2) (.ite (.shadowStart h4) h4)))
theorem Kept.forceEvent {page code} (h : Kept s t) : Kept s (t.forceEvent page code) := by
  unfold State.forceEvent
  split
  · exact h
  · exact .ite (.log (.showEvent (.count h))) (.update (.log (.showEvent (.count h))) rfl)
theorem Kept.wrEvtForce {page v} (h : Kept s t) : Kept s (t.wrEvtForce page v) := .foldl h fun _ _ h => .ite (.forceEvent h) h

/-! ### Power -/

theorem Kept.tempRead {temp diode} (h : Kept s t) : Kept s (t.tempRead temp diode) :=
  .ite (.raise (.update (.sets h) rfl)) (.ite (.update (.sets h) rfl) (.sets h))
theorem Kept.railMove {r outside} (h : Kept s t) : Kept s (t.railMove r outside) := .set h
theorem Kept.railLong {r} (h : Kept s t) : Kept s (t.railLong r) := .ite h (.raise (.set h))
theorem Kept.unsync (h : Kept s t) : Kept s t.unsync := .ite (.raise (.set (.update h rfl))) (.update h rfl)
theorem Kept.timeStep {v} (h : Kept s t) : Kept s (t.timeStep v) := .unsync (.addSat (.update h rfl))
theorem Kept.timeMeasure {offset value interval} (h : Kept s t) : Kept s (t.timeMeasure offset value interval) :=
  .ite (.timeStep (.set h)) (.ite (.set (.update (.set (.set h)) rfl)) (.update (.set (.set h)) rfl))
theorem Kept.ptmDone {p master} (h : Kept s t) : Kept s (t.ptmDone p master) := .ite (.ptmAsk (.timeMeasure (.count h))) h
theorem Kept.ppsIn (h : Kept s t) : Kept s t.ppsIn := .ite (.count h) (.set (.timeMeasure (.count h)))
theorem Kept.syncLost (h : Kept s t) : Kept s t.syncLost := .ite h (.unsync h)
theorem Kept.wrTimeSet {v} (h : Kept s t) : Kept s (t.wrTimeSet v) := .ite (.timeStep h) (.set h)
theorem Kept.wrTimeSrc {v} (h : Kept s t) : Kept s (t.wrTimeSrc v) := .ite (.set h) (.ptmAsk (.ite (.sets h) (.unsync (.sets h))))
theorem Kept.ppsRise (h : Kept s t) : Kept s t.ppsRise := .ite (.emit (.update h rfl)) h

/-! ### Clock -/

theorem Kept.ppsFall (h : Kept s t) : Kept s t.ppsFall := .ite (.update h rfl) h
theorem Kept.countSome {i n} (h : Kept s t) : Kept s (t.countSome i n) := .ite h (.count h)
theorem Kept.slotTick {p} (h : Kept s t) : Kept s (t.slotTick p) := .ite h (.countSome (.update h rfl))
theorem Kept.portCycles {p} (h : Kept s t) : Kept s (t.portCycles p) := .ite h (.countSome (.countSome (.slotTick h)))
theorem Kept.vhCycles {v} (h : Kept s t) : Kept s (t.vhCycles v) := .countSome (.countSome (.countSome h))
theorem Kept.yardCycles {y} (h : Kept s t) : Kept s (t.yardCycles y) := .countSome (.countSome (.countSome h))
theorem Kept.devCycles (h : Kept s t) : Kept s t.devCycles := .countSome (.countSome (.countSome (.countSome (.update h rfl))))
theorem Kept.countCycles (h : Kept s t) : Kept s t.countCycles := by
  unfold State.countCycles
  extract_lets s1 s2 s3
  have h1 : Kept s s1 := .foldl h fun _ _ h => .portCycles h
  have h2 : Kept s s2 := .foldl h1 fun _ _ h => .vhCycles h
  have h3 : Kept s s3 := .foldl h2 fun _ _ h => .countSome h
  exact .devCycles (.foldl h3 fun _ _ h => .yardCycles h)
theorem Kept.tick (h : Kept s t) : Kept s t.tick := by
  unfold State.tick
  refine .ite ?_ ?_
  · extract_lets s1
    have h1 : Kept s s1 := .countCycles (.winChecked h)
    split
    · exact .ppsFall (.foldl (.set (.update h1 rfl)) fun _ _ h => .gateResync h)
    · exact .ppsFall (.set (.update h1 rfl))
  · exact h

/-! ### Attest -/

theorem Answers.whenPower {f : State → State} (h : Kept s t) (hf : ∀ u, Kept s u → Kept s (f u)) : Answers s (whenPower t f) :=
  .next (.ite (hf _ h) h)
theorem Kept.setIr {ir} (h : Kept s t) : Kept s (t.setIr ir) := .update h rfl
theorem Kept.setBoundary {v} (h : Kept s t) : Kept s (t.setBoundary v) := .update h rfl
theorem Kept.tapReset (h : Kept s t) : Kept s t.tapReset := .setIr h
theorem Kept.tapBypass (h : Kept s t) : Kept s t.tapBypass := .emit (.setIr h)
theorem Kept.tapIdcode (h : Kept s t) : Kept s t.tapIdcode := .emit (.setIr h)
theorem Kept.tapScan {ir pins v} (h : Kept s t) : Kept s (t.tapScan ir pins v) := .setBoundary (.emit (.setIr h))
theorem Kept.tapSample {pins v} (h : Kept s t) : Kept s (t.tapSample pins v) := .tapScan h
theorem Kept.tapExtest {pins v} (h : Kept s t) : Kept s (t.tapExtest pins v) := .ite (.emit (.tapScan (.emit h))) (.tapBypass h)
theorem Kept.tapLane {ir pins v} (h : Kept s t) : Kept s (t.tapLane ir pins v) := .ite (.tapScan (.emit h)) (.tapBypass h)
theorem Kept.tapHighz (h : Kept s t) : Kept s t.tapHighz := .ite (.setIr h) (.tapBypass h)
theorem Kept.freeWords {n} (h : Kept s t) : Kept s (t.freeWords n).2 := by
  induction n generalizing t with
  | zero => exact h
  | succ n ih => exact ih (.free h)
theorem Kept.spdmOut {req err payload} (h : Kept s t) : Kept s (t.spdmOut req err payload) := .emit h
theorem Kept.spdmFrom {via} {f : State → State} (h : Kept s t) (hf : ∀ u, Kept s u → Kept s (f u)) : Kept s (t.spdmFrom via f) :=
  .ite (hf _ (.update h rfl)) h
theorem Kept.spdmErr {req err} (h : Kept s t) : Kept s (t.spdmErr req err) := .spdmOut h
theorem Kept.spdmDo {req} {f : State → State} (h : Kept s t) (hf : ∀ u, Kept s u → Kept s (f u)) : Kept s (t.spdmDo req f) :=
  .ite h (.ite (.spdmErr h) (hf _ h))
theorem Kept.setStage {n} (h : Kept s t) : Kept s (t.setStage n) := .update h rfl
theorem Kept.spdmAfter {req} {f : State → State} (h : Kept s t) (hf : ∀ u, Kept s u → Kept s (f u)) : Kept s (t.spdmAfter req f) :=
  .spdmDo h fun _ h => .ite (hf _ h) (.spdmErr h)
theorem Kept.dropSession {id} (h : Kept s t) : Kept s (t.dropSession id) := .ite (.relock (.update h rfl)) (.update h rfl)
theorem Kept.spdmVersion (h : Kept s t) : Kept s t.spdmVersion :=
  .spdmDo h (fun _ h => .spdmOut (.setStage (.foldl h fun _ _ h => .dropSession h)))
theorem Kept.spdmCapabilities (h : Kept s t) : Kept s t.spdmCapabilities :=
  .spdmDo h (fun _ h => .ite (.spdmOut (.setStage h)) (.spdmErr h))
theorem Kept.spdmAlgorithms {p384 sha384} (h : Kept s t) : Kept s (t.spdmAlgorithms p384 sha384) :=
  .spdmDo h (fun _ h => .ite (.spdmErr h) (.ite (.spdmOut (.setStage h)) (.spdmErr h)))
theorem Kept.spdmDigests (h : Kept s t) : Kept s t.spdmDigests := by
  unfold State.spdmDigests
  refine .spdmAfter h fun _ h1 => ?_
  split
  next _ s2 e =>
  have h2 : Kept s s2 := .ofSnd e (.freeWords h1)
  exact .spdmOut h2
theorem Kept.spdmCertificate {slot} (h : Kept s t) : Kept s (t.spdmCertificate slot) := by
  unfold State.spdmCertificate
  refine .spdmAfter h fun _ h1 => ?_
  refine .ite ?_ ?_
  · exact .spdmErr h1
  · split
    next _ s2 e =>
    have h2 : Kept s s2 := .ofSnd e (.freeWords h1)
    exact .spdmOut h2
theorem Kept.spdmChallenge {slot} (h : Kept s t) : Kept s (t.spdmChallenge slot) := by
  unfold State.spdmChallenge
  refine .spdmAfter h fun _ h1 => ?_
  refine .ite ?_ ?_
  · exact .spdmErr h1
  · split
    next _ s2 e =>
    have h2 : Kept s s2 := .ofSnd e (.freeWords h1)
    exact .spdmOut h2
theorem Kept.measure {i} (h : Kept s t) : Kept s (t.measure i).2 := by
  unfold State.measure
  refine .iteSnd ?_ ?_
  · exact .free h
  · refine .iteSnd ?_ ?_
    · exact h
    · refine .iteSnd ?_ ?_
      · split
        · exact h
        · exact .freeWords h
      · exact .freeWords h
theorem Kept.spdmMeasurements {index signed} (h : Kept s t) : Kept s (t.spdmMeasurements index signed) := by
  refine .spdmAfter h fun _ h => .ite (.spdmOut h) (.ite (.spdmErr h) ?_)
  split
  next _ s1 e =>
  have h1 : Kept s s1 := .ofSnd e (.foldlSnd h fun _ _ h => .measure h)
  split
  next _ s2 e =>
  have h2 : Kept s s2 := .ofSnd e (.iteSnd (.freeWords h1) h1)
  exact .spdmOut h2
theorem Kept.spdmKeyExchange {slot reqSession} (h : Kept s t) : Kept s (t.spdmKeyExchange slot reqSession) :=
  .spdmAfter h (fun _ h => .ite (.spdmErr h) (.ite (.spdmErr h) (.spdmOut (.update h rfl))))
theorem Kept.spdmFinish {id good} (h : Kept s t) : Kept s (t.spdmFinish id good) :=
  .spdmAfter h (fun _ h => .ite (.spdmErr h) (.ite (.spdmOut (.update h rfl)) (.spdmErr (.dropSession h))))
theorem Kept.spdmEnd {id} (h : Kept s t) : Kept s (t.spdmEnd id) := .spdmAfter h (fun _ h => .ite (.spdmOut (.dropSession h)) (.spdmErr h))
theorem Kept.dbgNonce {id} (h : Kept s t) : Kept s (t.dbgNonce id) := by
  unfold State.dbgNonce
  refine .spdmAfter h fun _ h1 => ?_
  refine .ite ?_ ?_
  · exact .spdmErr h1
  · split
    next _ s2 e =>
    have h2 : Kept s s2 := .ofSnd e (.freeWords h1)
    exact .spdmOut (.update h2 rfl)
theorem Kept.dbgUnlock {id good} (h : Kept s t) : Kept s (t.dbgUnlock id good) := by
  unfold State.dbgUnlock
  refine .spdmAfter h fun _ h1 => ?_
  refine .ite ?_ ?_
  · exact .spdmErr h1
  · refine .ite ?_ ?_
    · exact .spdmErr h1
    · extract_lets _ _ s2
      have h2 : Kept s s2 := .update h1 rfl
      exact .ite (.spdmOut (.addSat (.sets (.update h2 rfl)))) (.spdmErr (.raise (.addSat h2)))
theorem Kept.spdmMsg {l} (h : Kept s t) : Kept s (t.spdmMsg l) := by
  unfold State.spdmMsg
  extract_lets
  refine .ite ?_ ?_
  · exact h
  · refine .ite ?_ ?_
    · exact .spdmVersion h
    · refine .ite ?_ ?_
      · exact .spdmCapabilities h
      · refine .ite ?_ ?_
        · exact .spdmAlgorithms h
        · refine .ite ?_ ?_
          · exact .spdmDigests h
          · refine .ite ?_ ?_
            · exact .spdmCertificate h
            · refine .ite ?_ ?_
              · exact .spdmChallenge h
              · refine .ite ?_ ?_
                · exact .spdmMeasurements h
                · refine .ite ?_ ?_
                  · exact .spdmKeyExchange h
                  · exact .ite (.spdmDo h (fun _ h => .spdmErr h)) (.spdmDo h (fun _ h => .spdmErr h))
theorem Kept.setMctp {via l} (h : Kept s t) : Kept s (t.setMctp via l) := .update h rfl
theorem Kept.mctpPacket {via l} (h : Kept s t) : Kept s (t.mctpPacket via l) := by
  unfold State.mctpPacket
  extract_lets
  refine .ite ?_ ?_
  · exact h
  · split
    · exact h
    · exact .ite (.setMctp h) (.ite (.spdmFrom (.setMctp h) (fun _ h => .spdmMsg h)) (.setMctp h))
theorem Kept.wrDbgCtl {v} (h : Kept s t) : Kept s (t.wrDbgCtl v) := .ite (.relock h) h

/-! ### RegRead -/

theorem Kept.wrPageCtl {page v} (h : Kept s t) : Kept s (t.wrPageCtl page v) :=
  .ite (.update (.set h) rfl) (.ite (.update (.set h) rfl) (.set h))
theorem Kept.readReg {vh page off} (h : Kept s t) : Kept s (t.readReg vh page off).2 := by
  unfold State.readReg
  refine .iteSnd ?_ ?_
  · exact h
  · refine .iteSnd ?_ ?_
    · exact .iteSnd (.blockLost h) h
    · refine .iteSnd ?_ ?_
      · exact .free h
      · refine .iteSnd ?_ ?_
        · exact .liveCounts h
        · split
          · exact h
          · exact h
theorem Kept.clearRc {page off lo hi} (h : Kept s t) : Kept s (t.clearRc page off lo hi) := by
  unfold State.clearRc
  split
  · exact h
  · exact .foldl h fun _ _ h => .ite (.set h) h
theorem Kept.readRegs {vh a n} (h : Kept s t) : Kept s (t.readRegs vh a n).2 := by
  induction n generalizing t a with
  | zero => exact h
  | succ n ih => exact ih (.clearRc (.readReg h))
theorem Kept.readAt {vh addr len} (h : Kept s t) : Kept s (t.readAt vh addr len).2 := .iteSnd (.clearRc (.readReg h)) (.readRegs h)

/-! ### RegWrite -/

theorem Kept.wrEvtFirst {page v} (h : Kept s t) : Kept s (t.wrEvtFirst page v) := .sets h
theorem Kept.wrHeader {page off priv v} (h : Kept s t) : Kept s (t.wrHeader page off priv v) :=
  .ite (.wrPageCtl h) (.ite (.wrEvtForce h) (.ite (.wrEvtFirst h) (.ite (.wrShadowCtl h) (.writePlain h))))
theorem Kept.wrLow {page off priv v} (h : Kept s t) : Kept s (t.wrLow page off priv v) := by
  unfold State.wrLow
  refine .ite ?_ ?_
  · exact .ite (.set h) h
  · refine .ite ?_ ?_
    · exact .wrResetCtl h
    · refine .ite ?_ ?_
      · exact .ite (.set h) h
      · refine .ite ?_ ?_
        · exact .wrAvsCtl h
        · refine .ite ?_ ?_
          · exact .wrTimeSrc h
          · refine .ite ?_ ?_
            · exact .wrTimeSet h
            · refine .ite ?_ ?_
              · exact .wrImgCtl h
              · refine .ite ?_ ?_
                · exact .wrUpdCtl h
                · refine .ite ?_ ?_
                  · exact .wrUpdSts h
                  · refine .ite ?_ ?_
                    · exact .ite (.writePlain h) h
                    · exact .ite (.ite h (.ite (.set (.writePlain h)) (.writePlain h))) (.ite (.wrDbgCtl h) (.writePlain h))
theorem Kept.wrStation {page off priv v} (h : Kept s t) : Kept s (t.wrStation page off priv v) :=
  .ite (.wrBifurc h) (.ite (.wrPortRole h) (.ite (.wrLinkCtl h) (.writePlain h)))
theorem Kept.wrEgress {page off priv v} (h : Kept s t) : Kept s (t.wrEgress page off priv v) := by
  unfold State.wrEgress
  extract_lets
  refine .ite ?_ ?_
  · exact .wrTcvc h
  · refine .ite ?_ ?_
    · exact .wrGateAdmin h
    · exact .ite (.wrGateList h) (.ite (.wrDrr h) (.ite (.wrGateList h) (.writePlain h)))
theorem Kept.wrCore {page off priv v} (h : Kept s t) : Kept s (t.wrCore page off priv v) := by
  unfold State.wrCore
  refine .ite ?_ ?_
  · exact .wrCensusCfg h
  · refine .ite ?_ ?_
    · exact .wrBankCfg h
    · refine .ite ?_ ?_
      · exact .wrWinUpdate h
      · refine .ite ?_ ?_
        · exact .wrWinCommit h
        · refine .ite ?_ ?_
          · exact .wrTcCtl h
          · refine .ite ?_ ?_
            · exact .wrNodeId h
            · refine .ite ?_ ?_
              · exact .wrRopePair h
              · refine .ite ?_ ?_
                · exact .wrPfnPop h
                · refine .ite ?_ ?_
                  · exact .wrVdspCmd h
                  · refine .ite ?_ ?_
                    · exact .wrVhBind h
                    · refine .ite ?_ ?_
                      · exact .wrVfMap h
                      · refine .ite ?_ ?_
                        · exact .wrCtxAccess h
                        · exact .ite (.wrDlCtl h) (.ite (.wrDlHarvest h) (.ite (.wrDlSlot h) (.ite (.wrHutZero h) (.writePlain h))))
theorem Kept.wrHigh {page off priv v} (h : Kept s t) : Kept s (t.wrHigh page off priv v) := by
  unfold State.wrHigh
  refine .ite ?_ ?_
  · exact .wrContainCtl h
  · refine .ite ?_ ?_
    · exact .set (.set h)
    · refine .ite ?_ ?_
      · exact .wrLogCtl h
      · refine .ite ?_ ?_
        · exact .wrLogPlace h
        · refine .ite ?_ ?_
          · exact .wrLogPlace h
          · refine .ite ?_ ?_
            · exact .ite (.rearm (.writePlain h)) (.writePlain h)
            · refine .ite ?_ ?_
              · exact .wrDmaCtl h
              · refine .ite ?_ ?_
                · exact .ite (.mark (.set h)) (.set h)
                · exact .ite (.wrChain h) (.ite (.wrTagCtl h) (.ite (.wrRing h) (.ite (.wrAcclCfg h) (.writePlain h))))
theorem Kept.wrLane {n page off priv v} (h : Kept s t) : Kept s (t.wrLane n page off priv v) := by
  unfold State.wrLane
  refine .ite ?_ ?_
  · exact .wrTxeq h
  · refine .ite ?_ ?_
    · exact .wrRxadapt h
    · refine .ite ?_ ?_
      · exact .wrPatgen h
      · refine .ite ?_ ?_
        · exact .wrUserPat h
        · exact .ite (.wrPatchk h) (.ite (.wrErrinj h) (.ite (.wrLoopback h) (.ite (.wrEyescan h) (.writePlain h))))
theorem Kept.writeReg {page off priv v} (h : Kept s t) : Kept s (t.writeReg page off priv v) := by
  unfold State.writeReg
  refine .ite ?_ ?_
  · exact .wrHeader h
  · refine .ite ?_ ?_
    · exact .wrLow h
    · exact .ite (.wrStation h) (.ite (.wrEgress h) (.ite (.wrLane h) (.ite (.wrHigh h) (.wrCore h))))
theorem Kept.wrMsix {vh off len v} (h : Kept s t) : Kept s (t.wrMsix vh off len v) :=
  .ite h (.ite (.msixFlush (.update h rfl)) (.msixFlush (.update (.update h rfl) rfl)))
theorem Kept.wrUpdWin {off len v} (h : Kept s t) : Kept s (t.wrUpdWin off len v) := .bootSt h id (Memory.wf_writeBytes _ _ _ _)
theorem Kept.writeAt {vh priv addr len v} (h : Kept s t) : Kept s (t.writeAt vh priv addr len v) :=
  .ite (.wrMsix h) (.ite (.wrUpdWin h) (.writeReg h))
theorem Kept.answerRead {w cause l} (h : Kept s t) : Kept s (t.answerRead w cause l) := by
  unfold State.answerRead
  extract_lets
  split
  · exact .inject h
  · split
    · exact .emit h
    · exact .emit h
    · exact .emit h
    · exact .emit h
theorem Kept.takeLock {w} (h : Kept s t) : Kept s (t.takeLock w) := .ite h (.showLocks (.update h rfl))
theorem Kept.performAcc {w} (h : Kept s t) : Kept s (t.performAcc w) :=
  .ite (.writeAt (.charged h)) (.answerRead (.readAt (.ite (.takeLock (.charged h)) (.charged h))))
theorem Kept.carryOut {w} (h : Kept s t) : Kept s (t.carryOut w) := by
  unfold State.carryOut
  refine .ite ?_ ?_
  · exact .hutResolve (.ite h (.answerRead h))
  · split
    · exact .hutResolve (.ite (.denyWrite h) (.answerRead (.deny h)))
    · exact .hutResolve (.discardWrite h)
    · exact .waitFor h
    · exact .hutResolve (.performAcc h)
theorem Kept.access {w} (h : Kept s t) : Kept s (t.access w) := .ite (.waitFor (.ite (.turnedAway h) h)) (.carryOut h)
theorem Kept.takeWait {w} (h : Kept s t) : Kept s (t.takeWait w) := .update h rfl
theorem Kept.serveWait {w} (h : Kept s t) : Kept s (t.serveWait w) := .settle (.carryOut (.takeWait h))
theorem Kept.internalTurn (h : Kept s t) : Kept s t.internalTurn := .update h rfl
theorem Kept.drainWaits {n} (h : Kept s t) : Kept s (t.drainWaits n) := by
  induction n generalizing t with
  | zero => exact h
  | succ n ih =>
    unfold State.drainWaits
    split
    · exact h
    · exact ih (.serveWait h)
    · exact ih (.intGo (.internalTurn h))
    · exact ih (.ite (.intGo (.internalTurn h)) (.serveWait h))
theorem Kept.after (h : Kept s t) : Kept s t.after := .drainWaits (.intNote (.passScans (.passWaited (.settle h))))
theorem Answers.whenUpS {f : State → State} (h : Kept s t) (hf : ∀ u, Kept s u → Kept s (f u)) : Answers s (whenUpS t f) :=
  .next (.ite (.after (hf _ h)) h)
theorem Answers.regWr {src page off v} (h : Kept s t) : Answers s (regWr t src page off v) :=
  .whenUpS h (fun _ h => .regCmd h (fun _ _ _ h => .writeReg h))

/-! ### Deliver -/

theorem Kept.ctlRead {q off low} (h : Kept s t) : Kept s (t.ctlRead q off low).2 :=
  .iteSnd h (.iteSnd h (.iteSnd h (.iteSnd (.iteSnd (.dbPendTake h) h) (.iteSnd h h))))
theorem Kept.hutControl {t'} (h : Kept s t) : Kept s (t.hutControl t') := by
  unfold State.hutControl
  extract_lets _ _ _ _ _ s1
  have h1 : Kept s s1 := .ite (.fenceArrive h) (.ite (.dbRing h) h)
  refine .ite ?_ ?_
  · exact .hutRefuse h
  · exact .ite (.hutRefuse h) (.ite (.hutResolve h1) (.hutResolve (.hutReply (.ctlRead h))))
theorem Kept.hutDeliver {t'} (h : Kept s t) : Kept s (t.hutDeliver t') := by
  unfold State.hutDeliver
  extract_lets
  refine .ite ?_ ?_
  · exact .hutResolve (.ite (.hutStatus h) h)
  · refine .ite ?_ ?_
    · exact .hutResolve (.hutStatus (.deny h))
    · refine .ite ?_ ?_
      · exact .hutRefuse h
      · refine .ite ?_ ?_
        · exact .ite (.hutArrive h) (.ite (.hutControl h) (.hutDo h))
        · split
          · exact .hutArrive h
          · exact .hutArrive h
theorem Kept.meReply {t' st data} (h : Kept s t) : Kept s (t.meReply t' st data) := .ite h (.inject h)
theorem Kept.meBar4 {t' off} (h : Kept s t) : Kept s (t.meBar4 t' off) :=
  .hutResolve (.ite (.meReply h) (.ite (.meReply (.deny h)) (.meReply h)))
theorem Kept.meBar0 {t' off} (h : Kept s t) : Kept s (t.meBar0 t' off) := .ite (.access h) (.hutResolve (.meReply (.deny h)))
theorem Kept.mePoison {t'} (h : Kept s t) : Kept s (t.mePoison t') :=
  .hutResolve (.ite (.cfgReply (.raiseTrain h)) (.meReply (.raiseTrain h)))
theorem Kept.meDeliver {t'} (h : Kept s t) : Kept s (t.meDeliver t') := by
  unfold State.meDeliver
  extract_lets
  refine .ite ?_ ?_
  · exact .mePoison h
  · refine .ite ?_ ?_
    · exact .hutResolve (.cfgDeliver h)
    · refine .ite ?_ ?_
      · exact .hutResolve (.mctpPacket h)
      · exact .ite (.hutResolve h) (.ite (.hutResolve (.meReply h)) (.ite (.meBar4 h) (.meBar0 h)))
theorem Kept.deliver {t'} (h : Kept s t) : Kept s (t.deliver t') := .ite (.hutDeliver (.putTrain h)) (.meDeliver (.putTrain h))

/-! ### Ascent -/

theorem Kept.recFail {idx kind} (h : Kept s t) : Kept s (t.recFail idx kind) := by
  unfold State.recFail
  exact .raise (.ite (.sets (.set h)) (.set h))
theorem Kept.recDone (h : Kept s t) : Kept s t.recDone := .set h
theorem Kept.recWrite {idx page off v} (h : Kept s t) : Kept s (t.recWrite idx page off v) := by
  unfold State.recWrite
  extract_lets _ _ s1
  have h1 : Kept s s1 := .performAcc h
  split
  · exact .recFail (.denyWrite h)
  · exact h
  · exact h
  · refine .ite ?_ ?_
    · exact .defer h
    · split
      · extract_lets _ s2 _ s3
        have h2 : Kept s s2 := .performAcc (.set h)
        have h3 : Kept s s3 := .ite (.set h2) h2
        exact .ite (.recFail h3) (.ite (.update h3 rfl) (.recDone h3))
      · exact .ite (.update h1 rfl) (.recDone h1)
theorem Kept.recAwait {idx page off} (h : Kept s t) : Kept s (t.recAwait idx page off) := by
  unfold State.recAwait
  extract_lets _ s1
  have h1 : ∀ v0, Kept s v0 → Kept s (s1 v0) := fun _ hv => .update hv rfl
  refine .ite ?_ ?_
  · exact .ite h (.ite (.recFail (h1 _ h)) (h1 _ h))
  · exact .ite h (.ite (.recDone (h1 _ h)) (.recFail (h1 _ h)))
theorem Kept.ascReg {idx r} (h : Kept s t) : Kept s (t.ascReg idx r) := by
  unfold State.ascReg
  extract_lets s1
  have h1 : ∀ v0, Kept s v0 → Kept s (s1 v0) := fun _ hv => .update hv rfl
  refine .ite ?_ ?_
  · exact .recFail (h1 _ h)
  · refine .ite ?_ ?_
    · exact .recFail (h1 _ h)
    · refine .ite ?_ ?_
      · exact h1 _ (.update h rfl)
      · split
        · exact h
        · exact .ite (.recWrite (h1 _ h)) (.defer h)
theorem Kept.ascWin {idx r} (h : Kept s t) : Kept s (t.ascWin idx r) :=
  .ite (.recFail (.update h rfl)) (.recDone (.update (.spend (.update h rfl)) rfl))
theorem Kept.ascCommit {pg rest} (h : Kept s t) : Kept s (t.ascCommit pg rest) := by
  unfold State.ascCommit
  extract_lets _ _ s1
  have h1 : Kept s s1 := .update h rfl
  refine .ite ?_ ?_
  · exact .shadowStart h1
  · split
    · exact .sets (.winResult h1)
    · exact .winGo h1
theorem Kept.ascPhase {n} (h : Kept s t) : Kept s (t.ascPhase n) := .set (.update h rfl)
theorem Kept.ascStep (h : Kept s t) : Kept s t.ascStep := by
  unfold State.ascStep
  refine .ite ?_ ?_
  · exact h
  · split
    · exact .recAwait h
    · extract_lets
      refine .ite ?_ ?_
      · split
        · exact .ascReg h
        · exact .ascPhase h
      · refine .ite ?_ ?_
        · split
          · exact .ite (.ascWin h) (.defer h)
          · exact .ascPhase (.update h rfl)
        · refine .ite ?_ ?_
          · split
            · exact .ite (.ascCommit h) h
            · exact .ascPhase h
          · refine .ite ?_ ?_
            · split
              · extract_lets
                split
                · exact h
                · exact .ite (.recWrite (.update h rfl)) (.defer h)
              · exact .ascPhase h
            · exact h
theorem Kept.ascTimeout (h : Kept s t) : Kept s t.ascTimeout := by
  unfold State.ascTimeout
  split
  · exact .ite (.recFail (.update h rfl)) h
  · exact h

/-! ### Pitch -/

theorem Kept.perform {a} (h : Kept s t) : Kept s (t.perform a) := by
  unfold State.perform
  split
  · exact .sramMove h
  · exact .dramMove h
  · exact h
  · exact .scrubSeen h
  · exact .rowSeen h
  · exact .dlZeroEnd h
  · exact .hvClearEnd h
  · exact .hvMergeEnd h
  · exact .hvMore h
  · exact .ctxPaid h
  · exact .overlayDone h
  · exact .hutZeroEnd h
  · exact .ite (.shadowApply h) h
  · exact h
  · exact .senseDone h
  · exact .measureSeen h
  · exact .publish h
  · exact .cairnPut h
  · exact .alarmPut h
  · exact .dmaBatch h
  · exact .ascStep h
theorem Kept.jobTurn {j} (h : Kept s t) : Kept s (t.jobTurn j) :=
  .ite (.perform (.spend (.update h rfl))) (.update (.spend (.update h rfl)) rfl)
theorem Kept.serveClass {c n} (h : Kept s t) : Kept s (t.serveClass c n) := by
  induction n generalizing t with
  | zero => exact h
  | succ n ih =>
    unfold State.serveClass
    split
    · exact ih (.jobTurn h)
    · exact .ite (.turnedAway h) h
theorem Kept.pitchStart (h : Kept s t) : Kept s t.pitchStart := by
  unfold State.pitchStart
  extract_lets s1 s2 _ s3 s4 s5
  have h1 : Kept s s1 := .foldl h fun _ _ h => .reload h
  have h2 : Kept s s2 := .count (.sets h1)
  have h3 : Kept s s3 := .update h2 rfl
  have h4 : Kept s s4 := .marginStart (.foldl (.censusWalk h3) fun _ _ h => .serveClass h)
  have h5 : Kept s s5 := .drainQueue h4
  exact .selfTests (.freezeEnd (.freezeDrain h5))

/-! ### AgeingCmd -/

theorem Answers.sramRowRepair {macroId row ue} (h : Kept s t) : Answers s (execSramRowRepair macroId row ue t) :=
  .whenUpS h (fun _ h => .sramRepair h)
theorem Answers.dramRowRepair {ch bank row ue} (h : Kept s t) : Answers s (execDramRowRepair ch bank row ue t) :=
  .whenUpS h (fun _ h => .dramRepair h)
theorem Answers.scrubRead {addr res pos} (h : Kept s t) : Answers s (execScrubRead addr res pos t) := .whenUpS h (fun _ h => .scrubRead h)
theorem Answers.sramScrub {macroId row res hutWords} (h : Kept s t) : Answers s (execSramScrub macroId row res hutWords t) :=
  .whenUpS h (fun _ h => .sramScrub h)
theorem Answers.acclPassStart (h : Kept s t) : Answers s (execAcclPassStart t) := .whenUpS h (fun _ h => .passDue h)
theorem Answers.acclRun {src v} (h : Kept s t) : Answers s (execAcclRun src v t) := .regWr h
theorem Answers.marginMeasureDone {ms osc} (h : Kept s t) : Answers s (execMarginMeasureDone ms osc t) :=
  .whenUpS h (fun _ h => .measured h)
theorem Answers.acclPassEnd (h : Kept s t) : Answers s (execAcclPassEnd t) := .whenUpS h (fun _ h => .passEnd h)
theorem Answers.fastGuardStep (h : Kept s t) : Answers s (execFastGuardStep t) := .whenUpS h (fun _ h => .fastStep h)
theorem Answers.eqHoursTick {tj} (h : Kept s t) : Answers s (execEqHoursTick tj t) := .whenUpS h (fun _ h => .minute h)
theorem Answers.pitchStart (h : Kept s t) : Answers s (execPitchStart t) := .whenUpS h (fun _ h => .pitchStart h)
theorem Answers.avsTransactionDone {ok mv ca} (h : Kept s t) : Answers s (execAvsTransactionDone ok mv ca t) :=
  .whenUpS h (fun _ h => .avsDone h)
theorem Answers.avsSettleDone (h : Kept s t) : Answers s (execAvsSettleDone t) := .whenUpS h (fun _ h => .avsSettled h)

/-! ### AscentCmd -/

theorem Answers.ascentRecordApply (h : Kept s t) : Answers s (execAscentRecordApply t) := .whenUpS h (fun _ h => .ascStep h)
theorem Answers.ascentRecordTimeout (h : Kept s t) : Answers s (execAscentRecordTimeout t) := .whenUpS h (fun _ h => .ascTimeout h)

/-! ### AttestCmd -/

theorem Answers.tapReset (h : Kept s t) : Answers s (execTapReset t) := .whenPower h (fun _ h => .tapReset h)
theorem Answers.bypass (h : Kept s t) : Answers s (execBypass t) := .whenPower h (fun _ h => .tapBypass h)
theorem Answers.idcode (h : Kept s t) : Answers s (execIdcode t) := .whenPower h (fun _ h => .tapIdcode h)
theorem Answers.samplePreload {pins shiftIn} (h : Kept s t) : Answers s (execSamplePreload pins shiftIn t) :=
  .whenPower h (fun _ h => .tapSample h)
theorem Answers.extest {pins shiftIn} (h : Kept s t) : Answers s (execExtest pins shiftIn t) := .whenPower h (fun _ h => .tapExtest h)
theorem Answers.extestPulse {pins shiftIn} (h : Kept s t) : Answers s (execExtestPulse pins shiftIn t) :=
  .whenPower h (fun _ h => .tapLane h)
theorem Answers.extestTrain {pins shiftIn} (h : Kept s t) : Answers s (execExtestTrain pins shiftIn t) :=
  .whenPower h (fun _ h => .tapLane h)
theorem Answers.highz (h : Kept s t) : Answers s (execHighz t) := .whenPower h (fun _ h => .tapHighz h)
theorem Answers.getVersion (h : Kept s t) : Answers s (execGetVersion t) := .whenUpS h (fun _ h => .spdmFrom h (fun _ h => .spdmVersion h))
theorem Answers.getCapabilities (h : Kept s t) : Answers s (execGetCapabilities t) :=
  .whenUpS h (fun _ h => .spdmFrom h (fun _ h => .spdmCapabilities h))
theorem Answers.negotiateAlgorithms {p384 sha384} (h : Kept s t) : Answers s (execNegotiateAlgorithms p384 sha384 t) :=
  .whenUpS h (fun _ h => .spdmFrom h (fun _ h => .spdmAlgorithms h))
theorem Answers.getDigests (h : Kept s t) : Answers s (execGetDigests t) := .whenUpS h (fun _ h => .spdmFrom h (fun _ h => .spdmDigests h))
theorem Answers.getCertificate {slot _off _len} (h : Kept s t) : Answers s (execGetCertificate slot _off _len t) :=
  .whenUpS h (fun _ h => .spdmFrom h (fun _ h => .spdmCertificate h))
theorem Answers.challenge {slot} (h : Kept s t) : Answers s (execChallenge slot t) :=
  .whenUpS h (fun _ h => .spdmFrom h (fun _ h => .spdmChallenge h))
theorem Answers.getMeasurements {index signed} (h : Kept s t) : Answers s (execGetMeasurements index signed t) :=
  .whenUpS h (fun _ h => .spdmFrom h (fun _ h => .spdmMeasurements h))
theorem Answers.keyExchange {slot reqSession} (h : Kept s t) : Answers s (execKeyExchange slot reqSession t) :=
  .whenUpS h (fun _ h => .spdmFrom h (fun _ h => .spdmKeyExchange h))
theorem Answers.finish {session hmac} (h : Kept s t) : Answers s (execFinish session hmac t) :=
  .whenUpS h (fun _ h => .spdmFrom h (fun _ h => .spdmFinish h))
theorem Answers.endSession {session} (h : Kept s t) : Answers s (execEndSession session t) :=
  .whenUpS h (fun _ h => .spdmFrom h (fun _ h => .spdmEnd h))
theorem Answers.dbgNonce {session} (h : Kept s t) : Answers s (execDbgNonce session t) :=
  .whenUpS h (fun _ h => .spdmFrom h (fun _ h => .dbgNonce h))
theorem Answers.dbgNonceExpiry (h : Kept s t) : Answers s (execDbgNonceExpiry t) := .whenUpS h (fun _ h => .update h rfl)
theorem Answers.dbgUnlock {session keyOk sigOk} (h : Kept s t) : Answers s (execDbgUnlock session keyOk sigOk t) :=
  .whenUpS h (fun _ h => .spdmFrom h (fun _ h => .dbgUnlock h))
theorem Answers.dbgRelock {src v} (h : Kept s t) : Answers s (execDbgRelock src v t) := .regWr h

/-! ### BootCmd -/

theorem Answers.resetCtlWarm {src v} (h : Kept s t) : Answers s (execResetCtlWarm src v t) := .regWr h
theorem Answers.imageVerifyDone {keyOk sigOk digestOk ms} (h : Kept s t) : Answers s (execImageVerifyDone keyOk sigOk digestOk ms t) :=
  .whenUpS h (fun _ h => .verified h)
theorem Answers.summitEnter (h : Kept s t) : Answers s (execSummitEnter t) := .whenUpS h (fun _ h => .summit h)
theorem Answers.ascentLateTimeout (h : Kept s t) : Answers s (execAscentLateTimeout t) := .whenUpS h (fun _ h => .summitLate h)
theorem Answers.guidePair1Verified {ok} (h : Kept s t) : Answers s (execGuidePair1Verified ok t) := .whenUpS h (fun _ h => .pair1Verified h)
theorem Answers.autoConfirmTimeout (h : Kept s t) : Answers s (execAutoConfirmTimeout t) := .whenUpS h (fun _ h => .autoConfirm h)
theorem Answers.imageConfirm {src v} (h : Kept s t) : Answers s (execImageConfirm src v t) := .regWr h
theorem Answers.raiseSvn {src v} (h : Kept s t) : Answers s (execRaiseSvn src v t) := .regWr h
theorem Answers.updateGo {src v} (h : Kept s t) : Answers s (execUpdateGo src v t) := .regWr h
theorem Answers.updateAbort {src v} (h : Kept s t) : Answers s (execUpdateAbort src v t) := .regWr h
theorem Answers.updatePhaseDone {rep} (h : Kept s t) : Answers s (execUpdatePhaseDone rep t) := .whenUpS h (fun _ h => .updPhase h)
theorem Answers.historyWrite (h : Kept s t) : Answers s (execHistoryWrite t) := .whenUpS h (fun _ h => .histWrite h)
theorem Answers.historyWriteDone {ok} (h : Kept s t) : Answers s (execHistoryWriteDone ok t) := .whenUpS h (fun _ h => .histDone h)
theorem Answers.registerWrite {src addr len v} (h : Kept s t) : Answers s (execRegisterWrite src addr len v t) :=
  .whenUpS h (fun _ h => .access h)
theorem Answers.registerRead {src addr len} (h : Kept s t) : Answers s (execRegisterRead src addr len t) :=
  .whenUpS h (fun _ h => .access h)
theorem Answers.shadowGo {page src v} (h : Kept s t) : Answers s (execShadowGo page src v t) := .regWr h
theorem Answers.shadowCheckDone {page} (h : Kept s t) : Answers s (execShadowCheckDone page t) := .whenUpS h (fun _ h => .shadowCheck h)
theorem Answers.shadowDiscard {page src v} (h : Kept s t) : Answers s (execShadowDiscard page src v t) := .regWr h
theorem Answers.evtForce {page src v} (h : Kept s t) : Answers s (execEvtForce page src v t) := .regWr h
theorem Answers.stsHold {page src v} (h : Kept s t) : Answers s (execStsHold page src v t) := .regWr h
theorem Answers.rpuSlotWrite {n src v} (h : Kept s t) : Answers s (execRpuSlotWrite n src v t) := .regWr h
theorem Answers.rpuSlotLock {n src v} (h : Kept s t) : Answers s (execRpuSlotLock n src v t) := .regWr h

/-! ### BufferCmd -/

theorem Answers.sharedMove {p} (h : Kept s t) : Answers s (execSharedMove p t) := .whenUpS h (fun _ h => .shareMove h)
theorem Answers.censusPassStart (h : Kept s t) : Answers s (execCensusPassStart t) :=
  .whenUpS h (fun _ h => .ite h (.ite (.addSat (.update h rfl)) (.censusStart h)))
theorem Answers.censusRun {src v} (h : Kept s t) : Answers s (execCensusRun src v t) := .regWr h
theorem Answers.censusPassEnd {f} (h : Kept s t) : Answers s (execCensusPassEnd f t) := .whenUpS h (fun _ h => .censusEnd h)
theorem Kept.bankCes {b n} (h : Kept s t) : Kept s (t.bankCes b n) := .ite h (.addSat (.count (.raise h)))
theorem Answers.bankErrorWindow {b ce ue} (h : Kept s t) : Answers s (execBankErrorWindow b ce ue t) :=
  .whenUpS h (fun _ h => .passBank (.update (.bankErr (.bankUes (.bankCes h))) rfl))
theorem Answers.bankRetireCmd {src v} (h : Kept s t) : Answers s (execBankRetireCmd src v t) := .regWr h
theorem Answers.bankCopyDone {copied bad} (h : Kept s t) : Answers s (execBankCopyDone copied bad t) :=
  .whenUpS h (fun _ h => .bankCopied h)
theorem Answers.bankSwitchDone {interrupt} (h : Kept s t) : Answers s (execBankSwitchDone interrupt t) :=
  .whenUpS h (fun _ h => .bankSwitched h)
theorem Answers.bankDrainDone (h : Kept s t) : Answers s (execBankDrainDone t) := .whenUpS h (fun _ h => .bankDrained h)

/-! ### EgressCmd -/

theorem Answers.egrWr {p src off v} (h : Kept s t) : Answers s (egrWr t p src off v) := .regWr h
theorem Answers.shaperWheelSlot {p q} (h : Kept s t) : Answers s (execShaperWheelSlot p q t) := .whenUpS h (fun _ h => .wheelSlot h)
theorem Answers.gateCommitGo {p src v} (h : Kept s t) : Answers s (execGateCommitGo p src v t) := .egrWr h
theorem Answers.gateCheckDone {p} (h : Kept s t) : Answers s (execGateCheckDone p t) := .whenUpS h (fun _ h => .gateChecked h)
theorem Answers.gateCancel {p src v} (h : Kept s t) : Answers s (execGateCancel p src v t) := .egrWr h
theorem Answers.gateSwap {p} (h : Kept s t) : Answers s (execGateSwap p t) := .whenUpS h (fun _ h => .gateSwap h)
theorem Answers.gateCopyDone {p} (h : Kept s t) : Answers s (execGateCopyDone p t) := .whenUpS h (fun _ h => .gateCopied h)
theorem Answers.gateEntryBoundary {p} (h : Kept s t) : Answers s (execGateEntryBoundary p t) := .whenUpS h (fun _ h => .gateBoundary h)
theorem Answers.tcvcWrite {p src v} (h : Kept s t) : Answers s (execTcvcWrite p src v t) := .egrWr h
theorem Answers.pcieDllpRx {p d} (h : Kept s t) : Answers s (execPcieDllpRx p d t) := .whenUpS h (fun _ h => .dllpRx h)
theorem Answers.pcieReplayTimerExpiry {p} (h : Kept s t) : Answers s (execPcieReplayTimerExpiry p t) :=
  .whenUpS h (fun _ h => .dllTimeout h)

/-! ### ShareCmd -/

theorem Answers.vhBindWrite {vh src v} (h : Kept s t) : Answers s (execVhBindWrite vh src v t) := .regWr h
theorem Answers.vdspAttach {src v} (h : Kept s t) : Answers s (execVdspAttach src v t) := .regWr h
theorem Answers.vdspDetach {src v} (h : Kept s t) : Answers s (execVdspDetach src v t) := .regWr h
theorem Answers.vdspForceDetach {src v} (h : Kept s t) : Answers s (execVdspForceDetach src v t) := .regWr h
theorem Answers.vdspPowerOff {vh d} (h : Kept s t) : Answers s (execVdspPowerOff vh d t) :=
  .whenUpS h (fun _ h => .ite (.slotPower (.orCfg h)) h)
theorem Answers.detachWaitTimeout {vh d} (h : Kept s t) : Answers s (execDetachWaitTimeout vh d t) := .whenUpS h (fun _ h => .detachGo h)
theorem Answers.vdspFlrWaitExpiry {vh d} (h : Kept s t) : Answers s (execVdspFlrWaitExpiry vh d t) :=
  .whenUpS h (fun _ h => .ite (.toDrain h) h)
theorem Answers.vdspDrainDone {vh d} (h : Kept s t) : Answers s (execVdspDrainDone vh d t) := .whenUpS h (fun _ h => .drainDone h)
theorem Answers.vfMapWrite {j w src v} (h : Kept s t) : Answers s (execVfMapWrite j w src v t) := .regWr h
theorem Answers.virtualConfigAccess {vh r} (h : Kept s t) : Answers s (execVirtualConfigAccess vh r t) := by
  unfold execVirtualConfigAccess
  refine .whenUpS h fun _ h1 => ?_
  refine .ite ?_ ?_
  · exact h1
  · split
    · exact .cfgReply h1
    · exact .ite h1 (.cfgAccess h1)
theorem Answers.vfConfigAccess {vh r} (h : Kept s t) : Answers s (execVfConfigAccess vh r t) := by
  unfold execVfConfigAccess
  refine .whenUpS h fun _ h1 => ?_
  refine .ite ?_ ?_
  · exact h1
  · split
    · exact .ite (.vfAccess h1) h1
    · exact h1
theorem Answers.vfCfgCompletion {tag status cplId data ep} (h : Kept s t) : Answers s (execVfCfgCompletion tag status cplId data ep t) :=
  .whenUpS h (fun _ h => .fwdCpl h)
theorem Answers.vfCfgTimeout {tag} (h : Kept s t) : Answers s (execVfCfgTimeout tag t) := .whenUpS h (fun _ h => .fwdExpire h)
theorem Answers.meTagHoldExpiry {tag} (h : Kept s t) : Answers s (execMeTagHoldExpiry tag t) := .whenUpS h (fun _ h => .fwdRelease h)
theorem Answers.mediatedFlr {vh d secondary} (h : Kept s t) : Answers s (execMediatedFlr vh d secondary t) :=
  .whenUpS h (fun _ h => .ite h (.startFlr (.ite (.orCfg h) h)))
theorem Answers.mediatedFlrDone {vh d} (h : Kept s t) : Answers s (execMediatedFlrDone vh d t) :=
  .whenUpS h (fun _ h => .ite (.flrDone h) h)
theorem Answers.dpcTrigger {vh d reason} (h : Kept s t) : Answers s (execDpcTrigger vh d reason t) :=
  .whenUpS h (fun _ h => .ite (.dpcTrig h) h)
theorem Answers.dpcRelease {vh d} (h : Kept s t) : Answers s (execDpcRelease vh d t) := .whenUpS h (fun _ h => .dpcFree h)
theorem Answers.ctxRead {src v} (h : Kept s t) : Answers s (execCtxRead src v t) := .regWr h
theorem Answers.ctxWrite {src v} (h : Kept s t) : Answers s (execCtxWrite src v t) := .regWr h
theorem Answers.ctxInsert {src v} (h : Kept s t) : Answers s (execCtxInsert src v t) := .regWr h
theorem Answers.ctxDelete {src v} (h : Kept s t) : Answers s (execCtxDelete src v t) := .regWr h
theorem Answers.ctxFind {src v} (h : Kept s t) : Answers s (execCtxFind src v t) := .regWr h
theorem Answers.dlSlotEnable {j src v} (h : Kept s t) : Answers s (execDlSlotEnable j src v t) := .regWr h
theorem Answers.dlZeroDone {j} (h : Kept s t) : Answers s (execDlZeroDone j t) := .whenUpS h (fun _ h => .dlZeroed h)
theorem Answers.dlLineWriteback {j line res} (h : Kept s t) : Answers s (execDlLineWriteback j line res t) :=
  .whenUpS h (fun _ h => .dlWriteback (.ite (.eccClient h) h))
theorem Answers.harvestGo {src v} (h : Kept s t) : Answers s (execHarvestGo src v t) := .regWr h
theorem Answers.harvestAbort {src v} (h : Kept s t) : Answers s (execHarvestAbort src v t) := .regWr h
theorem Answers.harvestDoneCmd {src v} (h : Kept s t) : Answers s (execHarvestDoneCmd src v t) := .regWr h
theorem Answers.harvestFlushDone (h : Kept s t) : Answers s (execHarvestFlushDone t) := .whenUpS h (fun _ h => .hvFlushed h)
theorem Answers.harvestDrainDone (h : Kept s t) : Answers s (execHarvestDrainDone t) := .whenUpS h (fun _ h => .hvDrained h)
theorem Answers.harvestDeliverDone (h : Kept s t) : Answers s (execHarvestDeliverDone t) := .whenUpS h (fun _ h => .hvDelivered h)
theorem Answers.harvestClearDone (h : Kept s t) : Answers s (execHarvestClearDone t) := .whenUpS h (fun _ h => .hvCleared h)
theorem Answers.harvestMergeDone (h : Kept s t) : Answers s (execHarvestMergeDone t) := .whenUpS h (fun _ h => .hvMerged h)

/-! ### ErrorsCmd -/

theorem Answers.contain {src v} (h : Kept s t) : Answers s (execContain src v t) := .regWr h
theorem Answers.release {src v} (h : Kept s t) : Answers s (execRelease src v t) := .regWr h
theorem Answers.containDone (h : Kept s t) : Answers s (execContainDone t) := .whenUpS h (fun _ h => .containDone h)
theorem Answers.linkDown {p} (h : Kept s t) : Answers s (execLinkDown p t) := .whenUpS h (fun _ h => .ite (.ite (.retrain h) h) (.dlDown h))
theorem Answers.removalDetectDone {p found} (h : Kept s t) : Answers s (execRemovalDetectDone p found t) :=
  .whenUpS h (fun _ h => .ite h (.ite (.devLinkDown h) (.surprise h)))
theorem Answers.escWindowExpiry {j inst} (h : Kept s t) : Answers s (execEscWindowExpiry j inst t) := .whenUpS h (fun _ h => .escExpire h)
theorem Answers.guideMismatch {pair} (h : Kept s t) : Answers s (execGuideMismatch pair t) := .whenUpS h (fun _ h => .guideMismatch h)
theorem Answers.guidePairReady {pair ok} (h : Kept s t) : Answers s (execGuidePairReady pair ok t) := .whenUpS h (fun _ h => .guideReady h)
theorem Answers.guideCheckpoint (h : Kept s t) : Answers s (execGuideCheckpoint t) := .whenUpS h (fun _ h => .guideCheckpoint h)

/-! ### FabricCmd -/

theorem Answers.nodeIdWrite {src v} (h : Kept s t) : Answers s (execNodeIdWrite src v t) := .regWr h
theorem Answers.ortAllocate {p} (h : Kept s t) : Answers s (execOrtAllocate p t) := .whenUpS h (fun _ h => .ortAllocate h)
theorem Answers.ortTimeout {e} (h : Kept s t) : Answers s (execOrtTimeout e t) := .whenUpS h (fun _ h => .ortExpire h)
theorem Answers.quarantineEnd {e} (h : Kept s t) : Answers s (execQuarantineEnd e t) := .whenUpS h (fun _ h => .ortUnquar h)
theorem Answers.pfnPop {src v} (h : Kept s t) : Answers s (execPfnPop src v t) := .regWr h
theorem Answers.stallTimeout {p vc} (h : Kept s t) : Answers s (execStallTimeout p vc t) := .whenUpS h (fun _ h => .stall h)

/-! ### HllCmd -/

theorem Answers.hllCmd {p} {f : State → State} (h : Kept s t) (hf : ∀ u, Kept s u → Kept s (f u)) : Answers s (hllCmd t p f) :=
  .whenUpS h fun _ h => .ite (hf _ h) h
theorem Answers.flitRx {p lane bytes} (h : Kept s t) : Answers s (execFlitRx p lane bytes t) :=
  .whenUpS h (fun _ h => .ite h (.ite (.flitRx h) (.trainRx h)))
theorem Answers.nakRepeatTimeout {p} (h : Kept s t) : Answers s (execNakRepeatTimeout p t) := .hllCmd h (fun _ h => .ite (.setHll h) h)
theorem Answers.ackCoalesceTimeout {p} (h : Kept s t) : Answers s (execAckCoalesceTimeout p t) := .hllCmd h (fun _ h => .ite h (.setHll h))
theorem Answers.ackFsnRx {p fsn} (h : Kept s t) : Answers s (execAckFsnRx p fsn t) := .hllCmd h (fun _ h => .ackRx h)
theorem Answers.nakRx {p fsn} (h : Kept s t) : Answers s (execNakRx p fsn t) := .hllCmd h (fun _ h => .nakRx h)
theorem Answers.replayTimerExpiry {p} (h : Kept s t) : Answers s (execReplayTimerExpiry p t) := .hllCmd h (fun _ h => .startReplay h)
theorem Answers.mgtOffRx {p on} (h : Kept s t) : Answers s (execMgtOffRx p on t) := .hllCmd h (fun _ h => .put h)
theorem Answers.creditRx {p vc hdr data} (h : Kept s t) : Answers s (execCreditRx p vc hdr data t) := .hllCmd h (fun _ h => .creditRx h)
theorem Answers.initCreditRx {p vc hdr data} (h : Kept s t) : Answers s (execInitCreditRx p vc hdr data t) :=
  .hllCmd h (fun _ h => .initCredit h)
theorem Answers.initDoneRx {p gotAdv resume} (h : Kept s t) : Answers s (execInitDoneRx p gotAdv resume t) :=
  .hllCmd h (fun _ h => .initDone h)
theorem Answers.llInitTimeout {p} (h : Kept s t) : Answers s (execLlInitTimeout p t) := .hllCmd h (fun _ h => .initTimeout h)
theorem Answers.llHoldExpiry {p} (h : Kept s t) : Answers s (execLlHoldExpiry p t) := .whenUpS h (fun _ h => .ite (.discardLL h) h)
theorem Answers.widthReqRx {p token width} (h : Kept s t) : Answers s (execWidthReqRx p token width t) := .hllCmd h (fun _ h => .widthReq h)
theorem Answers.widthAckRx {p token accept} (h : Kept s t) : Answers s (execWidthAckRx p token accept t) :=
  .hllCmd h (fun _ h => .widthAck h)
theorem Answers.widthSwitchRx {p token left} (h : Kept s t) : Answers s (execWidthSwitchRx p token left t) :=
  .hllCmd h (fun _ h => .widthSwitch h)
theorem Answers.retrainReqRx {p} (h : Kept s t) : Answers s (execRetrainReqRx p t) := .hllCmd h (fun _ h => .retrainReq h)
theorem Answers.transmitSlot {p} (h : Kept s t) : Answers s (execTransmitSlot p t) := .whenUpS h (fun _ h => .transmit h)
theorem Answers.ropePairWrite {r src v} (h : Kept s t) : Answers s (execRopePairWrite r src v t) := .regWr h
theorem Answers.rxSilenceTimeout {p} (h : Kept s t) : Answers s (execRxSilenceTimeout p t) := .hllCmd h (fun _ h => .ite (.retrain h) h)
theorem Answers.ropeRejoinSwitch {r vc} (h : Kept s t) : Answers s (execRopeRejoinSwitch r vc t) := .whenUpS h (fun _ h => .ropeSwitch h)
theorem Answers.ropeHoldRelease {r vc} (h : Kept s t) : Answers s (execRopeHoldRelease r vc t) := .whenUpS h (fun _ h => .ropeRelease h)

/-! ### HutCmd -/

theorem Answers.hutCmd {op atom r} (h : Kept s t) : Answers s (hutCmd op atom r t) := .whenUpS h (fun _ h => .ite (.hutArrive h) h)
theorem Answers.hutDeviceRead {r} (h : Kept s t) : Answers s (execHutDeviceRead r t) := .hutCmd h
theorem Answers.hutDeviceWrite {r} (h : Kept s t) : Answers s (execHutDeviceWrite r t) := .hutCmd h
theorem Answers.hutNormalRead {r} (h : Kept s t) : Answers s (execHutNormalRead r t) := .hutCmd h
theorem Answers.hutNormalWrite {r} (h : Kept s t) : Answers s (execHutNormalWrite r t) := .hutCmd h
theorem Answers.hutReserveRead {r} (h : Kept s t) : Answers s (execHutReserveRead r t) := .hutCmd h
theorem Answers.hutConditionalWrite {r} (h : Kept s t) : Answers s (execHutConditionalWrite r t) := .hutCmd h
theorem Answers.hutAtomic {k r} (h : Kept s t) : Answers s (execHutAtomic k r t) := .hutCmd h
theorem Answers.normalWriteDeadline {bank} (h : Kept s t) : Answers s (execNormalWriteDeadline bank t) :=
  .whenUpS h (fun _ h => .hutPerform h)
theorem Answers.rsvTimeout {m} (h : Kept s t) : Answers s (execRsvTimeout m t) := by
  unfold execRsvTimeout
  refine .whenUpS h fun _ h1 => ?_
  split
  · exact .ite (.addSat (.clearRes h1)) h1
  · exact h1
theorem Answers.fence {vh v} (h : Kept s t) : Answers s (execFence vh v t) := .whenUpS h (fun _ h => .ite (.hutClosed h) (.fenceStart h))
theorem Answers.fenceArrival {vh} (h : Kept s t) : Answers s (execFenceArrival vh t) := .whenUpS h (fun _ h => .fenceArrive h)
theorem Answers.fenceDone {vh} (h : Kept s t) : Answers s (execFenceDone vh t) := .whenUpS h (fun _ h => .ite (.fenceEnd h) h)
theorem Answers.fenceTimeout {vh} (h : Kept s t) : Answers s (execFenceTimeout vh t) :=
  .whenUpS h (fun _ h => .ite (.fenceEnd (.raise (.setVctl h))) h)
theorem Answers.dbRing {vh src rid target data} (h : Kept s t) : Answers s (execDbRing vh src rid target data t) :=
  .whenUpS h (fun _ h => .ite (.hutClosed h) (.dbRing h))
theorem Answers.dbPendRead {vh} (h : Kept s t) : Answers s (execDbPendRead vh t) :=
  .whenUpS h (fun _ h => .ite (.emit (.hutClosed h)) (.emit (.dbPendTake h)))
theorem Answers.hutZero {src v} (h : Kept s t) : Answers s (execHutZero src v t) := .regWr h
theorem Answers.hutZeroDone (h : Kept s t) : Answers s (execHutZeroDone t) := by
  unfold execHutZeroDone
  refine .whenUpS h fun _ h1 => ?_
  split
  · exact h1
  · exact .budgeted h1 (fun _ h => .hutZeroEnd h)

/-! ### LanesCmd -/

theorem Answers.laneWr {n src off v} (h : Kept s t) : Answers s (laneWr t n src off v) := .regWr h
theorem Answers.txeqWrite {n src v} (h : Kept s t) : Answers s (execTxeqWrite n src v t) := .laneWr h
theorem Answers.trainEqRx {n m} (h : Kept s t) : Answers s (execTrainEqRx n m t) := by
  unfold execTrainEqRx
  refine .whenUpS h fun _ h1 => ?_
  refine .ite ?_ ?_
  · exact .eqRx h1
  · split
    · exact .ite (.pcieCoefs h1) h1
    · exact h1
theorem Answers.adaptUpdate {n grad} (h : Kept s t) : Answers s (execAdaptUpdate n grad t) :=
  .whenUpS h (fun _ h => .ite (.foldl h fun _ _ h => .set h) h)
theorem Answers.vgaCtleUpdate {n vga ctle slow} (h : Kept s t) : Answers s (execVgaCtleUpdate n vga ctle slow t) :=
  .whenUpS h (fun _ h => .ite (.set (.set h)) (.ite (.ite (.set (.set h)) (.dirtyAge (.set (.set h)))) h))
theorem Answers.laneConverged {n snr} (h : Kept s t) : Answers s (execLaneConverged n snr t) := by
  unfold execLaneConverged
  refine .whenUpS h fun _ h1 => ?_
  refine .ite ?_ ?_
  · extract_lets s2 _ s3
    have h2 : Kept s s2 := .sawSnr h1
    have h3 : Kept s s3 := .setLaneState (.setLane (.dirtyAge h2))
    exact .ite (.ite (.eqSettled (.sendEq h3)) h3) h2
  · exact h1
theorem Answers.laneSnapshot {n snr} (h : Kept s t) : Answers s (execLaneSnapshot n snr t) := by
  unfold execLaneSnapshot
  refine .whenUpS h fun _ h1 => ?_
  refine .ite ?_ ?_
  · extract_lets s2 _ s3
    have h2 : Kept s s2 := .sawSnr h1
    have h3 : Kept s s3 := by
      unfold s3
      split
      · exact .set h2
      · exact h2
    exact .setLane h3
  · exact h1
theorem Answers.laneDivergence {n snr} (h : Kept s t) : Answers s (execLaneDivergence n snr t) := by
  unfold execLaneDivergence
  refine .whenUpS h fun _ h1 => ?_
  exact .ite (.raise (.count (.addSat (.laneRestore (.ite (.sawSnr h1) h1))))) (.ite (.sawSnr h1) h1)
theorem Answers.laneRestart {n src v} (h : Kept s t) : Answers s (execLaneRestart n src v t) := .laneWr h
theorem Answers.rxadaptFreeze {n src v} (h : Kept s t) : Answers s (execRxadaptFreeze n src v t) := .laneWr h
theorem Answers.historyFallbackTimeout {n} (h : Kept s t) : Answers s (execHistoryFallbackTimeout n t) :=
  .whenUpS h (fun _ h => .ite (.setLane (.laneSearch h)) h)
theorem Answers.sweepPresetTimeout {n snr} (h : Kept s t) : Answers s (execSweepPresetTimeout n snr t) := by
  unfold execSweepPresetTimeout
  refine .whenUpS h fun _ h1 => ?_
  extract_lets _ _ s2
  have h2 : Kept s s2 := .sawSnr h1
  split
  · exact h1
  · refine .ite ?_ ?_
    · exact h1
    · extract_lets s3
      have h3 : Kept s s3 := .setLane h2
      refine .ite ?_ ?_
      · exact .askPartner h3
      · refine .ite ?_ ?_
        · exact .askPartner (.ite h3 (.setLane h3))
        · refine .ite ?_ ?_
          · exact .askPartner (.setLane h3)
          · split
            · exact .askPartner h3
            · exact h3
theorem Answers.patgenEnable {n src v} (h : Kept s t) : Answers s (execPatgenEnable n src v t) := .laneWr h
theorem Answers.patchkEnable {n src v} (h : Kept s t) : Answers s (execPatchkEnable n src v t) := .laneWr h
theorem Answers.patchkClear {n src v} (h : Kept s t) : Answers s (execPatchkClear n src v t) := .laneWr h
theorem Answers.checkerLock {n} (h : Kept s t) : Answers s (execCheckerLock n t) := .whenUpS h (fun _ h => .ite (.set h) h)
theorem Answers.checkerRelock {n bits errs syms} (h : Kept s t) : Answers s (execCheckerRelock n bits errs syms t) :=
  .whenUpS h (fun _ h => .ite (.addSat (.set (.addCounts h))) h)
theorem Answers.patchkSaturate {n errs syms} (h : Kept s t) : Answers s (execPatchkSaturate n errs syms t) :=
  .whenUpS h (fun _ h => .ite (.addCounts h) h)
theorem Answers.errinjGo {n src v} (h : Kept s t) : Answers s (execErrinjGo n src v t) := .laneWr h
theorem Answers.errinjInterval {n} (h : Kept s t) : Answers s (execErrinjInterval n t) := .whenUpS h (fun _ h => .ite (.injectOne h) h)
theorem Answers.loopbackModeWrite {n src v} (h : Kept s t) : Answers s (execLoopbackModeWrite n src v t) := .laneWr h
theorem Answers.eyescanGo {n src v} (h : Kept s t) : Answers s (execEyescanGo n src v t) := .laneWr h
theorem Answers.laneMarginingCmd {n c} (h : Kept s t) : Answers s (execLaneMarginingCmd n c t) :=
  .whenUpS h (fun _ h => .ite h (.ite (.margin h) (.ite (.emit h) h)))
theorem Answers.eyescanDone {n pts errs uv} (h : Kept s t) : Answers s (execEyescanDone n pts errs uv t) :=
  .whenUpS h (fun _ h => .scanDone h)
theorem Answers.cdrLockLoss {n} (h : Kept s t) : Answers s (execCdrLockLoss n t) := by
  unfold execCdrLockLoss
  refine .whenUpS h fun _ h1 => ?_
  refine .ite ?_ ?_
  · exact h1
  · extract_lets s2 _ s3
    have h2 : Kept s s2 := .count (.set (.laneRestore h1))
    have h3 : Kept s s3 := .setLane h2
    exact .ite (.retrain h3) h3
theorem Answers.lockLossRetrain {n} (h : Kept s t) : Answers s (execLockLossRetrain n t) :=
  .whenUpS h (fun _ h => .ite h (.ite (.retrain (.setLane h)) (.setLane h)))
theorem Answers.cdrLockGain {n} (h : Kept s t) : Answers s (execCdrLockGain n t) := .whenUpS h (fun _ h => .ite h (.set (.setLane h)))

/-! ### LookupCmd -/

theorem Kept.tlpAck {p tail} (h : Kept s t) : Kept s (t.tlpAck p tail) := .ite h (.emit (.setDll h))
theorem Kept.badTlp {p} (h : Kept s t) : Kept s (t.badTlp p) := by
  unfold State.badTlp
  exact .raise (.ite h (.emit (.setDll h)))
theorem Answers.tlpRx {p t' tail vc} (h : Kept s t) : Answers s (execTlpRx p t' tail vc t) := by
  unfold execTlpRx
  refine .whenUpS h fun _ h1 => ?_
  extract_lets _ s2
  have h2 : Kept s s2 := .tlpAck h1
  exact .ite h1 (.ite (.badTlp h1) (.ite (.returnCredits h2) (.ite (.raise h2) (.noteFull (.inject h2)))))
theorem Answers.trainLookup {p} (h : Kept s t) : Answers s (execTrainLookup p t) := .whenUpS h (fun _ h => .lookup h)
theorem Answers.xlatMissFill {p res} (h : Kept s t) : Answers s (execXlatMissFill p res t) :=
  .whenUpS h (fun _ h => .missFill (.ite (.eccClient h) h))
theorem Answers.ctxMissFill {p res} (h : Kept s t) : Answers s (execCtxMissFill p res t) :=
  .whenUpS h (fun _ h => .ctxFill (.ite (.eccClient h) h))
theorem Answers.xlatInvAll {src v} (h : Kept s t) : Answers s (execXlatInvAll src v t) := .regWr h
theorem Answers.xlatInvDone (h : Kept s t) : Answers s (execXlatInvDone t) := .whenUpS h (fun _ h => .invDone h)
theorem Answers.winUpdateWrite {src v} (h : Kept s t) : Answers s (execWinUpdateWrite src v t) := .regWr h
theorem Answers.winUpdateClear {src v} (h : Kept s t) : Answers s (execWinUpdateClear src v t) := .regWr h
theorem Answers.winUpdateDiscard {src v} (h : Kept s t) : Answers s (execWinUpdateDiscard src v t) := .regWr h
theorem Answers.winCommitGo {src v} (h : Kept s t) : Answers s (execWinCommitGo src v t) := .regWr h
theorem Answers.winCommitCheck {src v} (h : Kept s t) : Answers s (execWinCommitCheck src v t) := .regWr h
theorem Answers.winCommitApply (h : Kept s t) : Answers s (execWinCommitApply t) := .whenUpS h (fun _ h => .winApply h)
theorem Answers.winWritebackDone (h : Kept s t) : Answers s (execWinWritebackDone t) := .whenUpS h (fun _ h => .winWriteback h)

/-! ### Bridge -/

theorem Kept.sbShow (h : Kept s t) : Kept s t.sbShow := .sets h
theorem Answers.whenSb {f : State → State} (h : Kept s t) (hf : ∀ u, Kept s u → Kept s (f u)) : Answers s (whenSb t f) :=
  have hshow := Kept.sbShow (hf _ h)
  .next (.ite (.ite (.after hshow) hshow) h)
theorem Kept.sbResult {r} (h : Kept s t) : Kept s (t.sbResult r) := .update h rfl
theorem Kept.sbNacked (h : Kept s t) : Kept s t.sbNacked := .addSat (.emit h)
theorem Kept.sbPec {pecOk} {f : State → State} (h : Kept s t) (hf : ∀ u, Kept s u → Kept s (f u)) : Kept s (t.sbPec pecOk f) :=
  .ite (.addSat (.emit (.update h rfl))) (hf _ (.update h rfl))
theorem Kept.sbReg {f : State → State} (h : Kept s t) (hf : ∀ u, Kept s u → Kept s (f u)) : Kept s (t.sbReg f) :=
  .ite (.sbResult h) (hf _ h)
theorem Kept.sbWrite {addr data} (h : Kept s t) : Kept s (t.sbWrite addr data) :=
  .sbReg h (fun _ h => .ite (.sbNacked h) (.sbResult (.update h rfl)))
theorem Kept.sbWriteUnlock {addr data} (h : Kept s t) : Kept s (t.sbWriteUnlock addr data) :=
  .sbReg h (fun _ h => .ite (.sbNacked h) (.update h rfl))
theorem Kept.sbRead {addr lock} (h : Kept s t) : Kept s (t.sbRead addr lock) := .ite (.sbNacked h) (.sbReg h (fun _ h => .update h rfl))
theorem Kept.sbMend (h : Kept s t) : Kept s t.sbMend := .update h rfl
theorem Kept.sbUnlock (h : Kept s t) : Kept s t.sbUnlock := .sbReg h (fun _ h => .ite (.sbResult (.sbMend h)) (.sbResult (.releaseLock h)))
theorem Kept.farError {addr code own} (h : Kept s t) : Kept s (t.farError addr code own) :=
  .ite (.ite (.addSat h) (.sets h)) (.raise (.ite (.addSat h) (.sets h)))
theorem Kept.wulDone {unlock r} (h : Kept s t) : Kept s (t.wulDone unlock r) := .ite (.sbResult h) h
theorem Kept.sbPop (h : Kept s t) : Kept s t.sbPop := .update h rfl
theorem Kept.sbPerform (h : Kept s t) : Kept s t.sbPerform := by
  unfold State.sbPerform
  split
  · exact h
  · extract_lets _ _ s1
    have h1 : Kept s s1 := .performAcc (.sbPop h)
    refine .ite ?_ ?_
    · exact h
    · refine .ite ?_ ?_
      · exact .wulDone (.farError (.sbPop h))
      · refine .ite ?_ ?_
        · exact h
        · refine .ite ?_ ?_
          · exact .wulDone (.farError (.sbMend (.sbPop h)))
          · split
            · exact h
            · exact .sbPop h
            · exact .wulDone (.farError (.deny (.sbPop h)))
            · exact .wulDone (.ite (.releaseLock h1) h1)
theorem Kept.fetchAnswer {r} (h : Kept s t) : Kept s (t.fetchAnswer r) := .ite (.update h rfl) (.update (.update h rfl) rfl)
theorem Kept.sbFetched (h : Kept s t) : Kept s t.sbFetched := by
  unfold State.sbFetched
  split
  · exact h
  · refine .ite ?_ ?_
    · exact h
    · refine .ite ?_ ?_
      · exact .fetchAnswer h
      · refine .ite ?_ ?_
        · exact h
        · extract_lets _ s1
          have h1 : Kept s s1 := .ite (.sbMend (.takeLock h)) h
          split
          · exact .ite (.fetchAnswer h) h
          · exact h
          · exact .fetchAnswer (.deny h)
          · split
            next _ s2 e =>
            have h2 : Kept s s2 := .ofSnd e (.readAt (.charged h1))
            exact .fetchAnswer h2
theorem Kept.sbExpire (h : Kept s t) : Kept s t.sbExpire := .ite (.update h rfl) h
theorem Kept.sbPrivate (h : Kept s t) : Kept s t.sbPrivate := by
  unfold State.sbPrivate
  refine .ite ?_ ?_
  · exact .emit (.update h rfl)
  · refine .ite ?_ ?_
    · exact .emit h
    · split
      · exact .emit h
      · exact .emit h
theorem Kept.sbStatus (h : Kept s t) : Kept s t.sbStatus := .sbResult h
theorem Kept.sbRecord {r} (h : Kept s t) : Kept s (t.sbRecord r) := .sbResult h
theorem Kept.sbAlarm (h : Kept s t) : Kept s t.sbAlarm := by
  unfold State.sbAlarm
  split
  · exact .sbResult h
  · exact .sbRecord (.setFifo h)
theorem Kept.sbAlarmAck {seq} (h : Kept s t) : Kept s (t.sbAlarmAck seq) := by
  unfold State.sbAlarmAck
  split
  · exact .sbResult h
  · exact .ite (.sbResult (.fifoFree (.setFifo h))) (.sbResult h)
theorem Kept.sbRecRead (h : Kept s t) : Kept s t.sbRecRead := by
  unfold State.sbRecRead
  split
  · exact .sbResult h
  · exact .sbRecord h
theorem Kept.sbRecAck {seq} (h : Kept s t) : Kept s (t.sbRecAck seq) := by
  unfold State.sbRecAck
  split
  · exact .sbResult h
  · exact .ite (.sbResult (.update h rfl)) (.sbResult h)
theorem Kept.dapSet {status data} (h : Kept s t) : Kept s (t.dapSet status data) := .update h rfl
theorem Kept.dapAcc {write size8 addr v} (h : Kept s t) : Kept s (t.dapAcc write size8 addr v) := by
  unfold State.dapAcc
  extract_lets s1 _ s2
  have h1 : Kept s s1 := .emit (.setIr h)
  have h2 : Kept s s2 := .charged h1
  refine .ite ?_ ?_
  · exact .dapSet h1
  · refine .ite ?_ ?_
    · exact .dapSet (.deny h1)
    · split
      · exact .dapSet h1
      · exact .dapSet h1
      · exact .dapSet (.deny h1)
      · exact .ite (.dapSet (.writeAt h2)) (.dapSet (.readAt h2))

/-! ### MgmtCmd -/

theorem Answers.hostLockedRead {vh rid hostPort bar addr len} (h : Kept s t) : Answers s (execHostLockedRead vh rid hostPort bar addr len t) :=
  .whenUpS h (fun _ h => .ite (.access h) (.ite (.answerRead (.deny h)) h))
theorem Answers.hostUnlock {vh} (h : Kept s t) : Answers s (execHostUnlock vh t) := .whenUpS h (fun _ h => .hostUnlock h)
theorem Answers.lockBreak {page seg} (h : Kept s t) : Answers s (execLockBreak page seg t) := .whenUpS h (fun _ h => .breakLock h)
theorem Answers.mctpPacketRx {bytes pecOk} (h : Kept s t) : Answers s (execMctpPacketRx bytes pecOk t) :=
  .whenSb h (fun _ h => .ite (.ite (.mctpPacket h) h) (.addSat (.emit h)))
theorem Answers.i3cDynamicAddress {addr} (h : Kept s t) : Answers s (execI3cDynamicAddress addr t) := .whenSb h (fun _ h => .sets h)
theorem Answers.write32 {addr data pecOk} (h : Kept s t) : Answers s (execWrite32 addr data pecOk t) :=
  .whenSb h (fun _ h => .sbPec h (fun _ h => .sbWrite h))
theorem Answers.read32 {addr pecOk} (h : Kept s t) : Answers s (execRead32 addr pecOk t) :=
  .whenSb h (fun _ h => .sbPec h (fun _ h => .sbRead h))
theorem Answers.lockRead32 {addr pecOk} (h : Kept s t) : Answers s (execLockRead32 addr pecOk t) :=
  .whenSb h (fun _ h => .sbPec h (fun _ h => .sbRead h))
theorem Answers.writeUnlock32 {addr data pecOk} (h : Kept s t) : Answers s (execWriteUnlock32 addr data pecOk t) :=
  .whenSb h (fun _ h => .sbPec h (fun _ h => .sbWriteUnlock h))
theorem Answers.unlock {pecOk} (h : Kept s t) : Answers s (execUnlock pecOk t) := .whenSb h (fun _ h => .sbPec h (fun _ h => .sbUnlock h))
theorem Answers.getStatus {pecOk} (h : Kept s t) : Answers s (execGetStatus pecOk t) :=
  .whenSb h (fun _ h => .sbPec h (fun _ h => .sbStatus h))
theorem Answers.alarmRead {pecOk} (h : Kept s t) : Answers s (execAlarmRead pecOk t) :=
  .whenSb h (fun _ h => .sbPec h (fun _ h => .sbAlarm h))
theorem Answers.alarmAck {seq pecOk} (h : Kept s t) : Answers s (execAlarmAck seq pecOk t) :=
  .whenSb h (fun _ h => .sbPec h (fun _ h => .sbAlarmAck h))
theorem Answers.recordRead {pecOk} (h : Kept s t) : Answers s (execRecordRead pecOk t) :=
  .whenSb h (fun _ h => .sbPec h (fun _ h => .sbRecRead h))
theorem Answers.recordAck {seq pecOk} (h : Kept s t) : Answers s (execRecordAck seq pecOk t) :=
  .whenSb h (fun _ h => .sbPec h (fun _ h => .sbRecAck h))
theorem Answers.sbPrivateRead (h : Kept s t) : Answers s (execSbPrivateRead t) := .whenSb h (fun _ h => .sbPrivate h)
theorem Answers.sbWritePerform (h : Kept s t) : Answers s (execSbWritePerform t) := .whenSb h (fun _ h => .sbPerform h)
theorem Answers.sbFetchDone (h : Kept s t) : Answers s (execSbFetchDone t) := .whenSb h (fun _ h => .sbFetched h)
theorem Answers.sbResultExpiry (h : Kept s t) : Answers s (execSbResultExpiry t) := .whenSb h (fun _ h => .sbExpire h)
theorem Answers.dapRead {size8 addr} (h : Kept s t) : Answers s (execDapRead size8 addr t) := .whenPower h (fun _ h => .dapAcc h)
theorem Answers.dapWrite {size8 addr v} (h : Kept s t) : Answers s (execDapWrite size8 addr v t) := .whenPower h (fun _ h => .dapAcc h)

/-! ### PortsCmd -/

theorem Answers.bifurcWrite {st src v} (h : Kept s t) : Answers s (execBifurcWrite st src v t) := .regWr h
theorem Answers.portWr {p src off v} (h : Kept s t) : Answers s (portWr t p src off v) := .regWr h
theorem Answers.portRoleWrite {p src v} (h : Kept s t) : Answers s (execPortRoleWrite p src v t) := .portWr h
theorem Answers.linkDisableCmd {p src v} (h : Kept s t) : Answers s (execLinkDisableCmd p src v t) := .portWr h
theorem Answers.prstAssertCmd {p src v} (h : Kept s t) : Answers s (execPrstAssertCmd p src v t) := .portWr h
theorem Answers.hotResetCmd {p src v} (h : Kept s t) : Answers s (execHotResetCmd p src v t) := .portWr h
theorem Answers.retrainCmd {p src v} (h : Kept s t) : Answers s (execRetrainCmd p src v t) := .portWr h
theorem Answers.widthGo {p src v} (h : Kept s t) : Answers s (execWidthGo p src v t) := .portWr h
theorem Answers.prstHoldExpiry {p} (h : Kept s t) : Answers s (execPrstHoldExpiry p t) := by
  unfold execPrstHoldExpiry
  refine .whenUpS h fun _ h1 => ?_
  refine .ite ?_ ?_
  · exact h1
  · extract_lets _ s2
    have h2 : Kept s s2 := .setPrst h1
    split
    · exact .toDrain h2
    · exact h2
theorem Answers.partnerWidthRequest {p width} (h : Kept s t) : Answers s (execPartnerWidthRequest p width t) :=
  .whenUpS h (fun _ h => .ite h (.ite (.emit h) (.emit (.wakeLanes (.set (.setPort (.ite (.set h) h)))))))
theorem Answers.widthRetry {p} (h : Kept s t) : Answers s (execWidthRetry p t) := by
  unfold execWidthRetry
  refine .whenUpS h fun _ h1 => ?_
  exact .ite h1 (.ite (.set (.setPort h1)) (.ite (.set (.setPort h1)) (.startWidth (.setPort h1))))
theorem Answers.widthChangeDone {p refused} (h : Kept s t) : Answers s (execWidthChangeDone p refused t) := by
  unfold execWidthChangeDone
  refine .whenUpS h fun _ h1 => ?_
  extract_lets _ _ s2
  have h2 : ∀ v0, Kept s v0 → Kept s (s2 v0) := fun _ hv => .set (.setPort hv)
  split
  · exact h1
  · refine .ite ?_ ?_
    · exact .ite (.set (h2 _ h1)) h1
    · exact .ite h1 (.ite (.set (.applyWidth (h2 _ h1))) (.applyWidth (h2 _ h1)))
theorem Answers.pcieTrainingStep {p t'} (h : Kept s t) : Answers s (execPcieTrainingStep p t' t) := .whenUpS h (fun _ h => .trainStep h)
theorem Answers.rxDetectRepeat {p found} (h : Kept s t) : Answers s (execRxDetectRepeat p found t) :=
  .whenUpS h (fun _ h => .ite h (.sendAlign (.setLink (.setPort (.foldl h fun _ _ h => .useCoefs h)))))
theorem Answers.trainAlignRx {p reversed polarity} (h : Kept s t) : Answers s (execTrainAlignRx p reversed polarity t) := by
  unfold execTrainAlignRx
  refine .whenUpS h fun _ h1 => ?_
  extract_lets _ _ s2 s3 _ _ s4 _ s5
  have h2 : Kept s s2 := .set h1
  have h3 : Kept s s3 := .foldl h2 fun _ _ h => .set h
  have h4 : Kept s s4 := .setLink (.setPort h3)
  have h5 : Kept s s5 := .ite (.acquire h4) (.set (.acquire h4))
  refine .ite ?_ ?_
  · split
    · exact .alignLanes h1
    · exact h1
  · exact .ite h1 (.eqSettled (.seedScramblers (.alignLanes h5)))
theorem Answers.alignTimeout {p} (h : Kept s t) : Answers s (execAlignTimeout p t) := by
  unfold execAlignTimeout
  exact .whenUpS h (fun _ h => .ite h (.ite (.trainFail (.setPort h)) (.setLink (.idleLanes (.setPort h)))))
theorem Answers.trainParamRx {p m} (h : Kept s t) : Answers s (execTrainParamRx p m t) := .whenUpS h (fun _ h => .paramRx h)
theorem Answers.fabLinkActive {p} (h : Kept s t) : Answers s (execFabLinkActive p t) := by
  unfold execFabLinkActive
  refine .whenUpS h fun _ h1 => ?_
  extract_lets _ _ _ _ _ s2
  have h2 : Kept s s2 := .foldl h1 fun _ _ h => .ite h (.laneIdle h)
  refine .ite ?_ ?_
  · exact h1
  · split
    · exact h1
    · extract_lets _ s3 s4 _ s5 s6
      have h3 : Kept s s3 := .sets h2
      have h4 : Kept s s4 := .ite h3 (.set h3)
      have h5 : Kept s s5 := .setLink (.resetSeqs (.setPort h4))
      have h6 : Kept s s6 := .ite (.raise h5) h5
      exact .ite h1 (.hllStart h6)
theorem Answers.convFailAtRate {p rate lanes} (h : Kept s t) : Answers s (execConvFailAtRate p rate lanes t) := by
  unfold execConvFailAtRate
  refine .whenUpS h fun _ h1 => ?_
  extract_lets _ _ _ _ _ _ s2 s3 _ s4
  have h2 : Kept s s2 := .sets (.setPort h1)
  have h3 : Kept s s3 := .raise h2
  have h4 : Kept s s4 := .foldl h3 fun _ _ h => .laneIdle h
  refine .ite ?_ ?_
  · exact h1
  · refine .ite ?_ ?_
    · exact .ite (.eqSettled h4) (.trainFail h4)
    · refine .ite ?_ ?_
      · exact .acquire h3
      · exact .eqSettled (.foldl h3 fun _ _ h => .ite (.setLaneState (.set (.abortScan h))) (.laneStart h))
theorem Answers.hostPrstAssert {p} (h : Kept s t) : Answers s (execHostPrstAssert p t) := by
  unfold execHostPrstAssert
  refine .whenUpS h fun _ h1 => ?_
  extract_lets _ _ s2
  have h2 : Kept s s2 := .takeDown (.setPort h1)
  refine .ite ?_ ?_
  · exact h1
  · split
    · exact .vhReset h2
    · exact h2
theorem Answers.hostPrstRelease {p} (h : Kept s t) : Answers s (execHostPrstRelease p t) :=
  .whenUpS h (fun _ h => .ite (.startTrain (.setPort h)) h)
theorem Answers.hotResetRx {p} (h : Kept s t) : Answers s (execHotResetRx p t) := by
  unfold execHotResetRx
  refine .whenUpS h fun _ h1 => ?_
  extract_lets _ s2
  have h2 : Kept s s2 := .takeDown h1
  refine .ite ?_ ?_
  · exact h1
  · split
    · exact .vhReset h2
    · exact h2
theorem Answers.vhResetDone {vh} (h : Kept s t) : Answers s (execVhResetDone vh t) :=
  .whenUpS h (fun _ h => .ite (.vhReleased (.bindState (.update h rfl))) h)
theorem Answers.devPrstRelease {p} (h : Kept s t) : Answers s (execDevPrstRelease p t) :=
  .whenUpS h (fun _ h => .trainBegan (.releasePrst h))
theorem Kept.slotChanged {p old new} (h : Kept s t) : Kept s (t.slotChanged p old new) := by
  unfold State.slotChanged
  split
  · exact h
  · extract_lets s1 s2
    have h1 : Kept s s1 := .ite (.attention h) h
    have h2 : Kept s s2 := .ite (.slotEvent (.setCfg h1)) h1
    exact .ite (.setPresence (.ite (.removalOver h2) h2)) (.ite (.ite (.surprise h2) (.setPresence h2)) h2)
theorem Kept.slotRead {p input} (h : Kept s t) : Kept s (t.slotRead p input) := by
  unfold State.slotRead
  extract_lets _ _ _ _ _ _ _ s1
  have h1 : Kept s s1 := .ite (.slotChanged (.setPort h)) (.setPort h)
  exact .ite (.devLinkDown h1) h1
theorem Kept.expPoll {reads a} (h : Kept s t) : Kept s (t.expPoll reads a) := by
  unfold State.expPoll
  extract_lets
  split
  · exact .foldl h fun _ _ h => .slotRead h
  · exact .foldl h fun _ _ h => .raise h
theorem Answers.hotplugPoll {reads} (h : Kept s t) : Answers s (execHotplugPoll reads t) :=
  .whenUpS h (fun _ h => .foldl (.foldl (.expSync h) fun _ _ h => .emit h) fun _ _ h => .expPoll h)
theorem Answers.slotPowerCtrl {vh d on} (h : Kept s t) : Answers s (execSlotPowerCtrl vh d on t) :=
  .whenUpS h (fun _ h => .ite h (.expSync (.slotPower (.setCfg h))))
theorem Answers.ptmRequestRx {p reqId} (h : Kept s t) : Answers s (execPtmRequestRx p reqId t) :=
  .whenUpS h (fun _ h => .ite (.pushMsg h) h)

/-! ### PowerCmd -/

theorem Answers.tempWarn {temp diode} (h : Kept s t) : Answers s (execTempWarn temp diode t) := .whenUpS h (fun _ h => .tempRead h)
theorem Answers.tempWarnRearm {temp diode} (h : Kept s t) : Answers s (execTempWarnRearm temp diode t) :=
  .whenUpS h (fun _ h => .tempRead h)
theorem Answers.railToleranceTimeout {r} (h : Kept s t) : Answers s (execRailToleranceTimeout r t) := .whenUpS h (fun _ h => .railLong h)
theorem Answers.railToleranceChange {r outside} (h : Kept s t) : Answers s (execRailToleranceChange r outside t) :=
  .whenUpS h (fun _ h => .railMove h)
theorem Answers.ptmExchange {p master} (h : Kept s t) : Answers s (execPtmExchange p master t) := .whenUpS h (fun _ h => .ptmDone h)
theorem Answers.ppsEdge (h : Kept s t) : Answers s (execPpsEdge t) := .whenUpS h (fun _ h => .ppsIn h)
theorem Answers.syncLossTimeout (h : Kept s t) : Answers s (execSyncLossTimeout t) := .whenUpS h (fun _ h => .syncLost h)
theorem Answers.timeSet {src v} (h : Kept s t) : Answers s (execTimeSet src v t) := .regWr h
theorem Answers.timeSrcWrite {src v} (h : Kept s t) : Answers s (execTimeSrcWrite src v t) := .regWr h
theorem Answers.ppsOutPulse (h : Kept s t) : Answers s (execPpsOutPulse t) := .whenUpS h (fun _ h => .ppsRise h)

/-! ### SwitchCmd -/

theorem Answers.couplingOffer {x} (h : Kept s t) : Answers s (execCouplingOffer x t) := .whenUpS h (fun _ h => .offerCpl h)
theorem Answers.planeArbitration {n o also} (h : Kept s t) : Answers s (execPlaneArbitration n o also t) :=
  .whenUpS h (fun _ h => .arbitrate h)
theorem Answers.couplingYardArrival {n o errs} (h : Kept s t) : Answers s (execCouplingYardArrival n o errs t) :=
  .whenUpS h (fun _ h => .arrive h)
theorem Answers.yardRelease {y} (h : Kept s t) : Answers s (execYardRelease y t) :=
  .whenUpS h (fun _ h => .yardRelease h (fun _ _ h => .deliver h))
theorem Answers.yardMissingTimeout {y} (h : Kept s t) : Answers s (execYardMissingTimeout y t) := .whenUpS h (fun _ h => .yardMissing h)
theorem Answers.ingressNoticeTimeout {x} (h : Kept s t) : Answers s (execIngressNoticeTimeout x t) :=
  .whenUpS h (fun _ h => .noticeMissing h)
theorem Answers.planeUe {n} (h : Kept s t) : Answers s (execPlaneUe n t) := .whenUpS h (fun _ h => .planeUe h)
theorem Answers.suspectExpiry {n} (h : Kept s t) : Answers s (execSuspectExpiry n t) := .whenUpS h (fun _ h => .ite (.set h) h)
theorem Answers.mcOffer {x} (h : Kept s t) : Answers s (execMcOffer x t) := .whenUpS h (fun _ h => .mcOffer h)
theorem Answers.sidingDeliver (h : Kept s t) : Answers s (execSidingDeliver t) := .whenUpS h (fun _ h => .sidingDeliver h)
theorem Answers.sidingTimeout {x} (h : Kept s t) : Answers s (execSidingTimeout x t) := .whenUpS h (fun _ h => .sidingTimeout h)

/-! ### TelemetryCmd -/

theorem Answers.chainWrite {j src v} (h : Kept s t) : Answers s (execChainWrite j src v t) := .regWr h
theorem Answers.tagEnable {src v} (h : Kept s t) : Answers s (execTagEnable src v t) := .regWr h
theorem Answers.cairnFinish {id} (h : Kept s t) : Answers s (execCairnFinish id t) := .whenUpS h (fun _ h => .cairnFinish h)
theorem Answers.cairnWrite (h : Kept s t) : Answers s (execCairnWrite t) := .whenUpS h (fun _ h => .cairnWrite h)
theorem Answers.coalWindowExpiry {code inst key} (h : Kept s t) : Answers s (execCoalWindowExpiry code inst key t) :=
  .whenUpS h (fun _ h => .coalExpire h)
theorem Answers.logDropSummary (h : Kept s t) : Answers s (execLogDropSummary t) := .whenUpS h (fun _ h => .dropSummary h)
theorem Answers.alarmFifoWrite (h : Kept s t) : Answers s (execAlarmFifoWrite t) := .whenUpS h (fun _ h => .alarmWrite h)
theorem Answers.freezeRearm {src v} (h : Kept s t) : Answers s (execFreezeRearm src v t) := .regWr h
theorem Answers.logIrqGapExpiry (h : Kept s t) : Answers s (execLogIrqGapExpiry t) := .whenUpS h (fun _ h => .gapExpire h)
theorem Answers.logDmaBatch (h : Kept s t) : Answers s (execLogDmaBatch t) := .whenUpS h (fun _ h => .dmaBatch h)
theorem Answers.logMark {src v} (h : Kept s t) : Answers s (execLogMark src v t) := .regWr h

end

/-! ### The nine commands of power, reset, clock and trip -/

/-- Does the command move power, the internal reset, the trip, the reference or the end of self-test? -/
def movesSupply : Instr → Bool
  | .pwrOkRise | .pwrOkFall | .sysRstNAssert | .internalResetRelease .. | .softResetStart | .bistDone _ | .refClockLoss .. | .refClockReturn
  | .thermalTrip => true
  | _ => false

section
variable {s t : State}

theorem Carried.refl (s : State) : Carried s s := ⟨rfl, id⟩

theorem Carried.ite {c : Prop} {_ : Decidable c} {u : State} (ht : Carried s t) (hu : Carried s u) : Carried s (if c then t else u) := by
  split
  · exact ht
  · exact hu

/-- A change of pins leaves the queue and the memories. -/
theorem Carried.setPins {x : Pins} : Carried s { s with pins := x } := ⟨rfl, id⟩

/-- A change of pins and what follows it with the supply kept. -/
theorem Carried.pinsThen {x : Pins} (h : Kept { s with pins := x } t) : Carried s t := Carried.setPins.trans h.toCarried

theorem Carried.coldReset : Carried s s.coldReset := ⟨rfl, fun ⟨hflash, _, _⟩ => ⟨hflash, rfl, rfl⟩⟩

theorem Carried.warmReset {soft} : Carried s (s.warmReset soft) := by
  unfold State.warmReset
  extract_lets _ s1 s2 s3
  have h1 : Carried s s1 := ⟨rfl, fun ⟨hflash, _, _⟩ => ⟨hflash, rfl, rfl⟩⟩
  have h3 : Kept s1 s3 := .addSat (.sets (.refl s1))
  exact h1.trans (Kept.ite (.sets h3) h3).toCarried

theorem Carried.sysRst : Carried s s.sysRst := .ite (.refl s) .warmReset

theorem Carried.softStart : Carried s s.softStart := .ite .warmReset (.refl s)

theorem Carried.releaseReset {strap sbAddr} : Carried s (s.releaseReset strap sbAddr) := by
  unfold State.releaseReset
  refine .ite (.refl s) ?_
  extract_lets _ _ s1 s2 s3
  have h2 : Kept s1 s2 := .sets (.refl s1)
  have h3 : Kept s1 s3 := .ite h2 (.sets h2)
  exact .pinsThen (.ite h3 (.avsSend h3))

theorem Carried.bistEnd {rep} : Carried s (s.bistEnd rep) := by
  unfold State.bistEnd
  refine .ite (.refl s) ?_
  extract_lets _ s1 s2 s3 s4 _ s5 s6 s8 s9 s10 _ s11
  have h1 : Carried s s1 := ⟨rfl, id⟩
  have h2 : Kept s1 s2 := .set (.refl s1)
  have h3 : Kept s1 s3 := .readBoard h2
  have h4 : Kept s1 s4 := .showSlot (.showSlot h3)
  have h5 : Kept s1 s5 := .ite (.bootNext h4) h4
  have h6 : Kept s1 s6 := by
    unfold s6
    split
    · extract_lets s7
      have h7 : Kept s1 s7 := .sets h5
      split
      · exact .ite (.applyMap (.set (.loadMap h7))) (.raise h7)
      · exact h7
    · exact h5
  have h8 : Kept s1 s8 := by
    unfold s8
    split
    · exact .badHistory h6
    · exact h6
  have h9 : Kept s1 s9 :=
    .firstPitch (.startAge (.showHardLeft (.startArrays (.startBanks (.startPlanes (.clkFreeze (.startPairs h8)))))))
  have h10 : Kept s1 s10 := .strapLayout (.set h9)
  have h11 : Kept s1 s11 := .ite (.log h10) h10
  exact h1.trans (Kept.ite (.raise h2) (.ite (.raise h11) h11)).toCarried

theorem Carried.clkLoss {ref lock} : Carried s (s.clkLoss ref lock) := by
  unfold State.clkLoss
  refine .ite (.refl s) ?_
  extract_lets s1 _ s2 s3 s4
  have h2 : Kept s s2 := .update (.rootLost (.refl s)) rfl
  have h4 : Kept s s4 := .foldl (.settle (.raise h2)) fun _ _ h => .ite (.takeDown h) h
  exact h4.toCarried.trans .setPins

theorem Carried.clkReturn : Carried s s.clkReturn := .ite (.refl s) (.pinsThen (.clkFreeze (.sets (.refl _))))

theorem Carried.trip : Carried s s.trip := .ite .setPins (.refl s)

theorem Carried.after (h : Carried s t) : Carried s t.after := h.trans (Kept.after (.refl t)).toCarried

end

/-! ### Every command -/

section
variable {s t : State}

/-- A command that does not move the supply answers a next state, which keeps the queue, the supply and the memories. -/
theorem Answers.exec {c : Instr} (hc : movesSupply c = false) (h : Kept s t) : Answers s (exec c t) := by
  cases c with
  | pwrOkRise | pwrOkFall | sysRstNAssert | internalResetRelease | softResetStart | bistDone | refClockLoss | refClockReturn | thermalTrip =>
    cases hc
  | imageVerifyDone => exact .imageVerifyDone h
  | ascentRecordApply => exact .ascentRecordApply h
  | ascentRecordTimeout => exact .ascentRecordTimeout h
  | summitEnter => exact .summitEnter h
  | ascentLateTimeout => exact .ascentLateTimeout h
  | guidePair1Verified => exact .guidePair1Verified h
  | autoConfirmTimeout => exact .autoConfirmTimeout h
  | imageConfirm => exact .imageConfirm h
  | raiseSvn => exact .raiseSvn h
  | updateGo => exact .updateGo h
  | updateAbort => exact .updateAbort h
  | updatePhaseDone => exact .updatePhaseDone h
  | historyWrite => exact .historyWrite h
  | resetCtlWarm => exact .resetCtlWarm h
  | registerWrite => exact .registerWrite h
  | txeqWrite => exact .txeqWrite h
  | trainEqRx => exact .trainEqRx h
  | adaptUpdate => exact .adaptUpdate h
  | vgaCtleUpdate => exact .vgaCtleUpdate h
  | laneConverged => exact .laneConverged h
  | cdrLockLoss => exact .cdrLockLoss h
  | laneSnapshot => exact .laneSnapshot h
  | laneDivergence => exact .laneDivergence h
  | laneRestart => exact .laneRestart h
  | rxadaptFreeze => exact .rxadaptFreeze h
  | historyFallbackTimeout => exact .historyFallbackTimeout h
  | sweepPresetTimeout => exact .sweepPresetTimeout h
  | patgenEnable => exact .patgenEnable h
  | patchkEnable => exact .patchkEnable h
  | patchkClear => exact .patchkClear h
  | checkerLock => exact .checkerLock h
  | checkerRelock => exact .checkerRelock h
  | patchkSaturate => exact .patchkSaturate h
  | errinjGo => exact .errinjGo h
  | errinjInterval => exact .errinjInterval h
  | loopbackModeWrite => exact .loopbackModeWrite h
  | eyescanGo => exact .eyescanGo h
  | eyescanDone => exact .eyescanDone h
  | laneMarginingCmd => exact .laneMarginingCmd h
  | bifurcWrite => exact .bifurcWrite h
  | portRoleWrite => exact .portRoleWrite h
  | linkDisableCmd => exact .linkDisableCmd h
  | prstAssertCmd => exact .prstAssertCmd h
  | prstHoldExpiry p => exact .prstHoldExpiry (p := p) h
  | hotResetCmd => exact .hotResetCmd h
  | retrainCmd => exact .retrainCmd h
  | widthGo => exact .widthGo h
  | partnerWidthRequest => exact .partnerWidthRequest h
  | widthRetry => exact .widthRetry h
  | widthChangeDone => exact .widthChangeDone h
  | pcieTrainingStep => exact .pcieTrainingStep h
  | rxDetectRepeat => exact .rxDetectRepeat h
  | trainAlignRx => exact .trainAlignRx h
  | alignTimeout => exact .alignTimeout h
  | trainParamRx => exact .trainParamRx h
  | fabLinkActive => exact .fabLinkActive h
  | convFailAtRate => exact .convFailAtRate h
  | lockLossRetrain => exact .lockLossRetrain h
  | hostPrstAssert => exact .hostPrstAssert h
  | hostPrstRelease => exact .hostPrstRelease h
  | hotResetRx => exact .hotResetRx h
  | vhResetDone => exact .vhResetDone h
  | devPrstRelease => exact .devPrstRelease h
  | hotplugPoll => exact .hotplugPoll h
  | slotPowerCtrl => exact .slotPowerCtrl h
  | ptmRequestRx => exact .ptmRequestRx h
  | flitRx => exact .flitRx h
  | nakRepeatTimeout => exact .nakRepeatTimeout h
  | ackCoalesceTimeout => exact .ackCoalesceTimeout h
  | ackFsnRx => exact .ackFsnRx h
  | nakRx => exact .nakRx h
  | replayTimerExpiry => exact .replayTimerExpiry h
  | mgtOffRx => exact .mgtOffRx h
  | creditRx => exact .creditRx h
  | initCreditRx => exact .initCreditRx h
  | initDoneRx => exact .initDoneRx h
  | llInitTimeout => exact .llInitTimeout h
  | llHoldExpiry => exact .llHoldExpiry h
  | widthReqRx => exact .widthReqRx h
  | widthAckRx => exact .widthAckRx h
  | widthSwitchRx => exact .widthSwitchRx h
  | retrainReqRx => exact .retrainReqRx h
  | transmitSlot => exact .transmitSlot h
  | ropePairWrite => exact .ropePairWrite h
  | rxSilenceTimeout => exact .rxSilenceTimeout h
  | ropeRejoinSwitch => exact .ropeRejoinSwitch h
  | ropeHoldRelease => exact .ropeHoldRelease h
  | tlpRx => exact .tlpRx h
  | trainLookup => exact .trainLookup h
  | xlatMissFill => exact .xlatMissFill h
  | ctxMissFill => exact .ctxMissFill h
  | xlatInvAll => exact .xlatInvAll h
  | xlatInvDone => exact .xlatInvDone h
  | winUpdateWrite => exact .winUpdateWrite h
  | winUpdateClear => exact .winUpdateClear h
  | winUpdateDiscard => exact .winUpdateDiscard h
  | winCommitGo => exact .winCommitGo h
  | winCommitCheck => exact .winCommitCheck h
  | winCommitApply => exact .winCommitApply h
  | winWritebackDone => exact .winWritebackDone h
  | couplingOffer => exact .couplingOffer h
  | planeArbitration => exact .planeArbitration h
  | couplingYardArrival => exact .couplingYardArrival h
  | yardRelease => exact .yardRelease h
  | yardMissingTimeout => exact .yardMissingTimeout h
  | ingressNoticeTimeout => exact .ingressNoticeTimeout h
  | planeUe => exact .planeUe h
  | suspectExpiry => exact .suspectExpiry h
  | sharedMove => exact .sharedMove h
  | censusPassStart => exact .censusPassStart h
  | censusRun => exact .censusRun h
  | censusPassEnd => exact .censusPassEnd h
  | bankErrorWindow => exact .bankErrorWindow h
  | bankRetireCmd => exact .bankRetireCmd h
  | bankCopyDone => exact .bankCopyDone h
  | bankSwitchDone => exact .bankSwitchDone h
  | bankDrainDone => exact .bankDrainDone h
  | mcOffer => exact .mcOffer h
  | sidingDeliver => exact .sidingDeliver h
  | sidingTimeout => exact .sidingTimeout h
  | shaperWheelSlot => exact .shaperWheelSlot h
  | gateCommitGo => exact .gateCommitGo h
  | gateCheckDone => exact .gateCheckDone h
  | gateCancel => exact .gateCancel h
  | gateSwap => exact .gateSwap h
  | gateCopyDone => exact .gateCopyDone h
  | gateEntryBoundary => exact .gateEntryBoundary h
  | tcvcWrite => exact .tcvcWrite h
  | nodeIdWrite => exact .nodeIdWrite h
  | ortAllocate => exact .ortAllocate h
  | ortTimeout => exact .ortTimeout h
  | quarantineEnd => exact .quarantineEnd h
  | pfnPop => exact .pfnPop h
  | stallTimeout => exact .stallTimeout h
  | vhBindWrite => exact .vhBindWrite h
  | vdspAttach => exact .vdspAttach h
  | vdspDetach => exact .vdspDetach h
  | vdspForceDetach => exact .vdspForceDetach h
  | vdspPowerOff => exact .vdspPowerOff h
  | detachWaitTimeout => exact .detachWaitTimeout h
  | vdspFlrWaitExpiry => exact .vdspFlrWaitExpiry h
  | vdspDrainDone => exact .vdspDrainDone h
  | vfMapWrite => exact .vfMapWrite h
  | virtualConfigAccess => exact .virtualConfigAccess h
  | vfConfigAccess => exact .vfConfigAccess h
  | vfCfgCompletion => exact .vfCfgCompletion h
  | vfCfgTimeout => exact .vfCfgTimeout h
  | mediatedFlr => exact .mediatedFlr h
  | mediatedFlrDone => exact .mediatedFlrDone h
  | dpcTrigger => exact .dpcTrigger h
  | dpcRelease => exact .dpcRelease h
  | ctxRead => exact .ctxRead h
  | ctxWrite => exact .ctxWrite h
  | ctxInsert => exact .ctxInsert h
  | ctxDelete => exact .ctxDelete h
  | ctxFind => exact .ctxFind h
  | dlSlotEnable => exact .dlSlotEnable h
  | dlZeroDone => exact .dlZeroDone h
  | dlLineWriteback => exact .dlLineWriteback h
  | harvestGo => exact .harvestGo h
  | harvestAbort => exact .harvestAbort h
  | harvestDoneCmd => exact .harvestDoneCmd h
  | harvestFlushDone => exact .harvestFlushDone h
  | harvestDrainDone => exact .harvestDrainDone h
  | harvestDeliverDone => exact .harvestDeliverDone h
  | harvestClearDone => exact .harvestClearDone h
  | harvestMergeDone => exact .harvestMergeDone h
  | hutDeviceRead => exact .hutDeviceRead h
  | hutDeviceWrite => exact .hutDeviceWrite h
  | hutNormalRead => exact .hutNormalRead h
  | hutNormalWrite => exact .hutNormalWrite h
  | normalWriteDeadline => exact .normalWriteDeadline h
  | hutReserveRead => exact .hutReserveRead h
  | hutConditionalWrite => exact .hutConditionalWrite h
  | hutAtomic => exact .hutAtomic h
  | rsvTimeout => exact .rsvTimeout h
  | fence => exact .fence h
  | fenceArrival => exact .fenceArrival h
  | fenceDone => exact .fenceDone h
  | fenceTimeout => exact .fenceTimeout h
  | dbRing => exact .dbRing h
  | dbPendRead => exact .dbPendRead h
  | hutZero => exact .hutZero h
  | hutZeroDone => exact .hutZeroDone h
  | contain => exact .contain h
  | release => exact .release h
  | linkDown => exact .linkDown h
  | removalDetectDone => exact .removalDetectDone h
  | escWindowExpiry => exact .escWindowExpiry h
  | guideMismatch => exact .guideMismatch h
  | guidePairReady => exact .guidePairReady h
  | guideCheckpoint => exact .guideCheckpoint h
  | sramRowRepair => exact .sramRowRepair h
  | dramRowRepair => exact .dramRowRepair h
  | scrubRead => exact .scrubRead h
  | acclPassStart => exact .acclPassStart h
  | acclRun => exact .acclRun h
  | marginMeasureDone => exact .marginMeasureDone h
  | acclPassEnd => exact .acclPassEnd h
  | fastGuardStep => exact .fastGuardStep h
  | eqHoursTick => exact .eqHoursTick h
  | pitchStart => exact .pitchStart h
  | chainWrite => exact .chainWrite h
  | tagEnable => exact .tagEnable h
  | cairnFinish => exact .cairnFinish h
  | cairnWrite => exact .cairnWrite h
  | coalWindowExpiry => exact .coalWindowExpiry h
  | logDropSummary => exact .logDropSummary h
  | alarmFifoWrite => exact .alarmFifoWrite h
  | freezeRearm => exact .freezeRearm h
  | logIrqGapExpiry => exact .logIrqGapExpiry h
  | logDmaBatch => exact .logDmaBatch h
  | logMark => exact .logMark h
  | rpuSlotWrite => exact .rpuSlotWrite h
  | rpuSlotLock => exact .rpuSlotLock h
  | hostLockedRead => exact .hostLockedRead h
  | hostUnlock => exact .hostUnlock h
  | lockBreak => exact .lockBreak h
  | mctpPacketRx => exact .mctpPacketRx h
  | i3cDynamicAddress => exact .i3cDynamicAddress h
  | write32 => exact .write32 h
  | read32 => exact .read32 h
  | lockRead32 => exact .lockRead32 h
  | writeUnlock32 => exact .writeUnlock32 h
  | unlock => exact .unlock h
  | getStatus => exact .getStatus h
  | alarmRead => exact .alarmRead h
  | alarmAck => exact .alarmAck h
  | recordRead => exact .recordRead h
  | recordAck => exact .recordAck h
  | sbPrivateRead => exact .sbPrivateRead h
  | sbWritePerform => exact .sbWritePerform h
  | sbFetchDone => exact .sbFetchDone h
  | sbResultExpiry => exact .sbResultExpiry h
  | tapReset => exact .tapReset h
  | bypass => exact .bypass h
  | idcode => exact .idcode h
  | samplePreload => exact .samplePreload h
  | extest => exact .extest h
  | extestPulse => exact .extestPulse h
  | extestTrain => exact .extestTrain h
  | highz => exact .highz h
  | dapRead => exact .dapRead h
  | dapWrite => exact .dapWrite h
  | getVersion => exact .getVersion h
  | getCapabilities => exact .getCapabilities h
  | negotiateAlgorithms => exact .negotiateAlgorithms h
  | getDigests => exact .getDigests h
  | getCertificate slot off len => exact .getCertificate (_off := off) (_len := len) h
  | challenge => exact .challenge h
  | getMeasurements => exact .getMeasurements h
  | keyExchange => exact .keyExchange h
  | finish => exact .finish h
  | endSession => exact .endSession h
  | dbgNonce => exact .dbgNonce h
  | dbgNonceExpiry => exact .dbgNonceExpiry h
  | dbgUnlock => exact .dbgUnlock h
  | dbgRelock => exact .dbgRelock h
  | shadowGo => exact .shadowGo h
  | shadowCheckDone => exact .shadowCheckDone h
  | shadowDiscard => exact .shadowDiscard h
  | evtForce => exact .evtForce h
  | stsHold => exact .stsHold h
  | tempWarn => exact .tempWarn h
  | railToleranceTimeout => exact .railToleranceTimeout h
  | avsTransactionDone => exact .avsTransactionDone h
  | avsSettleDone => exact .avsSettleDone h
  | ptmExchange => exact .ptmExchange h
  | ppsEdge => exact .ppsEdge h
  | syncLossTimeout => exact .syncLossTimeout h
  | timeSet => exact .timeSet h
  | timeSrcWrite => exact .timeSrcWrite h
  | ppsOutPulse => exact .ppsOutPulse h
  | pcieDllpRx => exact .pcieDllpRx h
  | pcieReplayTimerExpiry => exact .pcieReplayTimerExpiry h
  | registerRead => exact .registerRead h
  | sramScrub => exact .sramScrub h
  | tempWarnRearm => exact .tempWarnRearm h
  | railToleranceChange => exact .railToleranceChange h
  | cdrLockGain => exact .cdrLockGain h
  | meTagHoldExpiry => exact .meTagHoldExpiry h
  | containDone => exact .containDone h
  | historyWriteDone => exact .historyWriteDone h

/-- Every command answers a next state, which keeps the queue and the canonical form of the memories. -/
theorem exec_carried (c : Instr) (s : State) : ∃ t, exec c s = .next t ∧ Carried s t := by
  by_cases hc : movesSupply c = false
  · obtain ⟨t, ht, hk⟩ := Answers.exec hc (.refl s)
    exact ⟨t, ht, hk.toCarried⟩
  · cases c with
    | pwrOkRise => exact ⟨_, rfl, .setPins⟩
    | pwrOkFall => exact ⟨_, rfl, .ite .coldReset (.refl s)⟩
    | sysRstNAssert => exact ⟨_, rfl, .sysRst⟩
    | internalResetRelease => exact ⟨_, rfl, .releaseReset⟩
    | softResetStart => exact ⟨_, rfl, .softStart⟩
    | bistDone => exact ⟨_, rfl, .after .bistEnd⟩
    | refClockLoss => exact ⟨_, rfl, .ite (.after .clkLoss) (.refl s)⟩
    | refClockReturn => exact ⟨_, rfl, .ite .clkReturn (.refl s)⟩
    | thermalTrip => exact ⟨_, rfl, .trip⟩
    | _ => exact absurd rfl hc

theorem Carried.of_exec {c : Instr} (h : Machine.exec c s = .next t) : Carried s t := by
  obtain ⟨u, hu, hk⟩ := exec_carried c s
  cases hu.symm.trans h
  exact hk

theorem Kept.of_exec {c : Instr} (hc : movesSupply c = false) (h : Machine.exec c s = .next t) : Kept s t := by
  obtain ⟨u, hu, hk⟩ := Answers.exec hc (.refl s)
  cases hu.symm.trans h
  exact hk

theorem step_idle (h : s.pending = []) : step s = .next s.tick := by
  unfold step
  rw [h]

theorem step_front (c : Instr) (l : List Instr) : step { s with pending := c :: l } = exec c { s with pending := l } := rfl

/-- A step keeps the canonical form of the memories. -/
theorem State.Canonical.step (hs : s.Canonical) (h : step s = .next t) : t.Canonical := by
  unfold Machine.step at h
  split at h
  · cases h
    exact (Kept.tick (.refl s)).canonical hs
  · exact (Carried.of_exec h).canonical hs

end

/-- Settles O1. -/
theorem stepRunsFront : Obligations.StepRunsFront := fun c s => step_front (s := s) c s.pending

/-- Settles O2. -/
theorem idleStepIsOneTick : Obligations.IdleStepIsOneTick := fun s h => ⟨⟨s.tick, step_idle h⟩, step_idle h⟩

/-- Settles O17: every command of the table has its lemma `Answers.<command>`. -/
theorem everyCommandAnswers : Obligations.EveryCommandAnswers := fun c s => by
  obtain ⟨t, ht, _⟩ := exec_carried c s
  exact ⟨t, ht⟩

/-- Settles O3: no operation of the model writes the queue (`Carried`). -/
theorem queueIsFirstInFirstOut : Obligations.QueueIsFirstInFirstOut := by
  refine ⟨fun c s t h => (Carried.of_exec h).queue, fun c l s t h => ?_, fun s t hs h => ?_⟩
  · rw [step_front] at h
    exact (Carried.of_exec h).queue
  · rw [step_idle hs] at h
    cases h
    exact (Kept.tick (.refl s)).queue.trans hs

/-- Settles O4: what writes a byte memory writes it through `Memory.write`, `writeBytes` or a filter (`Carried`). -/
theorem memoriesStayCanonical : Obligations.MemoriesStayCanonical := fun _ _ hs h => State.Canonical.step hs h

/-- Settles O6: every other command is `Kept`, and being in service is a function of the supply. -/
theorem onlyResetRowsMoveTheSupply : Obligations.OnlyResetRowsMoveTheSupply := by
  intro c s t hrise hfall hassert hrelease hsoft hbist hloss hreturn htrips h
  have hc : movesSupply c = false := by
    cases c with
    | pwrOkRise => exact absurd rfl hrise
    | pwrOkFall => exact absurd rfl hfall
    | sysRstNAssert => exact absurd rfl hassert
    | internalResetRelease a b => exact absurd rfl (hrelease a b)
    | softResetStart => exact absurd rfl hsoft
    | bistDone r => exact absurd rfl (hbist r)
    | refClockLoss a b => exact absurd rfl (hloss a b)
    | refClockReturn => exact absurd rfl hreturn
    | thermalTrip => exact absurd rfl htrips
    | _ => rfl
  have hsupply := (Kept.of_exec hc h).supply
  simp only [State.supply, Prod.mk.injEq] at hsupply
  obtain ⟨hpwr, hrst, htrip, hclk, hbist⟩ := hsupply
  refine ⟨hpwr, hrst, htrip, hclk, hbist, ?_, ?_⟩
  · simp only [State.up, State.live, hpwr, hrst, htrip, hclk, hbist]
  · simp only [State.live, hpwr, hrst, htrip, hclk]

/-- Settles O5. -/
theorem resetLeaves : Obligations.ResetLeaves := ⟨fun _ => rfl, rfl, rfl, rfl, rfl, rfl, rfl, rfl, rfl, rfl, rfl⟩

end Sys2Proof.Machine
end

section
/-! Bytes and codes: a link command and a transaction header read back as they were written, a byte memory too, scrambling undoes itself, and a sealed
flit has nothing to correct. -/
namespace Sys2Proof.Machine

/-! ### Little-endian bytes and fields of bits -/

theorem leBytes_length (n v : Nat) : (leBytes n v).length = n := by
  induction n generalizing v with
  | zero => rfl
  | succ n ih => rw [leBytes, List.length_cons, ih]

theorem leNat_leBytes (n v : Nat) : leNat (leBytes n v) = v % 256 ^ n := by
  induction n generalizing v with
  | zero => rw [Nat.pow_zero, Nat.mod_one]; rfl
  | succ n ih =>
    have hbyte : (BitVec.ofNat 8 v).toNat = v % 256 := BitVec.toNat_ofNat ..
    rw [leBytes, leNat, ih, hbyte, Nat.pow_succ', Nat.mod_mul]

theorem b2n_lt (b : Bool) : b2n b < 2 := by cases b <;> decide

theorem bitOf_eq_iff (v i : Nat) (b : Bool) : bitOf v i = b ↔ v / 2 ^ i % 2 = b2n b := by
  cases b <;> simp [bitOf, b2n]

/-- Each word of a list written little-endian, read back. -/
theorem leNat_flatMap_leBytes (n : Nat) (ws : List Nat) (l : List Byte) (i : Nat) (hi : i < ws.length) :
    leNat (((ws.flatMap (leBytes n) ++ l).drop (n * i)).take n) = ws[i] % 256 ^ n := by
  induction ws generalizing i with
  | nil => exact absurd hi (Nat.not_lt_zero i)
  | cons w ws ih =>
    have hlen := leBytes_length n w
    rw [List.flatMap_cons, List.append_assoc]
    cases i with
    | zero => rw [Nat.mul_zero, List.drop_zero, List.take_left' hlen, leNat_leBytes, List.getElem_cons_zero]
    | succ i =>
      rw [Nat.mul_succ, Nat.add_comm, ← List.drop_drop, List.drop_left' hlen, List.getElem_cons_succ]
      exact ih i (Nat.lt_of_succ_lt_succ hi)

/-! ### The link command (R107) -/

/-- Settles O8. -/
theorem linkCommandRoundTrip : Obligations.LinkCommandRoundTrip := by
  intro c a l ha hack hkind harg
  have hlen : c.bytes.length = 6 := leBytes_length ..
  have hnak := b2n_lt c.nak
  have hoff := b2n_lt c.mgtOff
  have hval : leNat c.bytes = c.ack * 2 ^ 36 + b2n c.nak * 2 ^ 35 + b2n c.mgtOff * 2 ^ 34 + c.kind * 2 ^ 30 + c.arg := by
    rw [LinkCmd.bytes, leNat_leBytes]
    omega
  refine ⟨hlen, ?_, hval⟩
  have htake : ((a ++ (c.bytes ++ l)).drop 238).take 6 = c.bytes := by rw [← ha, List.drop_left, List.take_left' hlen]
  rw [LinkCmd.ofBytes, htake, hval]
  cases c
  dsimp only at hack hkind harg hnak hoff ⊢
  simp only [LinkCmd.mk.injEq, bitOf_eq_iff, bitsOf]
  omega

/-! ### Scrambling (R95) -/

theorem xor_xor_cancel_byte (b : Byte) (k : Nat) : BitVec.ofNat 8 (Nat.xor (BitVec.ofNat 8 (Nat.xor b.toNat k)).toNat k) = b := by
  change BitVec.ofNat 8 ((BitVec.ofNat 8 (b.toNat ^^^ k)).toNat ^^^ k) = b
  rw [BitVec.ofNat_xor, BitVec.ofNat_toNat, BitVec.setWidth_eq, BitVec.ofNat_xor, BitVec.ofNat_toNat, BitVec.setWidth_eq, BitVec.xor_assoc,
    BitVec.xor_self, BitVec.xor_zero]

/-- Settles O9: both ends add the same byte of the sequence, and the registers step without regard to the data. -/
theorem scramblingUndoesItself : Obligations.ScramblingUndoesItself := by
  intro w i l r
  induction l generalizing i r with
  | nil => exact ⟨rfl, rfl, rfl⟩
  | cons b bs ih =>
    obtain ⟨hbytes, hregs, hlen⟩ := ih (i + 1) (r.set (i % max w 1) (prbsByte (r.getD (i % max w 1) (scrSeed (i % max w 1)))).2)
    simp only [scramble, hbytes, hregs, List.length_cons, hlen, xor_xor_cancel_byte, and_self]

/-! ### Byte memories -/

theorem getD_of_lt {α : Type} {l : List α} {i : Nat} (d : α) (h : i < l.length) : l.getD i d = l[i] := by
  rw [List.getD_eq_getElem?_getD, List.getElem?_eq_getElem h, Option.getD_some]

/-- Settles O12. -/
theorem writeBytesReadBack : Obligations.WriteBytesReadBack := by
  intro m d a l hm
  have hin : ∀ i, i < l.length → Memory.read (Memory.writeBytes m d a l) d (a + i) = l.getD i d := by
    intro i hi
    rw [Memory.read_writeBytes, if_pos (by omega), Nat.add_sub_cancel_left, getD_of_lt _ hi, getD_of_lt _ hi]
  refine ⟨hin, fun x hx => ?_, Memory.wf_writeBytes m d a l hm, ?_⟩
  · rw [Memory.read_writeBytes, if_neg (by omega)]
  · refine List.ext_getElem (by simp [Memory.readBytes]) fun i _ hi => ?_
    simp only [Memory.readBytes, List.getElem_map, List.getElem_range]
    rw [hin i hi, getD_of_lt _ hi]

/-! ### Transaction headers (R250) -/

theorem Hdr.length_bytes (h : Hdr) : h.bytes.length = 32 := by
  simp only [Hdr.bytes, Hdr.words, List.flatMap_cons, List.flatMap_nil, List.length_append, leBytes_length, List.length_nil]

/-- Every field fits its place; a unicast header names no group and a multicast one no target, and a response carries no address. -/
structure Hdr.Fits (h : Hdr) : Prop where
  op : h.op < 64
  dst : h.dst < 4096
  group : h.group < 1024
  src : h.src < 4096
  dport : h.dport < 64
  dvh : h.dvh < 32
  svh : h.svh < 32
  tc : h.tc < 8
  at2 : h.at2 < 4
  hops : h.hops < 32
  addr : h.addr < 2 ^ 64
  aligned : h.addr % 4 = 0
  lowerAddr : h.lowerAddr < 128
  byteCount : h.byteCount < 8192
  ftag : h.ftag < 16384
  epoch : h.epoch < 16
  len : h.len < 8192
  rlen : h.rlen < 8192
  fbe : h.fbe < 16
  lbe : h.lbe < 16
  status : h.status < 8
  cause : h.cause < 16
  reqId : h.reqId < 65536
  pasid : h.pasid < 2 ^ 20
  wtag : h.wtag < 2 ^ 24
  target : if h.mc then h.dst = 0 else h.group = 0
  shape : if h.op = 8 ∨ h.op = 9 then h.addr = 0 else h.lowerAddr = 0 ∧ h.byteCount = 0

/-- The word at an index, as it is read back. -/
def Hdr.word (h : Hdr) (i : Nat) : Nat := h.words.getD i 0 % 256 ^ 8

theorem Hdr.leNat_bytes (h : Hdr) (l : List Byte) (i : Nat) (hi : i < 4) : leNat (((h.bytes ++ l).drop (8 * i)).take 8) = h.word i := by
  rw [Hdr.word, getD_of_lt _ hi]
  exact leNat_flatMap_leBytes 8 h.words l i hi

section
variable {h : Hdr} (hf : h.Fits)
include hf

/-- Bits 57:46 hold the target, or in their low ten bits the group. -/
theorem Hdr.word_zero : (bitsOf (h.word 0) 63 58 = h.op ∧ bitsOf (h.word 0) 57 46 = (if h.mc then h.group else h.dst) ∧
    bitsOf (h.word 0) 55 46 = (if h.mc then h.group else h.dst) % 1024) ∧
    (bitsOf (h.word 0) 45 34 = h.src ∧ bitsOf (h.word 0) 33 28 = h.dport ∧ bitsOf (h.word 0) 27 23 = h.dvh ∧ bitsOf (h.word 0) 22 18 = h.svh ∧
    bitsOf (h.word 0) 17 15 = h.tc ∧ bitsOf (h.word 0) 10 9 = h.at2 ∧ bitsOf (h.word 0) 7 3 = h.hops) ∧
    bitOf (h.word 0) 14 = h.ns ∧ bitOf (h.word 0) 13 = h.ro ∧ bitOf (h.word 0) 12 = h.ido ∧ bitOf (h.word 0) 11 = h.ep ∧
    bitOf (h.word 0) 8 = h.desc ∧ bitOf (h.word 0) 2 = h.mc := by
  obtain ⟨hop, hdst, hgroup, hsrc, hdport, hdvh, hsvh, htc, hat2, hhops⟩ := hf
  have hns := b2n_lt h.ns
  have hro := b2n_lt h.ro
  have hido := b2n_lt h.ido
  have hep := b2n_lt h.ep
  have hdesc := b2n_lt h.desc
  have hmc := b2n_lt h.mc
  have hd : (if h.mc then h.group % 1024 else h.dst % 4096) = (if h.mc then h.group else h.dst) ∧ (if h.mc then h.group else h.dst) < 4096 := by
    split <;> omega
  simp only [Hdr.word, Hdr.words, List.getD_cons_zero, bitOf_eq_iff, bitsOf, hd.1]
  generalize (if h.mc then h.group else h.dst) = d at hd ⊢
  refine ⟨?_, ?_, ?_⟩ <;> omega

/-- A response holds LOWER_ADDR and BYTE_COUNT where a request holds its address. -/
theorem Hdr.word_one : if h.op = 8 ∨ h.op = 9 then bitsOf (h.word 1) 19 13 = h.lowerAddr ∧ bitsOf (h.word 1) 12 0 = h.byteCount
    else h.word 1 / 4 * 4 = h.addr := by
  have haddr := hf.addr
  have haligned := hf.aligned
  have hlower := hf.lowerAddr
  have hcount := hf.byteCount
  simp only [Hdr.word, Hdr.words, List.getD_cons_zero, List.getD_cons_succ, bitsOf]
  split <;> omega

theorem Hdr.word_two : bitsOf (h.word 2) 63 50 = h.ftag ∧ bitsOf (h.word 2) 49 46 = h.epoch ∧ bitsOf (h.word 2) 45 33 = h.len ∧
    bitsOf (h.word 2) 32 20 = h.rlen ∧ bitsOf (h.word 2) 19 16 = h.fbe ∧ bitsOf (h.word 2) 15 12 = h.lbe ∧ bitsOf (h.word 2) 11 9 = h.status ∧
    bitsOf (h.word 2) 8 5 = h.cause ∧ bitOf (h.word 2) 4 = h.np := by
  have hftag := hf.ftag
  have hepoch := hf.epoch
  have hlen := hf.len
  have hrlen := hf.rlen
  have hfbe := hf.fbe
  have hlbe := hf.lbe
  have hstatus := hf.status
  have hcause := hf.cause
  have hnp := b2n_lt h.np
  simp only [Hdr.word, Hdr.words, List.getD_cons_zero, List.getD_cons_succ, bitOf_eq_iff, bitsOf]
  omega

theorem Hdr.word_three : bitsOf (h.word 3) 63 48 = h.reqId ∧ bitsOf (h.word 3) 47 28 = h.pasid ∧ bitOf (h.word 3) 27 = h.pv ∧
    bitOf (h.word 3) 26 = h.pmr ∧ bitOf (h.word 3) 25 = h.exe ∧ bitsOf (h.word 3) 23 0 = h.wtag := by
  have hreqId := hf.reqId
  have hpasid := hf.pasid
  have hwtag := hf.wtag
  have hpv := b2n_lt h.pv
  have hpmr := b2n_lt h.pmr
  have hexe := b2n_lt h.exe
  simp only [Hdr.word, Hdr.words, List.getD_cons_zero, List.getD_cons_succ, bitOf_eq_iff, bitsOf]
  omega

theorem Hdr.ofBytes_bytes (l : List Byte) : Hdr.ofBytes (h.bytes ++ l) = h := by
  obtain ⟨⟨hop, htarget, hgroup⟩, ⟨hsrc, hdport, hdvh, hsvh, htc, hat2, hhops⟩, hns, hro, hido, hep, hdesc, hmc⟩ := Hdr.word_zero hf
  obtain ⟨hftag, hepoch, hlen, hrlen, hfbe, hlbe, hstatus, hcause, hnp⟩ := Hdr.word_two hf
  obtain ⟨hreqId, hpasid, hpv, hpmr, hexe, hwtag⟩ := Hdr.word_three hf
  have hone := Hdr.word_one hf
  have hplaces := hf.target
  have hshape := hf.shape
  have hfits := hf.group
  unfold Hdr.ofBytes
  simp only [Hdr.leNat_bytes h l _ (by decide : 0 < 4), Hdr.leNat_bytes h l _ (by decide : 1 < 4), Hdr.leNat_bytes h l _ (by decide : 2 < 4),
    Hdr.leNat_bytes h l _ (by decide : 3 < 4), hop, htarget, hgroup, hsrc, hdport, hdvh, hsvh, htc, hat2, hhops, hns, hro, hido, hep, hdesc, hmc,
    hftag, hepoch, hlen, hrlen, hfbe, hlbe, hstatus, hcause, hnp, hreqId, hpasid, hpv, hpmr, hexe, hwtag]
  have hdst : (if h.mc = true then 0 else if h.mc = true then h.group else h.dst) = h.dst := by
    split at hplaces
    case isTrue hmulti => rw [if_pos hmulti, hplaces]
    case isFalse huni => rw [if_neg huni, if_neg huni]
  have hgrp : (if h.mc = true then (if h.mc = true then h.group else h.dst) % 1024 else 0) = h.group := by
    split at hplaces
    case isTrue hmulti => rw [if_pos hmulti, if_pos hmulti, Nat.mod_eq_of_lt hfits]
    case isFalse huni => rw [if_neg huni, hplaces]
  have hrest : (if h.op == 8 || h.op == 9 then 0 else h.word 1 / 4 * 4) = h.addr ∧
      (if h.op == 8 || h.op == 9 then bitsOf (h.word 1) 19 13 else 0) = h.lowerAddr ∧
      (if h.op == 8 || h.op == 9 then bitsOf (h.word 1) 12 0 else 0) = h.byteCount := by
    simp only [Bool.or_eq_true, beq_iff_eq]
    split at hone
    case isTrue hr =>
      rw [if_pos hr] at hshape ⊢
      exact ⟨hshape.symm, by rwa [if_pos hr, if_pos hr]⟩
    case isFalse hr =>
      rw [if_neg hr] at hshape ⊢
      exact ⟨hone, by rwa [if_neg hr, if_neg hr, eq_comm, eq_comm (a := 0)]⟩
  obtain ⟨haddr, hlower, hcount⟩ := hrest
  rw [hdst, hgrp, haddr, hlower, hcount]

end

/-- Settles O7: each word reads back (`Hdr.leNat_bytes`), and a field of it lies between the powers of two of its place. -/
theorem haludHeaderRoundTrip : Obligations.HaludHeaderRoundTrip := by
  intro h l hop hdst hgroup hsrc hdport hdvh hsvh htc hat2 hhops haddr haligned hlower hcount hftag hepoch hlen hrlen hfbe hlbe hstatus hcause
    hreqId hpasid hwtag htarget hshape
  refine ⟨h.length_bytes, Hdr.ofBytes_bytes ?_ l⟩
  exact ⟨hop, hdst, hgroup, hsrc, hdport, hdvh, hsvh, htc, hat2, hhops, haddr, haligned, hlower, hcount, hftag, hepoch, hlen, hrlen, hfbe, hlbe,
    hstatus, hcause, hreqId, hpasid, hwtag, htarget, hshape⟩

/-! ### The field GF(2^8) (R97) -/

/-- Multiplication by x is a shift whose carry comes back as 0x1D. -/
theorem gfX_eq {a : Nat} (ha : a < 256) : gfX a = (a * 2 % 2 ^ 8) ^^^ (if a.testBit 7 then 0x1D else 0) := by
  have hbit : a.testBit 7 = decide (a ≥ 128) := by
    rw [Nat.testBit_eq_decide_div_mod_eq, decide_eq_decide]
    omega
  rw [gfX, hbit]
  by_cases h : a ≥ 128
  · have hcarry : a * 2 % 2 ^ 8 = a * 2 - 256 := by omega
    rw [if_pos h, if_pos (decide_eq_true h), hcarry]
    rfl
  · have hcarry : a * 2 % 2 ^ 8 = a * 2 := by omega
    rw [if_neg h, if_neg (by simpa using h), hcarry, Nat.xor_zero]

theorem gfX_lt {a : Nat} (ha : a < 256) : gfX a < 256 := by
  rw [gfX_eq ha]
  refine Nat.xor_lt_two_pow (n := 8) (Nat.mod_lt _ (by decide)) ?_
  split <;> decide

theorem gfX_xor {a b : Nat} (ha : a < 256) (hb : b < 256) : gfX (a ^^^ b) = gfX a ^^^ gfX b := by
  have hshift : (a ^^^ b) * 2 % 2 ^ 8 = (a * 2 % 2 ^ 8) ^^^ (b * 2 % 2 ^ 8) := by
    rw [← Nat.xor_mod_two_pow]
    congr 1
    have := Nat.shiftLeft_xor_distrib (a := a) (b := b) (i := 1)
    simpa only [Nat.shiftLeft_eq, Nat.pow_one] using this
  have hcarry : ∀ x y : Bool, (if (x ^^ y) = true then 0x1D else 0) = (if x = true then 0x1D else 0) ^^^ (if y = true then 0x1D else 0) := by decide
  rw [gfX_eq ha, gfX_eq hb, gfX_eq (Nat.xor_lt_two_pow (n := 8) ha hb), hshift, Nat.testBit_xor, hcarry]
  ac_rfl

/-- α^230 is the inverse of 1 + α. -/
theorem gfMul_inverse : ∀ x < 256, gfMul x (gfPow 230) < 256 ∧ gfX (gfMul x (gfPow 230)) ^^^ gfMul x (gfPow 230) = x := by
  decide +kernel


/-! ### The CRC (R98) -/

/-- A loop that keeps a bound stays below it. -/
theorem foldl_lt {α : Type} {f : Nat → α → Nat} {n : Nat} (l : List α) (hf : ∀ r x, r < n → f r x < n) {r : Nat} (hr : r < n) : l.foldl f r < n := by
  induction l generalizing r with
  | nil => exact hr
  | cons x l ih => exact ih (hf r x hr)

theorem crcByte_lt {r : Nat} (b : Nat) (hr : r < 2 ^ 48) : crcByte r b < 2 ^ 48 := by
  refine foldl_lt _ (fun r i _ => ?_) hr
  have hshift : r * 2 % 2 ^ 48 < 2 ^ 48 := Nat.mod_lt _ (by decide)
  dsimp only
  split
  · exact Nat.xor_lt_two_pow hshift (by decide)
  · exact hshift

theorem crc48_lt (l : List Byte) : crc48 l < 2 ^ 48 :=
  Nat.xor_lt_two_pow (foldl_lt l (fun _ b hr => crcByte_lt b.toNat hr) (by decide)) (by decide)

/-! ### Codewords (R97) -/

theorem syndromes_snoc (l : List Nat) (v : Nat) :
    syndromes (l ++ [v]) = ((syndromes l).1 ^^^ v, gfX (syndromes l).2 ^^^ v) := by
  rw [syndromes, List.foldl_append]
  rfl

theorem syndromes_lt (l : List Nat) (hl : ∀ v ∈ l, v < 256) : (syndromes l).1 < 256 ∧ (syndromes l).2 < 256 := by
  refine List.foldlRecOn (motive := fun p : Nat × Nat => p.1 < 256 ∧ p.2 < 256) l _ (by decide) fun p hp v hv => ?_
  obtain ⟨hzero, hone⟩ := hp
  exact ⟨Nat.xor_lt_two_pow (n := 8) hzero (hl v hv), Nat.xor_lt_two_pow (n := 8) (gfX_lt hone) (hl v hv)⟩

/-- The check bytes are bytes, and with them both syndromes are 0. -/
theorem syndromes_fecCheck (data : List Nat) (hdata : ∀ v ∈ data, v < 256) :
    (fecCheck data).1 < 256 ∧ (fecCheck data).2 < 256 ∧ syndromes (data ++ [(fecCheck data).1] ++ [(fecCheck data).2]) = (0, 0) := by
  obtain ⟨hzero, hone⟩ := syndromes_lt data hdata
  generalize hp : syndromes data = p at hzero hone
  have hcheck : syndromes (data ++ [0, 0]) = (p.1, gfX (gfX p.2)) := by
    rw [List.append_cons, syndromes_snoc, syndromes_snoc, hp, Nat.xor_zero, Nat.xor_zero, Nat.xor_zero, Nat.xor_zero]
  have htop := gfX_lt (gfX_lt hone)
  obtain ⟨hbyte, hinv⟩ := gfMul_inverse (p.1 ^^^ gfX (gfX p.2)) (Nat.xor_lt_two_pow (n := 8) hzero htop)
  have heq : fecCheck data = (gfMul (p.1 ^^^ gfX (gfX p.2)) (gfPow 230), p.1 ^^^ gfMul (p.1 ^^^ gfX (gfX p.2)) (gfPow 230)) := by
    rw [fecCheck, hcheck]
    rfl
  rw [heq, syndromes_snoc, syndromes_snoc, hp]
  generalize gfMul (p.1 ^^^ gfX (gfX p.2)) (gfPow 230) = c at hbyte hinv ⊢
  refine ⟨hbyte, Nat.xor_lt_two_pow (n := 8) hzero hbyte, Prod.ext (Nat.xor_self _) ?_⟩
  change gfX (gfX p.2 ^^^ c) ^^^ (p.1 ^^^ c) = 0
  calc gfX (gfX p.2 ^^^ c) ^^^ (p.1 ^^^ c) = (gfX (gfX p.2) ^^^ gfX c) ^^^ (p.1 ^^^ c) := by rw [gfX_xor (gfX_lt hone) hbyte]
    _ = (gfX c ^^^ c) ^^^ (p.1 ^^^ gfX (gfX p.2)) := by ac_rfl
    _ = 0 := by rw [hinv, Nat.xor_self]

/-- The places of a codeword's data bytes. -/
def fecData (c : Nat) : List Nat := (List.range 250).filter fun i => i % 3 == c

/-- The places of a codeword's two check bytes. -/
def fecChecks (c : Nat) : Nat × Nat := if c = 0 then (252, 255) else if c = 1 then (250, 253) else (251, 254)

theorem fecPlaces_eq (c : Nat) : fecPlaces c = fecData c ++ [(fecChecks c).1, (fecChecks c).2] := by
  unfold fecPlaces fecChecks
  split
  · rfl
  · split <;> rfl

theorem fecData_lt {c i : Nat} (h : i ∈ fecData c) : i < 250 := List.mem_range.mp (List.mem_filter.mp h).1

/-- A flit with the check bytes of one codeword set. -/
def fecSeal (l : List Byte) (c : Nat) : List Byte :=
  (l.set (fecChecks c).1 (BitVec.ofNat 8 (fecCheck ((fecData c).map (byteAt l))).1)).set (fecChecks c).2
    (BitVec.ofNat 8 (fecCheck ((fecData c).map (byteAt l))).2)

theorem flitSeal_eq (b : List Byte) :
    flitSeal b = fecSeal (fecSeal (fecSeal (b ++ leBytes 6 (crc48 b) ++ List.replicate 6 0) 0) 1) 2 := by
  rfl

theorem length_fecSeal (l : List Byte) (c : Nat) : (fecSeal l c).length = l.length := by
  rw [fecSeal, List.length_set, List.length_set]

theorem byteAt_fecSeal_other {l : List Byte} {c i : Nat} (h1 : i ≠ (fecChecks c).1) (h2 : i ≠ (fecChecks c).2) :
    byteAt (fecSeal l c) i = byteAt l i := by
  simp only [byteAt, fecSeal, List.getD_eq_getElem?_getD]
  rw [List.getElem?_set_ne h2.symm, List.getElem?_set_ne h1.symm]

/-- The check bytes stand behind every data byte, the second behind the first. -/
theorem fecChecks_place (c : Nat) : 250 ≤ (fecChecks c).1 ∧ (fecChecks c).1 < (fecChecks c).2 ∧ (fecChecks c).2 < 256 := by
  unfold fecChecks
  split
  · decide
  · split <;> decide

theorem take_fecSeal (l : List Byte) (c : Nat) : (fecSeal l c).take 250 = l.take 250 := by
  obtain ⟨hdata, hlt, _⟩ := fecChecks_place c
  rw [fecSeal, List.take_set_of_le (by omega), List.take_set_of_le hdata]

theorem syndromes_fecSeal {l : List Byte} (hl : l.length = 256) (c : Nat) : syndromes ((fecPlaces c).map (byteAt (fecSeal l c))) = (0, 0) := by
  obtain ⟨hdata, hlt, hend⟩ := fecChecks_place c
  obtain ⟨h1, h2, hsyn⟩ := syndromes_fecCheck ((fecData c).map (byteAt l)) fun v hv => by
    obtain ⟨i, _, rfl⟩ := List.mem_map.mp hv
    exact BitVec.isLt _
  have hbytes : (fecData c).map (byteAt (fecSeal l c)) = (fecData c).map (byteAt l) :=
    List.map_congr_left fun i hi => have := fecData_lt hi; byteAt_fecSeal_other (by omega) (by omega)
  have hfirst : byteAt (fecSeal l c) (fecChecks c).1 = (fecCheck ((fecData c).map (byteAt l))).1 := by
    simp only [byteAt, fecSeal, List.getD_eq_getElem?_getD]
    rw [List.getElem?_set_ne (Nat.ne_of_gt hlt), List.getElem?_set_self (by omega), Option.getD_some, BitVec.toNat_ofNat, Nat.mod_eq_of_lt h1]
  have hsecond : byteAt (fecSeal l c) (fecChecks c).2 = (fecCheck ((fecData c).map (byteAt l))).2 := by
    simp only [byteAt, fecSeal, List.getD_eq_getElem?_getD]
    rw [List.getElem?_set_self (by rw [List.length_set]; omega), Option.getD_some, BitVec.toNat_ofNat, Nat.mod_eq_of_lt h2]
  rw [fecPlaces_eq, List.map_append, hbytes, List.map_cons, List.map_cons, List.map_nil, hfirst, hsecond, List.append_cons]
  exact hsyn

theorem syndromes_fecSeal_other (l : List Byte) {c d : Nat} (h : (fecChecks c).1 ∉ fecPlaces d) (k : (fecChecks c).2 ∉ fecPlaces d) :
    syndromes ((fecPlaces d).map (byteAt (fecSeal l c))) = syndromes ((fecPlaces d).map (byteAt l)) :=
  congrArg syndromes (List.map_congr_left fun _ hi => byteAt_fecSeal_other (fun e => h (e ▸ hi)) (fun e => k (e ▸ hi)))

theorem fecDecode_of_syndromes {l : List Byte} {c : Nat} (h : syndromes ((fecPlaces c).map (byteAt l)) = (0, 0)) : fecDecode l c = some (l, false) := by
  simp only [fecDecode, h, and_self, if_true]

/-- Settles O10: the check bytes of a codeword make both syndromes 0, and those of the others do not touch it. -/
theorem sealedFlitIsGood : Obligations.SealedFlitIsGood := by
  intro b hb
  generalize hl : b ++ leBytes 6 (crc48 b) ++ List.replicate 6 0 = l
  have hlen : l.length = 256 := by
    rw [← hl, List.length_append, List.length_append, hb, leBytes_length, List.length_replicate]
  have htake : (flitSeal b).take 250 = b ++ leBytes 6 (crc48 b) := by
    rw [flitSeal_eq, hl, take_fecSeal, take_fecSeal, take_fecSeal, ← hl]
    exact List.take_left' (by rw [List.length_append, hb, leBytes_length])
  have hzero : syndromes ((fecPlaces 0).map (byteAt (flitSeal b))) = (0, 0) := by
    rw [flitSeal_eq, hl, syndromes_fecSeal_other _ (by decide) (by decide), syndromes_fecSeal_other _ (by decide) (by decide), syndromes_fecSeal hlen]
  have hone : syndromes ((fecPlaces 1).map (byteAt (flitSeal b))) = (0, 0) := by
    rw [flitSeal_eq, hl, syndromes_fecSeal_other _ (by decide) (by decide), syndromes_fecSeal (by rw [length_fecSeal, hlen])]
  have htwo : syndromes ((fecPlaces 2).map (byteAt (flitSeal b))) = (0, 0) := by
    rw [flitSeal_eq, hl, syndromes_fecSeal (by rw [length_fecSeal, length_fecSeal, hlen])]
  refine ⟨?_, ?_, ?_, ?_⟩
  · rw [flitSeal_eq, hl, length_fecSeal, length_fecSeal, length_fecSeal, hlen]
  · have hfirst : (flitSeal b).take 244 = ((flitSeal b).take 250).take 244 := by
      rw [List.take_take]; rfl
    rw [hfirst, htake, List.take_left' hb]
  · have hcrc : ((flitSeal b).drop 244).take 6 = ((flitSeal b).take 250).drop 244 := by rw [List.drop_take]
    rw [hcrc, htake, List.drop_left' hb, leNat_leBytes]
    exact Nat.mod_eq_of_lt (crc48_lt b)
  · simp only [fecDecodeAll, fecDecode_of_syndromes hzero, fecDecode_of_syndromes hone, fecDecode_of_syndromes htwo, Bool.or_self]

end Sys2Proof.Machine
end

section
/-! What leaves what unchanged: a TAP instruction, a Hut read, a window update before its commit. -/
namespace Sys2Proof.Machine

/-! ### The test access port (R466) -/

/-- `u` differs from `s` in the TAP's instruction and boundary register, the outputs under HIGHZ and what goes out. -/
def TapAlone (s u : State) : Prop :=
  u = { s with pins := { s.pins with ir := u.pins.ir, boundary := u.pins.boundary, highz := u.pins.highz }, out := u.out }

theorem whenPower_next {s : State} (f : State → State) (h : s.pins.pwrOk = true) : whenPower s f = .next (f s) := by
  rw [whenPower, if_pos h]

theorem tapExtest_alone (s : State) (x v : Nat) : TapAlone s (s.tapExtest x v) := by
  unfold State.tapExtest
  split <;> rfl

theorem tapLane_alone (s : State) (ir x v : Nat) : TapAlone s (s.tapLane ir x v) := by
  unfold State.tapLane
  split <;> rfl

theorem tapHighz_alone (s : State) : TapAlone s s.tapHighz := by
  unfold State.tapHighz
  split <;> rfl

/-- Settles O48. -/
theorem tapFrame : Obligations.TapFrame :=
  ⟨fun _ h => ⟨_, whenPower_next _ h, rfl⟩, fun _ h => ⟨_, whenPower_next _ h, rfl⟩, fun _ h => ⟨_, whenPower_next _ h, rfl⟩,
    fun x v _ h => ⟨_, whenPower_next (fun s => s.tapSample x.toNat v.toNat) h, rfl⟩,
    fun x v _ h => ⟨_, whenPower_next (fun s => s.tapExtest x.toNat v.toNat) h, tapExtest_alone ..⟩,
    fun x v _ h => ⟨_, whenPower_next (fun s => s.tapLane 0x04 x.toNat v.toNat) h, tapLane_alone ..⟩,
    fun x v _ h => ⟨_, whenPower_next (fun s => s.tapLane 0x05 x.toNat v.toNat) h, tapLane_alone ..⟩,
    fun _ h => ⟨_, whenPower_next _ h, tapHighz_alone _⟩⟩

/-! ### Reads of the Hut (R315, R316, R321) -/

theorem State.memories_count (s : State) (i n : Nat) : (s.count i n).memories = s.memories := by simp [State.memories]

theorem State.memories_hutUe (s : State) (a b c d : Nat) : (s.hutUe a b c d).memories = s.memories := by simp [State.memories, State.hutUe]

theorem State.memories_takeMon (s : State) (q : HutReq) : (s.takeMon q).2.memories = s.memories := by
  unfold State.takeMon
  split
  · rfl
  · extract_lets m own victim
    clear_value victim
    split
    · simp [State.memories, State.setMons]
    · rfl

theorem State.memories_foldl {α : Type} {f : State → α → State} (l : List α) (s : State) (hf : ∀ s x, (f s x).memories = s.memories) :
    (l.foldl f s).memories = s.memories := by
  induction l generalizing s with
  | nil => rfl
  | cons x l ih => exact (ih (f s x)).trans (hf s x)

theorem State.memories_hutReply (s : State) (q : HutReq) (data : List Byte) (bad : Nat → Nat → Bool) :
    (s.hutReply q data bad).memories = s.memories := State.memories_foldl _ _ fun _ _ => rfl

theorem State.memories_hutStatus (s : State) (q : HutReq) (k : TlpKind) (st : CplSt) : (s.hutStatus q k st).memories = s.memories := by
  unfold State.hutStatus State.answer
  split <;> rfl

theorem State.memories_fenceLose (s : State) (st : Option (Nat × Nat)) (h : Bool) (a c : Nat) : (s.fenceLose st h a c).memories = s.memories := by
  unfold State.fenceLose
  split
  · rfl
  · split
    · rfl
    · rw [State.memories_count]
      rfl

/-- An access that no train carries has nothing to resolve. -/
theorem State.hutResolve_zero (s : State) : s.hutResolve 0 = s := rfl

theorem State.memories_hutRefuse (s : State) (q : HutReq) (k : TlpKind) (code logged : Nat) (st : CplSt) :
    (s.hutRefuse q k 0 code logged st).memories = s.memories := by
  unfold State.hutRefuse
  split
  extract_lets _ _ s1 s2 s3
  have h1 : s1.memories = s.memories := by simp [s1, State.memories]
  have h2 : s2.memories = s.memories := (State.memories_count ..).trans h1
  have h3 : s3.memories = s2.memories := by
    unfold s3
    split
    · exact State.memories_hutStatus ..
    · exact State.memories_fenceLose ..
  rw [State.hutResolve_zero, h3, h2]

/-- With no write buffered a bank has none to perform. -/
theorem State.hutFlush_of_empty {s : State} (h : s.hut.buf = []) (b : Nat) (f : HutWr → Bool) : s.hutFlush b f = s := by
  simp [State.hutFlush, State.hutBuf, h, State.hutFlushN, Tab.getD]

theorem State.hutFlushRange_of_empty {s : State} (h : s.hut.buf = []) (a n : Nat) (f : HutWr → Bool) : s.hutFlushRange a n f = s := by
  unfold State.hutFlushRange
  induction hutBanks a n with
  | nil => rfl
  | cons b l ih => rw [List.foldl_cons, State.hutFlush_of_empty h, ih]

theorem State.memories_hutDoRead {s : State} (h : s.hut.buf = []) (op : Nat) (q : HutReq) : (s.hutDoRead op q 0).memories = s.memories := by
  unfold State.hutDoRead
  extract_lets a v s1 s2 bad s3 s4
  have h1 : s1 = s := State.hutFlushRange_of_empty h ..
  have h2 : s2.memories = s.memories := by rw [State.memories_count, h1]
  have h3 : s3.memories = s.memories := by
    unfold s3
    split
    · rw [State.memories_hutUe, h2]
    · exact h2
  have h4 : s4.memories = s.memories := by
    unfold s4
    split
    · exact h3
    · split
      · exact h3
      · rw [State.memories_count]
        exact (State.memories_takeMon s3 q).trans h3
  rw [State.hutResolve_zero, State.memories_hutReply, h4]

/-- An access that reads, refused or performed. -/
theorem State.memories_hutDo {s : State} (h : s.hut.buf = []) (op : Nat) (hop : op = 0 ∨ op = 2 ∨ op = 4) (r : HutReq) :
    (s.hutDo { op := op, r := r }).memories = s.memories := by
  unfold State.hutDo
  have hwrite : op ≠ 1 ∧ op ≠ 3 ∧ op ≠ 5 ∧ op ≠ 6 := by omega
  obtain ⟨h1, h3, h5, h6⟩ := hwrite
  extract_lets kind
  dsimp only
  split
  · exact State.memories_hutRefuse ..
  · split
    · exact State.memories_hutRefuse ..
    · exact State.memories_hutDoRead h op r

theorem State.memories_hutArrive {s : State} (h : s.hut.buf = []) (op : Nat) (hop : op = 0 ∨ op = 2 ∨ op = 4) (r : HutReq) :
    (s.hutArrive { op := op, r := r }).memories = s.memories := by
  unfold State.hutArrive
  extract_lets v c
  split
  · rfl
  · exact State.memories_hutDo h op hop r

/-- A command that reads the Hut leaves the memories. -/
theorem hutCmd_read_memories {s : State} (hs : s.up = true) (h : s.hut.buf = []) (op : Nat) (hop : op = 0 ∨ op = 2 ∨ op = 4) (r : HutReq) :
    ∃ u : State, hutCmd op none r s = .next u.after ∧ u.hut.mem = s.hut.mem ∧ u.boot.flash = s.boot.flash ∧ u.boot.staging = s.boot.staging := by
  refine ⟨_, next_whenUpS _ _ hs, ?_⟩
  have hmem : (if s.hutRoom r.vh.val then s.hutArrive { op := op, r := r } else s).memories = s.memories := by
    split
    · exact State.memories_hutArrive h op hop r
    · rfl
  simp only [State.memories, Prod.mk.injEq] at hmem
  obtain ⟨hflash, hstaging, hhut⟩ := hmem
  exact ⟨hhut, hflash, hstaging⟩

/-- Settles O49. -/
theorem hutReadFrame : Obligations.HutReadFrame :=
  ⟨fun r _ hs h => hutCmd_read_memories hs h 0 (.inl rfl) r, fun r _ hs h => hutCmd_read_memories hs h 2 (.inr (.inl rfl)) r,
    fun r _ hs h => hutCmd_read_memories hs h 4 (.inr (.inr rfl)) r⟩

end Sys2Proof.Machine
end

section
/-! Windows: their staged updates, the commit and what follows it (05_lookup_windows.md R156 to R162), and what a window update leaves unchanged. -/
namespace Sys2Proof.Machine

/-! ### The registers -/

theorem State.writeReg_winUpdate (s : State) (pr v : Nat) : s.writeReg 0x40 0x100 pr v = s.wrWinUpdate v := rfl
theorem State.writeReg_winCommit (s : State) (pr v : Nat) : s.writeReg 0x40 0x108 pr v = s.wrWinCommit v := rfl
theorem State.writeReg_tcCtl (s : State) (pr v : Nat) : s.writeReg 0x40 0x118 pr v = s.wrTcCtl v := rfl

theorem winOp_lt (v : Word) {op : Nat} (h : op < 4) : winOp v op < 2 ^ 64 := by
  unfold winOp
  omega

theorem winOp_mod (v : Word) {op : Nat} (h : op < 4) : winOp v op % 2 ^ 64 = winOp v op := Nat.mod_eq_of_lt (winOp_lt v h)

theorem bitsOf_winOp (v : Word) {op : Nat} (h : op < 4) : bitsOf (winOp v op) 63 62 = op := by
  unfold bitsOf winOp
  omega

/-- A staged write or clear is queued, or marks the queue full. -/
theorem State.wrWinUpdate_queue (s : State) (v : Word) {op : Nat} (h : op = 1 ∨ op = 2) :
    s.wrWinUpdate (winOp v op) = if s.xlat.updates.length ≥ 256 then s.set F.XLAT.WIN_STATUS.QFULL 1
      else { s with xlat := { s.xlat with updates := s.xlat.updates ++ [(bitsOf (winOp v op) 18 0,
        (if op = 1 then (List.range 8).map fun k => s.get (F.XLAT.WIN_DATA.DATA k) else zeroEntry) ++ [op])] } } := by
  have hop := bitsOf_winOp v (show op < 4 by omega)
  rw [State.wrWinUpdate, hop, if_neg (by omega), if_neg (by omega)]

theorem State.wrWinUpdate_discard (s : State) (v : Word) : s.wrWinUpdate (winOp v 3) = s.winDiscard := by
  rw [State.wrWinUpdate, bitsOf_winOp v (by decide)]
  rfl

/-! ### What an update leaves (R158) -/

/-- What WIN_UPDATE leaves: the entries in force, the entry cache, the trains, the links and the lanes. -/
structure State.WindowsKept (s u : State) : Prop where
  entries : ∀ i, u.wrtNow i = s.wrtNow i
  cache : u.xlat.cache = s.xlat.cache
  core : u.core = s.core
  ports : u.ports = s.ports
  lanes : u.lanes = s.lanes

theorem State.windowsKept_queue (s : State) (src : Path) (v : Word) {op : Nat} (h : op = 1 ∨ op = 2) :
    s.WindowsKept ((s.charged src).wrWinUpdate (winOp v op)) ∧
      ∀ f : Fld, f.key ≠ F.XLAT.WIN_STATUS.QFULL.key → ((s.charged src).wrWinUpdate (winOp v op)).get f = s.get f := by
  rw [State.wrWinUpdate_queue _ v h]
  split
  · refine ⟨⟨?_, ?_, ?_, ?_, ?_⟩, fun f hf => ?_⟩
    · simp [State.wrtNow, State.wrtDram]
    all_goals simp [State.get_set_other, *]
  · refine ⟨⟨?_, ?_, ?_, ?_, ?_⟩, fun f hf => State.get_charged s src f⟩
    · simp [State.wrtNow, State.wrtDram]
    all_goals simp

theorem State.windowsKept_discard (s : State) (src : Path) :
    s.WindowsKept (s.charged src).winDiscard ∧
      ∀ f : Fld, f.key ∉ [(F.HDR.SHADOW_CTL.DIRTY 0x40).key, (F.HDR.PAGE_STS.DIRTY 0x40).key, (F.HDR.SHADOW_CTL.STAGERS 0x40).key] →
        (s.charged src).winDiscard.get f = s.get f := by
  refine ⟨⟨?_, ?_, ?_, ?_, ?_⟩, fun f hf => ?_⟩
  · simp [State.wrtNow, State.wrtDram, State.winDiscard]
  · simp [State.winDiscard]
  · simp [State.winDiscard]
  · simp [State.winDiscard]
  · simp [State.winDiscard]
  · obtain ⟨hdirty, hpage, hstagers⟩ : f.key ≠ (F.HDR.SHADOW_CTL.DIRTY 0x40).key ∧ f.key ≠ (F.HDR.PAGE_STS.DIRTY 0x40).key ∧
        f.key ≠ (F.HDR.SHADOW_CTL.STAGERS 0x40).key := by simpa using hf
    rw [State.winDiscard, State.sets_cons, State.sets_cons, State.sets_cons, State.sets_nil, State.get_set_other _ _ _ _ hstagers,
      State.get_set_other _ _ _ _ hpage, State.get_set_other _ _ _ _ hdirty]
    exact State.get_charged s src f

theorem next_winUpdate (s : State) (src : Path) (v : Word) {op : Nat} (hop : op < 4) (h : s.Admits src 0x40 0x100 (winOp v op)) :
    regWr s src 0x40 0x100 (winOp v op) = .next ((s.charged src).wrWinUpdate (winOp v op)).after := by
  rw [next_regWr s src 0x40 0x100 _ h, winOp_mod v hop, State.writeReg_winUpdate]

/-- Settles O50. -/
theorem windowUpdateFrame : Obligations.WindowUpdateFrame := by
  refine ⟨fun src v s h => ?_, fun src v s h => ?_, fun src v s h => ?_⟩
  · obtain ⟨⟨hentries, hcache, hcore, hports, hlanes⟩, hget⟩ := s.windowsKept_queue src v (.inl rfl)
    exact ⟨_, next_winUpdate s src v (by decide) h, hentries, hcache, hget, hcore, hports, hlanes⟩
  · obtain ⟨⟨hentries, hcache, hcore, hports, hlanes⟩, hget⟩ := s.windowsKept_queue src v (.inr rfl)
    exact ⟨_, next_winUpdate s src v (by decide) h, hentries, hcache, hget, hcore, hports, hlanes⟩
  · obtain ⟨⟨hentries, hcache, hcore, hports, hlanes⟩, hget⟩ := s.windowsKept_discard src
    rw [← State.wrWinUpdate_discard _ v] at hentries hcache hcore hports hlanes hget
    exact ⟨_, next_winUpdate s src v (by decide) h, hentries, hcache, hget, hcore, hports, hlanes⟩

/-! ### The rows (R156 to R162) -/

/-- The commit's entries stand over those the overlay held. -/
theorem State.winApply_xlat (s : State) (h : s.winChecked.get F.XLAT.WIN_STATUS.STATE = 2)
    (hstamp : s.winChecked.stampCount ((s.winChecked.get (F.HDR.COMMIT_GEN.GEN 0x40) + 1) % 2 ^ 32 % 16) = 0) (hov : s.winChecked.xlat.overlay = []) :
    s.winApply.xlat.overlay = s.winChecked.xlat.commit.foldl (fun o e => Tab.put o e.1 (e.2.take 8)) [] ∧ s.winApply.xlat.commit = [] := by
  unfold State.winApply
  extract_lets t g old cm s1 _ s2 left s3 new changed idx hit s4 _ s5 ov _ s6 s7
  have hgo : ¬ (t.get F.XLAT.WIN_STATUS.STATE ≠ 2 ∨ t.stampCount (g % 16) ≠ 0 ∨ t.xlat.overlay ≠ []) := by
    rintro (hstate | hcount | hover)
    · exact hstate h
    · exact hcount hstamp
    · exact hover hov
  rw [if_neg hgo]
  have h3 : s3.xlat = t.xlat := by
    unfold s3
    split <;> rfl
  have hover : s5.xlat.overlay = [] := (congrArg XlatSt.overlay h3).trans hov
  have hcommit : s5.xlat.commit = s.winChecked.xlat.commit := (congrArg XlatSt.commit h3 :)
  have hlast : (s7.count (Ctr.dev 21) 1).drainGen.xlat = s6.xlat := by
    rw [State.drainGen, State.set_xlat, State.count_xlat, State.sets_xlat, State.winResult, State.sets_xlat]
  rw [hlast]
  refine ⟨?_, rfl⟩
  change s5.xlat.commit.foldl (fun o e => Tab.put o e.1 (e.2.take 8)) s5.xlat.overlay = _
  rw [hover, hcommit]

/-- Settles O36. -/
theorem windowRowsComplete : Obligations.WindowRowsComplete := by
  refine ⟨fun src v s h => ?_, fun s hup hwalk => ?_, fun src v s h hroom => ?_, fun src v s h hroom => ?_, fun src v s h => ?_,
    fun src v s h hidle hpass => ?_, fun src v s h hidle hpass => ?_, fun s hup hstate hstamp hover => ?_, fun s hup hstate hmiss hpay => ?_⟩
  · refine ⟨_, next_regWr s src 0x40 0x118 _ h, ?_⟩
    rw [State.writeReg_tcCtl, withBit_word_mod v 1 true (by decide), State.wrTcCtl, if_pos (bitOf_withBit_same ..)]
  · refine ⟨_, next_whenUpS s _ hup, ?_⟩
    rw [State.invDone, if_pos hwalk]
    exact ⟨rfl, State.get_set_same ..⟩
  · refine ⟨_, next_winUpdate s src v (by decide) h, ?_⟩
    rw [State.wrWinUpdate_queue _ v (.inl rfl), State.charged_xlat, if_neg (by omega)]
    simp
  · refine ⟨_, next_winUpdate s src v (by decide) h, ?_⟩
    rw [State.wrWinUpdate_queue _ v (.inr rfl), State.charged_xlat, if_neg (by omega)]
    rfl
  · exact ⟨_, next_winUpdate s src v (by decide) h, State.wrWinUpdate_discard _ v⟩
  · refine ⟨_, next_regWr s src 0x40 0x108 _ h, ?_⟩
    have hcheck : bitOf (withBit (withBit v.toNat 1 false) 0 true) 1 = false := by
      rw [bitOf_withBit_other _ _ (by decide), bitOf_withBit_same]
    have hgo : (s.charged src).get F.XLAT.WIN_STATUS.STATE = 0 := (State.get_charged ..).trans hidle
    have hmod : withBit (withBit v.toNat 1 false) 0 true % 2 ^ 64 = withBit (withBit v.toNat 1 false) 0 true :=
      Nat.mod_eq_of_lt (withBit_lt _ _ 64 _ (withBit_lt _ _ 64 _ v.isLt (by decide)) (by decide))
    rw [State.writeReg_winCommit, hmod, State.wrWinCommit, hcheck, bitOf_withBit_same]
    simp [State.winGo, hgo, hpass]
  · refine ⟨_, next_regWr s src 0x40 0x108 _ h, ?_⟩
    have hgo : (s.charged src).get F.XLAT.WIN_STATUS.STATE = 0 := (State.get_charged ..).trans hidle
    rw [State.writeReg_winCommit, withBit_word_mod v 1 true (by decide), State.wrWinCommit, bitOf_withBit_same]
    simp [State.winCheckCmd, hgo, hpass]
  · exact ⟨_, next_whenUpS s _ hup, rfl, State.winApply_xlat s hstate hstamp hover⟩
  · refine ⟨_, next_whenUpS s _ hup, ?_⟩
    have hready : ¬ (s.get F.XLAT.WIN_STATUS.STATE ≠ 3 || s.core.miss.any fun e => e.2.any fun p => p.idx.isSome &&
        p.gen != s.get (F.HDR.COMMIT_GEN.GEN 0x40)) = true := by
      simp [hstate, hmiss]
    have hspent : (s.spend 2 0 s.xlat.overlay.length).get F.XLAT.WIN_STATUS.STATE = 3 := (State.get_spend ..).trans hstate
    rw [State.winWriteback, if_neg hready]
    by_cases hnone : s.xlat.overlay = []
    · simp [hnone, State.overlayDone, hstate]
    · simp [hnone, State.budgeted_pays _ _ _ _ _ _ _ _ hpay, State.overlayDone, hspent]

end Sys2Proof.Machine
end

section
/-! The rows of self-test, boot and Ascent (15_bringup.md R420 to R436). -/
namespace Sys2Proof.Machine

/-- Confirming the booted slot (R436): its CONFIRM byte is programmed to 0 and the trial ends. -/
theorem State.confirm_booted {s : State} {i : Nat} (hbooted : s.boot.booted = some i) (hphase : s.phase = 3) (hguide : s.guideOn = true) :
    s.confirm.get F.CHIP.BOOT_STS.TRIAL = 0 ∧ s.confirm.get (F.FLASH.SLOT_STS.CONFIRMED i) = 1 ∧
      s.confirm.boot.confirmTimer = s.boot.confirmTimer ∧ Memory.read s.confirm.boot.flash 0xFF (slotBase i + 269) = 0 := by
  have hkey : (F.CHIP.BOOT_STS.TRIAL).key ≠ (F.FLASH.SLOT_STS.CONFIRMED i).key := by
    simp only [F.CHIP.BOOT_STS.TRIAL, F.FLASH.SLOT_STS.CONFIRMED, fld]
    omega
  have heq : s.confirm = (s.programBytes (slotBase i + 269) [0#8]).sets [(F.CHIP.BOOT_STS.TRIAL, 0), (F.FLASH.SLOT_STS.CONFIRMED i, 1)] := by
    simp [State.confirm, hbooted, hphase, hguide]
  rw [heq]
  refine ⟨?_, State.get_set_same .., rfl, ?_⟩
  · rw [State.sets_cons, State.sets_cons, State.sets_nil, State.get_set_other _ _ _ _ hkey, State.get_set_same]
    rfl
  · simp [State.programBytes, Memory.writeBytes, Memory.read_write]

/-- Settles O18. -/
theorem bootRowsComplete : Obligations.BootRowsComplete := by
  refine ⟨fun rep s hlive hdone hphase => ?_, fun i rest ms s hup hcands hphase hguide hbooted hsvn => ?_,
    fun pg rest s hup hphase hguide hwait hasc hpages hstate hpage => ?_, fun i p o s hup hwait hphase hguide hop hfailed => ?_,
    fun s hup hphase hasc hports => ?_, fun s hup hphase => ?_, fun s hup htwo hbooted hzero => ?_,
    fun i s hup htimer hauto hbooted hphase hguide => ?_⟩
  · refine ⟨_, rfl, rfl, fun hfail => ?_⟩
    simp [State.bistEnd, hlive, hdone, hphase, hfail]
  · refine ⟨_, next_whenUpS s (fun s => s.verified true true true ms.toNat) hup, ?_⟩
    simp [State.verified, hcands, hphase, hguide, hbooted, hsvn]
  · refine ⟨_, next_whenUpS s State.ascStep hup, ?_⟩
    simp [State.ascStep, hphase, hguide, hwait, hasc, hpages, hstate, State.ascCommit, hpage, State.shadowStart]
    exact Nat.succ_pos _
  · refine ⟨_, next_whenUpS s State.ascTimeout hup, ?_⟩
    simp (disch := decide) [State.ascTimeout, hwait, hphase, hguide, hop, State.recFail, State.get_mk, State.get_fold, hfailed, State.get_raise,
      State.get_set_other]
    exact ⟨rfl, rfl⟩
  · refine ⟨_, next_whenUpS s State.summit hup, ?_⟩
    simp (disch := decide) [State.summit, hphase, hasc, hports, State.toSummit, State.setDue_same, State.get_set_other]
    decide
  · refine ⟨_, next_whenUpS s State.summitLate hup, ?_⟩
    simp (disch := decide) [State.summitLate, hphase, State.toSummit, State.get_set_other, State.get_mk, State.get_fold]
    decide
  · refine ⟨_, next_whenUpS s (fun s => s.pair1Verified true) hup, ?_⟩
    simp (disch := decide) [State.pair1Verified, htwo, hbooted, State.guideOn, hzero, State.get_set_other]
  · refine ⟨_, next_whenUpS s State.autoConfirm hup, ?_⟩
    have heq : s.autoConfirm = ({ s with boot := { s.boot with confirmTimer := false } } : State).confirm := by
      rw [State.autoConfirm, htimer]
      exact if_pos hauto
    rw [heq]
    exact State.confirm_booted hbooted hphase hguide

end Sys2Proof.Machine
end

section
/-! The rows of image confirmation, update and history (15_bringup.md R428, R429, R436, R438). -/
namespace Sys2Proof.Machine

theorem State.writeReg_imgCtl (s : State) (pr v : Nat) : s.writeReg 0x05 0x110 pr v = s.wrImgCtl v := rfl
theorem State.writeReg_updCtl (s : State) (pr v : Nat) : s.writeReg 0x05 0x118 pr v = s.wrUpdCtl v := rfl

/-- Two bits of a 64-bit value set or cleared leave it one. -/
theorem withBit_withBit_word_mod (v : Word) (i j : Nat) (b c : Bool) (hi : i < 64) (hj : j < 64) :
    withBit (withBit v.toNat i b) j c % 2 ^ 64 = withBit (withBit v.toNat i b) j c :=
  Nat.mod_eq_of_lt (withBit_lt _ _ 64 _ (withBit_lt _ _ 64 _ v.isLt hi) hj)

/-- Settles O19. -/
theorem imageRowsComplete : Obligations.ImageRowsComplete := by
  refine ⟨fun i src v s h hbooted hphase hguide => ?_, fun i src v s h hbooted hconfirm hsvn hraise => ?_, fun i src v s h hidle hhist hbooted => ?_,
    fun src v s h hrun => ?_, fun rep s hup hguide hstate hok => ?_,
    fun i s hup hbooted hphase hguide hhist hupd hnext hdirty hboard hnone => ?_, fun i s hup hbooted hhist hguide hwaits => ?_⟩
  · refine ⟨_, next_regWr s src 0x05 0x110 _ h, ?_⟩
    rw [State.writeReg_imgCtl, withBit_withBit_word_mod _ _ _ _ _ (by decide) (by decide)]
    simp only [State.wrImgCtl, bitOf_withBit_same, bitOf_withBit_other _ _ (show 63 ≠ 61 by decide), if_true, Bool.false_eq_true, if_false]
    generalize bitsOf (withBit (withBit v.toNat 63 true) 61 false) 62 62 = auto
    have hkept (f : Fld) (hf : f.key ≠ (F.FLASH.IMG_CTL.AUTO_CONFIRM).key) : ((s.charged src).set F.FLASH.IMG_CTL.AUTO_CONFIRM auto).get f = s.get f :=
      (State.get_set_other _ _ _ _ hf).trans (State.get_charged ..)
    have hphase' : ((s.charged src).set F.FLASH.IMG_CTL.AUTO_CONFIRM auto).phase = 3 := (hkept _ (by decide)).trans hphase
    have hguide' : ((s.charged src).set F.FLASH.IMG_CTL.AUTO_CONFIRM auto).guideOn = true := by
      rwa [State.guideOn, hkept _ (by decide), hkept _ (by decide)]
    obtain ⟨htrial, hshown, _, hbyte⟩ := State.confirm_booted (i := i) (by simpa using hbooted) hphase' hguide'
    exact ⟨htrial, hshown, hbyte⟩
  · refine ⟨_, next_regWr s src 0x05 0x110 _ h, ?_⟩
    rw [State.writeReg_imgCtl, withBit_withBit_word_mod _ _ _ _ _ (by decide) (by decide)]
    simp only [State.wrImgCtl, bitOf_withBit_same, bitOf_withBit_other _ _ (show 63 ≠ 61 by decide), if_true, Bool.false_eq_true, if_false]
    have hslot (auto : Nat) : ((s.charged src).set F.FLASH.IMG_CTL.AUTO_CONFIRM auto).slotHdr i = s.slotHdr i := by
      simp [State.slotHdr, State.flashBytes]
    simp (disch := decide) [State.raiseSvn, hbooted, hslot, hconfirm, State.get_set_other, Nat.mod_eq_of_lt hsvn, hraise]
    exact Nat.mod_eq_of_lt hsvn
  · refine ⟨_, next_regWr s src 0x05 0x118 _ h, ?_⟩
    rw [State.writeReg_updCtl, withBit_withBit_word_mod _ _ _ _ _ (by decide) (by decide)]
    simp only [State.wrUpdCtl, bitOf_withBit_same, bitOf_withBit_other _ _ (show 63 ≠ 62 by decide), if_true, Bool.false_eq_true, if_false]
    have hlen : withBit (withBit v.toNat 63 true) 62 false % 33554432 = v.toNat % 33554432 :=
      (withBit_low _ 62 25 _ (by decide)).trans (withBit_low _ 63 25 _ (by decide))
    simp (disch := decide) [State.updGo, State.updStart, hidle, hhist, hbooted, State.get_mk, State.get_fold, State.get_set_other, hlen]
    rfl
  · refine ⟨_, next_regWr s src 0x05 0x118 _ h, ?_⟩
    rw [State.writeReg_updCtl, withBit_withBit_word_mod _ _ _ _ _ (by decide) (by decide)]
    simp only [State.wrUpdCtl, bitOf_withBit_same, bitOf_withBit_other _ _ (show 63 ≠ 62 by decide), if_true, Bool.false_eq_true, if_false]
    have hstate := of_decide_eq_true hrun
    simp (disch := decide) [State.updAbort, State.updRunning, State.updFail, hstate, State.get_set_other]
    decide
  · refine ⟨_, next_whenUpS s (fun s => s.updPhase rep) hup, ?_⟩
    simp [State.updPhase, hguide, hstate, hok, State.eraseFlash]
    decide
  · refine ⟨_, next_whenUpS s State.histWrite hup, ?_⟩
    simp (disch := decide) [State.histWrite, hbooted, hphase, hguide, hhist, hupd, hnext, hdirty, hboard, hnone, State.programBytes, State.eraseFlash,
      State.get_mk, State.get_fold]
    decide
  · refine ⟨_, next_whenUpS s (fun s => s.histDone true) hup, ?_⟩
    simp (disch := decide) [State.histDone, hbooted, hhist, hguide, hwaits, State.programBytes, State.get_mk, State.get_fold, State.get_set_other]
    exact ⟨rfl, rfl, rfl⟩

end Sys2Proof.Machine
end

section
/-! The rows of register accesses, shadow commits, forced events and slot rights (16_management_access.md; 17_register_conventions.md). -/
namespace Sys2Proof.Machine

/-- An access that passes every check is performed. -/
theorem State.access_go {s : State} {w : WaitAcc} (htrain : w.train = 0) (hbar : s.barOpen w.src = true) (hgate : s.gateAcc w = .go)
    (hheld : s.heldBack w.src = false) (hguide : w.src = .guide → s.canSpend 6 1 0 = true) : s.access w = s.performAcc w := by
  have hpaid : (w.src == .guide && !s.canSpend 6 1 0) = false := by
    by_cases h : w.src = .guide
    · simp [hguide h]
    · simp [h]
  have hcarry : s.carryOut w = (s.performAcc w).hutResolve w.train := by simp [State.carryOut, hbar, hgate]
  rw [State.access, hgate, hbar, hheld, hpaid, hcarry, htrain]
  rfl

/-- DISCARD and GO of a page that has no commit under way: what is staged is dropped, or taken for the commit. -/
theorem State.wrShadowCtl_idle (s : State) {page v : Nat} (hshadow : hasShadow page = true) (hpage : page ≠ 0x40)
    (hstate : s.get (F.HDR.SHADOW_CTL.STATE page) = 0) (hasked : bitOf v 62 = true ∨ bitOf v 63 = true) :
    ∃ t : State, t.mgmt = s.mgmt ∧ s.wrShadowCtl page v =
      if bitOf v 63 then (if bitOf v 62 then t.shadowDrop page else t).shadowStart page else if bitOf v 62 then t.shadowDrop page else t := by
  have hview (t : State) (x : Nat) : (t.set (F.HDR.SHADOW_CTL.VIEW page) x).get (F.HDR.SHADOW_CTL.STATE page) = t.get (F.HDR.SHADOW_CTL.STATE page) :=
    State.get_set_other _ _ _ _ (by simp only [F.HDR.SHADOW_CTL.STATE, F.HDR.SHADOW_CTL.VIEW, fld]; omega)
  have hbusy (t : State) (x : Nat) : (t.set (F.HDR.SHADOW_CTL.BUSY_GO page) x).get (F.HDR.SHADOW_CTL.STATE page) =
      t.get (F.HDR.SHADOW_CTL.STATE page) :=
    State.get_set_other _ _ _ _ (by simp only [F.HDR.SHADOW_CTL.STATE, F.HDR.SHADOW_CTL.BUSY_GO, fld]; omega)
  unfold State.wrShadowCtl
  extract_lets t1 t2
  have hmgmt : t2.mgmt = s.mgmt := by
    unfold t2
    split <;> rfl
  have hidle : t2.get (F.HDR.SHADOW_CTL.STATE page) = 0 := by
    unfold t2
    split
    · rw [hbusy, hview, hstate]
    · rw [hview, hstate]
  have hsome : (!bitOf v 62 && !bitOf v 63) = false := by rcases hasked with h | h <;> simp [h]
  refine ⟨t2, hmgmt, ?_⟩
  simp only [hshadow, hsome, hpage, hidle]
  rfl

/-- Settles O20. -/
theorem registerRowsComplete : Obligations.RegisterRowsComplete := by
  refine ⟨fun src addr len v s hup hbar hgate hheld hguide => ?_, fun src addr len s hup hbar hgate hheld hguide => ?_,
    fun page src v s h hshadow hpage hstate => ?_, fun page src v s h hshadow hpage hstate => ?_,
    fun s hup hstate hres hgen hpay => ?_, fun page src v s h => ?_, fun page src v s h hhold hodd => ?_, fun n src v s h hmap hlock => ?_,
    fun n src v s h hmap => ?_⟩
  · refine ⟨_, next_whenUpS s (fun s => s.access (writeAcc src addr.toNat len v.toNat)) hup, ?_⟩
    exact State.access_go (w := writeAcc src addr.toNat len v.toNat) rfl hbar hgate hheld hguide
  · refine ⟨_, next_whenUpS s (fun s => s.access { src := src, who := lockerOf src, addr := addr.toNat, len := len, write := false, value := 0 }) hup, ?_⟩
    exact State.access_go (w := { src := src, who := lockerOf src, addr := addr.toNat, len := len, write := false, value := 0 }) rfl hbar hgate
      hheld hguide
  · refine ⟨_, next_regWr s src page.val 0x40 _ h, ?_⟩
    rw [State.writeReg_shadowCtl, withBit_withBit_word_mod _ _ _ _ _ (by decide) (by decide)]
    have hgo : bitOf (withBit (withBit v.toNat 63 true) 62 false) 63 = true := by rw [bitOf_withBit_other _ _ (by decide), bitOf_withBit_same]
    have hdrop : bitOf (withBit (withBit v.toNat 63 true) 62 false) 62 = false := bitOf_withBit_same ..
    obtain ⟨t, hmgmt, heq⟩ := (s.charged src).wrShadowCtl_idle hshadow hpage ((State.get_charged ..).trans hstate) (.inr hgo)
    rw [hgo, hdrop, if_pos rfl, if_neg Bool.false_ne_true] at heq
    rw [heq]
    refine ⟨State.get_set_same .., ?_, ?_⟩
    · simp [State.shadowStart, State.stagedOf, hmgmt]
    · simp [State.shadowStart, State.stagedOf, hmgmt]
  · refine ⟨_, next_regWr s src page.val 0x40 _ h, ?_⟩
    rw [State.writeReg_shadowCtl, withBit_withBit_word_mod _ _ _ _ _ (by decide) (by decide)]
    have hgo : bitOf (withBit (withBit v.toNat 63 false) 62 true) 63 = false := by rw [bitOf_withBit_other _ _ (by decide), bitOf_withBit_same]
    have hdrop : bitOf (withBit (withBit v.toNat 63 false) 62 true) 62 = true := bitOf_withBit_same ..
    obtain ⟨t, hmgmt, heq⟩ := (s.charged src).wrShadowCtl_idle hshadow hpage ((State.get_charged ..).trans hstate) (.inl hdrop)
    have hstagers : (F.HDR.SHADOW_CTL.DIRTY page.val).key ≠ (F.HDR.SHADOW_CTL.STAGERS page.val).key := by
      simp only [F.HDR.SHADOW_CTL.DIRTY, F.HDR.SHADOW_CTL.STAGERS, fld]
      omega
    have hpagests : (F.HDR.SHADOW_CTL.DIRTY page.val).key ≠ (F.HDR.PAGE_STS.DIRTY page.val).key := by
      simp only [F.HDR.SHADOW_CTL.DIRTY, F.HDR.PAGE_STS.DIRTY, fld]
      omega
    rw [hgo, hdrop, if_neg Bool.false_ne_true, if_pos rfl] at heq
    rw [heq]
    refine ⟨?_, ?_, ?_⟩
    · rw [State.shadowDrop, State.sets_cons, State.sets_cons, State.sets_cons, State.sets_nil, State.get_set_other _ _ _ _ hstagers,
        State.get_set_other _ _ _ _ hpagests, State.get_set_same, Nat.zero_mod]
    · rw [State.shadowDrop, State.sets_cons, State.sets_cons, State.sets_cons, State.sets_nil, State.get_set_same, Nat.zero_mod]
    · simp [State.shadowDrop, State.stagedOf, hmgmt]
  · refine ⟨_, next_whenUpS s (fun s => s.shadowCheck 0x41) hup, ?_⟩
    have hclass : (s.set (F.HDR.SHADOW_CTL.STATE 0x41) 2).budgetOf 2 = s.budgetOf 2 := by
      rw [State.budgetOf, State.get_set_other _ _ _ _ (by decide), State.get_set_other _ _ _ _ (by decide)]
      rfl
    have hpay' : (s.set (F.HDR.SHADOW_CTL.STATE 0x41) 2).canPay 2 (Tab.getD s.mgmt.atGo 0x41 []).length 0 = true := by
      rwa [State.canPay_congr (s := s) (t := s.set (F.HDR.SHADOW_CTL.STATE 0x41) 2) 2 _ 0 false rfl rfl hclass]
    have hpass : s.shadowCheck 0x41 = s.shadowPass 0x41 := by simp [State.shadowCheck, hasShadow, hstate, hres]
    have heq : s.shadowCheck 0x41 =
        ((s.set (F.HDR.SHADOW_CTL.STATE 0x41) 2).spend 2 (Tab.getD s.mgmt.atGo 0x41 []).length 0 0x41).shadowApply 0x41 :=
      hpass.trans (State.budgeted_pays _ _ _ _ _ _ _ _ hpay')
    refine ⟨heq, ?_, ?_⟩
    · simp (disch := decide) [heq, State.shadowApply, State.get_set_other]
    · simp (disch := decide) [heq, State.shadowApply, State.get_set_other]
  · refine ⟨_, next_regWr s src page.val 0x30 _ h, ?_⟩
    rw [State.writeReg_evtForce, Nat.mod_eq_of_lt v.isLt]
    rfl
  · refine ⟨_, next_regWr s src page.val 0x10 _ h, ?_⟩
    rw [State.writeReg_pageCtl, Nat.mod_eq_of_lt v.isLt]
    have hrise : (s.charged src).flag (F.HDR.PAGE_CTL.STS_HOLD page.val) = false := by rw [State.flag, State.get_charged]; exact hhold
    simp only [State.wrPageCtl, hodd, hrise, decide_true, Bool.not_false, Bool.and_self, if_true]
    refine ⟨(State.get_set_same (s.charged src) (F.HDR.PAGE_CTL.STS_HOLD page.val) 1 :), ?_⟩
    simp [State.set]
  · refine ⟨_, next_regWr s src 0x08 _ _ h, ?_⟩
    rw [Nat.mod_eq_of_lt v.isLt, State.writeReg_rpuSlot _ _ _ _ n.isLt hmap, hlock]
    rfl
  · refine ⟨_, next_regWr s src 0x08 _ _ h, ?_⟩
    rw [withBit_word_mod v 63 true (by decide), State.writeReg_rpuSlot _ _ _ _ n.isLt hmap, bitOf_withBit_same]
    exact State.get_set_same ..

end Sys2Proof.Machine
end

section
/-! The rows of temperature, rails and the time base (18_pins_power_package.md R491 to R500; 03_ports.md R88). -/
namespace Sys2Proof.Machine

theorem State.writeReg_timeSrc (s : State) (pr v : Nat) : s.writeReg 3 0x100 pr v = s.wrTimeSrc v := rfl
theorem State.writeReg_timeSet (s : State) (pr v : Nat) : s.writeReg 3 0x110 pr v = s.wrTimeSet v := rfl

/-- Without PTM as the source nothing is asked. -/
theorem State.ptmAsk_idle {s : State} (h : s.get F.TIME.SRC_CTL.SRC ≠ 1) : s.ptmAsk = s := by simp [State.ptmAsk, State.ptmOn, h]

/-- Settles O21. -/
theorem timeRowsComplete : Obligations.TimeRowsComplete := by
  refine ⟨fun temp d s hup hwarn hheld => ?_, fun temp d s hup hlow => ?_, fun r o s hup => ⟨_, next_whenUpS s (fun s => s.railMove r.val o) hup, rfl⟩,
    fun r s hup hnow => ?_, fun p m s hup hon hfar => ?_, fun s hup hpps => ?_, fun s hup hsrc hsynced => ?_, fun src v s h hsrc hsynced => ?_,
    fun src v s h hbits hsrc => ?_, fun s hup hen hsecond => ?_⟩
  · refine ⟨_, next_whenUpS s (fun s => s.tempRead temp.toNat d.toNat) hup, ?_⟩
    simp (disch := decide) [State.tempRead, hwarn, hheld, b2n, State.get_raise, State.get_mk, State.get_fold, State.get_set_other]
    have hdiode : min d.toNat 47 < 64 := by omega
    exact ⟨Nat.mod_eq_of_lt temp.isLt, Nat.mod_eq_of_lt hdiode⟩
  · refine ⟨_, next_whenUpS s (fun s => s.tempRead temp.toNat d.toNat) hup, ?_⟩
    have hnot : ¬ temp.toNat > s.get F.PWR.THERM_CFG.WARN := by omega
    simp (disch := decide) [State.tempRead, hlow, hnot, b2n, State.get_mk, State.get_fold, State.get_set_other]
    exact Nat.mod_eq_of_lt temp.isLt
  · refine ⟨_, next_whenUpS s (fun s => s.railLong r.val) hup, ?_⟩
    simp [State.railLong, hnow]
  · refine ⟨_, next_whenUpS s (fun s => s.ptmDone p.val m.toNat) hup, ?_⟩
    simp [State.ptmDone, hon, State.timeMeasure, hfar]
  · refine ⟨_, next_whenUpS s State.ppsIn hup, ?_⟩
    simp [State.ppsIn, hpps]
    rfl
  · refine ⟨_, next_whenUpS s State.syncLost hup, ?_⟩
    have hset : s.get F.TIME.STS.SYNCED ≠ 0 := by simpa [State.flag] using hsynced
    simp (disch := decide) [State.syncLost, hsrc, State.unsync, State.flag, hset, State.get_mk, State.get_fold, State.get_raise]
  · refine ⟨_, next_regWr s src 3 0x110 _ h, ?_⟩
    rw [State.writeReg_timeSet, Nat.mod_eq_of_lt v.isLt]
    have hclear : s.get F.TIME.STS.SYNCED = 0 := by simpa [State.flag] using hsynced
    simp (disch := decide) [State.wrTimeSet, hsrc, State.timeStep, State.unsync, State.flag, State.addSat, State.get_mk, State.get_fold, State.get_set_other, hclear]
    have hsat : min (s.get F.TIME.STS.STEPS + 1) 255 < 256 := by omega
    exact Nat.mod_eq_of_lt hsat
  · refine ⟨_, next_regWr s src 3 0x100 _ h, ?_⟩
    rw [State.writeReg_timeSrc, Nat.mod_eq_of_lt v.isLt]
    simp only [State.wrTimeSrc, hbits, State.get_charged, hsrc, if_true, State.sets_cons, State.sets_nil]
    rw [if_neg (by simp), State.ptmAsk_idle (by simp (disch := decide) [State.get_set_other]; decide)]
    simp (disch := decide) [State.get_set_other]
    exact ⟨rfl, Nat.mod_mod _ _, Nat.mod_mod _ _⟩
  · refine ⟨_, next_whenUpS s State.ppsRise hup, ?_⟩
    simp [State.ppsRise, hen, hsecond]
    rfl

end Sys2Proof.Machine
end

section
/-! The rows of the sideband bridge and the debug port (16_management_access.md R455 to R466). -/
namespace Sys2Proof.Machine

/-- A command of the sideband while its bus is alive: its effect, with SB_STS shown again. -/
theorem next_whenSb {s : State} (f : State → State) (h : s.sbAlive = true) :
    whenSb s f = .next (if (f s).sbShow.up then (f s).sbShow.after else (f s).sbShow) := by
  rw [whenSb, if_pos h]

@[simp] theorem State.sbShow_mgmt (s : State) : s.sbShow.mgmt = s.mgmt := by simp [State.sbShow]
@[simp] theorem State.sbShow_tele (s : State) : s.sbShow.tele = s.tele := by simp [State.sbShow]
@[simp] theorem State.sbShow_out (s : State) : s.sbShow.out = s.out := by simp [State.sbShow]

@[simp] theorem State.sbResult_result (s : State) (r : List Nat) : (s.sbResult r).mgmt.result = some r := rfl

/-- With a good PEC a request of the bridge runs. -/
theorem State.sbPec_good (s : State) (f : State → State) : s.sbPec true f = f { s with mgmt := { s.mgmt with pecBad := false } } := rfl

@[simp] theorem State.showLocks_mgmt (s : State) (pages : List Nat) : (s.showLocks pages).mgmt = s.mgmt := by
  have hpages : ∀ (l : List Nat) (t : State), (l.foldl (fun s pg => s.set (F.HDR.PAGE_STS.SEG_LOCKED pg)
      ((s.mgmt.locks.filter fun l => l.page == pg).foldl (fun acc l => withBit acc l.seg true) 0)) t).mgmt = t.mgmt := by
    intro l
    induction l with
    | nil => exact fun _ => rfl
    | cons pg l ih => exact fun t => ih _
  exact hpages pages s

/-- The locks of one requester are released, and no other. -/
@[simp] theorem State.releaseLock_locks (s : State) (who : Nat) : (s.releaseLock who).mgmt.locks = s.mgmt.locks.filter fun l => l.who != who := by
  simp [State.releaseLock]

@[simp] theorem State.releaseLock_broken (s : State) (who : Nat) : (s.releaseLock who).mgmt.broken = s.mgmt.broken := by
  simp [State.releaseLock]

/-- Settles O22. -/
theorem sidebandRowsComplete : Obligations.SidebandRowsComplete := by
  refine ⟨fun a s h => ?_, fun l s h hup => ?_, fun a d s h hclk hroom => ?_, fun a s h hclk hidle => ?_, fun a s h hclk hidle => ?_,
    fun a d s h hclk hroom => ?_, fun s h hclk hwhole => ?_, fun s h => ⟨_, next_whenSb (fun s => s.sbPec true State.sbStatus) h, ?_⟩,
    fun e l s h hhead => ?_, fun e l q s h hhead hseq => ?_, fun r l s h hhead => ?_, fun r l q s h hhead hseq => ?_⟩
  · refine ⟨_, next_whenSb (fun s => s.sets [(F.SIDEBAND.SB_STS.DYN_ADDR, a.toNat), (F.SIDEBAND.SB_STS.DYN_VALID, 1)]) h, ?_⟩
    simp (disch := decide) [State.sbShow, State.get_set_other]
    exact Nat.mod_eq_of_lt a.isLt
  · refine ⟨_, next_whenSb (fun s => if true then (if s.up then s.mctpPacket .i3c l else s) else (s.emit .sbNack).addSat F.SIDEBAND.SB_STS.PEC_ERRS 1) h, ?_⟩
    rw [if_pos rfl, if_pos hup]
  · refine ⟨_, next_whenSb (fun s => s.sbPec true fun s => s.sbWrite a.toNat d.toNat) h, ?_⟩
    have hdepth : s.mgmt.wq.length + 1 < 2 ^ 5 := by omega
    simp (disch := decide) [State.sbPec_good, State.sbWrite, State.sbReg, hclk, Nat.not_le.mpr hroom, State.sbShow, State.sbResult, State.get_set_other]
    exact Nat.mod_eq_of_lt hdepth
  · refine ⟨_, next_whenSb (fun s => s.sbPec true fun s => s.sbRead a.toNat false) h, ?_⟩
    simp [State.sbPec_good, State.sbRead, State.sbReg, hclk, hidle, State.sbShow]
    exact Nat.succ_pos _
  · refine ⟨_, next_whenSb (fun s => s.sbPec true fun s => s.sbRead a.toNat true) h, ?_⟩
    simp [State.sbPec_good, State.sbRead, State.sbReg, hclk, hidle, State.sbShow]
    exact Nat.succ_pos _
  · refine ⟨_, next_whenSb (fun s => s.sbPec true fun s => s.sbWriteUnlock a.toNat d.toNat) h, ?_⟩
    simp [State.sbPec_good, State.sbWriteUnlock, State.sbReg, hclk, Nat.not_le.mpr hroom]
  · refine ⟨_, next_whenSb (fun s => s.sbPec true State.sbUnlock) h, ?_⟩
    have hwhole' : State.sbBroken { s with mgmt := { s.mgmt with pecBad := false } } = false := hwhole
    simp [State.sbPec_good, State.sbUnlock, State.sbReg, hclk, hwhole', State.sbResult]
  · rw [State.sbShow_mgmt]
    rfl
  · refine ⟨_, next_whenSb (fun s => s.sbPec true State.sbAlarm) h, ?_⟩
    have hhead' : State.unreadAlarms { s with mgmt := { s.mgmt with pecBad := false } } = e :: l := hhead
    simp [State.sbPec_good, State.sbAlarm, hhead', State.sbRecord]
  · refine ⟨_, next_whenSb (fun s => s.sbPec true fun s => s.sbAlarmAck q.toNat) h, ?_⟩
    have hhead' : State.unreadAlarms { s with mgmt := { s.mgmt with pecBad := false } } = e :: l := hhead
    simp only [State.sbPec_good, State.sbAlarmAck, hhead', hseq, if_true, State.sbShow_mgmt, State.sbResult_result]
  · refine ⟨_, next_whenSb (fun s => s.sbPec true State.sbRecRead) h, ?_⟩
    simp [State.sbPec_good, State.sbRecRead, hhead, State.sbRecord, State.sbResult]
  · refine ⟨_, next_whenSb (fun s => s.sbPec true fun s => s.sbRecAck q.toNat) h, ?_⟩
    simp only [State.sbPec_good, State.sbRecAck, hhead, hseq, if_true, State.sbShow_mgmt, State.sbResult_result, State.sbShow_tele]
    exact ⟨trivial, rfl⟩

/-- A lock that is broken is named in LOCK_STS. -/
theorem State.breakLock_names (s : State) {page seg : Nat} {l : SegLock} (hheld : (s.mgmt.locks.find? fun l => l.page == page && l.seg == seg) = some l)
    {f : Fld} (hf : f.still) (hbreaks : f.key ≠ F.RPU.LOCK_STS.BREAKS.key) :
    (s.breakLock page seg).get f = ((s.releaseLock l.who).sets [(F.RPU.LOCK_STS.LAST_BREAK_REQ, l.who), (F.RPU.LOCK_STS.LAST_BREAK_PAGE, page),
      (F.RPU.LOCK_STS.LAST_BREAK_SEG, seg)]).get f := by
  have hnote (t : State) (n : Nat) : ((t.addSat F.RPU.LOCK_STS.BREAKS 1).lockBreakNote n).get f = t.get f := by
    rw [State.lockBreakNote, State.get_raise _ _ _ hf, State.addSat, State.get_set_other _ _ _ _ hbreaks]
  simp only [State.breakLock, hheld]
  split
  · exact hnote _ _
  · exact hnote _ _

/-- The locked read of HOST_LOCKED_READ: it comes through the HOST port, from the VH's own requester. -/
def hostLockAcc (vh : VhId) (rid : BitVec 16) (addr : BitVec 25) (len : Nat) : WaitAcc :=
  { src := .host vh rid true false, who := 8 + vh.val, addr := addr.toNat, len := len, write := false, value := 0, lock := true }

/-- Settles O23. -/
theorem sidebandEventsComplete : Obligations.SidebandEventsComplete := by
  refine ⟨fun r s h hpec hidle hwul hres => ?_, fun a d l s h hq hidle hclk hphase hgate => ?_, fun a s h hfetch hclk hphase hgate => ?_,
    fun s h hexp => ?_, fun vh rid addr len s hup hbar hgate hheld => ?_, fun vh s hup hwhole => ?_, fun page seg l s hup hheld hwho hlt => ?_,
    fun size8 addr s hpwr hup hopen hgate => ?_, fun size8 addr v s hpwr hup hopen hgate => ?_⟩
  · refine ⟨_, next_whenSb State.sbPrivate h, ?_⟩
    simp [State.sbPrivate, hpec, hidle, hwul, hres, State.emit]
  · refine ⟨_, next_whenSb State.sbPerform h, ?_⟩
    simp [State.sbPerform, hq, hidle, hclk, hphase, hgate, State.wulDone]
  · refine ⟨_, next_whenSb State.sbFetched h, ?_⟩
    simp [State.sbFetched, hfetch, hclk, hphase, hgate]
  · refine ⟨_, next_whenSb State.sbExpire h, ?_⟩
    simp [State.sbExpire, hexp]
  · refine ⟨_, next_whenUpS s (fun s => s.access (hostLockAcc vh rid addr len)) hup, ?_⟩
    exact State.access_go (w := hostLockAcc vh rid addr len) rfl hbar hgate hheld fun h => nomatch h
  · refine ⟨_, next_whenUpS s (fun s => s.hostUnlock vh.val) hup, ?_⟩
    simp [State.hostUnlock, hwhole]
  · refine ⟨_, next_whenUpS s (fun s => s.breakLock page.val seg.val) hup, ?_⟩
    have hreq : l.who % 2 ^ 6 = l.who := Nat.mod_eq_of_lt hlt
    rw [State.breakLock_names s hheld (by decide) (by decide), State.breakLock_names s hheld (by decide) (by decide),
      State.breakLock_names s hheld (by decide) (by decide)]
    simp (disch := decide) [State.get_set_other]
    exact ⟨Nat.mod_eq_of_lt page.isLt, Nat.mod_eq_of_lt seg.isLt, hreq⟩
  · refine ⟨_, whenPower_next (fun s => s.dapAcc false size8 addr.toNat 0) hpwr, ?_⟩
    have hgate' : ((s.setIr 0x10).emit (.dap s.mgmt.dapStatus s.mgmt.dapData)).gate .debug addr.toNat (if size8 then 8 else 4) false
      (placed addr.toNat (if size8 then 8 else 4) 0) = .go := hgate
    have hup' : ((s.setIr 0x10).emit (.dap s.mgmt.dapStatus s.mgmt.dapData)).up = true := hup
    have hopen' : ((s.setIr 0x10).emit (.dap s.mgmt.dapStatus s.mgmt.dapData)).flag F.ATTEST.DBG_STS.UNLOCKED = true := hopen
    simp [State.dapAcc, hup', hopen', State.gateAcc, hgate']
  · refine ⟨_, whenPower_next (fun s => s.dapAcc true size8 addr.toNat v.toNat) hpwr, ?_⟩
    have hgate' : ((s.setIr 0x10).emit (.dap s.mgmt.dapStatus s.mgmt.dapData)).gate .debug addr.toNat (if size8 then 8 else 4) true
      (placed addr.toNat (if size8 then 8 else 4) v.toNat) = .go := hgate
    have hup' : ((s.setIr 0x10).emit (.dap s.mgmt.dapStatus s.mgmt.dapData)).up = true := hup
    have hopen' : ((s.setIr 0x10).emit (.dap s.mgmt.dapStatus s.mgmt.dapData)).flag F.ATTEST.DBG_STS.UNLOCKED = true := hopen
    simp [State.dapAcc, hup', hopen', State.gateAcc, hgate']

end Sys2Proof.Machine
end

section
/-! The SPDM requests, debug unlock and the test access port (16_management_access.md R466 to R468). -/
namespace Sys2Proof.Machine

/-- A request of the transport that the responder is talking to. -/
theorem next_spdm {s : State} (f : State → State) (hup : s.up = true) (hvia : s.viaOpen s.mgmt.spdmVia = true) :
    whenUpS s (fun s => s.spdmFrom s.mgmt.spdmVia f) = .next (f s).after := by
  rw [next_whenUpS s _ hup, State.spdmFrom, if_pos hvia]

/-- With a Guide pair ACTIVE and past BASECAMP the responder serves. -/
theorem State.spdmDo_served {s : State} (hguide : s.guideOn = true) (hphase : 1 < s.phase) (req : Nat) (f : State → State) : s.spdmDo req f = f s := by
  rw [State.spdmDo, hguide, if_neg (by simp), if_neg (by omega)]

theorem State.spdmAfter_served {s : State} (hguide : s.guideOn = true) (hphase : 1 < s.phase) (hready : s.spdmReady = true) (req : Nat)
    (f : State → State) : s.spdmAfter req f = f s := by
  rw [State.spdmAfter, State.spdmDo_served hguide hphase, if_pos hready]

@[simp] theorem State.spdmOut_out (s : State) (req err : Nat) (l : List Nat) :
    (s.spdmOut req err l).out = s.out ++ [.spdm s.mgmt.spdmVia req err l] := by
  simp [State.spdmOut, State.emit]

@[simp] theorem State.spdmOut_mgmt (s : State) (req err : Nat) (l : List Nat) : (s.spdmOut req err l).mgmt = s.mgmt := rfl

@[simp] theorem State.spdmOut_get (s : State) (req err : Nat) (l : List Nat) (f : Fld) : (s.spdmOut req err l).get f = s.get f := rfl

@[simp] theorem State.setStage_out (s : State) (n : Nat) : (s.setStage n).out = s.out := rfl
@[simp] theorem State.setStage_via (s : State) (n : Nat) : (s.setStage n).mgmt.spdmVia = s.mgmt.spdmVia := rfl
@[simp] theorem State.setStage_sessions (s : State) (n : Nat) : (s.setStage n).mgmt.sessions = s.mgmt.sessions := rfl

/-- The stage set is the stage of the transport. -/
theorem State.setStage_stage (s : State) (n : Nat) : (s.setStage n).spdmStage = n := by
  have hnone : (s.mgmt.spdmAt.filter fun e => e.1 != s.mgmt.spdmVia).find? (fun e => e.1 == s.mgmt.spdmVia) = none := by
    simp [List.find?_eq_none]
  simp [State.setStage, State.spdmStage, hnone]

theorem State.spdmStage_congr {s t : State} (h : t.mgmt = s.mgmt) : t.spdmStage = s.spdmStage := by rw [State.spdmStage, h]; rfl

/-- Free values are drawn in turn, and nothing else moves. -/
theorem State.freeWords_state (s : State) (n : Nat) : (s.freeWords n).2 = { s with freeCtr := s.freeCtr + n } := by
  induction n generalizing s with
  | zero => rfl
  | succ n ih =>
    simp only [State.freeWords, State.free, ih]
    rw [Nat.add_assoc, Nat.add_comm 1]

theorem State.freeWords_mgmt (s : State) (n : Nat) : (s.freeWords n).2.mgmt = s.mgmt := by rw [State.freeWords_state]
theorem State.freeWords_out (s : State) (n : Nat) : (s.freeWords n).2.out = s.out := by rw [State.freeWords_state]

@[simp] theorem State.dropSession_via (s : State) (id : Nat) : (s.dropSession id).mgmt.spdmVia = s.mgmt.spdmVia := by
  by_cases hdap : s.mgmt.dapSession = some id <;> simp [State.dropSession, hdap, State.relock]

@[simp] theorem State.dropSession_out (s : State) (id : Nat) : (s.dropSession id).out = s.out := by
  by_cases hdap : s.mgmt.dapSession = some id <;> simp [State.dropSession, hdap, State.relock]

@[simp] theorem State.dropSession_sessions (s : State) (id : Nat) :
    (s.dropSession id).mgmt.sessions = s.mgmt.sessions.filter fun e => e.1 ≠ id := by
  by_cases hdap : s.mgmt.dapSession = some id <;> simp [State.dropSession, hdap, State.relock]

/-- Sessions that end leave with their transport and what went out as they were. -/
theorem State.dropSessions_keeps (l : List (Nat × Bool × Via)) (s : State) :
    (l.foldl (fun s e => s.dropSession e.1) s).mgmt.spdmVia = s.mgmt.spdmVia ∧ (l.foldl (fun s e => s.dropSession e.1) s).out = s.out := by
  induction l generalizing s with
  | nil => exact ⟨rfl, rfl⟩
  | cons x l ih => simpa using ih (s.dropSession x.1)

/-- Of the sessions that end none is left. -/
theorem State.dropSessions_sessions (l : List (Nat × Bool × Via)) (s : State) :
    ∀ e ∈ (l.foldl (fun s e => s.dropSession e.1) s).mgmt.sessions, e ∈ s.mgmt.sessions ∧ e ∉ l := by
  induction l generalizing s with
  | nil => exact fun e he => ⟨he, List.not_mem_nil⟩
  | cons x l ih =>
    intro e he
    obtain ⟨hmem, hnot⟩ := ih _ e he
    rw [State.dropSession_sessions, List.mem_filter] at hmem
    obtain ⟨hmem, hid⟩ := hmem
    have hne : e ≠ x := fun h => by simp [h] at hid
    exact ⟨hmem, by simp [hne, hnot]⟩

/-- Settles O24. -/
theorem spdmRowsComplete : Obligations.SpdmRowsComplete := by
  refine ⟨fun s hup hvia hguide hphase => ?_, fun s hup hvia hguide hphase hstage => ?_, fun s hup hvia hguide hphase hstage => ?_,
    fun s hup hvia hguide hphase hready => ?_, fun slot off len s hup hvia hguide hphase hready hslot => ?_,
    fun slot s hup hvia hguide hphase hready hslot => ?_, fun s hup hvia hguide hphase hready => ?_,
    fun slot q s hup hvia hguide hphase hready hslot hroom => ?_, fun id s hup hvia hguide hphase hready hopen => ?_,
    fun id s hup hvia hguide hphase hready hopen => ?_, fun id s hup hvia hguide hphase hready hopen => ?_⟩
  · refine ⟨_, next_spdm _ hup hvia, ?_⟩
    rw [State.spdmVersion, State.spdmDo_served hguide hphase]
    generalize hown : (s.mgmt.sessions.filter fun e => e.2.2 == s.mgmt.spdmVia) = own
    obtain ⟨hkeep, hout⟩ := State.dropSessions_keeps own s
    refine ⟨by simp [hkeep, hout], ?_, fun e he hsame => ?_⟩
    · exact (State.spdmStage_congr rfl).trans (State.setStage_stage _ 1)
    · obtain ⟨hmem, hnot⟩ := State.dropSessions_sessions own s e he
      exact hnot (by rw [← hown]; simp [hmem, hsame])
  · refine ⟨_, next_spdm _ hup hvia, ?_⟩
    rw [State.spdmCapabilities, State.spdmDo_served hguide hphase, if_pos hstage]
    exact ⟨by simp, (State.spdmStage_congr rfl).trans (State.setStage_stage _ 2)⟩
  · refine ⟨_, next_spdm (fun s => s.spdmAlgorithms true true) hup hvia, ?_⟩
    rw [State.spdmAlgorithms, State.spdmDo_served hguide hphase, if_neg (by omega), if_pos (by decide)]
    exact ⟨by simp, (State.spdmStage_congr rfl).trans (State.setStage_stage _ 3)⟩
  · refine ⟨_, next_spdm _ hup hvia, ?_⟩
    rw [State.spdmDigests, State.spdmAfter_served hguide hphase hready]
    simp [State.freeWords_mgmt, State.freeWords_out]
  · refine ⟨_, next_spdm (fun s => s.spdmCertificate slot.toNat) hup hvia, ?_⟩
    rw [State.spdmCertificate, State.spdmAfter_served hguide hphase hready, if_neg (by omega)]
    simp [State.freeWords_mgmt, State.freeWords_out]
  · refine ⟨_, next_spdm (fun s => s.spdmChallenge slot.toNat) hup hvia, ?_⟩
    rw [State.spdmChallenge, State.spdmAfter_served hguide hphase hready, if_neg (by omega)]
    simp [State.freeWords_mgmt, State.freeWords_out]
  · refine ⟨_, next_spdm (fun s => s.spdmMeasurements 6 false) hup hvia, ?_⟩
    rw [State.spdmMeasurements, State.spdmAfter_served hguide hphase hready]
    simp [State.measure]
  · refine ⟨_, next_spdm (fun s => s.spdmKeyExchange slot.toNat q.toNat) hup hvia, ?_⟩
    rw [State.spdmKeyExchange, State.spdmAfter_served hguide hphase hready, if_neg (by omega), if_neg (by omega)]
    simp
  · refine ⟨_, next_spdm (fun s => s.spdmFinish id.toNat true) hup hvia, ?_⟩
    rw [State.spdmFinish, State.spdmAfter_served hguide hphase hready, hopen]
    simp
  · refine ⟨_, next_spdm (fun s => s.spdmEnd id.toNat) hup hvia, ?_⟩
    rw [State.spdmEnd, State.spdmAfter_served hguide hphase hready, if_pos hopen]
    simp
  · refine ⟨_, next_spdm (fun s => s.dbgNonce id.toNat) hup hvia, ?_⟩
    rw [State.dbgNonce, State.spdmAfter_served hguide hphase hready, hopen]
    simp [State.freeWords_mgmt, State.freeWords_out]

theorem State.writeReg_dbgCtl (s : State) (pr v : Nat) : s.writeReg 9 0x108 pr v = s.wrDbgCtl v := rfl

/-- Settles O25. -/
theorem tapRowsComplete : Obligations.TapRowsComplete := by
  refine ⟨fun s hup => ?_, fun id x s hup hvia hguide hphase hready hopen hfails hnonce => ?_, fun src v s h => ?_, fun s h => ⟨_, whenPower_next _ h, rfl, rfl⟩,
    fun s h => ⟨_, whenPower_next _ h, rfl, rfl⟩, fun s h => ⟨_, whenPower_next _ h, rfl, rfl⟩,
    fun x v s h => ⟨_, whenPower_next (fun s => s.tapSample x.toNat v.toNat) h, rfl, rfl, rfl⟩, fun x v s h htest => ?_, fun x v s h htest => ?_,
    fun x v s h htest => ?_, fun s h htest => ?_⟩
  · exact ⟨_, next_whenUpS s (fun s => { s with mgmt := { s.mgmt with nonce := none } }) hup, rfl, rfl⟩
  · refine ⟨_, next_spdm (fun s => s.dbgUnlock id.toNat true) hup hvia, ?_⟩
    rw [State.dbgUnlock, State.spdmAfter_served hguide hphase hready, hopen]
    simp (disch := decide) [Nat.not_le.mpr hfails, hnonce, State.get_mk, State.get_fold, State.get_set_other, State.addSat]
  · refine ⟨_, next_regWr s src 9 0x108 _ h, ?_⟩
    rw [State.writeReg_dbgCtl, withBit_word_mod v 63 true (by decide)]
    simp [State.wrDbgCtl, State.relock]
  · refine ⟨_, whenPower_next (fun s => s.tapExtest x.toNat v.toNat) h, ?_⟩
    rw [State.tapExtest, if_pos htest]
    simp [State.tapScan, State.setIr, State.emit, State.setBoundary]
  · refine ⟨_, whenPower_next (fun s => s.tapLane 4 x.toNat v.toNat) h, ?_⟩
    rw [State.tapLane, if_pos htest]
    simp [State.tapScan, State.setIr, State.emit, State.setBoundary]
  · refine ⟨_, whenPower_next (fun s => s.tapLane 5 x.toNat v.toNat) h, ?_⟩
    rw [State.tapLane, if_pos htest]
    simp [State.tapScan, State.setIr, State.emit, State.setBoundary]
  · refine ⟨_, whenPower_next State.tapHighz h, ?_⟩
    rw [State.tapHighz, if_pos htest]
    exact ⟨rfl, rfl⟩

end Sys2Proof.Machine
end

section
/-! The rows of counter chains, cairns and the logbook (14_telemetry.md R400 to R416). -/
namespace Sys2Proof.Machine

/-! ### What counting and spending leave of the telemetry -/

/-- The telemetry but for its event counters. -/
def State.uncounted (s : State) : Tele := { s.tele with ctr := [], dramBusy := 0 }

@[simp] theorem State.setCtr_uncounted (s : State) (i n : Nat) : (s.setCtr i n).uncounted = s.uncounted := rfl

@[simp] theorem State.count_uncounted (s : State) (i n : Nat) : (s.count i n).uncounted = s.uncounted := by
  unfold State.count
  split
  · rfl
  · dsimp only; split <;> rfl

@[simp] theorem State.dramUse_uncounted (s : State) (i n : Nat) : (s.dramUse i n).uncounted = s.uncounted := State.count_uncounted ..

@[simp] theorem State.spend_uncounted (s : State) (c r d p : Nat) : (s.spend c r d p).uncounted = s.uncounted := by
  unfold State.spend
  dsimp only
  split
  · exact State.dramUse_uncounted ..
  · exact (State.count_uncounted ..).trans (State.dramUse_uncounted ..)

@[simp] theorem State.charged_uncounted (s : State) (p : Path) : (s.charged p).uncounted = s.uncounted := by
  unfold State.charged State.countAccess
  split
  · exact (State.count_uncounted ..).trans (State.spend_uncounted ..)
  · exact State.count_uncounted ..

@[simp] theorem State.raiseMsix_tele (s : State) (v k : Nat) : (s.raiseMsix v k).tele = s.tele := by
  unfold State.raiseMsix
  extract_lets ctl dw
  split
  · rfl
  · split <;> rfl

/-- A plain write moves fields and staged values, and nothing else. -/
theorem State.writeField_shape (s : State) (page off priv v : Nat) (d : FDesc) :
    ∃ f m, s.writeField page off priv v d = { s with flds := f, mgmt := m } := by
  unfold State.writeField
  split
  case h_3 => split <;> exact ⟨_, _, rfl⟩
  all_goals exact ⟨_, _, rfl⟩

theorem State.writePlain_shape (s : State) (page off priv v : Nat) : ∃ f m, s.writePlain page off priv v = { s with flds := f, mgmt := m } := by
  have hfields : ∀ (l : List FDesc) (t : State), ∃ f m, l.foldl (fun s d => s.writeField page off priv v d) t = { t with flds := f, mgmt := m } := by
    intro l
    induction l with
    | nil => exact fun _ => ⟨_, _, rfl⟩
    | cons d l ih =>
      intro t
      obtain ⟨f, m, hd⟩ := t.writeField_shape page off priv v d
      obtain ⟨f', m', hl⟩ := ih { t with flds := f, mgmt := m }
      exact ⟨f', m', by rw [List.foldl_cons, hd, hl]⟩
  unfold State.writePlain
  split
  case h_1 => exact ⟨_, _, rfl⟩
  case h_2 r hr =>
    obtain ⟨f, m, hall⟩ := hfields r.fields s
    dsimp only
    rw [hall]
    split <;> exact ⟨_, _, rfl⟩

@[simp] theorem State.writePlain_tele (s : State) (page off priv v : Nat) : (s.writePlain page off priv v).tele = s.tele := by
  obtain ⟨f, m, h⟩ := s.writePlain_shape page off priv v
  rw [h]

@[simp] theorem State.writePlain_lane (s : State) (page off priv v n : Nat) : (s.writePlain page off priv v).lane n = s.lane n := by
  obtain ⟨f, m, h⟩ := s.writePlain_shape page off priv v
  rw [h]
  rfl

/-! ### The drops counted in a millisecond: no record that is admitted changes them -/

@[simp] theorem State.count_msDrops (s : State) (i n : Nat) : (s.count i n).tele.msDrops = s.tele.msDrops :=
  (congrArg Tele.msDrops (s.count_uncounted i n) :)

@[simp] theorem State.spend_msDrops (s : State) (c r d p : Nat) : (s.spend c r d p).tele.msDrops = s.tele.msDrops :=
  (congrArg Tele.msDrops (s.spend_uncounted c r d p) :)

@[simp] theorem State.freezeCopy_msDrops (s : State) (r : LogRec) : (s.freezeCopy r).tele.msDrops = s.tele.msDrops := by
  have hput (t : State) (x : LogRec) (l : List LogRec) : (t.freezePut x l).tele.msDrops = t.tele.msDrops := by
    unfold State.freezePut
    dsimp only
    split <;> simp [State.blockWritten]
  have hnext (t : State) : t.freezeNext.tele.msDrops = t.tele.msDrops := by
    unfold State.freezeNext
    split
    · rfl
    · split
      · exact hput ..
      · rfl
  unfold State.freezeCopy
  split
  · rfl
  · exact hnext _

@[simp] theorem State.offer_msDrops (s : State) (r : LogRec) : (s.offer r).tele.msDrops = s.tele.msDrops := by
  have hnotice : (s.notice r).tele.msDrops = s.tele.msDrops := by
    unfold State.notice
    dsimp only
    split
    · rfl
    · simp
  have hirq (t : State) : (t.offerIrq r).tele.msDrops = t.tele.msDrops := by
    unfold State.offerIrq
    dsimp only
    split
    · rfl
    · split
      · rfl
      · simp
  have hsb (t : State) : (t.offerSb r).tele.msDrops = t.tele.msDrops := by
    unfold State.offerSb
    dsimp only
    split
    · split <;> rfl
    · rfl
  have hdma (t : State) : (t.offerDma r).tele.msDrops = t.tele.msDrops := by
    unfold State.offerDma
    split <;> rfl
  rw [State.offer, hdma, hsb, hirq, hnotice]

theorem State.writeMain_msDrops (s : State) (r : LogRec) : (s.writeMain r).tele.msDrops = s.tele.msDrops := by simp [State.writeMain, State.blockWritten]

theorem State.setQueue_msDrops (s : State) (q : List LogRec) : (s.setQueue q).tele.msDrops = s.tele.msDrops := by simp [State.setQueue]

theorem State.addWrote_msDrops (s : State) (c : Nat) : (s.addWrote c).tele.msDrops = s.tele.msDrops := by simp [State.addWrote]

/-- With no freeze under way none ends. -/
theorem State.freezeEnd_idle {s0 : State} (h : s0.tele.freezing = false) (s : State) : s0.freezeEnd s = s := by simp [State.freezeEnd, h]

theorem State.dropSummary_msDrops (s : State) (h : s.tele.freezing = false) : s.dropSummary.tele.msDrops = (0, 0, 0) := by
  unfold State.dropSummary
  dsimp only
  split
  · rfl
  · rw [State.freezeEnd_idle]
    case h => exact h
    split
    · rw [State.writeMain_msDrops, State.addWrote_msDrops]
      simp
    · rw [State.setQueue_msDrops]
      simp

/-! ### The alarm FIFO (R414) -/

/-- Spending finds the same alarm next. -/
theorem State.spend_alarmNext (s : State) (c r d p : Nat) : (s.spend c r d p).alarmNext = s.alarmNext := by
  have hfifo : (s.spend c r d p).tele.fifo = s.tele.fifo := (congrArg Tele.fifo (s.spend_uncounted c r d p) :)
  have hget (f : Fld) : (s.spend c r d p).get f = s.get f := State.get_of_flds (State.flds_spend ..) f
  simp [State.alarmNext, State.flag, hget, hfifo]

/-- With no alarm kept back, what leaves the FIFO touches no ring. -/
theorem State.fifoFree_alarm {s : State} (h : s.tele.fifoWait = []) : s.fifoFree.tele.alarm = s.tele.alarm := by
  simp [State.fifoFree, State.setFifo, h, State.fifoRefill]

/-- The oldest unwritten alarm goes to its place in the ring. -/
theorem State.alarmPut_alarm {s : State} {e : AlarmEnt} (hnext : s.alarmNext = some e) (hwait : s.tele.fifoWait = []) :
    s.alarmPut.tele.alarm = Tab.put s.tele.alarm (e.r.seq % max 1 s.alarmCap) e.r := by
  simp only [State.alarmPut, hnext]
  rw [State.fifoFree_alarm (by simp [State.setFifo, State.blockWritten, hwait])]
  simp [State.setFifo, State.blockWritten]

/-! ### Stream DMA (R416) -/

/-- Records whose blocks hold no uncorrectable error are all read. -/
theorem State.dmaRead_good {s : State} {l : List LogRec} (h : ∀ r ∈ l, s.err.dramUe.contains (s.recBlock r) = false) : s.dmaRead l = (l, s) := by
  induction l with
  | nil => rfl
  | cons r l ih =>
    have hhead : s.err.dramUe.contains (s.recBlock r) = false := h r List.mem_cons_self
    have hrest : s.dmaRead l = (l, s) := ih fun x hx => h x (List.mem_cons_of_mem _ hx)
    simp only [State.dmaRead, hhead, hrest]
    rfl

/-- What goes out of a DMA write: its kind, address and bytes. -/
def InTrain.written (x : InTrain) : TlpKind × BitVec 64 × List Byte := (x.t.kind, x.t.addr, x.t.data)

/-- A DMA write joins the trains of source 49, and nothing but the core moves. -/
theorem State.dmaWrite_train (s : State) (a : Nat) (d : List Byte) :
    ∃ (c : CoreSt) (x : InTrain), s.dmaWrite a d = { s with core := c } ∧ Tab.getD c.inq 49 [] = Tab.getD s.core.inq 49 [] ++ [x] ∧
      x.written = (TlpKind.mwr, BitVec.ofNat 64 a, d) := by
  refine ⟨_, _, rfl, (Tab.getD_put ..).trans (if_pos rfl), rfl⟩

/-- The DMA writes of a batch join the trains of source 49 in order. -/
theorem State.dmaWrites_trains (base cap : Nat) (l : List (LogRec × Nat)) (s : State) :
    ∃ (c : CoreSt) (w : List InTrain),
      l.foldl (fun s e => s.dmaWrite (base + (s.tele.dmaIdx + e.2) % cap * 64) e.1.toBytes) s = { s with core := c } ∧
      Tab.getD c.inq 49 [] = Tab.getD s.core.inq 49 [] ++ w ∧
      w.map InTrain.written = l.map fun e => (TlpKind.mwr, BitVec.ofNat 64 (base + (s.tele.dmaIdx + e.2) % cap * 64), e.1.toBytes) := by
  induction l generalizing s with
  | nil => exact ⟨_, [], rfl, by simp, rfl⟩
  | cons e l ih =>
    obtain ⟨c, x, hstate, hinq, hx⟩ := s.dmaWrite_train (base + (s.tele.dmaIdx + e.2) % cap * 64) e.1.toBytes
    obtain ⟨c', w, hstate', hinq', hw⟩ := ih { s with core := c }
    refine ⟨c', x :: w, ?_, ?_, ?_⟩
    · rw [List.foldl_cons, hstate, hstate']
    · rw [hinq', hinq, List.append_assoc, List.singleton_append]
    · rw [List.map_cons, List.map_cons, hx, hw]

/-- What an MSI-X message does to the trains of source 49. -/
theorem State.raiseMsix_trains (s : State) (v k : Nat) : ∃ i : List InTrain, Tab.getD (s.raiseMsix v k).core.inq 49 [] = Tab.getD s.core.inq 49 [] ++ i := by
  unfold State.raiseMsix
  extract_lets ctl dw
  split
  · exact ⟨[], (List.append_nil _).symm⟩
  · split
    · exact ⟨[], (List.append_nil _).symm⟩
    · exact ⟨_, (Tab.getD_put ..).trans (if_pos rfl)⟩

/-- The records of a batch, each at the place of its index, from that of the next record on. -/
def State.dmaRecords (s : State) (base cap : Nat) (l : List LogRec) : State :=
  (l.zip (List.range l.length)).foldl (fun s e => s.dmaWrite (base + (s.tele.dmaIdx + e.2) % cap * 64) e.1.toBytes) s

/-- The end of a batch of `n` records: the index of the next record goes out behind the ring, with an interrupt where that is enabled. -/
def State.dmaIndex (s : State) (base n : Nat) : State :=
  let idx := (s.tele.dmaIdx + n) % 2 ^ 32
  let s : State := { s with tele := { s.tele with dmaIdx := idx } }
  let s := (s.set F.LOG.DMA_CTL.STATE 1).dmaWrite (base + s.dmaRing) (leBytes 8 idx)
  if s.flag F.LOG.DMA_CTL.IRQ then s.raiseMsix (s.get F.LOG.DMA_CTL.DEST_VH) 1 else s

/-- A batch of records that are all read: they leave the queue of stream DMA and go out, then the index. -/
theorem State.dmaSend_eq (s : State) {l : List LogRec} (hsome : l ≠ []) (hread : ∀ r ∈ l, s.err.dramUe.contains (s.recBlock r) = false) :
    s.dmaSend l = ((({ s with tele := { s.tele with dmaPend := s.tele.dmaPend.drop l.length } } : State).count (Ctr.dev 35) l.length).dmaRecords
      (s.get F.LOG.DMA_ADDR.ADDR * 4096) (s.dmaRing / 64) l).dmaIndex (s.get F.LOG.DMA_ADDR.ADDR * 4096) l.length := by
  have hgood : ({ s with tele := { s.tele with dmaPend := s.tele.dmaPend.drop l.length } } : State).dmaRead l =
      (l, { s with tele := { s.tele with dmaPend := s.tele.dmaPend.drop l.length } }) := State.dmaRead_good hread
  rw [State.dmaSend, hgood]
  exact if_neg hsome

theorem State.dmaIndex_effect (s : State) (base n : Nat) :
    (s.dmaIndex base n).tele.dmaPend = s.tele.dmaPend ∧ (s.dmaIndex base n).tele.dmaIdx = (s.tele.dmaIdx + n) % 2 ^ 32 ∧
      (s.dmaIndex base n).get F.LOG.DMA_CTL.STATE = 1 ∧
      ∃ (x : InTrain) (i : List InTrain), Tab.getD (s.dmaIndex base n).core.inq 49 [] = Tab.getD s.core.inq 49 [] ++ [x] ++ i ∧
        x.written = (TlpKind.mwr, BitVec.ofNat 64 (base + s.dmaRing), leBytes 8 ((s.tele.dmaIdx + n) % 2 ^ 32)) := by
  unfold State.dmaIndex
  extract_lets idx _ s1 s2
  obtain ⟨c, x, hstate, hinq, hx⟩ := (s1.set F.LOG.DMA_CTL.STATE 1).dmaWrite_train (base + s1.dmaRing) (leBytes 8 idx)
  have hs2 : s2 = { s1.set F.LOG.DMA_CTL.STATE 1 with core := c } := hstate
  have hshown : (s1.set F.LOG.DMA_CTL.STATE 1).get F.LOG.DMA_CTL.STATE = 1 := State.get_set_same ..
  have hinq2 : Tab.getD s2.core.inq 49 [] = Tab.getD s.core.inq 49 [] ++ [x] := by rw [hs2]; exact hinq
  have hget : s2.get F.LOG.DMA_CTL.STATE = 1 := by rw [hs2]; exact hshown
  have htele : s2.tele = s1.tele := by rw [hs2]; rfl
  split
  · obtain ⟨i, hi⟩ := s2.raiseMsix_trains (s2.get F.LOG.DMA_CTL.DEST_VH) 1
    refine ⟨?_, ?_, ?_, x, i, ?_, hx⟩
    · rw [State.raiseMsix_tele, htele]
    · rw [State.raiseMsix_tele, htele]
    · rw [State.get_of_flds (State.flds_raiseMsix ..), hget]
    · rw [hi, hinq2]
  · exact ⟨by rw [htele], by rw [htele], hget, x, [], by rw [hinq2, List.append_nil], hx⟩

/-- A batch of records that are all read goes out in order, then the index of the next. -/
theorem State.dmaSend_effect (s : State) {l : List LogRec} (hsome : l ≠ []) (hread : ∀ r ∈ l, s.err.dramUe.contains (s.recBlock r) = false) :
    (s.dmaSend l).tele.dmaPend = s.tele.dmaPend.drop l.length ∧ (s.dmaSend l).tele.dmaIdx = (s.tele.dmaIdx + l.length) % 2 ^ 32 ∧
      (s.dmaSend l).get F.LOG.DMA_CTL.STATE = 1 ∧
      ∃ w i : List InTrain, Tab.getD (s.dmaSend l).core.inq 49 [] = Tab.getD s.core.inq 49 [] ++ w ++ i ∧
        w.map InTrain.written = ((l.zip (List.range l.length)).map fun e =>
            (TlpKind.mwr, BitVec.ofNat 64 (s.get F.LOG.DMA_ADDR.ADDR * 4096 + (s.tele.dmaIdx + e.2) % (s.dmaRing / 64) * 64), e.1.toBytes)) ++
          [(TlpKind.mwr, BitVec.ofNat 64 (s.get F.LOG.DMA_ADDR.ADDR * 4096 + s.dmaRing), leBytes 8 ((s.tele.dmaIdx + l.length) % 2 ^ 32))] := by
  rw [State.dmaSend_eq s hsome hread]
  generalize ht : ({ s with tele := { s.tele with dmaPend := s.tele.dmaPend.drop l.length } } : State).count (Ctr.dev 35) l.length = t
  have hpend : t.tele.dmaPend = s.tele.dmaPend.drop l.length := ht ▸ (congrArg Tele.dmaPend (State.count_uncounted ..) :)
  have hidx : t.tele.dmaIdx = s.tele.dmaIdx := ht ▸ (congrArg Tele.dmaIdx (State.count_uncounted ..) :)
  have hinq : t.core.inq = s.core.inq := by rw [← ht, State.count_core]
  have hring : t.dmaRing = s.dmaRing := by rw [← ht, State.dmaRing, State.get_of_flds (State.flds_count ..)]; rfl
  obtain ⟨c, w, hstate, hw, hwrote⟩ := t.dmaWrites_trains (s.get F.LOG.DMA_ADDR.ADDR * 4096) (s.dmaRing / 64) (l.zip (List.range l.length))
  rw [State.dmaRecords, hstate]
  obtain ⟨hpend', hidx', hshown, x, i, hx, hxw⟩ := ({ t with core := c } : State).dmaIndex_effect (s.get F.LOG.DMA_ADDR.ADDR * 4096) l.length
  refine ⟨hpend'.trans hpend, ?_, hshown, w ++ [x], i, ?_, ?_⟩
  · rw [hidx', hidx]
  · rw [hx, hw, hinq, List.append_assoc _ w]
  · rw [List.map_append, hwrote, hidx, List.map_singleton, hxw, hidx]
    rw [show State.dmaRing { t with core := c } = s.dmaRing from hring]

/-- The oldest queued cairn goes to the place of its number in the ring. -/
theorem State.cairnPut_effect {s : State} {c : Cairn} {l : List Cairn} (hq : s.tele.cairnQ = c :: l) (hstop : s.flag F.TRACE.TAG_CTL.STOP = false) :
    s.cairnPut.tele.cairnQ = l ∧ s.cairnPut.tele.cairnRing = Tab.put s.tele.cairnRing (s.tele.cairnSeq % max 1 s.cairnCap) c ∧
      s.cairnPut.tele.cairnSeq = s.tele.cairnSeq + 1 ∧ s.cairnPut.get F.TRACE.STS.WR_SEQ = (s.tele.cairnSeq + 1) % 2 ^ 32 := by
  have hleave (t : State) (i n : Nat) : (t.count i n).tele.cairnQ = t.tele.cairnQ ∧ (t.count i n).tele.cairnRing = t.tele.cairnRing ∧
      (t.count i n).tele.cairnSeq = t.tele.cairnSeq ∧ (t.count i n).get F.TRACE.STS.WR_SEQ = t.get F.TRACE.STS.WR_SEQ :=
    have heq := t.count_uncounted i n
    ⟨(congrArg Tele.cairnQ heq :), (congrArg Tele.cairnRing heq :), (congrArg Tele.cairnSeq heq :), State.get_of_flds (State.flds_count ..) _⟩
  simp only [State.cairnPut, hq, hstop, Bool.false_and, Bool.false_eq_true, if_false]
  split
  · simp (disch := decide) [State.get_set_other, hleave, State.blockWritten]
    rfl
  · simp [hleave, State.blockWritten]
    rfl

/-- With no freeze under way the freeze region is emptied and armed. -/
theorem State.rearm_effect {s : State} (h : s.tele.freezing = false) :
    s.rearm.get F.LOG.FREEZE_CTL.ARMED = 1 ∧ s.rearm.get F.LOG.FREEZE_CTL.FROZEN = 0 ∧ s.rearm.tele.freeze = [] := by
  simp (disch := decide) [State.rearm, h, State.get_set_other]

/-- What is still to be delivered, and nothing else of the telemetry but a counter, is looked through. -/
theorem State.dmaKeep_uncounted (s : State) :
    s.dmaKeep.uncounted = { s.uncounted with dmaPend := s.tele.dmaPend.filter fun r => s.tele.queue.contains r || !s.overwritten r } :=
  State.count_uncounted ..

/-- The records that stream DMA may send now: the oldest written, within the room of the host ring and the budget left. -/
def State.dmaAsked (s : State) (pend : List LogRec) (room : Nat) : List LogRec :=
  ((pend.takeWhile fun r => !s.tele.queue.contains r).take (min 64 room)).take ((s.classUse 3).limDram - (s.classUse 3).usedDram)

theorem State.dmaBatch_eq {s : State} (hen : s.flag F.LOG.DMA_CTL.EN = true) (hreach : s.dmaReach = true) {pend l : List LogRec} {n : Nat}
    (hpend : pend = s.tele.dmaPend.filter fun r => s.tele.queue.contains r || !s.overwritten r)
    (hn : n = (s.tele.dmaIdx + 2 ^ 32 - s.get F.LOG.DMA_HEAD.HEAD) % 2 ^ 32) (hroom : n < s.dmaRing / 64) (hpay : s.canPay 3 0 1 = true)
    (hl : l = s.dmaAsked pend (s.dmaRing / 64 - n)) (hsome : l ≠ []) :
    s.dmaBatch 0 = (s.dmaKeep.spend 3 0 l.length).dmaSend l := by
  have hget (f : Fld) : s.dmaKeep.get f = s.get f := State.get_of_flds (by simp [State.dmaKeep]) f
  have hring : s.dmaKeep.dmaRing = s.dmaRing := by rw [State.dmaRing, hget]; rfl
  have hkept : s.dmaKeep.tele.dmaPend = pend := by rw [hpend]; exact (congrArg Tele.dmaPend s.dmaKeep_uncounted :)
  have hqueue : s.dmaKeep.tele.queue = s.tele.queue := (congrArg Tele.queue s.dmaKeep_uncounted :)
  have hidx : s.dmaKeep.tele.dmaIdx = s.tele.dmaIdx := (congrArg Tele.dmaIdx s.dmaKeep_uncounted :)
  have hclass : s.dmaKeep.budgetOf 3 = s.budgetOf 3 := by simp only [State.budgetOf, hget]
  have huse : s.dmaKeep.classUse 3 = s.classUse 3 := by rw [State.classUse, hclass, State.dmaKeep, State.count_budget]; rfl
  have hpay' : s.dmaKeep.canPay 3 0 1 = true := by
    rwa [State.canPay_congr (s := s) (t := s.dmaKeep) 3 0 1 false (by simp [State.dmaKeep]) (by simp [State.dmaKeep]) hclass]
  have hpendne : pend ≠ [] := fun h => hsome (by rw [hl, h]; simp [State.dmaAsked])
  have hasked : ((pend.takeWhile fun r => !s.tele.queue.contains r).take (min 64 (s.dmaRing / 64 - n))).take (0 + s.dmaKeep.leftDram 3) = l := by
    rw [hl, State.leftDram, huse, Nat.zero_add]
    rfl
  rw [State.dmaBatch, hen, hreach, if_neg (by decide), if_neg (by decide)]
  dsimp only
  rw [hkept, hring, hidx, hget, ← hn, hqueue, hasked, if_neg hpendne, if_neg (Nat.not_le.mpr hroom), hpay']
  rfl

/-- Looking through what is to be delivered, and paying for a batch, leaves what the batch is made from. -/
theorem State.dmaKeep_spend (s : State) (n : Nat) :
    (s.dmaKeep.spend 3 0 n).tele.dmaPend = (s.tele.dmaPend.filter fun r => s.tele.queue.contains r || !s.overwritten r) ∧
      (s.dmaKeep.spend 3 0 n).tele.dmaIdx = s.tele.dmaIdx ∧ (s.dmaKeep.spend 3 0 n).err = s.err ∧ (s.dmaKeep.spend 3 0 n).core = s.core ∧
      ∀ f, (s.dmaKeep.spend 3 0 n).get f = s.get f := by
  have heq := (s.dmaKeep.spend_uncounted 3 0 n (classPage 3)).trans s.dmaKeep_uncounted
  exact ⟨(congrArg Tele.dmaPend heq :), (congrArg Tele.dmaIdx heq :), by simp [State.dmaKeep], by simp [State.dmaKeep],
    fun f => State.get_of_flds (by simp [State.dmaKeep]) f⟩

theorem State.writeReg_tagCtl (s : State) (pr v : Nat) : s.writeReg 0x5B 0x100 pr v = s.wrTagCtl v := rfl
theorem State.writeReg_freezeCtl (s : State) (pr v : Nat) :
    s.writeReg 0x59 0x138 pr v = if bitOf v 63 then (s.writePlain 0x59 0x138 pr v).rearm else s.writePlain 0x59 0x138 pr v := rfl
theorem State.writeReg_mark (s : State) (pr v : Nat) :
    s.writeReg 0x59 0x168 pr v = if bitOf v 63 then (s.set F.LOG.MARK.KEY (v % 2 ^ 16)).mark else s.set F.LOG.MARK.KEY (v % 2 ^ 16) := rfl

/-- Settles O26. -/
theorem telemetryRowsComplete : Obligations.TelemetryRowsComplete := by
  refine ⟨fun j src v s h => ?_, fun src v s h hoff => ?_, fun id c s hup hid hdone hroom => ?_, fun c l s hup hq hstop hpay => ?_,
    fun code inst key e r s hup hent hrep hen hroom => ?_, fun s hup hdrops hen hidle => ?_, fun e s hup hen hcode hnext hpay hwait => ?_,
    fun src v s h hidle => ?_, fun s hup hgap hwant => ?_, fun pend l n s hup hen hreach hpend hn hroom hpay hl hsome hread => ?_,
    fun s hup hen hreach hnone => ?_, fun src v s h hen => ?_⟩
  · refine ⟨_, next_regWr s src 0x5A _ _ h, ?_⟩
    rw [Nat.mod_eq_of_lt v.isLt, State.writeReg_chain _ _ _ _ j.isLt]
    exact (State.get_set_same ..).trans (Nat.mod_eq_of_lt v.isLt)
  · refine ⟨_, next_regWr s src 0x5B 0x100 _ h, ?_⟩
    rw [State.writeReg_tagCtl, withBit_word_mod v 63 true (by decide)]
    have hon : bitsOf (withBit v.toNat 63 true) 63 63 = 1 := by
      simpa [bitOf, bitsOf] using bitOf_withBit_same v.toNat 63 true
    have hoff' : (s.charged src).flag F.TRACE.TAG_CTL.EN = false := by rw [State.flag, State.get_charged]; exact hoff
    simp only [State.wrTagCtl, hoff', bitOf_withBit_same, Bool.not_false, Bool.and_self, if_true, hon]
    constructor
    · split <;> simp (disch := decide) [State.get_mk, State.get_fold, State.get_set_other]
    · simp
  · refine ⟨_, next_whenUpS s (fun s => s.cairnFinish id) hup, ?_⟩
    simp [State.cairnFinish, hid, hdone, State.cairnSts, Nat.not_le.mpr hroom]
  · refine ⟨_, next_whenUpS s State.cairnWrite hup, ?_⟩
    have hq' : (s.spend 4 0 1).tele.cairnQ = c :: l := (congrArg Tele.cairnQ (s.spend_uncounted 4 0 1 _) :).trans hq
    have hstop' : (s.spend 4 0 1).flag F.TRACE.TAG_CTL.STOP = false := by rw [State.flag, State.get_of_flds (State.flds_spend ..)]; exact hstop
    have hcap : (s.spend 4 0 1).cairnCap = s.cairnCap := by rw [State.cairnCap, State.get_of_flds (State.flds_spend ..)]; rfl
    have hring : (s.spend 4 0 1).tele.cairnRing = s.tele.cairnRing := (congrArg Tele.cairnRing (s.spend_uncounted 4 0 1 _) :)
    have hseq : (s.spend 4 0 1).tele.cairnSeq = s.tele.cairnSeq := (congrArg Tele.cairnSeq (s.spend_uncounted 4 0 1 _) :)
    have hwrite : s.cairnWrite = (s.spend 4 0 1).cairnPut := by
      simp only [State.cairnWrite, hq, hstop, Bool.false_and, Bool.false_eq_true, if_false]
      exact State.budgeted_pays _ _ _ _ _ _ _ _ hpay
    obtain ⟨hleft, hwritten, hnumber, hshown⟩ := State.cairnPut_effect hq' hstop'
    rw [hwrite]
    exact ⟨hleft, by rw [hwritten, hring, hseq, hcap], by rw [hnumber, hseq], by rw [hshown, hseq]⟩
  · refine ⟨_, next_whenUpS s (fun s => s.coalExpire code.toNat inst.toNat key.toNat) hup, fun hadmitted => ?_⟩
    have hen' : State.flag { s with tele := { s.tele with coal := s.tele.coal.erase e } } F.LOG.LOG_CTL.EN = true := hen
    simp only [State.coalExpire, hent, hrep, hen', hadmitted]
    rfl
  · exact ⟨_, next_whenUpS s State.dropSummary hup, State.dropSummary_msDrops s hidle⟩
  · refine ⟨_, next_whenUpS s State.alarmWrite hup, ?_⟩
    have hfound : s.alarmNext = some e := by simp [State.alarmNext, hen, hcode, hnext]
    have hwrite : s.alarmWrite = (s.spend 3 0 1).alarmPut := by
      simp only [State.alarmWrite, hfound, hpay, Bool.not_true, Bool.and_false, Bool.false_eq_true, if_false]
      exact State.budgeted_pays _ _ _ _ _ _ _ _ hpay
    have hwait' : (s.spend 3 0 1).tele.fifoWait = [] := (congrArg Tele.fifoWait (s.spend_uncounted 3 0 1 _) :).trans hwait
    have hcap : (s.spend 3 0 1).alarmCap = s.alarmCap := by rw [State.alarmCap, State.get_of_flds (State.flds_spend ..)]; rfl
    have hring : (s.spend 3 0 1).tele.alarm = s.tele.alarm := (congrArg Tele.alarm (s.spend_uncounted 3 0 1 _) :)
    rw [hwrite, State.alarmPut_alarm ((s.spend_alarmNext ..).trans hfound) hwait', hcap, hring]
  · refine ⟨_, next_regWr s src 0x59 0x138 _ h, ?_⟩
    rw [State.writeReg_freezeCtl, withBit_word_mod v 63 true (by decide), bitOf_withBit_same, if_pos rfl]
    have hfreezing : ((s.charged src).uncounted).freezing = false := by rw [State.charged_uncounted]; exact hidle
    have hidle' : ((s.charged src).writePlain 0x59 0x138 (s.priv src) (withBit v.toNat 63 true)).tele.freezing = false := by
      rw [State.writePlain_tele]; exact hfreezing
    exact State.rearm_effect hidle'
  · refine ⟨_, next_whenUpS s State.gapExpire hup, ?_⟩
    simp [State.gapExpire, hgap, hwant]
  · refine ⟨_, next_whenUpS s (fun s => s.dmaBatch 0) hup, ?_⟩
    obtain ⟨hkept, hidx, herr, hcore, hget⟩ := s.dmaKeep_spend l.length
    have hblock (r : LogRec) : (s.dmaKeep.spend 3 0 l.length).recBlock r = s.recBlock r := by
      simp only [State.recBlock, State.logBlock, State.alarmCap, State.mainCap, hget]
    have hring : (s.dmaKeep.spend 3 0 l.length).dmaRing = s.dmaRing := by rw [State.dmaRing, hget]; rfl
    have hread' : ∀ r ∈ l, (s.dmaKeep.spend 3 0 l.length).err.dramUe.contains ((s.dmaKeep.spend 3 0 l.length).recBlock r) = false := by
      intro r hr
      rw [herr, hblock]
      exact hread r hr
    have heffect := State.dmaSend_effect _ hsome hread'
    rw [hkept, hidx, hcore, hget, hring, ← hpend] at heffect
    rw [State.dmaBatch_eq hen hreach hpend hn hroom hpay hl hsome]
    exact heffect
  · refine ⟨_, next_whenUpS s (fun s => s.dmaBatch 0) hup, ?_⟩
    have hkept : s.dmaKeep.tele.dmaPend = [] := by
      have hpend := (congrArg Tele.dmaPend s.dmaKeep_uncounted :)
      rw [hnone] at hpend
      exact hpend
    rw [State.dmaBatch, hen, hreach, if_neg (by decide), if_neg (by decide)]
    dsimp only
    rw [if_pos hkept]
    exact State.get_set_same ..
  · refine ⟨_, next_regWr s src 0x59 0x168 _ h, ?_⟩
    rw [State.writeReg_mark, withBit_word_mod v 63 true (by decide), bitOf_withBit_same, if_pos rfl, withBit_low _ _ _ _ (by decide)]

end Sys2Proof.Machine
end

section
/-! The rows of row repair, scrubbing, acclimatisation, the supply voltage and the pitch (13_dependability.md R366 to R390;
18_pins_power_package.md R495). -/
namespace Sys2Proof.Machine

/-! ### Row repair and scrubbing (R366 to R373) -/

/-- A field outside the repair map is left by an entry made in it. -/
theorem State.get_repairEnter (s : State) (kind cause inst loc : Nat) {f : Fld} (h : f.key / 4194304 ≠ 0x60) :
    (s.repairEnter kind cause inst loc).get f = s.get f := by
  have hleave (t : State) (g : Fld) (v : Nat) (hg : g.key / 4194304 = 0x60) : (t.set g v).get f = t.get f :=
    State.get_set_other _ _ _ _ fun e => h (e ▸ hg)
  have hentry (n lo w r : Nat) (hn : n < 1024) (hlo : lo < 64) : (fld 0x60 (0x1000 + 0x8 * n) lo w r).key / 4194304 = 0x60 := by
    simp only [fld]
    omega
  unfold State.repairEnter
  dsimp only
  split
  · exact hleave _ _ _ (by decide)
  · have hn : s.get F.REPAIR.MAP_STS.ENTRIES < 1024 := by omega
    simp only [State.sets_cons, State.sets_nil, State.get_mk, State.get_fold]
    rw [hleave _ F.REPAIR.MAP_STS.FULL _ (by decide), hleave _ F.REPAIR.MAP_STS.UNWRITTEN _ (by decide),
      hleave _ F.REPAIR.MAP_STS.ENTRIES _ (by decide), hleave _ (F.REPAIR.ENTRY.LOCATION _) _ (hentry _ _ _ _ hn (by decide)),
      hleave _ (F.REPAIR.ENTRY.INSTANCE _) _ (hentry _ _ _ _ hn (by decide)), hleave _ (F.REPAIR.ENTRY.RETEST _) _ (hentry _ _ _ _ hn (by decide)),
      hleave _ (F.REPAIR.ENTRY.CAUSE _) _ (hentry _ _ _ _ hn (by decide)), hleave _ (F.REPAIR.ENTRY.KIND _) _ (hentry _ _ _ _ hn (by decide)),
      hleave _ (F.REPAIR.ENTRY.VALID _) _ (hentry _ _ _ _ hn (by decide))]

/-- With room in the repair map an entry is counted. -/
theorem State.repairEnter_entries (s : State) (kind cause inst loc : Nat) (h : s.get F.REPAIR.MAP_STS.ENTRIES < 1024) :
    (s.repairEnter kind cause inst loc).get F.REPAIR.MAP_STS.ENTRIES = s.get F.REPAIR.MAP_STS.ENTRIES + 1 := by
  rw [State.repairEnter]
  dsimp only
  rw [if_neg (by omega)]
  simp (disch := decide) only [State.sets_cons, State.sets_nil, State.get_mk, State.get_fold, State.get_set_other, State.get_set_same]
  exact Nat.mod_eq_of_lt (show _ < 2048 by omega)

@[simp] theorem State.repairEnter_age (s : State) (kind cause inst loc : Nat) : (s.repairEnter kind cause inst loc).age = s.age := by
  unfold State.repairEnter
  dsimp only
  split <;> simp

/-- With a redundant row left, a row of a memory moves to it. -/
theorem State.sramMove_effect (s : State) (m row cause : Nat) (hleft : Tab.getD s.age.rowsUsed m 0 < 4) (hroom : s.get F.REPAIR.MAP_STS.ENTRIES < 1024) :
    (s.sramMove m row cause).age.rowsUsed = Tab.put s.age.rowsUsed m (Tab.getD s.age.rowsUsed m 0 + 1) ∧
      (s.sramMove m row cause).get F.REPAIR.MAP_STS.ENTRIES = s.get F.REPAIR.MAP_STS.ENTRIES + 1 := by
  rw [State.sramMove]
  dsimp only
  rw [if_neg (by omega)]
  refine ⟨?_, ?_⟩
  · rw [State.raise_age, State.repairEnter_age]
    rfl
  · rw [State.get_raise _ _ _ (by decide), State.repairEnter_entries]
    · rfl
    · exact hroom

/-- A row moved within its channel takes one of the channel's reserve rows. -/
theorem State.dramMove_free (s : State) {ch : Nat} (bank row cause : Nat) (hch : ch < 4) (hfree : s.get (F.MEMC.RESERVE_STS.FREE ch) ≠ 0)
    (hwidth : s.get (F.MEMC.RESERVE_STS.FREE ch) < 2048) :
    (s.dramMove ch bank row cause).get (F.MEMC.RESERVE_STS.FREE ch) = s.get (F.MEMC.RESERVE_STS.FREE ch) - 1 := by
  have hstill : (F.MEMC.RESERVE_STS.FREE ch).still := by
    simp only [Fld.still, F.MEMC.RESERVE_STS.FREE, fld]
    omega
  have hmap : (F.MEMC.RESERVE_STS.FREE ch).key / 4194304 ≠ 0x60 := by
    simp only [F.MEMC.RESERVE_STS.FREE, fld]
    omega
  have hecc : (F.MEMC.RESERVE_STS.FREE ch).key ≠ F.MEMC.ECC_STS.REPAIRS.key := by
    simp only [F.MEMC.RESERVE_STS.FREE, F.MEMC.ECC_STS.REPAIRS, fld]
    omega
  rw [State.dramMove, if_neg hfree]
  dsimp only
  rw [State.get_raise _ _ _ hstill, State.get_repairEnter _ _ _ _ _ hmap, State.addSat, State.get_set_other _ _ _ _ hecc, State.subF,
    State.get_set_same]
  exact Nat.mod_eq_of_lt (show s.get (F.MEMC.RESERVE_STS.FREE ch) - 1 < 2048 by omega)

/-- A DRAM repair leaves the address of the last uncorrectable block. -/
theorem State.dramRepair_lastAddr (s : State) (ch bank row cause : Nat) (hch : ch < 4) :
    (s.dramRepair ch bank row cause).get F.MEMC.ECC_STS.LAST_ADDR = s.get F.MEMC.ECC_STS.LAST_ADDR := by
  have hfree : F.MEMC.ECC_STS.LAST_ADDR.key ≠ (F.MEMC.RESERVE_STS.FREE ch).key := by
    simp only [F.MEMC.RESERVE_STS.FREE, F.MEMC.ECC_STS.LAST_ADDR, fld]
    omega
  have hmove (t : State) : (t.dramMove ch bank row cause).get F.MEMC.ECC_STS.LAST_ADDR = t.get F.MEMC.ECC_STS.LAST_ADDR := by
    rw [State.dramMove]
    split
    · exact State.get_raise _ _ _ (by decide)
    · dsimp only
      rw [State.get_raise _ _ _ (by decide), State.get_repairEnter _ _ _ _ _ (by decide), State.addSat, State.get_set_other _ _ _ _ (by decide),
        State.subF, State.get_set_other _ _ _ _ hfree]
      rfl
  rw [State.dramRepair]
  split
  · exact State.get_raise _ _ _ (by decide)
  · rw [State.budgeted]
    split
    · rw [hmove, State.get_spend]
    · exact State.get_of_flds (State.defer_flds ..) _

/-! ### Acclimatisation (R377 to R384) -/

/-- A pass begins in SENSE with no step made. -/
theorem State.senseStart_effect (s : State) : s.senseStart.get F.AGE.ACCL_STS.STATE = 1 ∧ s.senseStart.age.steps = 0 := by
  unfold State.senseStart
  extract_lets _ t
  have hstate : (t.set F.AGE.ACCL_STS.STATE 1).get F.AGE.ACCL_STS.STATE = 1 := State.get_set_same ..
  rw [State.budgeted]
  split
  · rw [State.senseDone]
    split
    · exact ⟨(State.get_spend ..).trans hstate, by simp [t]⟩
    · exact ⟨(State.get_spend ..).trans hstate, by simp [t]⟩
  · exact ⟨(State.get_of_flds (State.defer_flds ..) _).trans hstate, by simp [t]⟩

theorem State.passStart_effect (s : State) :
    s.passStart.get F.AGE.ACCL_STS.STATE = 1 ∧ s.passStart.age.steps = 0 ∧
      s.passStart.age.due = 60 * max 1 (min 168 (s.get F.AGE.ACCL_CFG.PERIOD)) := by
  unfold State.passStart
  obtain ⟨hstate, hsteps⟩ := State.senseStart_effect { s with age := { s.age with passAt := s.time.run, passLast := s.age.passAt } }
  refine ⟨?_, ?_, ?_⟩
  · rw [State.setDue_get _ _ _ (by decide), hstate]
  · rw [State.setDue_age, hsteps]
  · rw [State.setDue_age]

/-! A margin measurement (R380): the readings are shown, then the plan takes its step. -/

/-- A field outside the registers that show margins and oscillators. -/
abbrev Fld.notSensor (f : Fld) : Prop := f.key / 64 < 0x61 * 65536 + 0x200 ∨ 0x61 * 65536 + 0x400 ≤ f.key / 64

/-- From `s` to `t` readings of the margins and oscillators alone have changed, of what the plan looks at. -/
structure State.Sensed (s t : State) : Prop where
  age : t.age = s.age
  avs : t.avs = s.avs
  get : ∀ f : Fld, f.notSensor → t.get f = s.get f

theorem State.Sensed.set {s t : State} (h : s.Sensed t) {g : Fld} (v : Nat) (hg : ¬ g.notSensor) : s.Sensed (t.set g v) where
  age := h.age
  avs := h.avs
  get := fun f hf => (State.get_set_other _ _ _ _ fun e => hg (by rw [Fld.notSensor, ← e]; exact hf)).trans (h.get f hf)

theorem State.Sensed.free {s t : State} (h : s.Sensed t) : s.Sensed t.free.2 where
  age := h.age
  avs := h.avs
  get := h.get

theorem State.Sensed.showMargin {s t : State} (h : s.Sensed t) {d : Nat} (m : Nat) (hd : d < 6) : s.Sensed (t.showMargin d m) := by
  have hsensor (lo w : Nat) (hlo : lo < 64) : ¬ (fld 0x61 (0x200 + 0x8 * d) lo w 0).notSensor := by
    simp only [Fld.notSensor, fld]
    omega
  unfold State.showMargin
  dsimp only
  split
  · exact h.set _ (hsensor _ _ (by decide))
  · split
    · exact ((h.set _ (hsensor _ _ (by decide))).free.set _ (hsensor _ _ (by decide))).set _ (hsensor _ _ (by decide))
    · exact (h.set _ (hsensor _ _ (by decide))).free.set _ (hsensor _ _ (by decide))

theorem State.Sensed.showOsc {s t : State} (h : s.Sensed t) {i : Nat} (x : Nat) (hi : i < 24) :
    s.Sensed (t.free.2.sets [(F.AGE.OSC.FREQ i, x), (F.AGE.OSC.DRIFT i, t.free.1)]) := by
  have hsensor (lo w : Nat) (hlo : lo < 64) : ¬ (fld 0x61 (0x300 + 0x8 * i) lo w 0).notSensor := by
    simp only [Fld.notSensor, fld]
    omega
  exact (h.free.set _ (hsensor _ _ (by decide))).set _ (hsensor _ _ (by decide))

theorem foldl_min_le (l : List Nat) (b : Nat) : l.foldl min b ≤ b ∧ ∀ x ∈ l, l.foldl min b ≤ x := by
  induction l generalizing b with
  | nil => simp
  | cons y l ih =>
    obtain ⟨hstart, hmem⟩ := ih (min b y)
    refine ⟨Nat.le_trans hstart (Nat.min_le_left _ _), fun x hx => ?_⟩
    rcases List.mem_cons.mp hx with rfl | hx
    · exact Nat.le_trans hstart (Nat.min_le_right _ _)
    · exact hmem x hx

/-- A domain among the first six that reads 0 makes the least margin 0. -/
theorem leastMargin_zero {l : List (BitVec 3)} (h : 0#3 ∈ l.take 6) :
    ((List.range 6).map fun d => min 4 ((l.map BitVec.toNat).getD d 0)).foldl min 4 = 0 := by
  obtain ⟨d, hd, hzero⟩ := List.getElem_of_mem h
  have hd6 : d < 6 := by
    rw [List.length_take] at hd
    omega
  have hread : (l.map BitVec.toNat).getD d 0 = 0 := by
    rw [List.getElem_take] at hzero
    rw [List.length_take] at hd
    have hlen : d < l.length := by omega
    simp [List.getD, hlen, hzero]
  have hmem : 0 ∈ (List.range 6).map fun d => min 4 ((l.map BitVec.toNat).getD d 0) :=
    List.mem_map.mpr ⟨d, List.mem_range.mpr hd6, by rw [hread]; rfl⟩
  exact Nat.le_zero.mp ((foldl_min_le _ 4).2 0 hmem)

/-- With too little margin, and a step left, the plan goes up one code, which is commanded. -/
theorem State.planStep_up {s : State} (hfree : s.avsFree = true) (hleft : s.age.steps < s.get F.AGE.ACCL_CFG.MAX_STEPS) (hcode : s.avsCode < 60) :
    (s.planStep 0).get F.AGE.ACCL_STS.STATE = s.get F.AGE.ACCL_STS.STATE ∧ (s.planStep 0).age.steps = s.age.steps + 1 ∧
      (s.planStep 0).avs.busy = some (s.avsCode + 1) := by
  have hguard : 0 < s.guard := by
    simp only [State.guard]
    omega
  simp [State.planStep, hfree, hleft, hcode, hguard, State.avsSend]
  rfl

/-- A measurement that finds a domain without margin. -/
theorem State.measureSeen_up {s : State} {ms : List (BitVec 3)} (osc : List Nat) (hstate : s.get F.AGE.ACCL_STS.STATE = 2) (hguide : s.guideOn = true)
    (hfree : s.avsFree = true) (hleft : s.age.steps < s.get F.AGE.ACCL_CFG.MAX_STEPS) (hcode : s.avsCode < 60) (hzero : 0#3 ∈ ms.take 6) :
    (s.measureSeen (ms.map BitVec.toNat) osc).get F.AGE.ACCL_STS.STATE = 2 ∧
      (s.measureSeen (ms.map BitVec.toNat) osc).age.steps = s.age.steps + 1 ∧
      (s.measureSeen (ms.map BitVec.toNat) osc).avs.busy = some (s.avsCode + 1) := by
  unfold State.measureSeen
  rw [if_neg (by simp [hstate, hguide]), leastMargin_zero hzero]
  extract_lets t u
  have ht : s.Sensed t := List.foldlRecOn (List.range 6) _ ⟨rfl, rfl, fun _ _ => rfl⟩ fun _ h d hd => h.showMargin _ (List.mem_range.mp hd)
  have hu : s.Sensed u := List.foldlRecOn (List.range 24) _ ht fun _ h i hi => h.showOsc _ (List.mem_range.mp hi)
  have hcode' : u.avsCode = s.avsCode := by
    simp only [State.avsCode, hu.avs, hu.get _ (show F.AGE.AVS_STS.CODE.notSensor by decide),
      hu.get _ (show F.PWR.AVS_STS.SENT_CODE.notSensor by decide)]
  have hfree' : u.avsFree = true := by
    rw [← hfree]
    simp only [State.avsFree, State.flag, hu.get _ (show F.PWR.AVS_CTL.FIXED.notSensor by decide),
      hu.get _ (show F.PWR.AVS_STS.BUS_ERR.notSensor by decide)]
  have hleft' : u.age.steps < u.get F.AGE.ACCL_CFG.MAX_STEPS := by rw [hu.age, hu.get _ (by decide)]; exact hleft
  obtain ⟨hstep, hsteps, hbusy⟩ := State.planStep_up hfree' hleft' (by rw [hcode']; exact hcode)
  exact ⟨by rw [hstep, hu.get _ (by decide), hstate], by rw [hsteps, hu.age], by rw [hbusy, hcode']⟩

/-! ### The pitch (R386 to R390) -/

/-- What a reload of one class leaves: the work that waits, the telemetry, the core and every field but its status. -/
structure State.Reloaded (s t : State) : Prop where
  jobs : t.jobs = s.jobs
  tele : t.tele = s.tele
  core : t.core = s.core
  pitch : t.get F.BUDGET.PITCH_STS.PITCH = s.get F.BUDGET.PITCH_STS.PITCH

theorem State.Reloaded.set {s t : State} (h : s.Reloaded t) {g : Fld} (v : Nat) (hg : F.BUDGET.PITCH_STS.PITCH.key ≠ g.key) : s.Reloaded (t.set g v) where
  jobs := h.jobs
  tele := h.tele
  core := h.core
  pitch := (State.get_set_other _ _ _ _ hg).trans h.pitch

theorem State.Reloaded.budget {s t : State} (h : s.Reloaded t) (b : Tab ClassUse) : s.Reloaded { t with budget := b } :=
  ⟨h.jobs, h.tele, h.core, h.pitch⟩

theorem State.Reloaded.reload {s t : State} (h : s.Reloaded t) {c : Nat} (hc : c < 8) : s.Reloaded (t.reload c) := by
  have hkey (lo w : Nat) (hlo : lo < 64) : F.BUDGET.PITCH_STS.PITCH.key ≠ (fld 0x62 (0x140 + 0x8 * c) lo w 0).key := by
    simp only [F.BUDGET.PITCH_STS.PITCH, fld]
    omega
  unfold State.reload
  dsimp only
  split
  · exact (((h.set _ (hkey _ _ (by decide))).set _ (hkey _ _ (by decide))).set _ (hkey _ _ (by decide))).budget _
  · exact ((h.set _ (hkey _ _ (by decide))).set _ (hkey _ _ (by decide))).budget _

theorem State.serveClass_idle {s : State} (h : s.jobs = []) (c n : Nat) : s.serveClass c n = s := by
  cases n with
  | zero => rfl
  | succ n => simp [State.serveClass, h]

theorem State.serveClasses_idle {s : State} (h : s.jobs = []) (l : List Nat) :
    l.foldl (fun s c => s.serveClass c (s.leftReg c + s.leftDram c + s.jobs.length)) s = s := by
  induction l with
  | nil => rfl
  | cons c l ih => rw [List.foldl_cons, State.serveClass_idle h, ih]

theorem State.censusWalk_idle {s : State} (h : s.core.censusLeft = 0) : s.censusWalk = s := by
  rw [State.censusWalk]
  exact if_pos h

theorem State.freezeEnd_self (s : State) : s.freezeEnd s = s := by simp [State.freezeEnd]

@[simp] theorem State.marginStart_tele (s : State) : s.marginStart.tele = s.tele := by
  unfold State.marginStart
  split <;> rfl

theorem State.marginStart_keeps (s : State) :
    s.marginStart.age = s.age ∧ s.marginStart.avs = s.avs ∧ (∀ f : Fld, f.key ≠ F.AGE.ACCL_STS.STATE.key → s.marginStart.get f = s.get f) ∧
      s.marginStart.budget = s.budget ∧ s.marginStart.jobs = s.jobs := by
  unfold State.marginStart
  split
  · exact ⟨rfl, rfl, fun f h => State.get_set_other _ _ _ _ h, rfl, rfl⟩
  · exact ⟨rfl, rfl, fun _ _ => rfl, rfl, rfl⟩

/-- A pass that measures, or that has read its sensors, measures. -/
theorem State.marginStart_measures {s : State} (h : s.get F.AGE.ACCL_STS.STATE = 2 ∨ s.get F.AGE.ACCL_STS.STATE = 1 ∧ s.age.sensed = true) :
    s.marginStart.get F.AGE.ACCL_STS.STATE = 2 := by
  unfold State.marginStart
  split
  case isTrue => exact State.get_set_same ..
  case isFalse hno => exact h.resolve_right hno

theorem State.marginStart_pitch (s : State) : s.marginStart.get F.BUDGET.PITCH_STS.PITCH = s.get F.BUDGET.PITCH_STS.PITCH := by
  unfold State.marginStart
  split
  · exact State.get_set_other _ _ _ _ (by decide)
  · rfl

@[simp] theorem State.selfTests_uncounted (s : State) : s.selfTests.uncounted = s.uncounted := by
  unfold State.selfTests State.free
  dsimp only
  split
  · rfl
  · exact State.spend_uncounted ..

theorem State.selfTests_flds (s : State) : s.selfTests.flds = s.flds := by
  unfold State.selfTests State.free
  dsimp only
  split
  · rfl
  · exact State.flds_spend ..

/-- With no work waiting, a pitch begins: its number moves on and no record has been written in it. -/
theorem State.pitchStart_idle {s : State} (hjobs : s.jobs = []) (hqueue : s.tele.queue = []) (hcensus : s.core.censusLeft = 0)
    (hfreeze : s.tele.freezeQ = []) :
    s.pitchStart.tele.wrote = (0, 0, 0) ∧ s.pitchStart.get F.BUDGET.PITCH_STS.PITCH = (s.get F.BUDGET.PITCH_STS.PITCH + 1) % 2 ^ 48 := by
  unfold State.pitchStart
  extract_lets t u _ v w x
  have ht : s.Reloaded t := List.foldlRecOn (List.range 8) _ ⟨rfl, rfl, rfl, rfl⟩ fun _ h c hc => h.reload (List.mem_range.mp hc)
  clear_value t
  have hujobs : u.jobs = [] := by rw [← hjobs, ← ht.jobs]; simp [u]
  have hucore : u.core = s.core := by rw [← ht.core]; simp [u]
  have huncounted : u.uncounted = s.uncounted := by
    rw [State.uncounted, State.uncounted, ← ht.tele]
    exact State.count_uncounted ..
  have hupitch : u.get F.BUDGET.PITCH_STS.PITCH = (s.get F.BUDGET.PITCH_STS.PITCH + 1) % 2 ^ 48 := by
    rw [← ht.pitch]
    refine (State.get_count ..).trans ?_
    rw [State.sets_cons, State.sets_cons, State.sets_nil, State.get_set_other _ _ _ _ (by decide), State.get_set_same]
    rfl
  clear_value u
  have hvjobs : v.jobs = [] := hujobs
  have hvcore : v.core = s.core := hucore
  have hpitch : v.get F.BUDGET.PITCH_STS.PITCH = (s.get F.BUDGET.PITCH_STS.PITCH + 1) % 2 ^ 48 := hupitch
  have hvqueue : v.tele.queue = [] := (congrArg Tele.queue huncounted :).trans hqueue
  have hvfreeze : v.tele.freezeQ = [] := (congrArg Tele.freezeQ huncounted :).trans hfreeze
  have hw : w = v.marginStart := by
    unfold w
    rw [State.censusWalk_idle (by rw [hvcore]; exact hcensus), State.serveClasses_idle hvjobs]
  have hx : x = v.marginStart := by
    unfold x
    rw [hw, State.marginStart_tele, hvqueue]
    rfl
  have hend : x.freezeEnd (x.freezeDrain x.tele.freezeQ.length) = v.marginStart := by
    rw [hx, State.marginStart_tele, hvfreeze]
    exact State.freezeEnd_self _
  rw [hend]
  refine ⟨?_, ?_⟩
  · refine (congrArg Tele.wrote (State.selfTests_uncounted _) :).trans ?_
    rw [State.uncounted, State.marginStart_tele]
  · rw [State.get_of_flds (State.selfTests_flds _), State.marginStart_pitch, hpitch]

/-! ### The supply voltage (R381, R495) -/

@[simp] theorem State.avsNext_age (s : State) : s.avsNext.age = s.age := by
  unfold State.avsNext
  repeat' split
  all_goals simp [State.avsSend]

theorem State.lifeEnd_minutes (s : State) : s.lifeEnd.age.minutes = s.age.minutes := by
  unfold State.lifeEnd
  split
  · rw [State.marginLow, State.raise_age]
    rfl
  · rfl

theorem State.minute_minutes (s : State) (tj : Nat) : (s.minute tj).age.minutes = (s.age.minutes + lifeWeight tj) % 61440 := by
  unfold State.minute
  extract_lets m h _ t u v w
  have hv : v.age.minutes = m % 61440 := by
    unfold v
    rw [State.lifeEnd_minutes]
    split <;> rfl
  have hw : w.age.minutes = m % 61440 := by
    unfold w
    rw [State.setDue_age]
    exact hv
  split
  · exact hw
  · exact hw

theorem State.writeReg_acclCfg (s : State) (pr v : Nat) : s.writeReg 0x61 0x100 pr v = s.wrAcclCfg v := rfl

/-- RUN in SUMMIT, with no pass running, begins one. -/
theorem State.wrAcclCfg_run {s : State} {v : Nat} (hrun : bitOf v 62 = true) (hphase : s.phase = 3) (hguide : s.guideOn = true)
    (hidle : s.get F.AGE.ACCL_STS.STATE = 0) : s.wrAcclCfg v = (s.writePlain 0x61 0x100 0 v).passStart := by
  have hget (f : Fld) (h : f.key / 64 ≠ 0x61 * 65536 + 0x100) (hh : 0x100 ≤ f.key / 64 % 65536) :
      (s.writePlain 0x61 0x100 0 v).get f = s.get f := State.writePlain_get_other _ _ _ _ _ _ h hh (by decide)
  have hidle' : (s.writePlain 0x61 0x100 0 v).get F.AGE.ACCL_STS.STATE = 0 := by rw [hget _ (by decide) (by decide), hidle]
  have hphase' : (s.writePlain 0x61 0x100 0 v).phase = 3 := by rw [← hphase, State.phase, hget _ (by decide) (by decide)]; rfl
  have hguide' : (s.writePlain 0x61 0x100 0 v).guideOn = true := by
    rw [← hguide, State.guideOn, hget _ (by decide) (by decide), hget _ (by decide) (by decide)]
    rfl
  simp [State.wrAcclCfg, hrun, hidle', hphase', hguide']

/-- The cached lines whose bitmap words a row of a memory holds. -/
def State.sramLines (s : State) (m row : Nat) : List Nat := (s.dirty.cache.map Prod.fst).filter fun k => Config.sramHolds m row (4 * k + 3)

/-- Settles O27. -/
theorem ageingRowsComplete : Obligations.AgeingRowsComplete := by
  refine ⟨fun m row ue s hup hen hleft hpay hroom => ?_, fun ch bank row ue s hup hfree hpay hwidth => ?_, fun addr pos s hup hen hpay => ?_,
    fun m row s hup hpay hfirst => ?_, fun s hup hphase hguide hen hidle => ?_, fun src v s h hphase hguide hidle => ?_,
    fun ms osc s hup hstate hguide hfree hlow hleft hcode hzero hpay => ?_, fun s hup hstate hguide hpay => ?_, fun s hup hfast hcode hfixed => ?_,
    fun tj s hup => ⟨_, next_whenUpS s (fun s => s.minute tj.toNat) hup, s.minute_minutes _⟩, fun s hup hjobs hqueue hcensus hfreeze => ⟨_, next_whenUpS s State.pitchStart hup, State.pitchStart_idle hjobs hqueue hcensus hfreeze⟩,
    fun c mv ca s hup hbusy hwrite => ?_, fun s hup hset hbusy hfixed hfast herr => ?_⟩
  · refine ⟨_, next_whenUpS s (fun s => s.sramRepair m.toNat row.toNat (s.rowCause ue)) hup, ?_⟩
    have hpay' : (s.wbAsk (s.sramLines m.toNat row.toNat)).canPay 0 1 0 = true := by rwa [State.canPay_congr (s := s) (t := s.wbAsk (s.sramLines m.toNat row.toNat)) 0 1 0 false rfl rfl rfl]
    have hmove : s.sramRepair m.toNat row.toNat (s.rowCause ue) = ((s.wbAsk (s.sramLines m.toNat row.toNat)).spend 0 1 0).sramMove m.toNat row.toNat (s.rowCause ue) :=
      (if_neg (by simp [hen])).trans ((if_neg (by omega)).trans (State.budgeted_pays _ _ _ _ _ _ _ _ hpay'))
    have hage : ((s.wbAsk (s.sramLines m.toNat row.toNat)).spend 0 1 0).age = s.age := by rw [State.spend_age]; rfl
    have hentries : ((s.wbAsk (s.sramLines m.toNat row.toNat)).spend 0 1 0).get F.REPAIR.MAP_STS.ENTRIES = s.get F.REPAIR.MAP_STS.ENTRIES := by rw [State.get_spend]; rfl
    obtain ⟨hrows, hcount⟩ := ((s.wbAsk (s.sramLines m.toNat row.toNat)).spend 0 1 0).sramMove_effect m.toNat row.toNat (s.rowCause ue) (by rwa [hage]) (by rwa [hentries])
    rw [hmove, hrows, hcount, hage, hentries]
    exact ⟨rfl, rfl⟩
  · refine ⟨_, next_whenUpS s (fun s => s.dramRepair ch.val bank.toNat row.toNat (s.rowCause ue)) hup, ?_⟩
    have hmove : s.dramRepair ch.val bank.toNat row.toNat (s.rowCause ue) =
        (s.spend 0 0 rowBlocks).dramMove ch.val bank.toNat row.toNat (s.rowCause ue) :=
      (if_neg hfree).trans (State.budgeted_pays _ _ _ _ _ _ _ _ hpay)
    rw [hmove, State.dramMove_free _ _ _ _ ch.isLt (by rwa [State.get_spend]) (by rwa [State.get_spend]), State.get_spend]
  · refine ⟨_, next_whenUpS s (fun s => s.scrubRead addr.toNat .uncorrectable pos.toNat) hup, ?_⟩
    have hseen : s.scrubRead addr.toNat .uncorrectable pos.toNat = (s.spend 0 0 1 0x50).scrubSeen addr.toNat .uncorrectable pos.toNat :=
      (if_neg (by simp [hen])).trans (State.budgeted_pays _ _ _ _ _ _ _ _ hpay)
    rw [hseen, State.scrubSeen]
    dsimp only
    rw [State.dramRepair_lastAddr _ _ _ _ _ (Nat.mod_lt _ (by decide))]
    simp only [State.get_mk, State.get_fold, State.eccSeen, State.get_count, State.get_set_same]
    exact Nat.mod_eq_of_lt addr.isLt
  · refine ⟨_, next_whenUpS s (fun s => s.sramScrub m.toNat row.toNat .corrected []) hup, ?_⟩
    have hseen : s.sramScrub m.toNat row.toNat .corrected [] = (s.spend 0 1 0).rowSeen m.toNat row.toNat .corrected [] :=
      State.budgeted_pays _ _ _ _ _ _ _ _ hpay
    have hcount : (s.spend 0 1 0).rowCount (rowKey m.toNat row.toNat) = (1, s.time.run) := by
      simp only [State.rowCount, State.spend_age, State.spend_time, rowKey, hfirst]
    have hlimit (t : State) : ¬ 1 > t.rowLimit := by
      simp only [State.rowLimit]
      omega
    rw [hseen]
    simp only [State.rowSeen, State.hutScrub, List.foldl_nil, hcount, hlimit, if_false, State.spend_age]
    rfl
  · refine ⟨_, next_whenUpS s State.passDue hup, ?_⟩
    obtain ⟨hstate, hsteps, hdue⟩ := s.passStart_effect
    have hstart : s.passDue = s.passStart := by simp [State.passDue, hen, hidle, hphase, hguide]
    rw [hstart]
    exact ⟨hstate, hdue, hsteps⟩
  · refine ⟨_, next_regWr s src 0x61 0x100 _ h, ?_⟩
    rw [State.writeReg_acclCfg, withBit_word_mod v 62 true (by decide)]
    have hphase' : (s.charged src).phase = 3 := by rw [State.phase, State.get_charged]; exact hphase
    have hguide' : (s.charged src).guideOn = true := by rw [State.guideOn, State.get_charged, State.get_charged]; exact hguide
    rw [State.wrAcclCfg_run (bitOf_withBit_same ..) hphase' hguide' ((State.get_charged ..).trans hidle)]
    obtain ⟨hstate, hsteps, -⟩ := ((s.charged src).writePlain 0x61 0x100 0 (withBit v.toNat 62 true)).passStart_effect
    exact ⟨hstate, hsteps⟩
  · refine ⟨_, next_whenUpS s (fun s => s.measured (ms.map BitVec.toNat) (osc.map BitVec.toNat)) hup, ?_⟩
    obtain ⟨hage, havs, hget, hbudget, hjobs⟩ := s.marginStart_keeps
    have hmeasure := State.marginStart_measures hstate
    have hguide' : s.marginStart.guideOn = true := by rw [State.guideOn, hget _ (by decide), hget _ (by decide)]; exact hguide
    have hclass : s.marginStart.budgetOf 6 = s.budgetOf 6 := by
      rw [State.budgetOf, hget _ (by decide), hget _ (by decide)]
      rfl
    have hpay' : s.marginStart.canPay 6 30 0 = true := by
      rwa [State.canPay_congr (s := s) (t := s.marginStart) 6 30 0 false hbudget hjobs hclass]
    have hseen : s.measured (ms.map BitVec.toNat) (osc.map BitVec.toNat) =
        (s.marginStart.spend 6 30 0).measureSeen (ms.map BitVec.toNat) (osc.map BitVec.toNat) :=
      (if_neg (by simp [hmeasure, hguide'])).trans (State.budgeted_pays _ _ _ _ _ _ _ _ hpay')
    have hcode' : (s.marginStart.spend 6 30 0).avsCode = s.avsCode := by
      simp only [State.avsCode, State.spend_avs, State.get_spend, havs, hget _ (show F.AGE.AVS_STS.CODE.key ≠ F.AGE.ACCL_STS.STATE.key by decide),
        hget _ (show F.PWR.AVS_STS.SENT_CODE.key ≠ F.AGE.ACCL_STS.STATE.key by decide)]
    obtain ⟨hstep, hsteps, hbusy⟩ := State.measureSeen_up (s := s.marginStart.spend 6 30 0) (osc.map BitVec.toNat) (by rwa [State.get_spend])
      (by rw [State.guideOn, State.get_spend, State.get_spend]; exact hguide')
      (by rw [State.avsFree, State.flag, State.flag, State.get_spend, State.get_spend, hget _ (by decide), hget _ (by decide)]; exact hfree)
      (by rwa [State.spend_age, State.get_spend, hage, hget _ (by decide)]) (by rwa [hcode']) hzero
    rw [hseen]
    exact ⟨hstep, by rw [hsteps, State.spend_age, hage], by rw [hbusy, hcode']⟩
  · refine ⟨_, next_whenUpS s State.passEnd hup, ?_⟩
    have hpublish : s.passEnd = (s.spend 6 3 0).publish := (if_neg (by simp [hstate, hguide])).trans (State.budgeted_pays _ _ _ _ _ _ _ _ hpay)
    have hguide' : (s.spend 6 3 0).guideOn = true := by rw [State.guideOn, State.get_spend, State.get_spend]; exact hguide
    rw [hpublish, State.publish, if_neg (by simp [hstate, hguide'])]
    simp
  · refine ⟨_, next_whenUpS s State.fastStep hup, ?_⟩
    simp [State.fastStep, hfast, hfixed, Nat.not_le.mpr hcode]
    rw [State.marginLow, State.raise_age]
    rfl
  · refine ⟨_, next_whenUpS s (fun s => s.avsDone true mv.toNat ca.toNat) hup, ?_⟩
    simp [State.avsDone, hbusy, hwrite]
    rfl
  · refine ⟨_, next_whenUpS s State.avsSettled hup, ?_⟩
    simp [State.avsSettled, hset]
    have herr' : s.get F.PWR.AVS_STS.BUS_ERR = 0 := by simpa [State.flag] using herr
    simp (disch := decide) [State.avsNext, hbusy, hfixed, hfast, State.flag, State.get_set_other, State.get_mk, State.get_fold, herr']
    rfl

end Sys2Proof.Machine
end

section
/-! The rows of containment, link loss and the Guide pairs (12_errors_containment.md R345 to R357). -/
namespace Sys2Proof.Machine

theorem State.writeReg_containCtl (s : State) (pr v : Nat) : s.writeReg 0x58 0x100 pr v = s.wrContainCtl v := rfl

/-- GO with a target that passes the checks starts the command. -/
theorem State.wrContainCtl_go {s : State} {v op k i : Nat} (hgo : bitOf v 63 = true) (hop : bitsOf v 62 60 = op) (hk : bitsOf v 59 58 = k)
    (hi : bitsOf v 57 48 = i) (hpass : s.containFault op k i = 0) :
    s.wrContainCtl v =
      (let t := s.sets [(F.ERR.CONTAIN_CTL.OP, op), (F.ERR.CONTAIN_CTL.TARGET, k), (F.ERR.CONTAIN_CTL.INDEX, i),
        (F.ERR.CONTAIN_CTL.CPL_CA, bitsOf v 40 40)]
       let w := ({ t with err := { t.err with cmd := some (op, k, i) } } : State).sets [(F.ERR.CONTAIN_CTL.RESULT, 2), (F.ERR.CONTAIN_CTL.FAULT, 0)]
       if op = 1 then w.containTarget k i (bitOf v 40) else if k = 0 then w.releasePort i else if k = 1 then w.releaseVh i else w.releaseVf i) := by
  subst hop hk hi
  rw [State.wrContainCtl, hgo, hpass]
  rfl

/-- A standby pair that mismatches for the first time stops and loads its image again. -/
theorem State.guideMismatch_standby {s : State} {i : Nat} (hstandby : s.get (pairFld i) = 1) (hfirst : Tab.get? s.err.mism i = none) :
    s.guideMismatch i =
      (let t := ((({ s with err := { s.err with mism := Tab.put s.err.mism i s.time.run } } : State).addSat F.ERR.GUIDE_STS.MISMATCHES 1).set
        (pairFld i) 2).raise Ev.GUIDE_MISMATCH { inst := i, detail := 2 }
       if t.get (pairFld 0) = 3 ∧ t.get (pairFld 1) = 3 then t.raise Ev.GUIDE_DOWN { detail := 2 } else t) := by
  simp [State.guideMismatch, hstandby, hfirst]

/-- Settles O28. -/
theorem errorRowsComplete : Obligations.ErrorRowsComplete := by
  refine ⟨fun k i src v s h hk hi hpass => ?_, fun k i src v s h hk hi hpass => ?_, fun k i s hup hcmd => ?_, fun p s hup hrole hunder => ?_,
    fun p found s hup hdet hslot => ?_, fun j inst s hup => ⟨_, next_whenUpS s (fun s => s.escExpire j.val inst) hup, rfl⟩,
    fun pair s hup hstandby hfirst => ⟨_, next_whenUpS s (fun s => s.guideMismatch pair.val) hup, State.guideMismatch_standby hstandby hfirst⟩,
    fun pair s hup hstopped hguide hmism => ?_, fun s hup hguide hpay => ?_⟩
  · refine ⟨_, next_regWr s src 0x58 0x100 _ h, ?_⟩
    rw [State.writeReg_containCtl, goOp_mod v 1 (by decide), State.wrContainCtl_go (goOp_go v 1 (by decide)) (goOp_op v 1 (by decide)) hk hi
      ((State.containFault_charged ..).trans hpass), goOp_low v 1 40 (by decide)]
    rfl
  · refine ⟨_, next_regWr s src 0x58 0x100 _ h, ?_⟩
    rw [State.writeReg_containCtl, goOp_mod v 2 (by decide), State.wrContainCtl_go (goOp_go v 2 (by decide)) (goOp_op v 2 (by decide)) hk hi
      ((State.containFault_charged ..).trans hpass)]
    rfl
  · refine ⟨_, next_whenUpS s State.containDone hup, ?_⟩
    simp [State.containDone, hcmd, State.cmdDone]
    exact Nat.succ_pos _
  · refine ⟨_, next_whenUpS s (fun s => if s.role p.val = 3 then (if (s.port p.val).under = 6 then s.retrain p.val else s) else s.dlDown p.val) hup, ?_⟩
    rw [if_pos hunder]
  · refine ⟨_, next_whenUpS s (fun s => if !(s.port p.val).detecting || s.flag (F.STN.PORT_ROLE.HP_SLOT p.val) then s
      else if found then s.devLinkDown p.val else s.surprise p.val) hup, ?_⟩
    rw [hdet, hslot]
    rfl
  · refine ⟨_, next_whenUpS s (fun s => s.guideReady pair.val true) hup, ?_⟩
    have hstop : ¬ (s.get (pairFld pair.val) ≠ 2 ∨ !true ∨ (Tab.get? s.err.mism pair.val).isNone) := by
      simp [hstopped, Option.isSome_iff_ne_none.mp hmism]
    rw [State.guideReady, if_neg hstop, if_pos hguide, State.get_set_same]
    match pair with
    | 0 => rfl
    | 1 => rfl
  · refine ⟨_, next_whenUpS s State.guideCheckpoint hup, ?_⟩
    rw [State.guideCheckpoint, if_pos hguide]
    exact State.budgeted_pays _ _ _ _ _ _ _ _ hpay

end Sys2Proof.Machine
end

section
/-! The rows of a lane's transmitter and receiver (02_lanes.md R32 to R48; 03_ports.md R78). -/
namespace Sys2Proof.Machine

/-- Fields at different places of the register space are different. -/
theorem key_ne_of_place {f g : Fld} {p o l w r p' o' l' w' r' : Nat} (hf : f = fld p o l w r) (hg : g = fld p' o' l' w' r')
    (h : (p * 65536 + o) * 64 + l ≠ (p' * 65536 + o') * 64 + l') : f.key ≠ g.key := by
  subst hf hg
  exact h

theorem State.writeReg_txeq (s : State) (n pr v : Nat) : s.writeReg (0x100 + n) 0x100 pr v = s.wrTxeq n v := State.writeReg_lane _ _ _ _ _ (by decide)
theorem State.writeReg_rxadapt (s : State) (n pr v : Nat) : s.writeReg (0x100 + n) 0x108 pr v = s.wrRxadapt n v :=
  State.writeReg_lane _ _ _ _ _ (by decide)

/-- A legal set on the lane of an OFF port is taken. -/
theorem State.wrTxeq_legal {s : State} {n v : Nat} (hoff : s.laneOff n = true)
    (hok : listOk [bitsOf v 5 0, bitsOf v 13 8, bitsOf v 30 24, bitsOf v 21 16] = true) :
    (s.wrTxeq n v).get (F.LANE.TXEQ.MANUAL n) = bitsOf v 39 39 ∧ (s.wrTxeq n v).get (F.LANE.TXEQ.COEF_ERR n) = 0 := by
  have hcoefs (t : State) (l : List Nat) (k : Nat) : (t.setList n l k).get (F.LANE.TXEQ.MANUAL n) = t.get (F.LANE.TXEQ.MANUAL n) ∧
      (t.setList n l k).get (F.LANE.TXEQ.COEF_ERR n) = t.get (F.LANE.TXEQ.COEF_ERR n) := by
    simp (disch := refine key_ne_of_place rfl rfl ?_; omega) only [State.setList, State.setCoefs, State.sets_cons, State.sets_nil,
      State.get_set_other, and_self]
  have hmanual : bitsOf v 39 39 % 2 ^ (F.LANE.TXEQ.MANUAL n).width = bitsOf v 39 39 := Nat.mod_mod _ _
  unfold State.wrTxeq
  extract_lets l _ t
  have ht : t.get (F.LANE.TXEQ.MANUAL n) = bitsOf v 39 39 ∧ t.get (F.LANE.TXEQ.COEF_ERR n) = 0 := by
    simp (disch := refine key_ne_of_place rfl rfl ?_; omega) [t, State.get_set_other, hmanual]
  rw [if_neg (by simp [hoff]), if_pos hok]
  split
  · rw [(hcoefs _ _ _).1, (hcoefs _ _ _).2]
    exact ht
  · exact ht

/-- Seeing an SNR does not move the SNR to converge to. -/
theorem State.convSnr_sawSnr (s : State) (n x : Nat) : (s.sawSnr n x).convSnr n = s.convSnr n := by
  simp (disch := refine key_ne_of_place rfl rfl ?_; omega) only [State.convSnr, State.sawSnr_get]

/-- RESTART on a lane that is not frozen. -/
theorem State.wrRxadapt_restart {s : State} {n v : Nat} (hfree : s.flag (F.LANE.RXADAPT.FREEZE n) = false) (hfreeze : bitOf v 0 = false)
    (hrestart : bitOf v 1 = true) :
    s.wrRxadapt n v =
      (let t := s.writePlain (0x100 + n) 0x108 0 v
       let t := if t.flag (F.LANE.RXADAPT.CTLE_HOLD n) then t.set (F.LANE.RXSTS.CTLE n) (t.get (F.LANE.RXADAPT.CTLE_FORCE n)) else t
       (t.setLane n { t.lane n with heldRestart := true, noHist := false }).laneThaw n) := by
  simp [State.wrRxadapt, hfree, hfreeze, hrestart]

/-- FREEZE rises, without RESTART. -/
theorem State.wrRxadapt_freeze {s : State} {n v : Nat} (hfree : s.flag (F.LANE.RXADAPT.FREEZE n) = false) (hfreeze : bitOf v 0 = true)
    (hrestart : bitOf v 1 = false) :
    s.wrRxadapt n v =
      (let t := s.writePlain (0x100 + n) 0x108 0 v
       ((t.setLane n { t.lane n with thawTo := s.get (F.LANE.RXSTS.STATE n) }).set (F.LANE.RXSTS.STATE n) 3).abortScan n) := by
  simp [State.wrRxadapt, hfree, hfreeze, hrestart]

/-- Settles O29. -/
theorem laneRowsComplete : Obligations.LaneRowsComplete := by
  refine ⟨fun n src v s h hoff hok => ?_, fun n m s hup => ?_, fun n grad s hup hstate => ?_, fun n vga ctle slow s hup hstate hhold => ?_,
    fun n snr s hup hstate hconv => ?_, fun n s hup hlock hrate => ?_, fun n s hup hrate => ?_, fun n snr s hup hstate hdelta => ?_,
    fun n snr s hup hstate hguard hfall => ?_, fun n src v s h hfree hfreeze => ?_, fun n src v s h hfree hfreeze => ?_,
    fun n s hup htry hstate => ?_, fun n snr i s hup hsweep hstate hmore hkept hbest => ?_, fun n s hup hrelock hunder => ?_⟩
  · refine ⟨_, next_regWr s src (0x100 + n.val) 0x100 _ h, ?_⟩
    rw [State.writeReg_txeq, Nat.mod_eq_of_lt v.isLt]
    exact State.wrTxeq_legal ((State.laneOff_charged ..).trans hoff) hok
  · refine ⟨_, (show execTrainEqRx n m s = _ from next_whenUpS s _ hup), fun hfab => if_pos hfab, fun q hfab hq hunder hoff => ?_⟩
    rw [if_neg (by simp [hfab]), hq]
    exact if_pos (by simp [hunder, hoff])
  · refine ⟨_, (show execAdaptUpdate n grad s = _ from next_whenUpS s _ hup), ?_⟩
    simp [hstate]
  · refine ⟨_, (show execVgaCtleUpdate n vga ctle slow s = _ from next_whenUpS s _ hup), ?_⟩
    simp only [if_pos hstate, hhold]
    simp (disch := refine key_ne_of_place rfl rfl ?_; omega) only [State.get_set_other, State.get_set_same]
    exact ⟨Nat.mod_eq_of_lt vga.isLt, Nat.mod_eq_of_lt ctle.isLt⟩
  · refine ⟨_, (show execLaneConverged n snr s = _ from next_whenUpS s _ hup), ?_⟩
    have hconv' : snr.toNat ≥ (s.sawSnr n.val snr.toNat).convSnr n.val := by
      rw [State.convSnr_sawSnr]
      exact hconv
    rw [if_pos hstate]
    exact if_pos hconv'
  · refine ⟨_, (show execCdrLockLoss n s = _ from next_whenUpS s _ hup), ?_⟩
    exact if_neg (by simp [hlock, hrate])
  · refine ⟨_, (show execCdrLockGain n s = _ from next_whenUpS s _ hup), ?_⟩
    rw [if_neg hrate]
    refine ⟨State.get_set_same .., ?_⟩
    simp
  · refine ⟨_, (show execLaneSnapshot n snr s = _ from next_whenUpS s _ hup), ?_⟩
    have hlane : (s.sawSnr n.val snr.toNat).lane n.val = s.lane n.val := s.sawSnr_lane ..
    simp only [if_pos hstate, hlane, hdelta]
  · refine ⟨_, (show execLaneDivergence n snr s = _ from next_whenUpS s _ hup), ?_⟩
    have hsnr : (s.sawSnr n.val snr.toNat).get (F.LANE.RXSTS.SNR n.val) = snr.toNat := by
      simp (disch := refine key_ne_of_place rfl rfl ?_; omega) only [State.sawSnr, State.sets_cons, State.sets_nil, State.get_set_other,
        State.get_set_same]
      exact Nat.mod_eq_of_lt snr.isLt
    have hkept : (s.sawSnr n.val snr.toNat).get (F.LANE.RXSTS.STATE n.val) = 2 ∧
        (s.sawSnr n.val snr.toNat).flag (F.LANE.RXADAPT.DIV_GUARD n.val) = true ∧ snr.toNat + 12 < (s.sawSnr n.val snr.toNat).convSnr n.val := by
      simp (disch := refine key_ne_of_place rfl rfl ?_; omega) only [State.flag, State.convSnr_sawSnr, State.sawSnr_get]
      exact ⟨hstate, hguard, hfall⟩
    simp only [if_pos hstate, hkept, hsnr]
    rfl
  · refine ⟨_, next_regWr s src (0x100 + n.val) 0x108 _ h, ?_⟩
    rw [State.writeReg_rxadapt, withBit_word_mod v 1 true (by decide)]
    exact State.wrRxadapt_restart ((congrArg (· != 0) (State.get_charged ..)).trans hfree) ((bitOf_withBit_other _ _ (by decide)).trans hfreeze)
      (bitOf_withBit_same ..)
  · refine ⟨_, next_regWr s src (0x100 + n.val) 0x108 _ h, ?_⟩
    rw [State.writeReg_rxadapt, withBit_word_mod v 1 false (by decide)]
    have hcur : (s.charged src).get (F.LANE.RXSTS.STATE n.val) = s.get (F.LANE.RXSTS.STATE n.val) := State.get_charged ..
    rw [State.wrRxadapt_freeze ((congrArg (· != 0) (State.get_charged ..)).trans hfree) ((bitOf_withBit_other _ _ (by decide)).trans hfreeze)
      (bitOf_withBit_same ..), hcur]
  · refine ⟨_, (show execHistoryFallbackTimeout n s = _ from next_whenUpS s _ hup), ?_⟩
    exact if_pos ⟨htry, hstate⟩
  · refine ⟨_, (show execSweepPresetTimeout n snr s = _ from next_whenUpS s _ hup), ?_⟩
    simp only [hsweep, hkept, hbest, hstate, ne_eq, not_true_eq_false, if_false, Bool.not_false, Bool.true_and, decide_true, if_true, hmore]
  · refine ⟨_, (show execLockLossRetrain n s = _ from next_whenUpS s _ hup), ?_⟩
    rw [if_neg (by simp [hrelock])]
    exact if_pos (.inl hunder)

end Sys2Proof.Machine
end

section
/-! The rows of a lane's test functions and its scanner (02_lanes.md R52 to R62). -/
namespace Sys2Proof.Machine

theorem State.writeReg_patgen (s : State) (n pr v : Nat) : s.writeReg (0x100 + n) 0x118 pr v = s.wrPatgen n v := State.writeReg_lane _ _ _ _ _ (by decide)
theorem State.writeReg_patchk (s : State) (n pr v : Nat) : s.writeReg (0x100 + n) 0x130 pr v = s.wrPatchk n v := State.writeReg_lane _ _ _ _ _ (by decide)
theorem State.writeReg_errinj (s : State) (n pr v : Nat) : s.writeReg (0x100 + n) 0x150 pr v = s.wrErrinj n v := State.writeReg_lane _ _ _ _ _ (by decide)
theorem State.writeReg_loopback (s : State) (n pr v : Nat) : s.writeReg (0x100 + n) 0x158 pr v = s.wrLoopback n v :=
  State.writeReg_lane _ _ _ _ _ (by decide)
theorem State.writeReg_eyescan (s : State) (n pr v : Nat) : s.writeReg (0x100 + n) 0x160 pr v = s.wrEyescan n v :=
  State.writeReg_lane _ _ _ _ _ (by decide)

/-- Counts that reach the top of PATCHK_BITS stop all three counters. -/
theorem State.addCounts_full {s : State} {n : Nat} (errs syms : Nat) (hrun : s.flag (F.LANE.PATCHK_BITS.SAT n) = false) :
    (s.addCounts n (2 ^ 48 - 1) errs syms).get (F.LANE.PATCHK_BITS.SAT n) = 1 ∧
      (s.addCounts n (2 ^ 48 - 1) errs syms).get (F.LANE.PATCHK_ERRS.SAT n) = 1 ∧
      (s.addCounts n (2 ^ 48 - 1) errs syms).get (F.LANE.PATCHK_SYMERRS.SAT n) = 1 := by
  unfold State.addCounts
  extract_lets nrz bits errs' syms' t
  have hfull : t.get (F.LANE.PATCHK_BITS.COUNT n) = 2 ^ 48 - 1 := by
    simp (disch := refine key_ne_of_place rfl rfl ?_; omega) only [t, State.addSat, State.get_set_other, State.get_set_same]
    have hmin : min (s.get (F.LANE.PATCHK_BITS.COUNT n) + bits) (2 ^ (F.LANE.PATCHK_BITS.COUNT n).width - 1) = 2 ^ 48 - 1 := by
      refine Nat.min_eq_right ?_
      show 2 ^ 48 - 1 ≤ _
      omega
    rw [hmin]
    rfl
  rw [if_neg (by simp [hrun]), if_pos hfull]
  simp (disch := refine key_ne_of_place rfl rfl ?_; omega) only [State.sets_cons, State.sets_nil, State.get_set_other, State.get_set_same]
  exact ⟨rfl, rfl, rfl⟩

/-- Of two changes of one bit the later one counts. -/
theorem withBit_withBit_same (v i : Nat) (b c : Bool) : withBit (withBit v i b) i c = withBit v i c := by
  rcases h : bitOf v i with _ | _
  · have hset := bitOf_same_of_off v i h
    cases b <;> cases c <;> simp [withBit, h, hset]
  · obtain ⟨hclear, hback⟩ := on_as_add v i h
    cases b <;> cases c <;> simp [withBit, h, hclear, hback]

/-- A field of a lane's page does not decide whether a lane's port is OFF. -/
theorem State.laneOff_set {s : State} {n : Nat} {g : Fld} (v : Nat) (hn : n < 192) (hg : 0x100 ≤ g.key / 4194304) :
    (s.set g v).laneOff n = s.laneOff n := by
  have hmode : (F.STN.BIFURC.MODE (n / 16)).key ≠ g.key := by
    intro e
    rw [← e] at hg
    simp only [F.STN.BIFURC.MODE, fld] at hg
    omega
  have hport : (s.set g v).portOfLane n = s.portOfLane n := State.portOfLane_get n (State.get_set_other _ _ _ _ hmode)
  have hlt : s.portOfLane n < 48 := by
    unfold State.portOfLane
    dsimp only
    split
    · omega
    · split
      · split <;> omega
      · split
        · omega
        · split <;> omega
  have hrole : g.key ≠ (F.STN.PORT_ROLE.ROLE (s.portOfLane n)).key := by
    intro e
    rw [e] at hg
    simp only [F.STN.PORT_ROLE.ROLE, fld] at hg
    omega
  rw [State.laneOff, hport, State.role_set _ _ _ _ hrole]
  rfl

/-- Settles O30. -/
theorem laneTestRowsComplete : Obligations.LaneTestRowsComplete := by
  refine ⟨fun n src v s h hen hoff hfive hsix => ?_, fun n src v s h => ?_, fun n src v s h => ?_, fun n s hup hen hoff => ?_,
    fun n bits errs syms s hup hlocked => ?_, fun n errs syms s hup hlocked hrun => ?_, fun n src v s h honce => ?_, fun n s hup hgo hper => ?_,
    fun n src v s h hoff => ?_, fun n src v s h hidle hfree => ?_, fun n pts errs uv s hup hbusy hrun hmode => ?_,
    fun n c s hup hrole hstate hall => ?_⟩
  · refine ⟨_, next_regWr s src (0x100 + n.val) 0x118 _ h, ?_⟩
    rw [State.writeReg_patgen, Nat.mod_eq_of_lt v.isLt]
    simp [State.wrPatgen, hen, hoff, hfive, hsix]
  · refine ⟨_, next_regWr s src (0x100 + n.val) 0x130 _ h, ?_⟩
    rw [State.writeReg_patchk, withBit_word_mod v 1 false (by decide)]
    simp [State.wrPatchk, bitOf_withBit_other]
  · refine ⟨_, next_regWr s src (0x100 + n.val) 0x130 _ h, ?_⟩
    rw [State.writeReg_patchk, withBit_word_mod v 1 true (by decide)]
    simp [State.wrPatchk, bitOf_withBit_other]
  · refine ⟨_, (show execCheckerLock n s = _ from next_whenUpS s _ hup), ?_⟩
    rw [if_pos (by simp [hen, hoff])]
    exact State.get_set_same ..
  · refine ⟨_, (show execCheckerRelock n bits errs syms s = _ from next_whenUpS s _ hup), if_pos hlocked, ?_⟩
    rw [if_pos hlocked]
    simp (disch := refine key_ne_of_place rfl rfl ?_; omega) only [State.addSat, State.get_set_other, State.get_set_same]
    rfl
  · refine ⟨_, (show execPatchkSaturate n errs syms s = _ from next_whenUpS s _ hup), if_pos (by simp [hlocked, hrun]), ?_⟩
    rw [if_pos (by simp [hlocked, hrun])]
    exact State.addCounts_full _ _ hrun
  · refine ⟨_, next_regWr s src (0x100 + n.val) 0x150 _ h, ?_⟩
    rw [State.writeReg_errinj, withBit_word_mod v 0 true (by decide)]
    simp [State.wrErrinj, bitOf_withBit_other, honce]
  · refine ⟨_, (show execErrinjInterval n s = _ from next_whenUpS s _ hup), if_pos (by simp [hgo, hper]), ?_⟩
    rw [if_pos (by simp [hgo, hper])]
    simp [State.injectOne, State.emit]
  · refine ⟨_, next_regWr s src (0x100 + n.val) 0x158 _ h, ?_⟩
    rw [State.writeReg_loopback, Nat.mod_eq_of_lt v.isLt]
    have hoff' : ((s.charged src).sets [(F.LANE.LOOPBACK.TX_OFF n.val, bitsOf v.toNat 3 3), (F.LANE.LOOPBACK.MODE n.val, bitsOf v.toNat 2 0),
        (F.LANE.LOOPBACK.REFUSED n.val, 0)]).laneOff n.val = true := by
      refine (State.laneOff_set _ n.isLt ?_).trans ((State.laneOff_set _ n.isLt ?_).trans ((State.laneOff_set _ n.isLt ?_).trans ?_))
      case refine_4 => rw [State.laneOff_charged, hoff]
      all_goals
        simp only [F.LANE.LOOPBACK.TX_OFF, F.LANE.LOOPBACK.MODE, F.LANE.LOOPBACK.REFUSED, fld]
        omega
    rw [State.wrLoopback]
    dsimp only
    rw [hoff', if_neg (by simp [hoff])]
    rfl
  · refine ⟨_, next_regWr s src (0x100 + n.val) 0x160 _ h, ?_⟩
    rw [State.writeReg_eyescan, withBit_word_mod v 0 true (by decide)]
    have hidle' : ((s.charged src).writePlain (0x100 + n.val) 0x160 0 (withBit v.toNat 0 false)).flag (F.LANE.EYESCAN_STS.BUSY n.val) = false := by
      have hplace : (F.LANE.EYESCAN_STS.BUSY n.val).key / 64 = (0x100 + n.val) * 65536 + 0x168 := by
        simp only [F.LANE.EYESCAN_STS.BUSY, fld]
        omega
      have hget := State.writePlain_get_other (s.charged src) (0x100 + n.val) 0x160 0 (withBit v.toNat 0 false) (F.LANE.EYESCAN_STS.BUSY n.val)
        (by omega) (by omega) (by omega)
      rw [State.flag, hget, State.get_charged]
      exact hidle
    simp only [State.wrEyescan, withBit_withBit_same, bitOf_withBit_same, hidle', Bool.not_true, Bool.false_eq_true, if_false]
    have hlane : (((s.charged src).writePlain (0x100 + n.val) 0x160 0 (withBit v.toNat 0 false)).set (F.LANE.EYESCAN.GO n.val) 1).lane n.val =
        (s.charged src).lane n.val := State.writePlain_lane ..
    exact if_neg (by simp [hlane, hfree])
  · refine ⟨_, (show execEyescanDone n pts errs uv s = _ from next_whenUpS s _ hup), ?_⟩
    simp (disch := refine key_ne_of_place rfl rfl ?_; omega) only [State.scanDone, hbusy, hrun, State.endScan, Bool.not_true, Bool.or_self,
      Bool.false_eq_true, if_false, State.sets_cons, State.sets_nil, State.get_set_other, State.get_setLane, hmode, if_true, State.get_set_same]
    exact ⟨Nat.mod_eq_of_lt errs.isLt, Nat.mod_eq_of_lt uv.isLt, rfl, rfl⟩
  · refine ⟨_, (show execLaneMarginingCmd n c s = _ from next_whenUpS s _ hup), ?_⟩
    simp [hrole, hstate, hall]

end Sys2Proof.Machine
end

section
/-! The rows of a port's registers, its resets and hot-plug (03_ports.md R67 to R92; 10_sharing.md R287). -/
namespace Sys2Proof.Machine

/-- The fields of LINK_CTL that a write of `v` places. -/
def State.linkCtl (s : State) (p v : Nat) : State :=
  s.sets [(F.STN.LINK_CTL.WIDTH_REQ p, bitsOf v 28 24), (F.STN.LINK_CTL.PRST_ASSERT p, bitsOf v 8 8), (F.STN.LINK_CTL.DISABLE p, bitsOf v 4 4)]

@[simp] theorem State.linkCtl_role (s : State) (p v : Nat) : (s.linkCtl p v).role p = s.role p := by
  simp (disch := refine key_ne_of_place rfl rfl ?_; omega) only [State.linkCtl, State.role, State.sets_cons, State.sets_nil, State.get_set_other]

@[simp] theorem State.linkCtl_linkUp (s : State) (p v q : Nat) : (s.linkCtl p v).linkUp q = s.linkUp q := rfl

/-- A write that raises DISABLE. -/
theorem State.wrLinkCtl_disable {s : State} {p v : Nat} (hdis : bitOf v 4 = true) (hprst : bitOf v 8 = false) (hwidth : bitOf v 2 = false)
    (hwas : s.flag (F.STN.LINK_CTL.DISABLE p) = false) : s.wrLinkCtl p v = (s.linkCtl p v).disable p := by
  simp [State.wrLinkCtl, hdis, hprst, hwidth, hwas, State.linkCtl]

/-- A write that raises PRST_ASSERT on a DEV port whose link is down. -/
theorem State.wrLinkCtl_prst {s : State} {p v : Nat} (hdis : bitOf v 4 = false) (hprst : bitOf v 8 = true) (hwidth : bitOf v 2 = false)
    (hwas : s.flag (F.STN.LINK_CTL.DISABLE p) = false) (hpwas : s.flag (F.STN.LINK_CTL.PRST_ASSERT p) = false) (hrole : s.role p = 2)
    (hdown : s.linkUp p = false) : s.wrLinkCtl p v = (s.linkCtl p v).assertPrst p := by
  have hrole' := (s.linkCtl_role p v).trans hrole
  have hdown' := (s.linkCtl_linkUp p v p).trans hdown
  simp only [State.linkCtl] at hrole' hdown'
  simp [State.wrLinkCtl, hdis, hprst, hwidth, hwas, hpwas, State.linkCtl] at hrole' hdown' ⊢
  simp [hrole', hdown']

/-- A write with HOT_RESET that holds the link neither before nor after. -/
theorem State.wrLinkCtl_hotReset {s : State} {p v : Nat} (hdis : bitOf v 4 = false) (hprst : bitOf v 8 = false) (hwidth : bitOf v 2 = false)
    (hhot : bitOf v 3 = true) (hwas : s.flag (F.STN.LINK_CTL.DISABLE p) = false) :
    s.wrLinkCtl p v =
      if s.role p == 2 && s.linkUp p then ((s.linkCtl p v).hotReset p).devLinkLost p else (s.linkCtl p v).hotReset p := by
  have hrole := s.linkCtl_role p v
  have hup := s.linkCtl_linkUp p v p
  rw [← hrole, ← hup]
  simp [State.wrLinkCtl, hdis, hprst, hwidth, hwas, hhot, State.linkCtl]

/-- A write with RETRAIN alone. -/
theorem State.wrLinkCtl_retrain {s : State} {p v : Nat} (hdis : bitOf v 4 = false) (hprst : bitOf v 8 = false) (hhot : bitOf v 3 = false)
    (hwidth : bitOf v 2 = false) (hre : bitOf v 1 = true) (hwas : s.flag (F.STN.LINK_CTL.DISABLE p) = false) :
    s.wrLinkCtl p v = (s.linkCtl p v).goRetrain p := by
  simp [State.wrLinkCtl, hdis, hprst, hwidth, hwas, hhot, hre, State.linkCtl]

/-- A write with WIDTH_GO alone. -/
theorem State.wrLinkCtl_width {s : State} {p v : Nat} (hdis : bitOf v 4 = false) (hprst : bitOf v 8 = false) (hhot : bitOf v 3 = false)
    (hre : bitOf v 1 = false) (hwidth : bitOf v 2 = true) (hwas : s.flag (F.STN.LINK_CTL.DISABLE p) = false) :
    s.wrLinkCtl p v = (s.linkCtl p v).goWidth p := by
  simp [State.wrLinkCtl, hdis, hprst, hwidth, hwas, hhot, hre, State.linkCtl]

@[simp] theorem State.flag_charged (s : State) (src : Path) (f : Fld) : (s.charged src).flag f = s.flag f := by rw [State.flag, State.get_charged]; rfl

/-- Settles O31. -/
theorem portRowsComplete : Obligations.PortRowsComplete := by
  refine ⟨fun st src v s h hoff => ?_, fun p src v s h hcode hoff hnew => ?_, fun p src v s h hdis hprst hwidth hwas => ?_,
    fun p src v s h hdis hprst hwidth hwas hpwas hrole hdown => ?_, fun p src v s h hdis hprst hwidth hwas hrole hlink => ?_,
    fun p src v s h hdis hprst hwidth hwas hdown => ?_, fun p src v s h hdis hprst hhot hwidth hwas => ?_,
    fun p src v s h hdis hprst hhot hre hwas => ?_, fun p s hup hmin hnone => ?_, fun p v s hup hrole hrst hhost => ?_,
    fun p s hup hrole hrst => ?_, fun p v s hup hrole hlink hhost => ?_, fun vh s hup hreset hover => ?_,
    fun p s hup => ⟨_, (show execDevPrstRelease p s = _ from next_whenUpS s _ hup), rfl⟩,
    fun reads s hup => ⟨_, (show execHotplugPoll reads s = _ from next_whenUpS s _ hup), rfl⟩, fun vh d on s hup hd hstate hbit => ?_,
    fun p reqId s hup hrole hlink hptm hsync => ?_⟩
  · refine ⟨_, next_regWr s src (0x10 + st.val) 0x100 _ h, ?_⟩
    rw [State.writeReg_bifurc _ _ _ _ st.isLt, Nat.mod_eq_of_lt v.isLt]
    simp [State.wrBifurc, hoff]
  · refine ⟨_, next_regWr s src (0x10 + p.val / 4) (0x110 + 8 * (p.val % 4)) _ h, ?_⟩
    rw [State.writeReg_portRole _ _ _ _ p.isLt, Nat.mod_eq_of_lt v.isLt]
    simp [State.wrPortRole, hcode, hoff, hnew, Ne.symm hnew]
  · refine ⟨_, next_regWr s src (0x10 + p.val / 4) (0x130 + 8 * (p.val % 4)) _ h, ?_⟩
    rw [State.writeReg_linkCtl _ _ _ _ p.isLt, Nat.mod_eq_of_lt v.isLt]
    exact State.wrLinkCtl_disable hdis hprst hwidth ((State.flag_charged ..).trans hwas)
  · refine ⟨_, next_regWr s src (0x10 + p.val / 4) (0x130 + 8 * (p.val % 4)) _ h, ?_⟩
    rw [State.writeReg_linkCtl _ _ _ _ p.isLt, Nat.mod_eq_of_lt v.isLt]
    exact State.wrLinkCtl_prst hdis hprst hwidth ((State.flag_charged ..).trans hwas) ((State.flag_charged ..).trans hpwas)
      ((State.role_charged ..).trans hrole) ((State.linkUp_charged ..).trans hdown)
  · refine ⟨_, next_regWr s src (0x10 + p.val / 4) (0x130 + 8 * (p.val % 4)) _ h, ?_⟩
    rw [State.writeReg_linkCtl _ _ _ _ p.isLt, withBit_word_mod v 3 true (by decide),
      State.wrLinkCtl_hotReset ((bitOf_withBit_other _ _ (by decide)).trans hdis) ((bitOf_withBit_other _ _ (by decide)).trans hprst)
        ((bitOf_withBit_other _ _ (by decide)).trans hwidth) (bitOf_withBit_same ..) ((State.flag_charged ..).trans hwas), if_pos (by simp [hrole, hlink])]
    simp [State.hotReset, hrole, hlink]
    rfl
  · refine ⟨_, next_regWr s src (0x10 + p.val / 4) (0x130 + 8 * (p.val % 4)) _ h, ?_⟩
    rw [State.writeReg_linkCtl _ _ _ _ p.isLt, withBit_word_mod v 3 true (by decide),
      State.wrLinkCtl_hotReset ((bitOf_withBit_other _ _ (by decide)).trans hdis) ((bitOf_withBit_other _ _ (by decide)).trans hprst)
        ((bitOf_withBit_other _ _ (by decide)).trans hwidth) (bitOf_withBit_same ..) ((State.flag_charged ..).trans hwas), if_neg (by simp [hdown])]
    rfl
  · refine ⟨_, next_regWr s src (0x10 + p.val / 4) (0x130 + 8 * (p.val % 4)) _ h, ?_⟩
    rw [State.writeReg_linkCtl _ _ _ _ p.isLt, withBit_word_mod v 1 true (by decide)]
    exact State.wrLinkCtl_retrain ((bitOf_withBit_other _ _ (by decide)).trans hdis) ((bitOf_withBit_other _ _ (by decide)).trans hprst)
        ((bitOf_withBit_other _ _ (by decide)).trans hhot) ((bitOf_withBit_other _ _ (by decide)).trans hwidth) (bitOf_withBit_same ..)
        ((State.flag_charged ..).trans hwas)
  · refine ⟨_, next_regWr s src (0x10 + p.val / 4) (0x130 + 8 * (p.val % 4)) _ h, ?_⟩
    rw [State.writeReg_linkCtl _ _ _ _ p.isLt, withBit_word_mod v 2 true (by decide)]
    exact State.wrLinkCtl_width ((bitOf_withBit_other _ _ (by decide)).trans hdis) ((bitOf_withBit_other _ _ (by decide)).trans hprst)
        ((bitOf_withBit_other _ _ (by decide)).trans hhot) ((bitOf_withBit_other _ _ (by decide)).trans hre) (bitOf_withBit_same ..)
        ((State.flag_charged ..).trans hwas)
  · refine ⟨_, (show execPrstHoldExpiry p s = _ from next_whenUpS s _ hup), ?_⟩
    have hnone' : (s.setPrst p.val { s.prst p.val with minTimer := false }).vdspOfPort p.val = none := hnone
    simp [hmin, hnone']
  · refine ⟨_, (show execHostPrstAssert p s = _ from next_whenUpS s _ hup), ?_⟩
    simp [hrole, hrst, hhost]
  · exact ⟨_, (show execHostPrstRelease p s = _ from next_whenUpS s _ hup), if_pos ⟨hrole, hrst⟩⟩
  · refine ⟨_, (show execHotResetRx p s = _ from next_whenUpS s _ hup), ?_⟩
    simp [hrole, hlink, hhost]
  · exact ⟨_, (show execVhResetDone vh s = _ from next_whenUpS s _ hup), if_pos (by simp [hreset, hover])⟩
  · refine ⟨_, (show execSlotPowerCtrl vh d on s = _ from next_whenUpS s _ hup), ?_⟩
    have hkept : (bitOf (s.cfg vh.val d.val 0x22) 10 == !on) = false := by rw [hbit]; cases on <;> rfl
    exact if_neg (by simp [hd, hstate, hkept])
  · exact ⟨_, (show execPtmRequestRx p reqId s = _ from next_whenUpS s _ hup), if_pos (by simp [hrole, hlink, hptm, hsync])⟩

end Sys2Proof.Machine
end

section
/-! The rows of link training and of width changes in service (03_ports.md R73 to R79; 04_link_layer.md R127). -/
namespace Sys2Proof.Machine

/-- A training that reports L0 with a width on converged lanes reaches it, whether the link was up before or not. -/
theorem State.trainStep_reachL0 {s : State} {p : Nat} {t : TrainStep} (hrole : s.role p = 1 ∨ s.role p = 2) (hheld : s.linkHeld p = false)
    (hrst : (s.port p).hostRst = false) (hunder : (s.port p).under = 4) (hstate : t.state = 6) (hwidth : t.width ≠ 0) (hlanes : s.lanesOk p t = true) :
    s.trainStep p t = s.reachL0 p t := by
  have hpos : 0 < t.width.toNat := Nat.pos_of_ne_zero fun h0 => hwidth (BitVec.eq_of_toNat_eq h0)
  simp [State.trainStep, hheld, hrst, hunder, hstate, hpos, hlanes]
  omega

theorem State.role_raise (s : State) (e : Nat) {p : Nat} (o : EvArg) (hp : p < 48) : (s.raise e o).role p = s.role p := by
  refine State.get_raise _ _ _ ?_
  simp only [Fld.still, F.STN.PORT_ROLE.ROLE, fld]
  omega

/-- Capping a port's rate after a failure leaves its role. -/
theorem State.role_failRate (s : State) (p m : Nat) (x : PortSt) :
    ((s.setPort p x).sets [(F.STN.LINK_STS.CONV_FAIL p, m), (F.STN.LINK_STS.CAP_CONV p, 1)]).role p = s.role p := by
  simp (disch := refine key_ne_of_place rfl rfl ?_; omega) only [State.role, State.sets_cons, State.sets_nil, State.get_set_other]
  rfl

/-- Settles O32. -/
theorem trainingRowsComplete : Obligations.TrainingRowsComplete := by
  refine ⟨fun p width s hup hrole hunder hheld hflit hlegal hneg hown => ?_, fun p s hup hretry hnew hother hok => ?_,
    fun p w s hup hnew hready hrole hown => ?_, fun p t s hup hrole hheld hrst hunder hstate hwidth hlanes => ?_, fun p s hup hrole hunder => ?_,
    fun p rev pol s hup hrole hunder => ?_, fun p s hup hrole hunder => ?_, fun p m s hup hrole hunder hpartner hsent => ?_,
    fun p m r s hup hrole hunder hheld hsent hpartner hconv hr hsome hall => ?_, fun p rate lanes bad s hup hrole hunder hbad hsome => ?_⟩
  · refine ⟨_, (show execPartnerWidthRequest p width s = _ from next_whenUpS s _ hup), ?_⟩
    have hpcie : (s.role p.val == 1 || s.role p.val == 2) = true := by simpa using hrole
    rw [if_neg (by rw [hpcie, hunder, hheld, hflit, hlegal]; decide), if_neg (Nat.not_lt.mpr hneg)]
    simp [hown]
  · refine ⟨_, (show execWidthRetry p s = _ from next_whenUpS s _ hup), ?_⟩
    rw [if_neg (by simp [hretry, hnew])]
    exact (if_neg hother).trans (if_neg (by rw [hok]; decide))
  · refine ⟨_, (show execWidthChangeDone p false s = _ from next_whenUpS s _ hup), ?_⟩
    simp [hnew, hready, hrole, hown]
  · exact ⟨_, (show execPcieTrainingStep p t s = _ from next_whenUpS s _ hup), State.trainStep_reachL0 hrole hheld hrst hunder hstate hwidth hlanes⟩
  · exact ⟨_, (show execRxDetectRepeat p true s = _ from next_whenUpS s _ hup), if_neg (by simp [hrole, hunder])⟩
  · refine ⟨_, (show execTrainAlignRx p rev pol s = _ from next_whenUpS s _ hup), ?_⟩
    simp [hrole, hunder]
  · refine ⟨_, (show execAlignTimeout p s = _ from next_whenUpS s _ hup), ?_⟩
    rw [if_neg (by simp [hrole, hunder])]
    simp only [ge_iff_le, Nat.reduceLeDiff]
  · refine ⟨_, (show execTrainParamRx p m s = _ from next_whenUpS s _ hup), ?_⟩
    simp [State.paramRx, hrole, hunder, hpartner, hsent]
  · refine ⟨_, (show execFabLinkActive p s = _ from next_whenUpS s _ hup), ?_⟩
    rw [if_neg (by simp [hrole, hunder, hheld, hsent])]
    simp only [hpartner, hconv]
    subst hr
    exact if_neg (by rw [hsome]; exact fun h => by rw [if_neg (by decide), hall] at h; exact absurd h (by decide))
  · refine ⟨_, (show execConvFailAtRate p rate lanes s = _ from next_whenUpS s _ hup), ?_⟩
    subst hbad
    refine (if_neg (by rw [hunder, hsome]; simp; omega)).trans ?_
    have hfab : s.role p.val ≠ 3 := by omega
    simp only [if_neg hfab]
    refine if_neg fun h => hfab (Eq.trans ?_ h.1)
    rw [State.role_raise _ _ _ p.isLt, State.role_failRate]

end Sys2Proof.Machine
end

section
/-! The rows of the Halud link layer (04_link_layer.md R99 to R128). -/
namespace Sys2Proof.Machine

/-- A command of a running link layer takes its effect. -/
theorem next_hll (f : State → State) {s : State} {p : PortId} (hup : s.up = true) (hrun : s.flitsRun p.val = true) :
    hllCmd s p f = .next (f s).after := by
  refine (next_whenUpS s _ hup).trans ?_
  simp [hrun]

/-- A flit that decodes with nothing corrected, agrees with its CRC and has a sequenced type goes to its command and its payload. -/
theorem State.flitRx_sequenced {s : State} {p : Nat} {raw l : List Byte} (hfec : fecDecodeAll (scramble (s.hll p).rxW raw 0 (s.hll p).rxScr).1 = some (l, false))
    (hcrc : crc48 (l.take 244) = leNat ((l.drop 244).take 6)) (htype : leNat (l.take 2) / 4096 ≤ 1) :
    s.flitRx p raw =
      (let t := s.setHll p { s.hll p with rxScr := (scramble (s.hll p).rxW raw 0 (s.hll p).rxScr).2 }
       let a := (t.setHll p { t.hll p with badRun := 0 }).cmdRx p (LinkCmd.ofBytes l)
       (if a.flitsRun p then a.seqRx p (leNat (l.take 2) / 4096) (leNat (l.take 2) % 4096) l else a).rxCount p) := by
  have hmgt : leNat (l.take 2) / 4096 ≠ 8 := by omega
  have hknown : ¬ (leNat (l.take 2) / 4096 ≠ 0 ∧ leNat (l.take 2) / 4096 ≠ 1) := by omega
  simp only [State.flitRx, hfec, hcrc, hmgt, hknown, if_false, ne_eq, not_true_eq_false, Bool.false_eq_true]

/-- With nothing sent that waits for its cover, an Ack takes the flits it covers out of the belay buffer and does nothing else to it. -/
theorem State.belay_ackRx {s : State} {p a : Nat} (hsent : (s.hll p).sent = []) :
    ((s.ackRx p a).hll p).belay = (s.hll p).belay.filter fun b => !fsnDone a b.fsn := by
  unfold State.ackRx
  extract_lets x keep mgt replay t u v
  by_cases hall : keep.length = x.belay.length
  · rw [if_pos hall]
    exact (List.filter_eq_self.mpr (List.length_filter_eq_length_iff.mp hall)).symm
  · rw [if_neg hall]
    have hmgt : mgt = [] := by simp [mgt, x, hsent]
    have hv : v = u := by simp [v, x, hsent]
    rw [hmgt, hv, List.foldl_nil]
    exact congrArg Hll.belay (State.hll_setHll_same s p _)

@[simp] theorem State.ropeOf_setHll (s : State) (p q : Nat) (x : Hll) : (s.setHll p x).ropeOf q = s.ropeOf q := rfl

/-- The count of replays of a run is no field of a rope pair. -/
theorem State.ropeOf_setReplayRun (s : State) (p q v : Nat) : (s.set (F.STN.HLL_STS.REPLAY_RUN p) v).ropeOf q = s.ropeOf q := by
  simp (disch := refine key_ne_of_place rfl rfl ?_; omega) only [State.ropeOf, State.flag, State.get_set_other]

/-- A first replay, below the limit, of a port in no rope pair starts from the oldest unacked flit. -/
theorem State.startReplay_first {s : State} {p : Nat} {b : BFlit} {l : List BFlit} (hbelay : (s.hll p).belay = b :: l) (hrun : (s.hll p).runFsn ≠ some b.fsn)
    (hrope : s.ropeOf p = none) (hlimit : 1 < (s.hll p).limit) :
    s.startReplay p =
      (let t := (s.setHll p { s.hll p with runFsn := some b.fsn }).set (F.STN.HLL_STS.REPLAY_RUN p) 1
       (t.setHll p { t.hll p with replay := some b.fsn }).count (Ctr.port p 18) 1) := by
  unfold State.startReplay
  dsimp only
  rw [hbelay]
  dsimp only
  rw [if_neg hrun, State.ropeOf_setReplayRun, State.ropeOf_setHll, hrope]
  exact if_neg (Nat.not_le.mpr hlimit)

/-- Settles O33. -/
theorem linkLayerRowsComplete : Obligations.LinkLayerRowsComplete := by
  refine ⟨fun p lane bytes s hup hrun hlen => ?_, fun p s hup hrun hpend => ?_, fun p s hup hrun hsince => ?_,
    fun p fsn s hup hrun => ⟨_, (show execAckFsnRx p fsn s = _ from next_hll _ hup hrun), rfl, fun _ hsent => State.belay_ackRx hsent⟩,
    fun p fsn s hup hrun hidle => ?_, fun p b l s hup hrun hbelay hrunFsn hrope hlimit => ?_,
    fun p on s hup hrun => ⟨_, (show execMgtOffRx p on s = _ from next_hll _ hup hrun), ?_⟩, fun p vc hdr data s hup hrun hstate hvc => ?_,
    fun p vc hdr data s hup hrun hstate hcycle hvc => ?_, fun p g s hup hrun hstate hres hcycle => ?_, fun p s hup hrun hstate => ?_,
    fun p s hup hrole hstate hunder => ?_, fun p tok width s hup hrun hunder hneg hown => ?_, fun p tok s hup hrun hunder htok hnew hgot hsent => ?_,
    fun p tok s hup hrun hunder htok hnew hgot hsent => ?_, fun p tok left s hup hrun hunder htok hnew hswitch => ?_, fun p s hup hrun hunder => ?_⟩
  · refine ⟨_, (show execFlitRx p lane bytes s = _ from next_whenUpS s _ hup), ?_, fun l hfec hcrc htype => ?_⟩ <;>
      rw [if_neg (not_not_intro hlen), if_pos hrun]
    exact State.flitRx_sequenced hfec hcrc htype
  · exact ⟨_, (show execNakRepeatTimeout p s = _ from next_hll _ hup hrun), if_pos hpend⟩
  · exact ⟨_, (show execAckCoalesceTimeout p s = _ from next_hll _ hup hrun), if_neg hsince⟩
  · refine ⟨_, (show execNakRx p fsn s = _ from next_hll _ hup hrun), ?_⟩
    simp [State.nakRx, hidle]
  · refine ⟨_, (show execReplayTimerExpiry p s = _ from next_hll _ hup hrun), ?_⟩
    exact State.startReplay_first hbelay hrunFsn hrope hlimit
  · cases on <;> exact State.get_set_same ..
  · refine ⟨_, (show execCreditRx p vc hdr data s = _ from next_hll _ hup hrun), ?_⟩
    exact if_neg (by omega)
  · refine ⟨_, (show execInitCreditRx p vc hdr data s = _ from next_hll _ hup hrun), ?_⟩
    simp [State.initCredit, hstate, hcycle, Nat.not_le.mpr hvc]
  · refine ⟨_, (show execInitDoneRx p g false s = _ from next_hll _ hup hrun), ?_⟩
    simp [State.initDone, hstate, hcycle, hres]
  · exact ⟨_, (show execLlInitTimeout p s = _ from next_hll _ hup hrun), if_neg (not_not_intro hstate)⟩
  · exact ⟨_, (show execLlHoldExpiry p s = _ from next_whenUpS s _ hup), if_pos ⟨hrole, hstate, hunder⟩⟩
  · refine ⟨_, (show execWidthReqRx p tok width s = _ from next_hll _ hup hrun), ?_⟩
    simp [State.widthReq, hunder, hown, Nat.not_lt.mpr hneg]
  · refine ⟨_, (show execWidthAckRx p tok true s = _ from next_hll _ hup hrun), ?_⟩
    have hsome := Option.isNone_eq_false_iff.mpr hnew
    simp [State.widthAck, hunder, htok, hsome, hgot, hsent]
  · refine ⟨_, (show execWidthAckRx p tok true s = _ from next_hll _ hup hrun), ?_⟩
    have hsome := Option.isNone_eq_false_iff.mpr hnew
    simp [State.widthAck, hunder, htok, hsome, hgot, hsent]
  · refine ⟨_, (show execWidthSwitchRx p tok left s = _ from next_hll _ hup hrun), ?_⟩
    have hsome := Option.isNone_eq_false_iff.mpr hnew
    simp [State.widthSwitch, hunder, htok, hsome, hswitch]
  · exact ⟨_, (show execRetrainReqRx p s = _ from next_hll _ hup hrun), if_pos hunder⟩

end Sys2Proof.Machine
end

section
/-! The rows of rope pairs and of a transmit slot (04_link_layer.md R129 to R135; 06_switch_core.md R177; 08_egress_scheduling.md R256). -/
namespace Sys2Proof.Machine

/-- Two OFF ports of no other pair, each one of the 48, form the pair that a write names. -/
theorem State.wrRopePair_accepted {s : State} {m v : Nat} (hports : bitsOf v 61 56 < 48 ∧ bitsOf v 53 48 < 48 ∧ bitsOf v 61 56 ≠ bitsOf v 53 48)
    (hoff : s.role (bitsOf v 61 56) = 0 ∧ s.role (bitsOf v 53 48) = 0)
    (hfree : ∀ k < 24, k ≠ m → s.flag (F.ROUTE.ROPE_PAIR.EN k) = true → s.get (F.ROUTE.ROPE_PAIR.PORT_A k) ≠ bitsOf v 61 56 ∧
      s.get (F.ROUTE.ROPE_PAIR.PORT_B k) ≠ bitsOf v 61 56 ∧ s.get (F.ROUTE.ROPE_PAIR.PORT_A k) ≠ bitsOf v 53 48 ∧
      s.get (F.ROUTE.ROPE_PAIR.PORT_B k) ≠ bitsOf v 53 48) :
    s.wrRopePair m v = (s.sets [(F.ROUTE.ROPE_PAIR.EN m, bitsOf v 63 63), (F.ROUTE.ROPE_PAIR.PORT_A m, bitsOf v 61 56),
      (F.ROUTE.ROPE_PAIR.PORT_B m, bitsOf v 53 48), (F.ROUTE.ROPE_PAIR.REFUSED m, 0),
      (F.ROUTE.ROPE_PAIR.STATE m, if bitOf v 63 then 3 else 0)]).setRope m {} := by
  obtain ⟨ha, hb, hab⟩ := hports
  obtain ⟨hoffA, hoffB⟩ := hoff
  refine if_neg ?_
  simp only [ge_iff_le, Nat.not_le.mpr ha, Nat.not_le.mpr hb, hoffA, hoffB, hab, ne_eq, not_true_eq_false, false_or, List.any_eq_true, List.mem_range,
    Bool.and_eq_true, Bool.or_eq_true, bne_iff_ne, beq_iff_eq, not_or, not_exists, not_and]
  constructor
  · rintro k hk ⟨hkm, hen⟩
    obtain ⟨haA, hbA, -, -⟩ := hfree k hk hkm hen
    exact ⟨haA, hbA⟩
  · rintro k hk ⟨hkm, hen⟩
    obtain ⟨-, -, haB, hbB⟩ := hfree k hk hkm hen
    exact ⟨haB, hbB⟩

/-- Settles O34. -/
theorem ropeRowsComplete : Obligations.RopeRowsComplete := by
  refine ⟨fun p s hup hkind => ?_, fun r src v s h hports hoff hfree => ?_, fun p s hup hrun hrope hmember => ?_,
    fun r vc s hup => ⟨_, (show execRopeRejoinSwitch r vc s = _ from next_whenUpS s _ hup), rfl⟩,
    fun r vc s hup => ⟨_, (show execRopeHoldRelease r vc s = _ from next_whenUpS s _ hup), rfl⟩⟩
  · refine ⟨_, (show execTransmitSlot p s = _ from next_whenUpS s _ hup), ?_⟩
    obtain ⟨hrole, hrun⟩ | ⟨hrole, hstate⟩ := hkind
    · simp [State.transmit, hrole, hrun]
    · have hpcie : s.role p.val ≠ 3 := by omega
      simp [State.transmit, hpcie, hrole, hstate]
  · refine ⟨_, next_regWr s src 0x41 (0x800 + 8 * r.val) _ h, ?_⟩
    rw [State.writeReg_ropePair _ _ _ _ r.isLt, Nat.mod_eq_of_lt v.isLt]
    refine State.wrRopePair_accepted hports (by simpa using hoff) fun k hk hkr hen => ?_
    simpa using hfree k hk hkr (by simpa using hen)
  · refine ⟨_, (show execRxSilenceTimeout p s = _ from next_hll _ hup hrun), ?_⟩
    exact if_pos (by rw [hrope, hmember]; rfl)

end Sys2Proof.Machine
end

section
/-! The rows of arrival, lookup and the returns of its reads (04_link_layer.md R142; 05_lookup_windows.md R143 to R157; 10_sharing.md R298). -/
namespace Sys2Proof.Machine

/-- A TLP from outside at an ingress that is not closed goes to the lookup of its windows. -/
theorem State.lookup_outside {s : State} {p : Nat} {it : InTrain} (hmiss : ((s.drainMiss p 33).missLane p).length < 32)
    (hwait : (Tab.getD (s.drainMiss p 33).core.gwWait p []).length < 32) (hhead : (s.drainMiss p 33).nextHead p = some it) (hhal : it.hal = none)
    (hvh : it.vh = none) (hopen : (s.drainMiss p 33).closed p = false) :
    s.lookup p = (let a := s.drainMiss p 33
      ({ a with core := { a.core with inq := Tab.setD a.core.inq p ((Tab.getD a.core.inq p []).filter fun x => x.id != it.id) [] } } : State).lookupTlp a it) := by
  unfold State.lookup
  dsimp only
  rw [if_neg (by simp [hmiss, hwait]), hhead]
  dsimp only
  rw [hhal, hvh]
  refine if_neg fun h => ?_
  simp only [Bool.and_eq_true] at h
  obtain ⟨⟨⟨-, hclosed⟩, -⟩, -⟩ := h
  exact Bool.false_ne_true (hopen.symm.trans hclosed)

/-- A good window entry that no error has spoilt goes to its train. -/
theorem State.missFill_good {s : State} {p i : Nat} {x : Pend} (hfind : ((s.missLane p).find? fun y => y.idx.isSome) = some x)
    (hold : s.oldestRead x.winRead = true) (hidx : x.idx = some i) (hgood : s.xlat.wrtUe.contains i = false) :
    s.missFill p false =
      (let t := if entValid x.entry && !x.stale && s.flag F.XLAT.TC_CTL.EN then s.cachePut i x.entry else s
       (t.setMiss p (setPend (t.missLane p) x.it.id { x with idx := none })).drainMiss p 33) := by
  simp only [State.missFill, hfind, hold, hidx, hgood, Option.getD_some, Bool.not_true, Bool.false_eq_true, if_false, Bool.or_false]

/-- A good context goes to its train. -/
theorem State.ctxFill_good {s : State} {p i : Nat} {x : Pend} (hfind : ((s.missLane p).find? fun y => y.ctxWait) = some x)
    (hold : s.oldestRead x.ctxRead = true) (hctx : s.ctxFor x.vh x.t = some i) (hgood : s.ctxs.ue.contains i = false) :
    s.ctxFill p false =
      (let t := s.ctxCache i
       (t.setMiss p (setPend (t.missLane p) x.it.id { x with ctxWait := false, ctx := some (i, t.ctxAt i) })).drainMiss p 33) := by
  simp only [State.ctxFill, hfind, hold, hctx, hgood, Bool.not_true, Bool.false_eq_true, if_false, Bool.or_false]

/-- Settles O35. -/
theorem lookupRowsComplete : Obligations.LookupRowsComplete := by
  refine ⟨fun p t tail vc s hup hrole hunder hvc hopen hover htail => ?_, fun p t vc s hup hrole hunder hvc => ?_,
    fun p it s hup hmiss hwait hhead hhal hvh hopen => ⟨_, (show execTrainLookup p s = _ from next_whenUpS s _ hup),
      State.lookup_outside hmiss hwait hhead hhal hvh hopen⟩,
    fun p x i s hup hfind hold hidx hgood => ?_, fun p x i s hup hfind hold hctx hgood => ?_⟩
  · have hpcie : (s.role p.val == 1 || s.role p.val == 2) = true := by simpa using hrole
    refine ⟨_, (show execTlpRx p t tail vc s = _ from next_whenUpS s _ hup), ?_⟩
    rw [if_neg (by rw [hpcie, hunder, hvc]; simp), if_neg htail]
    dsimp only
    rw [hopen, hover]
    rfl
  · have hpcie : (s.role p.val == 1 || s.role p.val == 2) = true := by simpa using hrole
    refine ⟨_, (show execTlpRx p t .badLcrc vc s = _ from next_whenUpS s _ hup), ?_⟩
    rw [if_neg (by rw [hpcie, hunder, hvc]; simp)]
    rfl
  · refine ⟨_, (show execXlatMissFill p .ok s = _ from next_whenUpS s _ hup), ?_⟩
    have hres : s.winRes p.val .ok = .ok := by simp only [State.winRes, hfind, hidx, Option.getD_some, hgood, Bool.false_eq_true, if_false]
    rw [hres, State.eccClient, ite_self]
    exact State.missFill_good hfind hold hidx hgood
  · refine ⟨_, (show execCtxMissFill p .ok s = _ from next_whenUpS s _ hup), ?_⟩
    have hres : s.ctxRes p.val .ok = .ok := by simp only [State.ctxRes, hfind, hctx, Option.any_some, hgood, Bool.false_eq_true, if_false]
    rw [hres, State.eccClient, ite_self]
    exact State.ctxFill_good hfind hold hctx hgood

end Sys2Proof.Machine
end

section
/-! The rows of the switch core (06_switch_core.md R169 to R189; 07_buffer_multicast.md R213 to R220). -/
namespace Sys2Proof.Machine

/-! ### Offers -/

/-- The next coupling of a train not found bad is requested. -/
theorem State.offerCpl_good {s a b : State} {x i : Nat} {t t' : Train} (hpick : s.pick (s.offerers x) = (some t, a)) (hnext : a.nextCpl t = some i)
    (hgood : t.bad = none) (hb : b = if t.begun then a else a.numberTrain t) (ht : b.train? t.id = some t') :
    s.offerCpl x = b.putTrain (t'.setCpl (planePort t'.dst) i fun c => { c with st := 1 }) := by
  simp only [State.offerCpl, hpick, hnext, hgood, ite_self, ← hb, ht]

/-- A train found bad that is not cut through is nullified. -/
theorem State.offerCpl_bad {s a : State} {x i code : Nat} {t : Train} (hpick : s.pick (s.offerers x) = (some t, a)) (hnext : a.nextCpl t = some i)
    (hbad : t.bad = some code) (hct : t.ct = false) : s.offerCpl x = a.nullify t code := by
  simp [State.offerCpl, hpick, hnext, hbad, hct]

/-- A train picked from a list shows that the list is not empty. -/
theorem State.ne_nil_of_pick {α : Type} {s a : State} {l : List α} {t : α} (h : s.pick l = (some t, a)) : l ≠ [] := by
  rintro rfl
  simp [State.pick] at h

/-- A multicast train that has begun requests its next coupling at every target station. -/
theorem State.mcOffer_begun {s a : State} {x i : Nat} {t t' : Train}
    (hpick : s.pick ((s.trainList.filter fun t => t.x == x && t.mcast && t.inBuffer && (s.mcNext t).isSome &&
      (t.begun || (!s.mcHeld t && s.sidingRoom t))).filter Train.begun) = (some t, a)) (hnext : a.mcNext t = some i) (hbegun : t.begun = true)
    (ht : a.train? t.id = some t') :
    s.mcOffer x = a.putTrain { t' with legs := t'.legs.map fun l => { l with cpls := l.cpls.modify i fun c => if c.st = 0 then { c with st := 1 } else c } } := by
  unfold State.mcOffer
  dsimp only
  rw [if_pos (State.ne_nil_of_pick hpick), hpick]
  simp only [hnext, hbegun, if_true, ht]

/-! ### The planes -/

/-- The rotating order of the outputs over one output alone is that output. -/
theorem rotated_single (f : Nat) (o : XportId) : (((List.range 14).map fun k => (f + k) % 14).filter [o.val].contains) = [o.val] := by
  have hrotate : ∀ (f : Fin 14) (o : XportId), (((List.range 14).map fun k => (f.val + k) % 14).filter [o.val].contains) = [o.val] := by decide
  simpa using hrotate ⟨f % 14, Nat.mod_lt _ (by decide)⟩ o

/-- With no other output in the command, only the output of the command decides. -/
theorem named_single (o : XportId) : ((List.range 14).filter fun y => y == o.val || bitOf (0 : BitVec 14).toNat y) = [o.val] := by
  decide +revert

/-- Idle outputs decide in rotating order, each among the inputs that the earlier ones left. -/
theorem State.arbitrate_idle {s : State} {n : Nat} {m w : List Nat} (hidle : (m.any fun y => s.outBusy n y) = false)
    (hw : w = ((List.range 14).map fun k => (Tab.getD s.core.first n 13 + 1 + k) % 14).filter (m ++ s.targets n m).contains) :
    s.arbitrate n m = (let a : State := { s with core := { s.core with first := Tab.put s.core.first n (w.headD 0) } }
      (a.decideAll n [] [] w).2.foldl (fun b e => b.granted n e) (a.decideAll n [] [] w).1) := by
  have hbusy : (m.filter fun y => s.outBusy n y) = [] := by simpa [List.filter_eq_nil_iff] using hidle
  unfold State.arbitrate
  dsimp only
  rw [hbusy, List.foldl_nil, ← hw]

/-- A grant of one train marks its stage and, the train being unicast, touches nothing else. -/
theorem State.granted_unicast {s : State} {n id i : Nat} {t : Train} (ht : s.train? id = some t) (huni : t.mcast = false) :
    s.granted n (id, i) = if i = 0 then s.cairnStage id 2 else s := by
  have hkept : (if i = 0 then s.cairnStage id 2 else s).train? id = some t := by
    split
    · exact ht
    · exact ht
  simp only [State.granted, hkept, huni, Bool.not_false, if_true]

/-- An output that decides alone grants its winner. -/
theorem State.decideAll_single {s : State} {n o i : Nat} {t : Train} {l : Leg} {c : Cpl} (hwin : s.winner n o [] = some (t, l, i, c)) :
    s.decideAll n [] [] [o] = ((s.bookGrant n o [] t i true).putTrain (t.setCpl o i fun c => { c with st := 2 }), [(t.id, i)]) := by
  simp only [State.decideAll, State.decideAt, hwin]
  rfl

/-- The earliest coupling that each sequence lacks, where a station's yard holds a later one of it. -/
def State.yardGaps (s : State) (y : Nat) : List (Train × Leg × Nat × Cpl) :=
  ((s.cplsAt y fun _ c => c.st == 3).map fun r => r.1.seqKey y).eraseDups.filterMap fun k =>
    match s.lacking k y with
    | [] => none
    | m :: _ =>
      if (s.cplsAt y fun _ c => c.st == 3).any fun r => r.1.seqKey y == k && decide (s.csnDist r.1 y r.2.2.2 > s.csnDist m.1 y m.2.2.2) then some m
      else none

theorem State.yardMissing_eq (s : State) (y : Nat) :
    s.yardMissing y = match s.pick (s.yardGaps y) with
      | (none, t) => t
      | (some m, t) => t.missing y m := rfl

/-- One of them is declared missing. -/
theorem State.yardMissing_first {s a : State} {y : Nat} {m : Train × Leg × Nat × Cpl} (hpick : s.pick (s.yardGaps y) = (some m, a)) :
    s.yardMissing y = a.missing y m := by
  rw [State.yardMissing_eq, hpick]

/-- Settles O37. -/
theorem switchRowsComplete : Obligations.SwitchRowsComplete := by
  refine ⟨fun x t t' i a b s hup hpick hnext hgood hb ht => ⟨_, (show execCouplingOffer x s = _ from next_whenUpS s _ hup),
      State.offerCpl_good hpick hnext hgood hb ht⟩,
    fun x t i code a s hup hpick hnext hbad hct => ⟨_, (show execCouplingOffer x s = _ from next_whenUpS s _ hup),
      State.offerCpl_bad hpick hnext hbad hct⟩,
    fun n o t t' l i c a b s hup hidle hmc ha hwin hb ht huni => ?_, fun n o also m w a s hup hm hidle hw ha => ?_,
    fun n o e t t' l i c r b s hup hfirst hb ht huni => ?_, fun y t l i c a s hup hpick huni hdst => ?_, fun y m g a s hup hg hpick => ?_,
    fun x y m g a s hup hg hpick => ?_, fun n s hup hstate => ?_, fun n s hup hstate => ?_,
    fun x t t' i l a s hup hl hpick hnext hbegun ht => ?_, fun t0 t l i c r a s hup hnext ha ht => ?_, fun y t l r s hup hlist => ?_⟩
  · refine ⟨_, (show execPlaneArbitration n o 0 s = _ from next_whenUpS s _ hup), ?_⟩
    subst ha hb
    rw [named_single, State.arbitrate_idle (w := [o.val]) (by simpa using hidle) (by rw [hmc]; exact (rotated_single _ o).symm)]
    dsimp only [List.headD_cons]
    rw [State.decideAll_single hwin]
    exact State.granted_unicast ht huni
  · subst hm ha
    exact ⟨_, (show execPlaneArbitration n o also s = _ from next_whenUpS s _ hup), State.arbitrate_idle hidle hw⟩
  · refine ⟨_, (show execCouplingYardArrival n o e s = _ from next_whenUpS s _ hup), ?_⟩
    simp only [State.arrive, hfirst, ← hb, ht, huni, Bool.false_and, Bool.false_eq_true, if_false]
  · refine ⟨_, (show execYardRelease y s = _ from next_whenUpS s _ hup), ?_⟩
    have hport : ¬ t.dst ≥ 48 := Nat.not_le.mpr hdst
    simp only [State.yardRelease, hpick, huni, hport, Bool.false_eq_true, if_false]
    by_cases hhead : i = 0
    · simp only [hhead, if_true]
    · simp only [hhead, if_false]
  · refine ⟨_, (show execYardMissingTimeout y s = _ from next_whenUpS s _ hup), ?_⟩
    subst hg
    exact State.yardMissing_first hpick
  · refine ⟨_, (show execIngressNoticeTimeout x s = _ from next_whenUpS s _ hup), ?_⟩
    subst hg
    simp only [State.noticeMissing, hpick]
  · exact ⟨_, (show execPlaneUe n s = _ from next_whenUpS s _ hup), if_neg hstate⟩
  · refine ⟨_, (show execSuspectExpiry n s = _ from next_whenUpS s _ hup), ?_⟩
    rw [if_pos hstate]
    exact State.get_set_same ..
  · subst hl
    exact ⟨_, (show execMcOffer x s = _ from next_whenUpS s _ hup), State.mcOffer_begun hpick hnext hbegun ht⟩
  · refine ⟨_, (show execSidingDeliver s = _ from next_whenUpS s _ hup), ?_⟩
    simp only [State.sidingDeliver, hnext, ← ha, ht]
  · refine ⟨_, (show execSidingTimeout y s = _ from next_whenUpS s _ hup), ?_⟩
    simp only [State.sidingTimeout, hlist] <;> rfl

end Sys2Proof.Machine
end

section
/-! The rows of the shared buffer (07_buffer_multicast.md R205 to R212 and R221). -/
namespace Sys2Proof.Machine

theorem State.writeReg_censusCfg (s : State) (pr v : Nat) : s.writeReg 0x28 0x110 pr v = s.wrCensusCfg v := rfl

theorem State.writeReg_bankCfg (s : State) (pr v : Nat) : s.writeReg 0x28 0x120 pr v = s.wrBankCfg v := rfl

/-! ### The census -/

/-- The walk of a pass spends accesses and moves the count of those it has left. -/
theorem State.censusWalk_core (s : State) : ∃ n, s.censusWalk.core = { s.core with censusLeft := n } := by
  unfold State.censusWalk
  extract_lets u n
  split
  · exact ⟨_, rfl⟩
  · split
    · exact ⟨_, rfl⟩
    · exact ⟨_, State.spend_core ..⟩

@[simp] theorem State.get_censusWalk (s : State) (f : Fld) : s.censusWalk.get f = s.get f := by
  unfold State.censusWalk
  extract_lets u n
  split
  · rfl
  · split
    · rfl
    · exact State.get_spend ..

theorem State.flag_get {s t : State} {f : Fld} (h : s.get f = t.get f) : s.flag f = t.flag f := by
  rw [State.flag, h]
  rfl

/-- The findings of a pass without any leave no train as seen wrong. -/
def State.unseen (s : State) : State :=
  s.trainList.foldl (fun s t => if none = t.refSeen then s else s.putTrain { t with refSeen := none }) s

theorem State.unseen_keeps (s : State) :
    s.unseen.flds = s.flds ∧ s.unseen.core.censusOpen = s.core.censusOpen ∧ s.unseen.core.censusDue = s.core.censusDue := by
  refine List.foldlRecOn (motive := fun t : State => t.flds = s.flds ∧ t.core.censusOpen = s.core.censusOpen ∧ t.core.censusDue = s.core.censusDue)
    s.trainList _ ⟨rfl, rfl, rfl⟩ fun t ht x _ => ?_
  split
  · exact ht
  · exact ht

/-- What the end of a pass without findings leaves. -/
def State.censusClean (s : State) : State :=
  ((((({ s with core := { s.core with censusOpen := false, carsHeld := s.core.carsHeld.eraseDups } } : State).unseen.set F.BUF.CENSUS_STS.BUSY 0).addSat
    F.BUF.CENSUS_STS.LEAKED 0).addSat F.BUF.CENSUS_STS.FREE_CONFLICT 0).addSat F.BUF.CENSUS_STS.REF_FIXED 0)

theorem State.censusClean_core (s : State) : s.censusClean.core.censusOpen = false ∧ s.censusClean.core.censusDue = s.core.censusDue := by
  obtain ⟨-, hopen, hdue⟩ := State.unseen_keeps { s with core := { s.core with censusOpen := false, carsHeld := s.core.carsHeld.eraseDups } }
  exact ⟨hopen, hdue⟩

theorem State.censusClean_idle (s : State) : s.censusClean.get F.BUF.CENSUS_STS.BUSY = 0 := by
  unfold State.censusClean State.addSat
  rw [State.get_set_other _ _ _ _ (by decide), State.get_set_other _ _ _ _ (by decide), State.get_set_other _ _ _ _ (by decide)]
  exact State.get_set_same ..

/-- A pass that found nothing, with no other due, ends clean. -/
theorem State.censusEnd_clean {s : State} {f : CensusFindings} (hbusy : s.flag F.BUF.CENSUS_STS.BUSY = true) (hleft : s.core.censusLeft = 0)
    (hdue : s.core.censusDue = false) (hleaked : f.leaked = []) (hconf : f.conflicts = []) (href : f.refWrong = []) :
    s.censusEnd f = s.censusClean := by
  have hfix : s.refFixes f = [] := by simp [State.refFixes, href]
  have hnext : ¬ (s.censusClean.core.censusDue && s.censusClean.flag F.BUF.CENSUS_CFG.EN) = true := by simp [s.censusClean_core.2, hdue]
  unfold State.censusEnd
  rw [if_neg (by simp [hbusy, hleft])]
  simp only [hfix, hleaked, hconf, href, List.filter_nil, List.find?_nil, Option.map_none, List.foldl_nil, List.map_nil, List.append_nil]
  exact if_neg hnext

/-! ### The banks -/

/-- The end of a bank's copy: the live carriages are counted, and those read uncorrectable bear a poison marker. -/
def State.bankCopy (s : State) (b n : Nat) (bad : List Nat) : State :=
  { s.sets [(F.BUF.BANK_STS.LAST_COPIED, max (s.liveIn b).length (min n 8192)), (F.BUF.BANK_STS.STATE, 2)] with
    core := { s.core with marks := (s.core.marks ++ ((s.liveIn b).map Prod.snd).filter fun c => bad.contains (c % 8192)).eraseDups } }

theorem State.bankCopy_state (s : State) (b n : Nat) (bad : List Nat) : (s.bankCopy b n bad).get F.BUF.BANK_STS.STATE = 2 :=
  State.get_set_same (s.set F.BUF.BANK_STS.LAST_COPIED _) F.BUF.BANK_STS.STATE 2

theorem State.bankCopy_copied {s : State} {b : Nat} (n : Nat) (bad : List Nat) (h : (s.liveIn b).length ≤ 8192) :
    (s.bankCopy b n bad).get F.BUF.BANK_STS.LAST_COPIED = max (s.liveIn b).length (min n 8192) :=
  calc (s.bankCopy b n bad).get F.BUF.BANK_STS.LAST_COPIED
      = (s.set F.BUF.BANK_STS.LAST_COPIED (max (s.liveIn b).length (min n 8192))).get F.BUF.BANK_STS.LAST_COPIED :=
        State.get_set_other (s.set F.BUF.BANK_STS.LAST_COPIED _) F.BUF.BANK_STS.STATE F.BUF.BANK_STS.LAST_COPIED 2 (by decide)
    _ = max (s.liveIn b).length (min n 8192) % 16384 := State.get_set_same ..
    _ = max (s.liveIn b).length (min n 8192) := Nat.mod_eq_of_lt (by omega)

/-- Settles O38. -/
theorem bufferRowsComplete : Obligations.BufferRowsComplete := by
  refine ⟨fun p s hup => ⟨_, (show execSharedMove p s = _ from next_whenUpS s _ hup), rfl⟩, fun s hup hen hidle => ?_, fun src v s h hidle => ?_,
    fun f s hup hbusy hleft hdue => ⟨_, (show execCensusPassEnd f s = _ from next_whenUpS s _ hup), rfl, fun hleaked hconf href => by
      rw [State.censusEnd_clean hbusy hleft hdue hleaked hconf href]
      exact ⟨s.censusClean_core.1, s.censusClean_idle⟩⟩,
    fun b ce ue t a s hup ht hnew ha => ?_, fun src v s h => ?_,
    fun copied bad b s hup hcopy hstate hlive => ?_, fun t b sp r s hup hcopy hspares hstate => ?_, fun b c s hup hdrain hfree => ?_⟩
  · refine ⟨_, (show execCensusPassStart s = _ from next_whenUpS s _ hup), ?_⟩
    rw [if_neg (by simp [hen]), if_neg (by simp [hidle]), State.censusStart]
    dsimp only
    refine ⟨?_, ?_⟩
    · rw [State.get_censusWalk]
      exact State.get_set_same ..
    · obtain ⟨n, hcore⟩ := State.censusWalk_core (State.set _ F.BUF.CENSUS_STS.BUSY 1)
      rw [hcore]
      exact ⟨rfl, rfl⟩
  · refine ⟨_, next_regWr s src 0x28 0x110 _ h, ?_⟩
    rw [withBit_word_mod v 1 true (by decide), State.writeReg_censusCfg]
    refine if_pos ?_
    rw [bitOf_withBit_same, State.flag_get (State.writePlain_get_other _ _ _ _ _ _ (by decide) (by decide) (by decide)), State.flag_charged, hidle]
    rfl
  · refine ⟨_, (show execBankErrorWindow b ce ue s = _ from next_whenUpS s _ hup), ?_⟩
    subst ha
    simp only [← ht, State.bankErr, hnew]
  · refine ⟨_, next_regWr s src 0x28 0x120 _ h, ?_⟩
    rw [withBit_word_mod v 0 true (by decide), State.writeReg_bankCfg]
    exact if_pos (bitOf_withBit_same ..)
  · refine ⟨_, (show execBankCopyDone copied bad s = _ from next_whenUpS s _ hup), ?_⟩
    have hdone : s.bankCopied copied.toNat (bad.map BitVec.toNat) = s.bankCopy b copied.toNat (bad.map BitVec.toNat) := by
      unfold State.bankCopied
      rw [hcopy]
      exact if_neg (not_not_intro hstate)
    rw [hdone]
    exact ⟨rfl, State.bankCopy_state .., State.bankCopy_copied _ _ hlive⟩
  · refine ⟨_, (show execBankSwitchDone t s = _ from next_whenUpS s _ hup), ?_⟩
    unfold State.bankSwitched
    rw [hcopy, hspares]
    exact if_pos hstate
  · refine ⟨_, (show execBankDrainDone s = _ from next_whenUpS s _ hup), ?_⟩
    have hgone : (s.core.draining.filter fun e => !(s.trainList.any fun t => t.heldCars.any fun c => c / 8192 == e.1)) = [(b, c)] := by
      rw [hdrain, List.filter_cons_of_pos (by rw [hfree]; rfl), List.filter_nil]
    have hrest : (s.core.draining.filter fun e => e.1 ≠ b) = [] := by simp [hdrain]
    unfold State.bankDrained
    rw [hgone, List.foldl_cons, List.foldl_nil]
    unfold State.bankGone
    rw [hrest]
    rfl

end Sys2Proof.Machine
end

section
/-! The rows of shapers, gates, traffic classes and the PCIe data link layer (08_egress_scheduling.md R231 to R243; 04_link_layer.md R142). -/
namespace Sys2Proof.Machine

/-- The wheel's slot of a parked queue comes when its time has. -/
theorem State.wheelSlot_due {s : State} {p q w : Nat} (hparked : Tab.get? s.core.wheel (64 * p + q) = some w) (hdue : w / 2 ≤ s.time.run / 2) :
    s.wheelSlot p q =
      (let t := ({ s with core := { s.core with wheel := Tab.del s.core.wheel (64 * p + q) } } : State).set (F.EGR.QUEUE_STS.ON_WHEEL p q) 0
       if w % 2 = 1 then t.shape p q 0 else t) := by
  unfold State.wheelSlot
  simp only [hparked, if_neg (Nat.not_lt.mpr hdue)]

/-- An update of flow control sets the limit of its virtual channel and class. -/
theorem State.dllpRx_limit {s : State} {p : Nat} {vc : Fin 4} {cls : Fin 3} {h : BitVec 12} {n : BitVec 16} {kh kd : BitVec 2}
    (hrole : (s.role p == 1 || s.role p == 2) = true) (hlink : s.linkUp p = true) :
    Tab.get? ((s.dllpRx p (.updateFc vc cls h n kh kd)).dll p).limit (3 * vc.val + cls.val) = some (h.toNat % 256, n.toNat % 4096) := by
  unfold State.dllpRx
  rw [if_neg (by rw [hrole, hlink]; decide)]
  simp only [State.setDll, State.dll, State.port_setPort_same]
  exact Tab.get?_put_same ..

/-! ### Gate lists -/

/-- The end of a list's checks without fault, and with one. -/
theorem State.gateChecked_result {s : State} {p go : Nat} (hchk : Tab.get? s.core.gateChk p = some go) :
    Tab.get? (s.gateChecked p).core.gateChk p = none ∧ (s.gateChecked p).get (F.EGR.GATE_STS.RESULT p) = (if s.gateFault p go = 0 then 1 else 2) ∧
      (s.gateFault p go = 0 → (s.gateChecked p).get (F.EGR.GATE_STS.PENDING p) = 1) := by
  unfold State.gateChecked
  rw [hchk]
  dsimp only
  by_cases hgood : s.gateFault p go = 0
  · rw [if_neg (not_not_intro hgood), if_pos hgood]
    refine ⟨Tab.get?_del_same .., ?_, fun _ => State.get_set_same ..⟩
    simp (disch := refine key_ne_of_place rfl rfl ?_; omega) only [State.sets_cons, State.sets_nil, State.get_set_other, State.get_set_same]
    rfl
  · rw [if_pos hgood, if_neg hgood]
    refine ⟨Tab.get?_del_same .., ?_, fun h => absurd h hgood⟩
    simp (disch := refine key_ne_of_place rfl rfl ?_; omega) only [State.sets_cons, State.sets_nil, State.get_set_other, State.get_set_same]
    rfl

/-- The fields that a write of GATE_ADMIN places while no list is held. -/
def State.gateAdmin (s : State) (p v : Nat) : State :=
  s.sets [(F.EGR.GATE_ADMIN.LEN p, bitsOf v 40 32), (F.EGR.GATE_ADMIN.ALLOW_CLOSED p, bitsOf v 31 24), (F.EGR.GATE_ADMIN.LOOKAHEAD p, bitsOf v 23 16)]

theorem State.gateAdmin_len (s : State) (p v : Nat) : (s.gateAdmin p v).get (F.EGR.GATE_ADMIN.LEN p) = bitsOf v 40 32 := by
  simp (disch := refine key_ne_of_place rfl rfl ?_; omega) only [State.gateAdmin, State.sets_cons, State.sets_nil, State.get_set_other, State.get_set_same]
  exact Nat.mod_mod _ _

/-- GO with no list held begins the checks. -/
theorem State.wrGateAdmin_go {s : State} {p v : Nat} (hfree : s.gateHeld p = false) (hgo : bitOf v 1 = true) (hcancel : bitOf v 2 = false) :
    s.wrGateAdmin p v = { s.gateAdmin p v with core := { s.core with gateChk := Tab.put s.core.gateChk p s.time.now } } := by
  simp [State.wrGateAdmin, hfree, hgo, hcancel, State.gateAdmin]

/-- GO with no list held: when the checks began, and how long the list is. -/
theorem State.wrGateAdmin_checks {s : State} {p v : Nat} (hfree : s.gateHeld p = false) (hgo : bitOf v 1 = true) (hcancel : bitOf v 2 = false) :
    Tab.get? (s.wrGateAdmin p v).core.gateChk p = some s.time.now ∧ (s.wrGateAdmin p v).get (F.EGR.GATE_ADMIN.LEN p) = bitsOf v 40 32 := by
  rw [State.wrGateAdmin_go hfree hgo hcancel, ← s.gateAdmin_len p v]
  exact ⟨Tab.get?_put_same .., rfl⟩

/-- CANCEL while the checks of a list run ends them. -/
theorem State.wrGateAdmin_cancel {s : State} {p v : Nat} (hchk : (Tab.get? s.core.gateChk p).isSome = true) (hcancel : bitOf v 2 = true) :
    Tab.get? (s.wrGateAdmin p v).core.gateChk p = none ∧ (s.wrGateAdmin p v).get (F.EGR.GATE_STS.RESULT p) = 3 := by
  unfold State.wrGateAdmin
  extract_lets held len allow a b
  have hchk' : (Tab.get? b.core.gateChk p).isSome = true := by
    have hcore : b.core = s.core := by
      simp only [b, State.set_core, a]
      split
      · exact State.sets_core ..
      · split <;> rfl
    rw [hcore, hchk]
  rw [if_pos hcancel, if_pos hchk']
  exact ⟨Tab.get?_del_same .., State.get_set_same ..⟩

/-- Settles O39. -/
theorem egressRowsComplete : Obligations.EgressRowsComplete := by
  refine ⟨fun p q w s hup hparked hdue => ?_, fun p src v s h hfree => ?_, fun p go s hup hchk => ?_, fun p src v s h hchk => ?_,
    fun p s hup hpend hnone hbase => ?_, fun p s hup hcopy => ?_, fun p s hup hlen htill hpend => ?_, fun p src v s h hoff hmap => ?_,
    fun p x s hup hrole hlink => ?_, fun p s hup hrole hlink hunacked => ?_⟩
  · refine ⟨_, (show execShaperWheelSlot p q s = _ from next_whenUpS s _ hup), ?_⟩
    exact State.wheelSlot_due hparked hdue
  · refine ⟨_, next_regWr s src (0x30 + p.val / 4) (0x120 + 8 * (p.val % 4)) _ h, ?_⟩
    have hfree' : (s.charged src).gateHeld p.val = false := by simpa [State.gateHeld] using hfree
    rw [State.writeReg_gateAdmin _ _ _ _ p.isLt, withBit_withBit_word_mod v 2 1 false true (by decide) (by decide), ← State.charged_time s src]
    exact State.wrGateAdmin_checks hfree' (bitOf_withBit_same ..) ((bitOf_withBit_other _ _ (by decide)).trans (bitOf_withBit_same ..))
  · refine ⟨_, (show execGateCheckDone p s = _ from next_whenUpS s _ hup), State.gateChecked_result hchk⟩
  · refine ⟨_, next_regWr s src (0x30 + p.val / 4) (0x120 + 8 * (p.val % 4)) _ h, ?_⟩
    rw [State.writeReg_gateAdmin _ _ _ _ p.isLt, withBit_word_mod v 2 true (by decide)]
    exact State.wrGateAdmin_cancel (by simpa using hchk) (bitOf_withBit_same ..)
  · refine ⟨_, (show execGateSwap p s = _ from next_whenUpS s _ hup), ?_⟩
    simp [State.gateSwap, State.gateNow, hpend, hnone, Nat.not_lt.mpr hbase]
  · refine ⟨_, (show execGateCopyDone p s = _ from next_whenUpS s _ hup), ?_⟩
    unfold State.gateCopied
    rw [if_pos hcopy]
    exact ⟨State.get_set_same .., rfl⟩
  · refine ⟨_, (show execGateEntryBoundary p s = _ from next_whenUpS s _ hup), ?_⟩
    simp [State.gateBoundary, State.gateNow, hpend, hlen, Nat.not_lt.mpr htill]
    rfl
  · refine ⟨_, next_regWr s src (0x30 + p.val / 4) (0x100 + 8 * (p.val % 4)) _ h, ?_⟩
    rw [State.writeReg_tcvc _ _ _ _ p.isLt, Nat.mod_eq_of_lt v.isLt]
    exact if_neg (by rw [State.role_charged, hoff, hmap]; decide)
  · have hpcie : (s.role p.val == 1 || s.role p.val == 2) = true := by simpa using hrole
    refine ⟨_, (show execPcieDllpRx p x s = _ from next_whenUpS s _ hup), ?_⟩
    have hrx : ¬ (!(s.role p.val == 1 || s.role p.val == 2) || !s.linkUp p.val) = true := by rw [hpcie, hlink]; decide
    refine ⟨?_, ?_, ?_, ?_⟩
    · rintro q rfl
      exact if_neg hrx
    · rintro q rfl
      exact if_neg hrx
    · rintro vc cls h n kh kd rfl
      exact State.dllpRx_limit hpcie hlink
    · rintro rfl
      exact if_neg hrx
  · have hpcie : (s.role p.val == 1 || s.role p.val == 2) = true := by simpa using hrole
    refine ⟨_, (show execPcieReplayTimerExpiry p s = _ from next_whenUpS s _ hup), ?_⟩
    exact if_neg (by rw [hpcie, hlink]; simpa using hunacked)

end Sys2Proof.Machine
end

section
/-! The rows of fabric mode (09_fabric_mode.md R249, R266 to R278). -/
namespace Sys2Proof.Machine

theorem State.writeReg_nodeId (s : State) (pr v : Nat) : s.writeReg 0x41 0x100 pr v = s.wrNodeId v := rfl

theorem State.writeReg_pfnPop (s : State) (pr v : Nat) : s.writeReg 0x42 0x140 pr v = s.wrPfnPop v := rfl

/-- Clearing entries of the PFN log leaves the fields of other registers. -/
theorem State.get_clearPfn (s : State) (head : Nat) (l : List Nat) {f : Fld} (hf : f.key / 64 < 0x42 * 65536 + 0x1000) :
    (l.foldl (fun t k => t.set (F.GW.PFN_LOG0.VALID ((head + k) % 256)) 0) s).get f = s.get f := by
  refine List.foldlRecOn (motive := fun t : State => t.get f = s.get f) l _ rfl fun t ht k _ => ?_
  rw [State.get_set_other _ _ _ _ ?key, ht]
  simp only [F.GW.PFN_LOG0.VALID, fld]
  omega

/-- A pop frees the oldest entries, as many as it names. -/
theorem State.wrPfnPop_counts {s : State} {v : Nat} (hn : bitsOf v 8 0 ≤ s.get F.GW.PFN_STS.COUNT) (hcount : s.get F.GW.PFN_STS.COUNT ≤ 256) :
    (s.wrPfnPop v).get F.GW.PFN_STS.HEAD = (s.get F.GW.PFN_STS.HEAD + bitsOf v 8 0) % 256 ∧
      (s.wrPfnPop v).get F.GW.PFN_STS.COUNT = s.get F.GW.PFN_STS.COUNT - bitsOf v 8 0 := by
  unfold State.wrPfnPop
  dsimp only
  rw [Nat.min_eq_left hn, State.get_clearPfn _ _ _ (by decide)]
  constructor
  · rw [State.sets_cons, State.sets_cons, State.sets_nil, State.get_set_other _ _ _ _ (by decide)]
    exact (State.get_set_same ..).trans (Nat.mod_mod _ _)
  · exact (State.get_set_same ..).trans (Nat.mod_eq_of_lt (show _ < 512 by omega))

/-- The end of an entry's quarantine frees it with its epoch advanced. -/
theorem State.ortUnquar_free {s : State} {e : Nat} {o : Ort} (ho : s.ort? e = some o) (hquar : o.quar = true) :
    (s.ortUnquar e).ort? e = none ∧ (s.ortUnquar e).epochOf e = (s.epochOf e + 1) % 16 := by
  unfold State.ortUnquar
  rw [ho]
  dsimp only
  rw [if_neg (by simp [hquar])]
  refine ⟨Tab.get?_del_same .., ?_⟩
  exact (Tab.getD_setD ..).trans (if_pos rfl)

/-- Settles O40. -/
theorem fabricRowsComplete : Obligations.FabricRowsComplete := by
  refine ⟨fun src v s h hnofab => ?_, fun p g s hup hready => ?_, fun e o s hup ho hquar => ?_,
    fun e o s hup ho hquar => ⟨_, (show execQuarantineEnd e s = _ from next_whenUpS s _ hup), State.ortUnquar_free ho hquar⟩,
    fun src v s h hn hcount => ?_, fun p vc t c r s hup hrole hstate hlist hcredit huni => ?_⟩
  · refine ⟨_, next_regWr s src 0x41 0x100 _ h, ?_⟩
    rw [State.writeReg_nodeId, Nat.mod_eq_of_lt v.isLt, State.wrNodeId, if_neg (by simpa using hnofab)]
    exact ⟨(State.get_set_other _ _ _ _ (by decide)).trans ((State.get_set_same ..).trans (Nat.mod_mod _ _)), State.get_set_same ..⟩
  · refine ⟨_, (show execOrtAllocate p s = _ from next_whenUpS s _ hup), ?_⟩
    unfold State.ortAllocate
    simp only [hready]
  · refine ⟨_, (show execOrtTimeout e s = _ from next_whenUpS s _ hup), ?_⟩
    simp only [State.ortExpire, ho, hquar, Bool.false_eq_true, if_false]
  · refine ⟨_, next_regWr s src 0x42 0x140 _ h, ?_⟩
    rw [State.writeReg_pfnPop, Nat.mod_eq_of_lt v.isLt, ← s.get_charged src F.GW.PFN_STS.COUNT, ← s.get_charged src F.GW.PFN_STS.HEAD]
    exact State.wrPfnPop_counts (by simpa using hn) (by simpa using hcount)
  · refine ⟨_, (show execStallTimeout p vc s = _ from next_whenUpS s _ hup), ?_⟩
    unfold State.stall
    rw [if_neg (by simp [hrole, hstate])]
    simp only [hlist, hcredit, huni, Bool.not_true, Bool.false_eq_true, if_false]

end Sys2Proof.Machine
end

section
/-! The rows of binding, attachment and detachment (10_sharing.md R281 to R289). -/
namespace Sys2Proof.Machine

theorem State.writeReg_vdspCmd (s : State) (pr v : Nat) : s.writeReg 0x43 0x110 pr v = s.wrVdspCmd v := rfl

/-- A change of owners hangs on the effect at the state it starts from. -/
theorem State.owning_congr {s : State} {f g : State → State} (l : List Nat) (h : f s = g s) : s.owning l f = s.owning l g := by
  unfold State.owning
  rw [h]

/-! ### Bindings -/

/-- A write that nothing refuses binds a VH that was not bound. -/
theorem State.wrVhBind_bound {s : State} {vh v : Nat} (hfree : s.bindRefusal vh v = 0) (hbound : s.vhBound vh = false) (hpriv : bitOf v 62 = false) :
    s.wrVhBind vh v = s.owning [s.get (F.VH.VH_BIND.HOST_PORT vh), bitsOf v 37 32] fun t =>
      ((t.set (F.VH.VH_BIND.REFUSED vh) 0).sets [(F.VH.VH_BIND.EN vh, bitsOf v 63 63), (F.VH.VH_BIND.HOST_PORT vh, bitsOf v 37 32)]).bindState vh := by
  have hbound' : (s.set (F.VH.VH_BIND.REFUSED vh) 0).vhBound vh = false := by
    rw [← hbound]
    simp (disch := refine key_ne_of_place rfl rfl ?_; omega) only [State.vhBound, State.flag, State.get_set_other]
  unfold State.wrVhBind
  dsimp only
  rw [if_neg (not_not_intro hfree)]
  refine State.owning_congr _ ?_
  rw [hpriv, Bool.false_and, if_neg Bool.false_ne_true, hbound', Bool.false_and, if_neg Bool.false_ne_true]

/-! ### The vDSP command -/

/-- The fields that a write of VDSP_CMD places. -/
def State.vdspCmd (s : State) (val : Nat) : State :=
  s.sets [(F.VH.VDSP_CMD.OP, bitsOf val 62 60), (F.VH.VDSP_CMD.KIND, bitsOf val 59 58), (F.VH.VDSP_CMD.VH, bitsOf val 57 53),
    (F.VH.VDSP_CMD.DEV, bitsOf val 52 48), (F.VH.VDSP_CMD.PORT, bitsOf val 47 42), (F.VH.VDSP_CMD.VFI, bitsOf val 41 32)]

theorem State.vdspCmd_op (s : State) (v : Word) {op : Nat} (hop : op < 8) : (s.vdspCmd (goOp v op)).get F.VH.VDSP_CMD.OP = op := by
  simp (disch := decide) only [State.vdspCmd, State.sets_cons, State.sets_nil, State.get_set_other, State.get_set_same, goOp_op v op hop]
  exact Nat.mod_eq_of_lt hop

/-- What a command without fault does: an attachment at once, and a detachment, forced or not, from the state that names the vDSP. -/
theorem State.wrVdspCmd_good {s : State} {v : Word} {op : Nat} (hop : op < 8) (hgood : (s.vdspCmd (goOp v op)).vdspFault = 0) :
    s.wrVdspCmd (goOp v op) =
      (let a := s.vdspCmd (goOp v op)
       let vh := a.get F.VH.VDSP_CMD.VH
       let d := a.get F.VH.VDSP_CMD.DEV
       let t := ({ a with share := { a.share with cmd := some (vh, d) } } : State).set F.VH.VDSP_CMD.RESULT 2
       if op = 1 then (a.attach vh d (a.get F.VH.VDSP_CMD.KIND) (a.get F.VH.VDSP_CMD.PORT) (a.get F.VH.VDSP_CMD.VFI)).set F.VH.VDSP_CMD.RESULT 1
       else if op = 3 then t.forceDetach vh d else (t.set (F.VH.VDSP.STATE vh d) 2).attention vh d) := by
  have hdo : ¬ (!bitOf (goOp v op) 63) = true := by rw [goOp_go v op hop]; decide
  unfold State.wrVdspCmd
  dsimp only
  rw [if_neg hdo, ← State.vdspCmd, hgood, s.vdspCmd_op v hop]
  rfl

/-! ### The map of virtual functions -/

/-- A word of a FREE entry is taken: the entry's own, and one of each base address register. -/
theorem State.wrVfMap_free {s : State} {j val : Nat} (hfree : s.get (F.VH.VF_MAP0.STATE j) = 0) (w : Fin 4) :
    (w.val = 0 → (s.wrVfMap j w.val val).get (F.VH.VF_MAP0.VALID j) = bitsOf val 63 63 ∧
      (s.wrVfMap j w.val val).get (F.VH.VF_MAP0.PORT j) = bitsOf val 59 54 ∧ (s.wrVfMap j w.val val).get (F.VH.VF_MAP0.PHYS_RID j) = bitsOf val 31 16) ∧
    (∀ b, w.val = b + 1 → (s.wrVfMap j w.val val).get (F.VH.VF_BAR.PHYS_BASE j b) = bitsOf val 63 12 ∧
      (s.wrVfMap j w.val val).get (F.VH.VF_BAR.SIZE_LOG2 j b) = bitsOf val 11 6 ∧ (s.wrVfMap j w.val val).get (F.VH.VF_BAR.PREF j b) = bitsOf val 5 5) := by
  constructor
  · intro hw
    have hfree' : (if (decide (w.val = 0) && bitOf val 43) = true then s.set (F.VH.VF_MAP0.WR_DROP j) 0 else s).get (F.VH.VF_MAP0.STATE j) = 0 := by
      split
      · exact (State.get_set_other _ _ _ _ (key_ne_of_place rfl rfl (by omega))).trans hfree
      · exact hfree
    unfold State.wrVfMap
    rw [if_neg (not_not_intro hfree'), if_pos hw]
    simp (disch := refine key_ne_of_place rfl rfl ?_; omega) only [State.sets_cons, State.sets_nil, State.get_set_other, State.get_set_same]
    exact ⟨Nat.mod_mod _ _, Nat.mod_mod _ _, Nat.mod_mod _ _⟩
  · intro b hw
    have hw0 : w.val ≠ 0 := by omega
    unfold State.wrVfMap
    simp only [hw0, decide_false, Bool.false_and, Bool.false_eq_true, if_false, hfree, ne_eq, not_true_eq_false]
    have hb : w.val - 1 = b := by omega
    rw [hb]
    simp (disch := refine key_ne_of_place rfl rfl ?_; omega) only [State.sets_cons, State.sets_nil, State.get_set_other, State.get_set_same]
    exact ⟨Nat.mod_mod _ _, Nat.mod_mod _ _, Nat.mod_mod _ _⟩

/-- Settles O41. -/
theorem sharingRowsComplete : Obligations.SharingRowsComplete := by
  refine ⟨fun vh src v s h hfree hbound hpriv => ?_, fun a src v s h ha hgood => ?_, fun a src v s h ha hgood _ => ?_, fun a src v s h ha hgood => ?_,
    fun vh d s hup hstate => ⟨_, (show execVdspPowerOff vh d s = _ from next_whenUpS s _ hup), if_pos hstate⟩,
    fun vh d s hup hstate => ⟨_, (show execDetachWaitTimeout vh d s = _ from next_whenUpS s _ hup), if_pos hstate⟩,
    fun vh d s hup hkind hreset => ⟨_, (show execVdspFlrWaitExpiry vh d s = _ from next_whenUpS s _ hup), ?_⟩,
    fun vh d s hup hdrain hroute hkind hcmd => ⟨_, (show execVdspDrainDone vh d s = _ from next_whenUpS s _ hup), ?_⟩,
    fun j w src v s h hfree => ?_⟩
  · refine ⟨_, next_regWr s src 0x43 (0x200 + 8 * vh.val) _ h, ?_⟩
    rw [State.writeReg_vhBind _ _ _ _ vh.isLt, Nat.mod_eq_of_lt v.isLt, ← s.get_charged src]
    exact State.wrVhBind_bound hfree (by simpa [State.vhBound] using hbound) hpriv
  · refine ⟨_, next_regWr s src 0x43 0x110 _ h, ?_⟩
    subst ha
    rw [goOp_mod v 1 (by decide), State.writeReg_vdspCmd]
    exact State.wrVdspCmd_good (by decide) hgood
  · refine ⟨_, next_regWr s src 0x43 0x110 _ h, ?_⟩
    subst ha
    rw [goOp_mod v 2 (by decide), State.writeReg_vdspCmd]
    exact State.wrVdspCmd_good (by decide) hgood
  · refine ⟨_, next_regWr s src 0x43 0x110 _ h, ?_⟩
    subst ha
    rw [goOp_mod v 3 (by decide), State.writeReg_vdspCmd]
    exact State.wrVdspCmd_good (by decide) hgood
  · rw [if_pos hkind]
    unfold State.toDrain
    rw [if_pos hreset]
    exact ⟨rfl, rfl⟩
  · unfold State.drainDone
    dsimp only
    rw [if_neg (by rw [hdrain, hroute]; decide)]
    refine State.owning_congr _ ?_
    rw [if_neg hkind, if_neg (by rw [State.sets_share]; exact fun h => nomatch hcmd.symm.trans h)]
  · refine ⟨_, next_regWr s src 0x43 (0x8000 + 0x20 * j.val + 8 * w.val) _ h, ?_⟩
    rw [State.writeReg_vfMap _ _ _ _ _ j.isLt w.isLt, Nat.mod_eq_of_lt v.isLt]
    exact State.wrVfMap_free ((State.get_charged ..).trans hfree) w

end Sys2Proof.Machine
end

section
/-! The rows of configuration, forwarded accesses, mediated FLR and DPC (10_sharing.md R283, R294, R295; 12_errors_containment.md R350; 16_management_access.md R418). -/
namespace Sys2Proof.Machine

/-- The release of the DPC of a vDSP other than that of a VF: its trigger status is cleared, and a port that DPC closed opens and trains. -/
theorem State.dpcFree_port {s : State} {vh d : Nat} (hstatus : bitOf (s.cfg vh d 0x56) 0 = true) (hkind : s.get (F.VH.VDSP.KIND vh d) ≠ 3) :
    s.dpcFree vh d =
      (let a := s.setCfg vh d 0x56 (withBit (s.cfg vh d 0x56) 0 false)
       let p := a.get (F.VH.VDSP.PORT vh d)
       let t : State := { a with share := { a.share with dpc := a.share.dpc.filter (· ≠ 32 * vh + d) } }
       if t.flag (byFld 3 p) then (t.openPort p 3).startTrain p else t) := by
  have hkind' : (s.setCfg vh d 0x56 (withBit (s.cfg vh d 0x56) 0 false)).get (F.VH.VDSP.KIND vh d) ≠ 3 := hkind
  unfold State.dpcFree
  dsimp only
  rw [if_neg (by rw [hstatus]; decide)]
  exact if_neg hkind'

/-- Settles O42. -/
theorem configRowsComplete : Obligations.ConfigRowsComplete := by
  refine ⟨fun vh r s hup hbound => ?_, fun vh r fn s hup hbound hfn hvf => ?_, fun tag st id data ep f s hup hf hlive => ?_,
    fun tag f s hup hf hlive => ?_, fun tag f s hup hf hheld => ?_, fun vh d s hup hkind hlive => ?_,
    fun vh d s hup hkind => ⟨_, (show execMediatedFlrDone vh d s = _ from next_whenUpS s _ hup), if_pos hkind⟩,
    fun vh d reason s hup hready => ⟨_, (show execDpcTrigger vh d reason s = _ from next_whenUpS s _ hup), if_pos hready⟩,
    fun vh d s hup hstatus hkind => ⟨_, (show execDpcRelease vh d s = _ from next_whenUpS s _ hup), State.dpcFree_port hstatus hkind⟩⟩
  · refine ⟨_, (show execVirtualConfigAccess vh r s = _ from next_whenUpS s _ hup), fun hnone => ?_, fun fn hfn hsw => ?_⟩
    · simp [hbound, hnone]
    · simp [hbound, hfn, Nat.not_le.mpr hsw]
  · refine ⟨_, (show execVfConfigAccess vh r s = _ from next_whenUpS s _ hup), ?_⟩
    simp [hbound, hfn, hvf]
  · refine ⟨_, (show execVfCfgCompletion tag st id data ep s = _ from next_whenUpS s _ hup), ?_⟩
    simp only [State.fwdCpl, hf, hlive, Bool.false_eq_true, if_false]
  · refine ⟨_, (show execVfCfgTimeout tag s = _ from next_whenUpS s _ hup), ?_⟩
    simp only [State.fwdExpire, hf, hlive, Bool.not_false, if_true]
  · refine ⟨_, (show execMeTagHoldExpiry tag s = _ from next_whenUpS s _ hup), ?_⟩
    simp only [State.fwdRelease, hf, hheld, if_true]
  · refine ⟨_, (show execMediatedFlr vh d false s = _ from next_whenUpS s _ hup), ?_⟩
    exact if_neg (by simp [hkind, hlive])

end Sys2Proof.Machine
end

section
/-! The rows of dirty-page logging and of the harvest (10_sharing.md R301 to R305; 12_errors_containment.md R346). -/
namespace Sys2Proof.Machine

theorem State.writeReg_dlHarvest (s : State) (pr v : Nat) : s.writeReg 0x45 0x108 pr v = s.wrDlHarvest v := rfl

/-! ### Slots -/

/-- The fields that a write of a slot's first word places. -/
def State.dlSlotSet (s : State) (j v : Nat) : State :=
  s.sets [(F.DIRTY.DL_SLOT0.BASE j, bitsOf v 63 12), (F.DIRTY.DL_SLOT0.GRAN j, bitsOf v 10 10), (F.DIRTY.DL_SLOT0.AT_SEL j, bitsOf v 9 8)]

/-- A slot whose bitmaps fit is enabled, and its zeroing begins. -/
theorem State.wrDlSlot_enable {s : State} {j v : Nat} (hfree : s.get (F.DIRTY.DL_SLOT0.EN j) = 0) (hen : bitOf v 11 = true)
    (hfits : (s.dlSlotSet j v).dlFits j = true) :
    s.wrDlSlot j 0 v =
      { (s.dlSlotSet j v).sets [(F.DIRTY.DL_SLOT0.EN j, 1), (F.DIRTY.DL_SLOT0.REFUSED j, 0)] with
        dirty := { (s.dlSlotSet j v).dirty with cache := (s.dlSlotSet j v).dirty.cache.filter (fun e => e.1 / 2 ^ 24 != j),
                                                wb := (s.dlSlotSet j v).dirty.wb.filter (fun e => e.1 / 2 ^ 24 != j),
                                                zeroing := ((s.dlSlotSet j v).dirty.zeroing.filter (· ≠ j)) ++ [j] } } := by
  have hoff : ¬ s.flag (F.DIRTY.DL_SLOT0.EN j) = true := by simp [State.flag, hfree]
  unfold State.wrDlSlot
  dsimp only
  rw [if_neg (by decide), if_neg hoff, ← State.dlSlotSet, if_neg (by rw [hen]; decide), if_neg (by rw [hfits]; decide)]

/-! ### Write-backs -/

/-- The slot of a cached line's key. -/
theorem slot_of_line (j : Fin 256) (line : BitVec 32) : (j.val * 2 ^ 24 + line.toNat % 2 ^ 24) / 2 ^ 23 / 2 = j.val := by omega

/-- A line whose write-back is the oldest request of tier 1 leaves the cache for its bitmap. -/
theorem State.dlWriteback_oldest {s : State} {k x : Nat} {bad : Bool} (hline : Tab.get? s.dirty.cache k = some x)
    (hready : s.dirty.zeroing.contains (k / 2 ^ 23 / 2) = false) (hold : (s.wbAsk [k]).oldestRead (Tab.getD (s.wbAsk [k]).dirty.wb k 0) = true) :
    s.dlWriteback k bad =
      (let b := s.wbAsk [k]
       let a := if bad then b.raise Ev.DL_UE { inst := k / 2 ^ 23 / 2 } else b
       let d : State := { a with dirty := { a.dirty with
         cache := Tab.del a.dirty.cache k, wb := Tab.del a.dirty.wb k,
         dram := Tab.setD a.dirty.dram k (if bad then 2 ^ 512 - 1 else Nat.lor (Tab.getD a.dirty.dram k 0) x) 0 } }
       ((d.count (Ctr.dev 2) 1).dramUse 3 1).linesPend) := by
  unfold State.dlWriteback
  rw [hline]
  dsimp only
  rw [if_neg (by rw [hready]; decide), if_neg (by rw [hold]; decide)]

/-- Behind an older request of tier 1 a line only takes its place there. -/
theorem State.dlWriteback_waits {s : State} {k x : Nat} {bad : Bool} (hline : Tab.get? s.dirty.cache k = some x)
    (hready : s.dirty.zeroing.contains (k / 2 ^ 23 / 2) = false) (hold : (s.wbAsk [k]).oldestRead (Tab.getD (s.wbAsk [k]).dirty.wb k 0) = false) :
    s.dlWriteback k bad = s.wbAsk [k] := by
  unfold State.dlWriteback
  rw [hline]
  dsimp only
  rw [if_neg (by rw [hready]; decide)]
  exact if_pos (by rw [hold]; rfl)

theorem State.eccClient_uncorrectable_core (s : State) : (s.eccClient .uncorrectable).core = s.core := State.count_core ..

theorem State.eccClient_uncorrectable_dirty (s : State) : (s.eccClient .uncorrectable).dirty = s.dirty := State.count_dirty ..

/-- The place of a write-back in tier 1 hangs on the requests there and on the lines. -/
theorem State.oldest_wbAsk_congr {s t : State} (ks : List Nat) (k : Nat) (hcore : t.core = s.core) (hdirty : t.dirty = s.dirty) :
    (t.wbAsk ks).oldestRead (Tab.getD (t.wbAsk ks).dirty.wb k 0) = (s.wbAsk ks).oldestRead (Tab.getD (s.wbAsk ks).dirty.wb k 0) := by
  simp only [State.wbAsk, State.oldestRead, hcore, hdirty]
  rfl

/-! ### The harvest -/

/-- The fields that a write of DL_HARVEST places while no harvest runs. -/
def State.hvSet (s : State) (v : Nat) : State :=
  s.sets [(F.DIRTY.DL_HARVEST.MODE, bitsOf v 60 60), (F.DIRTY.DL_HARVEST.TC, bitsOf v 59 57), (F.DIRTY.DL_HARVEST.DEST_VH, bitsOf v 56 52),
    (F.DIRTY.DL_HARVEST.SLOT, bitsOf v 51 44), (F.DIRTY.DL_HARVEST.IRQ_EN, bitsOf v 32 32)]

theorem State.hvSet_state (s : State) (v : Nat) : (s.hvSet v).get F.DIRTY.DL_HARVEST.STATE = s.get F.DIRTY.DL_HARVEST.STATE := by
  simp (disch := decide) only [State.hvSet, State.sets_cons, State.sets_nil, State.get_set_other]

/-- A command of the harvest is one of the three high bits over the fields below them. -/
theorem hvWord_mod (v : Word) {i : Nat} (hi : i ≤ 63) : (2 ^ i + v.toNat % 2 ^ 61) % 2 ^ 64 = 2 ^ i + v.toNat % 2 ^ 61 := by
  have hpow : 2 ^ i ≤ 2 ^ 63 := Nat.pow_le_pow_right (by decide) hi
  refine Nat.mod_eq_of_lt ?_
  omega

theorem hvWord_bit63 (v : Word) : bitOf (2 ^ 63 + v.toNat % 2 ^ 61) 63 = true := by
  rw [bitOf, beq_iff_eq]
  omega

theorem hvWord_bit62 (v : Word) : bitOf (2 ^ 62 + v.toNat % 2 ^ 61) 62 = true := by
  rw [bitOf, beq_iff_eq]
  omega

theorem hvWord_bit61 (v : Word) : bitOf (2 ^ 61 + v.toNat % 2 ^ 61) 61 = true := by
  rw [bitOf, beq_iff_eq]
  omega

theorem hvWord_bit62_of_done (v : Word) : bitOf (2 ^ 61 + v.toNat % 2 ^ 61) 62 = false := by
  rw [bitOf, beq_eq_false_iff_ne]
  omega

/-- GO with no harvest running. -/
theorem State.wrDlHarvest_go {s : State} {v : Nat} (hidle : s.get F.DIRTY.DL_HARVEST.STATE = 0) (hgo : bitOf v 63 = true) :
    s.wrDlHarvest v = (s.hvSet v).hvGo := by
  simp [State.wrDlHarvest, hidle, hgo, State.hvSet]

/-- ABORT of an unfinished harvest. -/
theorem State.wrDlHarvest_abort {s : State} {v : Nat} (hlo : 1 ≤ s.get F.DIRTY.DL_HARVEST.STATE) (hhi : s.get F.DIRTY.DL_HARVEST.STATE ≤ 4)
    (habort : bitOf v 62 = true) : s.wrDlHarvest v = s.hvMerge true := by
  have hruns : s.get F.DIRTY.DL_HARVEST.STATE ≠ 0 := by omega
  simp [State.wrDlHarvest, hruns, habort, hhi]

/-- DONE while the bitmap is for software. -/
theorem State.wrDlHarvest_done {s : State} {v : Nat} (hstate : s.get F.DIRTY.DL_HARVEST.STATE = 4) (habort : bitOf v 62 = false)
    (hdone : bitOf v 61 = true) : s.wrDlHarvest v = s.hvState 5 := by
  simp [State.wrDlHarvest, hstate, habort, hdone]

/-- An enabled slot with a destination that can take its bitmap swaps its epochs, and the lines of the closed one ask to be written back. -/
theorem State.hvGo_starts {a : State} (hidle : a.get F.DIRTY.DL_HARVEST.STATE = 0) (hen : a.get (F.DIRTY.DL_SLOT0.EN a.hvSlot) = 1)
    (hvh : a.get F.DIRTY.DL_HARVEST.DEST_VH < 24) (hbound : a.get (F.VH.VH_BIND.STATE (a.get F.DIRTY.DL_HARVEST.DEST_VH)) = 2)
    (hrid : a.get (F.GW.GW_RID.VALID (a.get F.DIRTY.DL_HARVEST.DEST_VH)) = 1) :
    a.hvGo =
      (let b := ((a.sets [(F.DIRTY.DL_SLOT0.OPEN a.hvSlot, 1 - a.get (F.DIRTY.DL_SLOT0.OPEN a.hvSlot)), (F.DIRTY.DL_HARVEST.RESULT, 0),
         (F.DIRTY.DL_HARVEST.FAULT, 0)]).hvState 1)
       b.wbAsk ((b.dirty.cache.map Prod.fst).filter fun k => k / 2 ^ 23 == 2 * a.hvSlot + b.hvEpoch)) := by
  have hdest : ¬ (a.get F.DIRTY.DL_HARVEST.DEST_VH ≥ 24 ∨ a.get (F.VH.VH_BIND.STATE (a.get F.DIRTY.DL_HARVEST.DEST_VH)) ≠ 2 ∨
      (!a.flag (F.GW.GW_RID.VALID (a.get F.DIRTY.DL_HARVEST.DEST_VH))) = true) := by
    simp [Nat.not_le.mpr hvh, hbound, State.flag, hrid]
  unfold State.hvGo
  dsimp only
  rw [if_neg (not_not_intro hidle), if_neg (by simp [State.flag, hen]), if_neg hdest]

@[simp] theorem State.hvIrq_dirty (s : State) : s.hvIrq.dirty = s.dirty := by
  unfold State.hvIrq
  split
  · exact State.raiseMsix_dirty ..
  · rfl

theorem State.get_linesPend (s : State) {f : Fld} (hf : f.key ≠ F.DIRTY.DL_STS.LINES_PEND.key) : s.linesPend.get f = s.get f :=
  State.get_set_other _ _ _ _ hf

/-- The end of a merge: the harvest is idle with its result, and nothing of the closed epoch is left. -/
theorem State.hvMergeEnd_ends {s : State} (hstate : s.get F.DIRTY.DL_HARVEST.STATE = 6) (hready : s.dirty.zeroing.contains s.hvSlot = false) :
    s.hvMergeEnd.get F.DIRTY.DL_HARVEST.STATE = 0 ∧ s.hvMergeEnd.get F.DIRTY.DL_HARVEST.RESULT = (if s.dirty.abort then 3 else 4) ∧
      s.hvMergeEnd.dirty.cache = s.dirty.cache.filter (fun e => e.1 / 2 ^ 23 != 2 * s.hvSlot + s.hvEpoch) ∧
      (s.hvMergeEnd.dirty.dram.all fun e => e.1 / 2 ^ 23 != 2 * s.hvSlot + s.hvEpoch) = true := by
  unfold State.hvMergeEnd
  rw [if_neg (by rw [hstate, hready]; decide)]
  extract_lets j ep mine add d _ a b
  have hdirty : b.dirty = a.dirty := (State.hvIrq_dirty _).trans (State.raise_dirty ..)
  have habort : b.dirty.abort = s.dirty.abort := (congrArg DirtySt.abort hdirty :)
  refine ⟨?_, ?_, ?_, ?_⟩
  · rw [State.hvState, State.get_linesPend _ (by decide)]
    exact State.get_set_same ..
  · rw [State.hvState, State.get_linesPend _ (by decide), State.get_set_other _ _ _ _ (by decide), State.get_set_same, habort]
    split <;> rfl
  · exact congrArg DirtySt.cache hdirty
  · refine Eq.trans (congrArg (fun x : DirtySt => x.dram.all fun e => e.1 / 2 ^ 23 != 2 * s.hvSlot + s.hvEpoch) hdirty) ?_
    exact List.all_eq_true.mpr fun e he => (List.mem_filter.mp he).2

@[simp] theorem State.hvSlot_spend (s : State) (c r d p : Nat) : (s.spend c r d p).hvSlot = s.hvSlot := State.get_spend ..

@[simp] theorem State.hvEpoch_spend (s : State) (c r d p : Nat) : (s.spend c r d p).hvEpoch = s.hvEpoch := by
  rw [State.hvEpoch, State.hvSlot_spend, State.get_spend]
  rfl

/-- The end of a clear whose blocks are paid for. -/
theorem State.hvClearEnd_spend {s : State} (hstate : s.get F.DIRTY.DL_HARVEST.STATE = 5) (c r d p : Nat) :
    (s.spend c r d p).hvClearEnd =
      (let a := (s.spend c r d p).dlErase s.hvSlot s.hvEpoch
       ((if a.flag F.DIRTY.DL_HARVEST.MODE then a.hvIrq else a).set F.DIRTY.DL_HARVEST.RESULT 1).hvState 0) := by
  unfold State.hvClearEnd
  rw [if_neg (by rw [State.get_spend]; exact not_not_intro hstate), State.hvSlot_spend, State.hvEpoch_spend]

theorem State.writeReg_dlSlot_low (s : State) (j pr v : Nat) (hj : j < 256) : s.writeReg 0x45 (0x1000 + 0x10 * j) pr v = s.wrDlSlot j 0 v :=
  State.writeReg_dlSlot s j 0 pr v hj (by decide)

/-- Settles O44. -/
theorem dirtyRowsComplete : Obligations.DirtyRowsComplete := by
  refine ⟨fun j a src v s h hfree ha hfits => ?_, fun j n s hup hzero hn hpay => ?_, fun j n s hup hzero hn hpay => ?_,
    fun j line k x b s hup hk hline hready hb hold => ?_, fun j line k x s hup hk hline hready hdue => ?_,
    fun j line r k x s hup hk hline hready hold => ?_, fun a src v s h hidle ha hen hvh hbound hrid => ?_, fun src v s h hlo hhi => ?_,
    fun src v s h hstate => ?_, fun s hup hstate hready hnone => ?_, fun s hup hstate htrains hwaits => ?_, fun s hup hstate hreach hsent => ?_,
    fun s hup hstate hpay => ?_, fun s hup hstate hready hpay => ?_⟩
  · refine ⟨_, next_regWr s src 0x45 (0x1000 + 0x10 * j.val) _ h, ?_⟩
    subst ha
    rw [withBit_word_mod v 11 true (by decide), State.writeReg_dlSlot_low _ _ _ _ j.isLt]
    exact State.wrDlSlot_enable ((State.get_charged ..).trans hfree) (bitOf_withBit_same ..) hfits
  · subst hn
    refine ⟨_, (show execDlZeroDone j s = _ from next_whenUpS s _ hup), ?_⟩
    rw [State.dlZeroed, if_neg (by rw [hzero]; decide)]
    refine (State.budgeted_pays _ _ _ _ _ _ _ _ hpay).trans (if_neg ?_)
    rw [State.spend_dirty, hzero]
    decide
  · subst hn
    refine ⟨_, (show execDlZeroDone j s = _ from next_whenUpS s _ hup), ?_⟩
    rw [State.dlZeroed, if_neg (by rw [hzero]; decide)]
    exact State.budgeted_waits _ _ _ _ _ _ _ _ hpay
  · subst hk hb
    have hready' := (congrArg s.dirty.zeroing.contains (slot_of_line j line)).trans hready
    refine ⟨_, (show execDlLineWriteback j line .ok s = _ from next_whenUpS s _ hup), ?_⟩
    dsimp only
    rw [State.eccClient, ite_self]
    exact State.dlWriteback_oldest hline hready' hold
  · subst hk
    have hready' := (congrArg s.dirty.zeroing.contains (slot_of_line j line)).trans hready
    refine ⟨_, (show execDlLineWriteback j line .uncorrectable s = _ from next_whenUpS s _ hup), ?_⟩
    dsimp only
    rw [if_pos hdue]
    have hdirty := s.eccClient_uncorrectable_dirty
    have hold := State.oldest_wbAsk_congr [j.val * 2 ^ 24 + line.toNat % 2 ^ 24] (j.val * 2 ^ 24 + line.toNat % 2 ^ 24)
      s.eccClient_uncorrectable_core hdirty
    refine (State.dlWriteback_oldest (bad := true) (x := x) (by rw [hdirty, hline]) (by rw [hdirty, hready']) (hold.trans ?_)).trans ?_
    · exact ((Bool.and_eq_true ..).mp hdue).2
    · rw [slot_of_line]
      rfl
  · subst hk
    have hready' := (congrArg s.dirty.zeroing.contains (slot_of_line j line)).trans hready
    refine ⟨_, (show execDlLineWriteback j line r s = _ from next_whenUpS s _ hup), ?_⟩
    dsimp only
    rw [if_neg (by rw [State.wbDue, hold, Bool.and_false]; decide)]
    exact State.dlWriteback_waits hline hready' hold
  · refine ⟨_, next_regWr s src 0x45 0x108 _ h, ?_⟩
    subst ha
    rw [State.writeReg_dlHarvest, hvWord_mod v (i := 63) (by decide), State.wrDlHarvest_go ((State.get_charged ..).trans hidle) (hvWord_bit63 v)]
    exact State.hvGo_starts ((State.hvSet_state ..).trans ((State.get_charged ..).trans hidle)) hen hvh hbound hrid
  · refine ⟨_, next_regWr s src 0x45 0x108 _ h, ?_⟩
    rw [State.writeReg_dlHarvest, hvWord_mod v (i := 62) (by decide)]
    exact State.wrDlHarvest_abort (by rwa [State.get_charged]) (by rwa [State.get_charged]) (hvWord_bit62 v)
  · refine ⟨_, next_regWr s src 0x45 0x108 _ h, ?_⟩
    rw [State.writeReg_dlHarvest, hvWord_mod v (i := 61) (by decide)]
    exact State.wrDlHarvest_done (by rwa [State.get_charged]) (hvWord_bit62_of_done v) (hvWord_bit61 v)
  · exact ⟨_, (show execHarvestFlushDone s = _ from next_whenUpS s _ hup), if_neg (by rw [hstate, hready, hnone]; decide)⟩
  · refine ⟨_, (show execHarvestDrainDone s = _ from next_whenUpS s _ hup), ?_⟩
    rw [State.hvDrained, if_neg (by rw [hstate, htrains, hwaits]; decide)]
    refine ⟨fun hmode => if_pos ?_, fun hmode hreach => ?_, fun hmode hreach => ?_⟩
    · simp [State.flag, hmode]
    · rw [if_neg (by simp [State.flag, hmode]), if_neg (by rw [hreach]; decide)]
    · rw [if_neg (by simp [State.flag, hmode]), if_pos (by rw [hreach]; rfl)]
  · refine ⟨_, (show execHarvestDeliverDone s = _ from next_whenUpS s _ hup), ?_⟩
    rw [State.hvDelivered, if_neg (not_not_intro hstate), if_neg (by rw [hreach]; decide), if_pos hsent]
  · refine ⟨_, (show execHarvestClearDone s = _ from next_whenUpS s _ hup), ?_⟩
    rw [State.hvCleared, if_neg (not_not_intro hstate)]
    exact (State.budgeted_pays _ _ _ _ _ _ _ _ hpay).trans (State.hvClearEnd_spend hstate ..)
  · refine ⟨_, (show execHarvestMergeDone s = _ from next_whenUpS s _ hup), ?_⟩
    rw [State.hvMerged, if_neg (by rw [hstate, hready]; decide)]
    rw [State.budgeted_pays _ _ _ _ _ _ _ _ hpay]
    have hends := State.hvMergeEnd_ends (s := s.spend 2 0 (4 * s.dlBlocks s.hvSlot) 0x45) ((State.get_spend ..).trans hstate)
      (by rw [State.spend_dirty, State.hvSlot_spend, hready])
    simpa only [State.spend_dirty, State.hvSlot_spend, State.hvEpoch_spend] using hends

end Sys2Proof.Machine
end

section
/-! The rows of the Hut's accesses (11_hut_ordering.md R310 to R327 and R337). -/
namespace Sys2Proof.Machine

/-- An access for which the Hut has room is held by a fence of its VH, or performed. -/
theorem hutCmd_room {s : State} {r : HutReq} (op : Nat) (atom : Option AtomKind) (hup : s.up = true) (hroom : s.hutRoom r.vh.val = true) :
    hutCmd op atom r s = .next (s.hutArrive { op := op, r := r, atom := atom }).after := by
  refine (next_whenUpS s _ hup).trans ?_
  rw [if_pos hroom]

theorem State.writeReg_hutZero (s : State) (pr v : Nat) : s.writeReg 0x48 0x120 pr v = s.wrHutZero v := rfl

/-- GO with no range being zeroed begins the clear of the range named. -/
theorem State.wrHutZero_starts {s : State} {v : Nat} (hgo : bitOf v 63 = true) (hidle : s.hut.zero = none) :
    (s.wrHutZero v).get F.HUT.ZERO.BUSY = 1 ∧ (s.wrHutZero v).hut.zero = some (bitsOf v 22 12 * 4096, bitsOf v 47 36 * 4096) := by
  unfold State.wrHutZero
  dsimp only
  rw [if_pos (by rw [State.sets_hut, hgo, hidle]; rfl)]
  exact ⟨State.get_set_same .., rfl⟩

/-- The end of a clear: the range reads zero, without error. -/
theorem State.hutZeroEnd_clears {s : State} {b n : Nat} (hzero : s.hut.zero = some (b, n)) :
    s.hutZeroEnd.get F.HUT.ZERO.BUSY = 0 ∧ s.hutZeroEnd.hut.zero = none ∧
      s.hutZeroEnd.hut.mem = s.hut.mem.filter (fun c => !(b ≤ c.1 && c.1 < b + n)) ∧
      s.hutZeroEnd.hut.ue = s.hut.ue.filter (fun w => !(b / 8 ≤ w && w < (b + n) / 8)) := by
  unfold State.hutZeroEnd
  rw [hzero]
  exact ⟨State.get_set_same .., rfl, rfl, rfl⟩

/-- Settles O45. -/
theorem hutRowsComplete : Obligations.HutRowsComplete := by
  refine ⟨fun r s hup hroom => ⟨_, (show execHutDeviceRead r s = _ from hutCmd_room 0 none hup hroom), rfl⟩,
    fun r s hup hroom => ⟨_, (show execHutDeviceWrite r s = _ from hutCmd_room 1 none hup hroom), rfl⟩,
    fun r s hup hroom => ⟨_, (show execHutNormalRead r s = _ from hutCmd_room 2 none hup hroom), rfl⟩,
    fun r s hup hroom => ⟨_, (show execHutNormalWrite r s = _ from hutCmd_room 3 none hup hroom), rfl⟩,
    fun r s hup hroom => ⟨_, (show execHutReserveRead r s = _ from hutCmd_room 4 none hup hroom), rfl⟩,
    fun r s hup hroom => ⟨_, (show execHutConditionalWrite r s = _ from hutCmd_room 5 none hup hroom), rfl⟩,
    fun k r s hup hroom => ⟨_, (show execHutAtomic k r s = _ from hutCmd_room 6 (some k) hup hroom), rfl⟩,
    fun bank w l s hup hbuf => ?_, fun m x s hup hmon hheld => ?_, fun src v s h hidle => ?_, fun b n s hup hzero hpay => ?_⟩
  · refine ⟨_, (show execNormalWriteDeadline bank s = _ from next_whenUpS s _ hup), ?_⟩
    rw [State.hutPerform, hbuf]
  · refine ⟨_, (show execRsvTimeout m s = _ from next_whenUpS s _ hup), ?_⟩
    rw [hmon]
    exact if_pos hheld
  · refine ⟨_, next_regWr s src 0x48 0x120 _ h, ?_⟩
    rw [withBit_word_mod v 63 true (by decide), State.writeReg_hutZero,
      ← bitsOf_withBit_other v.toNat 63 22 12 true (.inr (by decide)) (by decide), ← bitsOf_withBit_other v.toNat 63 47 36 true (.inr (by decide)) (by decide)]
    exact State.wrHutZero_starts (bitOf_withBit_same ..) (by rw [State.charged_hut, hidle])
  · refine ⟨_, (show execHutZeroDone s = _ from next_whenUpS s _ hup), ?_⟩
    rw [hzero]
    dsimp only
    rw [State.budgeted_pays _ _ _ _ _ _ _ _ hpay, ← State.spend_hut s 2 (n / 64) 0 0x48]
    exact State.hutZeroEnd_clears (by rw [State.spend_hut, hzero])

end Sys2Proof.Machine
end

section
/-! The rows of fences and doorbells (11_hut_ordering.md R326 to R330). -/
namespace Sys2Proof.Machine

/-- A fence with none pending and its next stamp unused begins. -/
theorem State.fenceStart_begins {s : State} {v data : Nat} (hnone : (s.vctl v).st ≠ 1)
    (htrains : s.trainList.any (fun t => t.stamp == some (v, ((s.vctl v).stamp + 1) % 8)) = false)
    (hlanes : (s.core.miss.any fun e => e.2.any fun p => p.stamp == some (v, ((s.vctl v).stamp + 1) % 8)) = false) :
    s.fenceStart v data =
      (s.setVctl v { s.vctl v with
        refused := false, refuseCode := 0, seq := ((s.vctl v).seq + 1) % 65536, loss := 0, outstanding := 0, firstCause := 0, lossAddr := 0,
        scope := bitOf data 0, irq := bitOf data 1, st := 1, stamp := ((s.vctl v).stamp + 1) % 8, holding := false }).count (Ctr.vh v 21) 1 := by
  unfold State.fenceStart
  dsimp only
  rw [if_neg hnone, htrains, hlanes]
  exact if_neg (by decide)

/-- A doorbell that its target allows: the writes of the VH are performed first, and a target whose bit was clear is interrupted. -/
theorem State.dbRing_allowed {s : State} {v target : Nat} (src rid data : Nat) (hallow : bitOf (s.get (F.HUT.DB_ALLOW.FROM target)) v = true) :
    s.dbRing src v rid target data =
      (let a := s.hutDrainVh v
       let x := a.vctl target
       let b := ((a.setVctl target { x with dbPend := withBit x.dbPend v true, dbData := Tab.setD x.dbData v data 0 }).count (Ctr.vh v 24) 1).count
         (Ctr.vh target 25) 1
       if (!bitOf x.dbPend v) && b.flag (F.HUT.DB_ALLOW.IRQ_EN target) then b.raiseMsix target 4 else b) :=
  if_pos hallow

/-- Settles O46. -/
theorem fenceRowsComplete : Obligations.FenceRowsComplete := by
  refine ⟨fun vh v s hup hphase hnone htrains hlanes => ⟨_, (show execFence vh v s = _ from next_whenUpS s _ hup), ?_⟩,
    fun vh s hup hst => ⟨_, (show execFenceArrival vh s = _ from next_whenUpS s _ hup), if_neg (not_not_intro hst)⟩,
    fun vh s hup hst hopen hpend hbuf => ⟨_, (show execFenceDone vh s = _ from next_whenUpS s _ hup), if_pos ?_⟩,
    fun vh s hup hst => ⟨_, (show execFenceTimeout vh s = _ from next_whenUpS s _ hup), if_pos hst⟩,
    fun vh target src rid data s hup hphase hallow => ⟨_, (show execDbRing vh src rid target data s = _ from next_whenUpS s _ hup), ?_⟩,
    fun vh s hup hphase => ⟨_, (show execDbPendRead vh s = _ from next_whenUpS s _ hup), if_neg hphase⟩⟩
  · rw [if_neg hphase]
    exact State.fenceStart_begins hnone htrains hlanes
  · rw [hst, hopen, hpend, hbuf]
    rfl
  · rw [if_neg hphase]
    exact State.dbRing_allowed _ _ _ hallow

end Sys2Proof.Machine
end
